-- ==== Sys2Proof/Word.lean ====
section
/-! DEFINITION. The word types of the AXK192: registers are 32 bits wide (spec/00_scope.md, under "Notation"), a
Cenan data word and a staging word are 36 bits (spec/10_cenan_isa.md, spec/03_pd_protocol.md R73). -/

namespace Sys2Proof

/-- A register of the register map. -/
abbrev Word := BitVec 32

/-- A byte of a message, of the flash or of a two-wire transfer. -/
abbrev Byte := BitVec 8

/-- A data word of a core, of the shared SRAM, of the staging area; a queue payload. -/
abbrev W36 := BitVec 36

/-- A frame as it stands on a CC line at its EOP (spec/03_pd_protocol.md R71, R80): the ordered set (0 SOP, 1 SOP′,
2 SOP″, 3 SOP′_Debug, 4 SOP″_Debug), whether the CRC-32 and the bit count are right, the header, the extended header
and the data as 32-bit words. -/
structure Frame where
  sop : BitVec 3
  crcOk : Bool
  lenOk : Bool
  header : BitVec 16
  extHeader : BitVec 16
  objs : List Word
deriving DecidableEq, Repr

/-- The row of a queue's entry: the place of the entry, counted from the oldest, and what has changed in the 64 bits of its row
since it was written (spec/01_architecture.md R20, spec/11_cores_queues.md R325). -/
structure QueueRow where
  pos : Nat
  upset : BitVec 64
deriving DecidableEq, Repr

/-- A row that the template store reads for a load: its place in the slot (row 0 the descriptor, row f + 1 frame f), and what
has changed in its 112 bits since it was written (spec/01_architecture.md R20, spec/08_polder_fabric.md R241). -/
structure StoreRow where
  row : Nat
  upset : BitVec 112
deriving DecidableEq, Repr

/-- What the culvert watch of a position declares a region fault for (spec/09_quarry_migration.md R258): two ticks without an
echo, no GoodCRC preamble after a frame whose group would take `entries` queue entries, a transmitted frame with a wrong
CRC, or a sluice pattern that is no coded form. -/
inductive WatchCause where
  | noEcho
  | noGoodCrc (entries : Nat)
  | badCrc
  | badPattern
deriving DecidableEq, Repr

/-- A fault that the culvert watch declares, and whether the region had opened a queue group that it had not closed (R258,
R270). -/
structure WatchFault where
  cause : WatchCause
  openGroup : Bool
deriving DecidableEq, Repr

/-- The fields RD and RS of a Cenan instruction whose RS is a sub-operation; RS carries the reserved values of
spec/10_cenan_isa.md R313 too. -/
structure SubOp where
  rd : BitVec 3
  rs : BitVec 3
deriving DecidableEq, Repr

/-- A reading of VGD at a polder, in mV (spec/05_sluice.md R145, R148). -/
structure VgdAt where
  q : Fin 4
  mv : Nat
deriving DecidableEq, Repr

/-- A port (spec/01_architecture.md R16: port n is position n mod 48 of polder n / 48). -/
abbrev PortId := Fin 192

/-- A Cenan core. -/
abbrev CoreId := Fin 16

/-- A polder. -/
abbrev PolderId := Fin 4

/-- A position of a polder. -/
abbrev PosId := Fin 48

/-- A region of a polder's fabric section: home regions 0 to 47, spare regions 48 to 55. -/
abbrev RegionId := Fin 56

/-- A slot of the template store. -/
abbrev SlotId := Fin 16

/-- A link port. -/
abbrev LinkId := Fin 4

/-- A queue. -/
abbrev QueueId := Fin 256

/-- Where a register write comes from (spec/18_register_map.md R464): a Cenan OUT of a core, the TW_HACC access made
for the host, or an access of the link hardware for REM_REQ. -/
inductive Src where
  | core (k : CoreId)
  | host
  | remote
deriving DecidableEq, Repr

/-- One entry of a demand report: feeder, class, attached ports, and fl and want in 10 W units (R187, Table 12.3). -/
structure Demand where
  feeder : BitVec 5
  cls : BitVec 2
  n : Nat
  fl : Nat
  want : Nat
deriving DecidableEq, Repr

/-- A grant of a lease: feeder, class and power in 10 W units (Table 12.3). -/
structure Grant where
  feeder : BitVec 5
  cls : BitVec 2
  g : BitVec 20
deriving DecidableEq, Repr

/-- The allocator state copy that a deputy holds (R357, Table 12.3). -/
structure StateCopy where
  ship : BitVec 20
  lim : Vector (BitVec 20) 32
  cap : Vector (BitVec 20) 32
  floor : BitVec 24
  tLease : BitVec 12
  demand : List (BitVec 6 × List Demand)
  table : List (BitVec 64 × BitVec 6)
  leases : List (BitVec 6 × List Grant)   -- the leases just issued
  term : BitVec 8
deriving DecidableEq, Repr

end Sys2Proof
end

