-- ==== Sys2Proof/Syntax.lean ====
section
/-! DEFINITION. The commands that the AXK192 takes: one constructor for each row of spec/opcode_table.json, with the
operands that the row's rule needs. Each docstring names the rule. -/

namespace Sys2Proof

/-- The commands of the block (spec/opcode_table.json). -/
inductive Instr where
  /-- REGISTER_WRITE (R11). -/
  | registerWrite (src : Src) (addr : BitVec 16) (w : Word)
  /-- POR (R417). -/
  | por (vaoLost recordLost vddcEarly : Bool)
  /-- POR_RELEASE (R421). -/
  | porRelease (role : BitVec 2) (addr : BitVec 3) (deputy : Bool) (vddioMv : Nat) (jedec : Option (BitVec 24)) (up : List (Nat × BitVec 44)) (vb : List (PortId × Nat)) (tLife tAll : Nat)
  /-- BOR (R426). -/
  | bor
  /-- PIN_RESET (R418). -/
  | pinReset (ns : Nat)
  /-- PIN_RELEASE (R425). -/
  | pinRelease
  /-- SYS_RESET (R418). -/
  | sysReset (src : Src) (key : BitVec 8)
  /-- SYS_RESET_START (R418). -/
  | sysResetStart
  /-- SYS_RESET_RELEASE (R418). -/
  | sysResetRelease
  /-- PLD_COMMAND (R420). -/
  | pldCommand (src : Src) (key : BitVec 8) (q : PolderId)
  /-- DIE_CHECK_FAIL (R418). -/
  | dieCheckFail (q : PolderId)
  /-- PLD_END (R427). -/
  | pldEnd (q : PolderId)
  /-- HARVEST_START (R428). -/
  | harvestStart (n : PortId)
  /-- ISLAND_RELEASE (R429). -/
  | islandRelease (role : BitVec 2) (addr : BitVec 3) (deputy : Bool) (vddioMv : Nat) (up : List (Nat × BitVec 44)) (vb : List (PortId × Nat)) (tLife : Nat) (vaoLost : Bool)
  /-- DB_HANDOVER (R432). -/
  | dbHandover (vddioMv : Nat) (jedec : Option (BitVec 24)) (vb : List (PortId × Nat)) (tLife tAll : Nat)
  /-- ISLAND_POWER_DOWN (R432). -/
  | islandPowerDown
  /-- SUPPLY_S6_LEVEL (R390). -/
  | supplyS6Level (cause : BitVec 3)
  /-- VDDIO_LOST (R383). -/
  | vddioLost
  /-- HEARTBEAT (R32). -/
  | heartbeat (vddcGood within10 : Bool)
  /-- HEARTBEAT_LOSS (R32). -/
  | heartbeatLoss (q : PolderId)
  /-- PASS_COMMAND (R145). -/
  | passCommand (n : PortId) (src : Bool)
  /-- HOLD_COMMAND (R259). -/
  | holdCommand (n : PortId)
  /-- FULL_ENH (R144). -/
  | fullEnh (n : PortId)
  /-- CC_SHORT (R148). -/
  | ccShort (n : PortId) (mv : Nat)
  /-- OVP (R148). -/
  | ovp (n : PortId) (mv : Nat)
  /-- OC_FAST (R148). -/
  | ocFast (n : PortId) (tenNv : Int) (dropMv : Int)
  /-- REV (R148). -/
  | revI (n : PortId) (tenNv : Int)
  /-- OC_SLOW (R149). -/
  | ocSlow (n : PortId) (tenNv : Int) (periods : Nat)
  /-- OTP_DIE (R148). -/
  | otpDie (q : PolderId)
  /-- OTP_NTC (R148). -/
  | otpNtc (q : PolderId)
  /-- VGD_LOW (R148). -/
  | vgdLow (v : VgdAt)
  /-- GATE (R143). -/
  | gateI (n : PortId)
  /-- CLEAR (R29). -/
  | sluiceClear (k : CoreId) (n : PortId)
  /-- LOCK_CLR (R152). -/
  | lockClr (n : PortId)
  /-- BREACH_WINDOW_EXPIRY (R150). -/
  | breachWindowExpiry (n : PortId)
  /-- SENSE_MODE_WRITE (R141). -/
  | senseModeWrite (n : PortId) (v : BitVec 2)
  /-- FOREIGN_VBUS (R154). -/
  | foreignVbus (n : PortId) (mv : Nat) (stuck : Bool)
  /-- DISCHARGE_TIMEOUT (R156). -/
  | dischargeTimeout (n : PortId)
  /-- VSET_LOOP_UPDATE (R159). -/
  | vsetLoopUpdate (n : PortId) (vbMv : Nat)
  /-- RON_UPDATE (R163). -/
  | ronUpdate (n : PortId)
  /-- METERING_TICK (R166). -/
  | meteringTick (n : PortId) (vbMv : Nat) (vpathMv : Nat) (tenNv : Int) (vi : Int)
  /-- SHUNT_OFFSET_SAMPLE (R162). -/
  | shuntOffsetSample (n : PortId) (tenNv : Int)
  /-- CURRENT_LIMIT_ENTRY (R160). -/
  | currentLimitEntry (n : PortId) (ma : Int)
  /-- CURRENT_LIMIT_EXIT (R160). -/
  | currentLimitExit (n : PortId) (vbMv : Nat)
  /-- CL_FLOOR_TIMEOUT (R160). -/
  | clFloorTimeout (n : PortId) (vbMv : Nat)
  /-- UNDERVOLTAGE_TIMEOUT (R161). -/
  | undervoltageTimeout (n : PortId) (vbMv : Nat)
  /-- MEASURE_DONE (R165). -/
  | measureDone (n : PortId) (tenNv : Int)
  /-- FRONT_END_CHECK_FAIL (R260). -/
  | frontEndCheckFail (n : PortId) (check : Fin 4)
  /-- RETRY (R261). -/
  | retry (n : PortId)
  /-- NTC_FAULT (R470). -/
  | ntcFault (q : PolderId)
  /-- PROBE (R47). -/
  | probe (n : PortId) (v1 : Nat) (v2 : Nat)
  /-- DRP_TOGGLE (R48). -/
  | drpToggle (n : PortId)
  /-- CC_LINE_CHANGE (R42). -/
  | ccLineChange (n : PortId) (v1 : Nat) (v2 : Nat)
  /-- CC_DEBOUNCE_EXPIRY (R44). -/
  | ccDebounceExpiry (n : PortId)
  /-- PD_DEBOUNCE_EXPIRY (R44). -/
  | pdDebounceExpiry (n : PortId)
  /-- TRY_CC_DEBOUNCE_EXPIRY (R44). -/
  | tryCcDebounceExpiry (n : PortId)
  /-- DRP_TRY_EXPIRY (R44). -/
  | drpTryExpiry (n : PortId)
  /-- TRY_TIMEOUT_EXPIRY (R44). -/
  | tryTimeoutExpiry (n : PortId)
  /-- ERROR_RECOVERY_EXPIRY (R44). -/
  | errorRecoveryExpiry (n : PortId)
  /-- VB_LEVEL_CHANGE (R43). -/
  | vbLevelChange (n : PortId) (mv : Nat)
  /-- VSAFE5V_REACHED (R495). -/
  | vsafe5vReached (n : PortId)
  /-- VB0_WAIT_EXPIRY (R46). -/
  | vb0WaitExpiry (n : PortId)
  /-- VBUSON_EXPIRY (R46). -/
  | vbusonExpiry (n : PortId)
  /-- SLOW_DETACH (R59). -/
  | slowDetach (n : PortId)
  /-- FAST_DETACH_LATCH (R59). -/
  | fastDetachLatch (n : PortId)
  /-- FAST_DETACH_CURRENT_FALL (R59). -/
  | fastDetachCurrentFall (n : PortId) (ma : Int)
  /-- FAST_DETACH_WINDOW_EXPIRY (R59). -/
  | fastDetachWindowExpiry (n : PortId)
  /-- SINK_DETACH (R61). -/
  | sinkDetach (n : PortId) (mv : Nat)
  /-- VCONN_LINE_OK (R56). -/
  | vconnLineOk (n : PortId)
  /-- VCONN_FAULT_TIMEOUT (R55). -/
  | vconnFaultTimeout (n : PortId)
  /-- ERR_RECOVERY (R67). -/
  | errRecovery (n : PortId)
  /-- PORT_DISABLE (R64). -/
  | portDisable (n : PortId)
  /-- VCONN_EN_CLEAR (R64). -/
  | vconnEnClear (n : PortId)
  /-- TX_GO_ACKNOWLEDGE (R23). -/
  | txGoAcknowledge (n : PortId) (tenNv : Int)
  /-- CMD_NONE (R74). -/
  | cmdNone (k : CoreId) (n : PortId) (seq : BitVec 8)
  /-- TRANSMIT_MESSAGE (R74). -/
  | transmitMessage (k : CoreId) (n : PortId) (word0 : BitVec 36) (word1 : BitVec 36) (objs : List Word)
  /-- HARD_RESET (R95). -/
  | hardReset (k : CoreId) (n : PortId) (seq : BitVec 8)
  /-- CABLE_RESET (R81). -/
  | cableReset (k : CoreId) (n : PortId) (seq : BitVec 8)
  /-- VCONN_ON (R56). -/
  | vconnOn (k : CoreId) (n : PortId) (seq : BitVec 8)
  /-- VCONN_OFF (R56). -/
  | vconnOff (k : CoreId) (n : PortId) (seq : BitVec 8)
  /-- SET_DATA_ROLE (R122). -/
  | setDataRole (k : CoreId) (n : PortId) (seq : BitVec 8) (dfp : Bool)
  /-- PD_TIMER_COMMAND (R93). -/
  | pdTimerCommand (k : CoreId) (n : PortId) (seq : BitVec 8) (id : BitVec 4) (on : Bool)
  /-- TRANSITION (R102). -/
  | transition (k : CoreId) (n : PortId) (seq : BitVec 8) (w : BitVec 36)
  /-- SRC_OFF (R102). -/
  | srcOff (k : CoreId) (n : PortId) (seq : BitVec 8) (defer : Bool)
  /-- SRC_ON (R102). -/
  | srcOn (k : CoreId) (n : PortId) (seq : BitVec 8)
  /-- SNK_OFF (R102). -/
  | snkOff (k : CoreId) (n : PortId) (seq : BitVec 8) (defer : Bool)
  /-- SNK_ON (R102). -/
  | snkOn (k : CoreId) (n : PortId) (seq : BitVec 8)
  /-- ROLE_FLIP (R102). -/
  | roleFlip (k : CoreId) (n : PortId) (seq : BitVec 8)
  /-- FRS_ARM (R124). -/
  | frsArm (k : CoreId) (n : PortId) (seq : BitVec 8) (arm : Bool)
  /-- VCAL (R158). -/
  | vcal (k : CoreId) (n : PortId) (seq : BitVec 8) (w : BitVec 36)
  /-- RON_CAL (R163). -/
  | ronCal (k : CoreId) (n : PortId) (seq : BitVec 8) (w : BitVec 36)
  /-- THETA (R163). -/
  | theta (k : CoreId) (n : PortId) (seq : BitVec 8) (w : BitVec 36)
  /-- SHUNT_CAL (R163). -/
  | shuntCal (k : CoreId) (n : PortId) (seq : BitVec 8) (w : BitVec 36)
  /-- MEASURE (R165). -/
  | measure (k : CoreId) (n : PortId) (seq : BitVec 8)
  /-- ZERO (R165). -/
  | zero (k : CoreId) (n : PortId) (seq : BitVec 8) (tenNv : Int)
  /-- TRANSMIT_START (R72). -/
  | transmitStart (n : PortId) (tenUs : Nat)
  /-- TRANSMIT_END (R75). -/
  | transmitEnd (n : PortId)
  /-- GOODCRC_RECEIVED (R75). -/
  | goodcrcReceived (n : PortId) (sop1 : Bool) (id : BitVec 3)
  /-- CRC_RECEIVE_TIMEOUT (R75). -/
  | crcReceiveTimeout (n : PortId)
  /-- FRAME_RECEIVED (R80). -/
  | frameReceived (n : PortId) (f : Frame)
  /-- SOFT_RESET_RECEIVED (R96). -/
  | softResetReceived (n : PortId)
  /-- SOFT_RESET_ACCEPT_TIMEOUT (R96). -/
  | softResetAcceptTimeout (n : PortId)
  /-- HARD_RESET_DETECTED (R95). -/
  | hardResetDetected (n : PortId)
  /-- HARD_RESET_SIGNALLING_DONE (R95). -/
  | hardResetSignallingDone (n : PortId)
  /-- HARD_RESET_COMPLETE_TIMEOUT (R93). -/
  | hardResetCompleteTimeout (n : PortId)
  /-- PS_HARD_RESET_EXPIRY (R95). -/
  | psHardResetExpiry (n : PortId)
  /-- SRC_RECOVER_EXPIRY (R95). -/
  | srcRecoverExpiry (n : PortId)
  /-- HARD_RESET_SINK_TIMEOUT (R95). -/
  | hardResetSinkTimeout (n : PortId)
  /-- CABLE_RESET_RECEIVED (R81). -/
  | cableResetReceived (n : PortId)
  /-- RESPONSE_TIMER_EXPIRY (R74). -/
  | responseTimerExpiry (n : PortId)
  /-- ID_TIMER_EXPIRY (R93). -/
  | idTimerExpiry (n : PortId) (id : BitVec 4)
  /-- SINK_TX_EXPIRY (R77). -/
  | sinkTxExpiry (n : PortId)
  /-- AMS_IDLE_EXPIRY (R77). -/
  | amsIdleExpiry (n : PortId)
  /-- SINK_TX_OK_SEEN (R78). -/
  | sinkTxOkSeen (n : PortId)
  /-- CHUNK_REQUEST_RECEIVED (R85). -/
  | chunkRequestReceived (n : PortId) (chunk : BitVec 4)
  /-- CHUNK_TIMEOUT (R86). -/
  | chunkTimeout (n : PortId) (txSide : Bool)
  /-- BIST_RECEIVED (R92). -/
  | bistReceived (n : PortId) (mode : BitVec 4)
  /-- BIST_CONT_MODE_EXPIRY (R92). -/
  | bistContModeExpiry (n : PortId)
  /-- PS_TRANSITION_TIMEOUT (R96). -/
  | psTransitionTimeout (n : PortId)
  /-- NO_RESPONSE_TIMEOUT (R96). -/
  | noResponseTimeout (n : PortId)
  /-- TRANSITION_START (R110). -/
  | transitionStart (n : PortId)
  /-- SETTLE_DONE (R110). -/
  | settleDone (n : PortId) (vbMv : Nat)
  /-- T_PP_TIMEOUT_EXPIRY (R110). -/
  | tPpTimeoutExpiry (n : PortId)
  /-- SRC_OFF_DEFERRED (R102). -/
  | srcOffDeferred (n : PortId)
  /-- FRS_DETECTION (R125). -/
  | frsDetection (n : PortId)
  /-- FRS_FAST_PASS (R125). -/
  | frsFastPass (n : PortId) (vbMv : Nat) (late : Bool)
  /-- PS_SOURCE_ON_TIMEOUT (R118). -/
  | psSourceOnTimeout (n : PortId)
  /-- PS_SOURCE_OFF_TIMEOUT (R119). -/
  | psSourceOffTimeout (n : PortId)
  /-- REQUEST_EVALUATION (R108). -/
  | requestEvaluation (n : PortId)
  /-- SHARE (R189). -/
  | share (role : Fin 16)
  /-- CABLE_DISCOVERY (R106). -/
  | cableDiscovery (n : PortId)
  /-- PR_SWAP_ANSWER (R117). -/
  | prSwapAnswer (n : PortId)
  /-- DR_SWAP (R122). -/
  | drSwap (n : PortId)
  /-- VCONN_SWAP (R123). -/
  | vconnSwap (n : PortId) (late : Bool)
  /-- EPR_ENTRY (R114). -/
  | eprEntry (n : PortId)
  /-- EPR_KEEPALIVE (R115). -/
  | eprKeepalive (n : PortId)
  /-- STATUS_MESSAGE_ANSWER (R133). -/
  | statusMessageAnswer (n : PortId)
  /-- BATTERY_STATUS_POLL (R133). -/
  | batteryStatusPoll (n : PortId)
  /-- BREACH_SERVICE (R152). -/
  | breachService (n : PortId) (elapsed : Nat)
  /-- PROTOCOL_ERROR_ANSWER (R90). -/
  | protocolErrorAnswer (n : PortId)
  /-- UNSUPPORTED_MESSAGE_ANSWER (R91). -/
  | unsupportedMessageAnswer (n : PortId)
  /-- DISPLAYPORT_ENTRY (R127). -/
  | displayportEntry (n : PortId)
  /-- DISPLAYPORT_EXIT (R129). -/
  | displayportExit (n : PortId) (failed : Bool)
  /-- DOCK_MODE_DISCOVERY (R131). -/
  | dockModeDiscovery (n : PortId)
  /-- PACK_IDENTIFICATION (R132). -/
  | packIdentification (n : PortId)
  /-- IDENT_BOUND_EXPIRY (R132). -/
  | identBoundExpiry (n : PortId)
  /-- DIGEST_REQ (R132). -/
  | digestReq
  /-- MUX_REC (R128). -/
  | muxRec
  /-- CLASS_WRITE (R177). -/
  | classWrite (n : PortId) (v : BitVec 2)
  /-- ALLOCATOR_TICK (R188). -/
  | allocatorTick
  /-- ALLOCATOR_RUN_END (R188). -/
  | allocatorRunEnd
  /-- DEMAND_REPORT (R187). -/
  | demandReport
  /-- BUDGET_AGENT_TICK (R189). -/
  | budgetAgentTick
  /-- LEASE_EXPIRY (R191). -/
  | leaseExpiry
  /-- MAX_CLR (R182). -/
  | maxClr (v : BitVec 2)
  /-- GAUGE_SAMPLE (R200). -/
  | gaugeSample (n : PortId) (quiet : Bool)
  /-- GAUGE_GROUP_PROCESS (R204). -/
  | gaugeGroupProcess (q : PolderId) (upper : Bool)
  /-- REST_POINT (R209). -/
  | restPoint (slot : Fin 48)
  /-- END_OF_CHARGE (R212). -/
  | endOfCharge (slot : Fin 48)
  /-- TOPUP_EXPIRY (R212). -/
  | topupExpiry (i : Fin 48)
  /-- END_OF_DISCHARGE (R213). -/
  | endOfDischarge (i : Fin 48)
  /-- GET_TEMP_POLL (R207). -/
  | getTempPoll (n : PortId)
  /-- COMMIT_PERIOD_EXPIRY (R220). -/
  | commitPeriodExpiry
  /-- JOURNAL_COMMIT (R221). -/
  | journalCommit
  /-- KG_SLOT_DISABLE (R198). -/
  | kgSlotDisable (i : Fin 48)
  /-- KG_CMD_COMMIT (R225). -/
  | kgCmdCommit (slot : BitVec 6)
  /-- KG_CMD_RESET (R225). -/
  | kgCmdReset (slot : BitVec 6)
  /-- LOAD (R240). -/
  | plLoad (src : Src) (q : PolderId) (region : BitVec 6) (slot : BitVec 4)
  /-- REGION_LOAD_COMPLETE (R240). -/
  | regionLoadComplete (q : PolderId) (store : StoreRow) (readBad : Bool) (tenths : Nat)
  /-- SWITCH (R243). -/
  | plSwitch (src : Src) (q : PolderId) (pos : BitVec 6) (region : BitVec 6)
  /-- CULVERT_SWITCH_COMPLETE (R243). -/
  | culvertSwitchComplete (q : PolderId) (pos : PosId)
  /-- UNLOAD (R239). -/
  | plUnload (src : Src) (q : PolderId) (region : BitVec 6)
  /-- UNLOAD_COMPLETE (R239). -/
  | unloadComplete (q : PolderId)
  /-- COMMON_SWITCH (R230). -/
  | commonSwitch (q : PolderId)
  /-- COMMON_SWITCH_TICK (R230). -/
  | commonSwitchTick (q : PolderId)
  /-- POLDER_TICK (R229). -/
  | polderTick (q : PolderId) (ntc : Option (BitVec 12)) (die : BitVec 12)
  /-- BEGIN (R232). -/
  | tplBegin (src : Src) (t : SlotId) (common : Bool)
  /-- TPL_DATA_WRITE (R232). -/
  | tplDataWrite (src : Src) (w : Word)
  /-- END (R232). -/
  | tplEnd (src : Src) (t : SlotId)
  /-- TEMPLATE_CHECK_DONE (R232). -/
  | templateCheckDone
  /-- FREE (R233). -/
  | tplFree (src : Src) (t : SlotId)
  /-- FABRIC_SCRUB_READ (R245). -/
  | fabricScrubRead (q : PolderId) (upset : BitVec 112) (hour : Bool)
  /-- STORE_SCRUB_READ (R246). -/
  | storeScrubRead (upset : BitVec 112)
  /-- PL_SCRUB_CNT_CLR (R251). -/
  | plScrubCntClr (q : PolderId)
  /-- CULVERT_WATCH_FAULT (R258). -/
  | culvertWatchFault (q : PolderId) (pos : PosId) (fault : WatchFault)
  /-- PREPARE (R266). -/
  | qyPrepare (src : Src) (port : BitVec 8) (target : BitVec 6)
  /-- PREPARE_LAPSE (R266). -/
  | prepareLapse (q : PolderId)
  /-- ABANDON (R287). -/
  | qyAbandon (src : Src) (port : BitVec 8)
  /-- TRIAL (R272). -/
  | qyTrial (src : Src) (port : BitVec 8) (target : BitVec 6)
  /-- REGION_TRIAL_END (R272). -/
  | regionTrialEnd (q : PolderId) (r : RegionId) (within24 : Bool)
  /-- CORE_HOP (R275). -/
  | coreHop (src : Src) (role : BitVec 8) (target : CoreId)
  /-- WATCHDOG_EXPIRY (R334). -/
  | watchdogExpiry (k : CoreId) (within24 : Bool)
  /-- CORE_TRIAL_DONE (R275). -/
  | coreTrialDone (k : CoreId) (pass : Bool)
  /-- QUEUE_FAULT (R276). -/
  | queueFault (x : QueueId) (pointer : Bool) (row : QueueRow)
  /-- SRAM_ROW_FAULT (R277). -/
  | sramRowFault (k : Option CoreId) (data : Bool) (row : Nat) (lost : Bool)
  /-- SHARED_SRAM_SCRUB_READ (R335). -/
  | sharedSramScrubRead (upset : BitVec 48)
  /-- CORE_SCRUB_READ (R335). -/
  | coreScrubRead (k : CoreId) (upset : BitVec 72)
  /-- OSC_WINDOW_CHECK (R257). -/
  | oscWindowCheck (q : PolderId) (edges : Nat) (ms : Bool)
  /-- SPOIL_ENTRY_WRITE (R280). -/
  | spoilEntryWrite
  /-- DROP_CLR (R285). -/
  | dropClr (n : PortId)
  /-- ADD (R301). -/
  | add (k : CoreId) (cond : BitVec 3) (rd : BitVec 3) (rs : BitVec 3)
  /-- ADC (R301). -/
  | adc (k : CoreId) (cond : BitVec 3) (rd : BitVec 3) (rs : BitVec 3)
  /-- SUB (R301). -/
  | sub (k : CoreId) (cond : BitVec 3) (rd : BitVec 3) (rs : BitVec 3)
  /-- SBC (R301). -/
  | sbc (k : CoreId) (cond : BitVec 3) (rd : BitVec 3) (rs : BitVec 3)
  /-- AND (R301). -/
  | andI (k : CoreId) (cond : BitVec 3) (rd : BitVec 3) (rs : BitVec 3)
  /-- OR (R301). -/
  | orI (k : CoreId) (cond : BitVec 3) (rd : BitVec 3) (rs : BitVec 3)
  /-- XOR (R301). -/
  | xorI (k : CoreId) (cond : BitVec 3) (rd : BitVec 3) (rs : BitVec 3)
  /-- MOV (R301). -/
  | mov (k : CoreId) (cond : BitVec 3) (rd : BitVec 3) (rs : BitVec 3)
  /-- ADDI (R301). -/
  | addi (k : CoreId) (cond : BitVec 3) (rd : BitVec 3) (rs : BitVec 3)
  /-- CMP (R301). -/
  | cmp (k : CoreId) (cond : BitVec 3) (rd : BitVec 3) (rs : BitVec 3)
  /-- TST (R301). -/
  | tst (k : CoreId) (cond : BitVec 3) (rd : BitVec 3) (rs : BitVec 3)
  /-- LSL (R305). -/
  | lsl (k : CoreId) (cond : BitVec 3) (rd : BitVec 3)
  /-- LSR (R305). -/
  | lsr (k : CoreId) (cond : BitVec 3) (rd : BitVec 3)
  /-- ASR (R305). -/
  | asr (k : CoreId) (cond : BitVec 3) (rd : BitVec 3)
  /-- ROL (R305). -/
  | rol (k : CoreId) (cond : BitVec 3) (rd : BitVec 3)
  /-- ROR (R305). -/
  | ror (k : CoreId) (cond : BitVec 3) (rd : BitVec 3)
  /-- RLC (R305). -/
  | rlc (k : CoreId) (cond : BitVec 3) (rd : BitVec 3)
  /-- RRC (R305). -/
  | rrc (k : CoreId) (cond : BitVec 3) (rd : BitVec 3)
  /-- SXT (R305). -/
  | sxt (k : CoreId) (cond : BitVec 3) (rd : BitVec 3)
  /-- LDK (R301). -/
  | ldk (k : CoreId) (cond : BitVec 3) (rd : BitVec 3) (rs : BitVec 3)
  /-- LD (R303). -/
  | ld (k : CoreId) (cond : BitVec 3) (rd : BitVec 3) (rs : BitVec 3) (upset : BitVec 48)
  /-- ST (R303). -/
  | st (k : CoreId) (cond : BitVec 3) (rd : BitVec 3) (rs : BitVec 3)
  /-- LDX (R303). -/
  | ldx (k : CoreId) (cond : BitVec 3) (rd : BitVec 3) (rs : BitVec 3) (upset : BitVec 48)
  /-- STX (R303). -/
  | stx (k : CoreId) (cond : BitVec 3) (rd : BitVec 3) (rs : BitVec 3)
  /-- IN (R292). -/
  | inp (k : CoreId) (cond : BitVec 3) (rd : BitVec 3) (rs : BitVec 3)
  /-- OUT (R292). -/
  | outp (k : CoreId) (cond : BitVec 3) (rd : BitVec 3) (rs : BitVec 3)
  /-- BRA (R304). -/
  | bra (k : CoreId) (cond : BitVec 3) (d6 : BitVec 6)
  /-- JMP (R304). -/
  | jmp (k : CoreId) (cond : BitVec 3) (rs : BitVec 3)
  /-- CALL (R304). -/
  | callI (k : CoreId) (cond : BitVec 3) (rs : BitVec 3)
  /-- RET (R310): RS 0, and the reserved RS 6 and 7 (R313). -/
  | retI (k : CoreId) (cond : BitVec 3) (f : SubOp)
  /-- RETT (R310). -/
  | rett (k : CoreId) (cond : BitVec 3) (rd : BitVec 3)
  /-- DROP (R310). -/
  | dropI (k : CoreId) (cond : BitVec 3) (rd : BitVec 3)
  /-- DEPTH (R310). -/
  | depthI (k : CoreId) (cond : BitVec 3) (rd : BitVec 3)
  /-- PUSH (R310). -/
  | pushI (k : CoreId) (cond : BitVec 3) (rd : BitVec 3)
  /-- TOP (R310). -/
  | topI (k : CoreId) (cond : BitVec 3) (rd : BitVec 3)
  /-- PFX (R297). -/
  | pfx (k : CoreId) (cond : BitVec 3) (p6 : BitVec 6)
  /-- CRCS (R314). -/
  | crcs (k : CoreId) (cond : BitVec 3) (rd : BitVec 3) (rs : BitVec 3)
  /-- PAR (R315). -/
  | parI (k : CoreId) (cond : BitVec 3) (rd : BitVec 3) (rs : BitVec 3)
  /-- BREV (R315). -/
  | brev (k : CoreId) (cond : BitVec 3) (rd : BitVec 3) (rs : BitVec 3)
  /-- MUL (R301). -/
  | mulI (k : CoreId) (cond : BitVec 3) (rd : BitVec 3) (rs : BitVec 3)
  /-- LDM (R306). -/
  | ldm (k : CoreId) (cond : BitVec 3) (rd : BitVec 3)
  /-- MACU (R306). -/
  | macu (k : CoreId) (cond : BitVec 3) (rd : BitVec 3)
  /-- MACS (R306). -/
  | macs (k : CoreId) (cond : BitVec 3) (rd : BitVec 3)
  /-- MSUS (R306). -/
  | msus (k : CoreId) (cond : BitVec 3) (rd : BitVec 3)
  /-- RDH (R306). -/
  | rdh (k : CoreId) (cond : BitVec 3) (rd : BitVec 3)
  /-- RDL (R306). -/
  | rdl (k : CoreId) (cond : BitVec 3) (rd : BitVec 3)
  /-- CLR (R306). -/
  | clrI (k : CoreId) (cond : BitVec 3) (rd : BitVec 3)
  /-- RND (R306). -/
  | rnd (k : CoreId) (cond : BitVec 3) (rd : BitVec 3)
  /-- SETP (R307). -/
  | setp (k : CoreId) (cond : BitVec 3) (comb : BitVec 3) (sub : BitVec 3)
  /-- WAIT (R308): RS 0, and the reserved RS 2 to 7 (R313). -/
  | waitI (k : CoreId) (cond : BitVec 3) (f : SubOp)
  /-- WAIT_WAKE (R333). -/
  | waitWake (k : CoreId)
  /-- POLL (R308). -/
  | poll (k : CoreId) (cond : BitVec 3) (rd : BitVec 3)
  /-- GETS (R309). -/
  | gets (k : CoreId) (cond : BitVec 3) (rd : BitVec 3)
  /-- PUTS (R309). -/
  | puts (k : CoreId) (cond : BitVec 3) (rd : BitVec 3)
  /-- KICK (R334). -/
  | kick (k : CoreId) (cond : BitVec 3) (rd : BitVec 3)
  /-- TRAP (R311). -/
  | trapI (k : CoreId) (cond : BitVec 3) (rd : BitVec 3)
  /-- FENCE (R293): RS 4, and the reserved RS 5 to 7 of SYS (R313). -/
  | fenceI (k : CoreId) (cond : BitVec 3) (f : SubOp)
  /-- CTIM_EXPIRY (R309). -/
  | ctimExpiry (k : CoreId)
  /-- COMMIT (R329). -/
  | queueCommit (k : CoreId) (x : QueueId) (rd : BitVec 16)
  /-- C_TRAP_CNT_CLR (R318). -/
  | cTrapCntClr (k : CoreId)
  /-- C_ECC_CNT_CLR (R337). -/
  | cEccCntClr (k : CoreId)
  /-- LINK_DOWN_WAIT_EXPIRY (R341). -/
  | linkDownWaitExpiry (i : LinkId)
  /-- LINE_ENERGY_DETECTED (R341). -/
  | lineEnergyDetected (i : LinkId)
  /-- POLARITY_FOUND (R341). -/
  | polarityFound (i : LinkId) (inverted : Bool)
  /-- POLARITY_TIMEOUT (R341). -/
  | polarityTimeout (i : LinkId)
  /-- RATE_TRIAL_PASS (R341). -/
  | rateTrialPass (i : LinkId)
  /-- RATE_TRIAL_TIMEOUT (R341). -/
  | rateTrialTimeout (i : LinkId)
  /-- EQ_STEP (R342). -/
  | eqStep (i : LinkId) (viol : Nat)
  /-- AUTH1 (R343). -/
  | auth1 (i : LinkId) (up : Bool) (serial : BitVec 64) (nonce : BitVec 128)
  /-- AUTH2 (R343). -/
  | auth2 (i : LinkId) (mac : BitVec 128)
  /-- AUTH_TIMEOUT (R343). -/
  | authTimeout (i : LinkId)
  /-- LINK_SILENCE (R344). -/
  | linkSilence (i : LinkId)
  /-- CODE_VIOLATION_LIMIT (R344). -/
  | codeViolationLimit (i : LinkId)
  /-- HELLO_TIMER (R344). -/
  | helloTimer (i : LinkId)
  /-- RETRAIN (R344). -/
  | retrain (i : LinkId)
  /-- LK_CTRL_EN_CLEAR (R344). -/
  | lkCtrlEnClear (i : LinkId)
  /-- CELL_RECEIVED (R346). -/
  | cellReceived (i : LinkId) (raw : BitVec 256) (bad : Bool)
  /-- CELL_TRANSMIT (R347). -/
  | cellTransmit (i : LinkId)
  /-- ACK (R348). -/
  | linkAck (i : LinkId) (seqA : BitVec 12) (seqB : BitVec 12) (creditA : Nat) (creditB : Nat)
  /-- NAK (R348). -/
  | linkNak (i : LinkId) (bulk : Bool)
  /-- ACK_TIMEOUT (R348). -/
  | ackTimeout (i : LinkId) (bulk : Bool)
  /-- BEACON_TIMER (R357). -/
  | beaconTimer
  /-- BEACON (R354). -/
  | linkBeacon (i : LinkId)
  /-- BEACON_LOSS (R354). -/
  | beaconLoss
  /-- ROOT_REVERT_TIMER (R354). -/
  | rootRevertTimer
  /-- TOPO (R351). -/
  | linkTopo (i : LinkId)
  /-- ADDR (R351). -/
  | linkAddr (i : LinkId)
  /-- LEASE (R191). -/
  | linkLease (i : LinkId)
  /-- DEMAND (R187). -/
  | linkDemand (i : LinkId)
  /-- STATE_COPY (R357). -/
  | stateCopy (i : LinkId) (c : StateCopy)
  /-- LIFE_TIMER (R349). -/
  | lifeTimer
  /-- LIFE (R349). -/
  | linkLife (i : LinkId)
  /-- LOG (R444). -/
  | linkLog (i : LinkId)
  /-- MANAGER_LOSS (R358). -/
  | managerLoss
  /-- RECLAIM (R359). -/
  | reclaim
  /-- TIME_SYNC_TIMER (R355). -/
  | timeSyncTimer
  /-- SYNC (R355). -/
  | linkSync (i : LinkId) (t1 : BitVec 64) (t2 : BitVec 64)
  /-- DELAY_REQ (R355). -/
  | delayReq (i : LinkId)
  /-- DELAY_RSP (R355). -/
  | delayRsp (i : LinkId) (t3 : BitVec 64) (t4 : BitVec 64)
  /-- SYNCED_TIMER (R355). -/
  | syncedTimer
  /-- SYNC_LOST (R355). -/
  | syncLost
  /-- REM_GO (R360). -/
  | remGo (w : Word)
  /-- REM_REQ (R360). -/
  | remReq (i : LinkId)
  /-- REM_RSP (R360). -/
  | remRsp (i : LinkId)
  /-- REM_TIMEOUT (R360). -/
  | remTimeout
  /-- LK_ERR_CNT_CLR (R362). -/
  | lkErrCntClr (i : LinkId)
  /-- TW_H_POINTER (R368). -/
  | twHPointer (addr : BitVec 7) (reg : BitVec 15) (code : Option Byte) (sr : Bool)
  /-- TW_H_WRITE (R369). -/
  | twHWrite (addr : BitVec 7) (reg : BitVec 15) (data : List Byte) (sr : Bool)
  /-- TW_H_BLOCK_POINTER (R368). -/
  | twHBlockPointer (addr : BitVec 7) (reg : BitVec 15) (count : Byte) (tail : List Byte) (sr : Bool)
  /-- TW_H_READ (R368). -/
  | twHRead (addr : BitVec 7) (n : Nat)
  /-- TW_H_BLOCK_READ (R368). -/
  | twHBlockRead (addr : BitVec 7) (n : Nat)
  /-- TW_H_TRANSACTION_SERVE (R371). -/
  | twHTransactionServe
  /-- HOST_ACCESS (R382). -/
  | hostAccess (src : Src) (w : Word)
  /-- ALERT_RECORD_SEND (R373). -/
  | alertRecordSend (acked : Bool)
  /-- ALERT_RETRY_EXPIRY (R373). -/
  | alertRetryExpiry (acked : Bool)
  /-- ARBITRATION_LOST (R374). -/
  | arbitrationLost (m : Bool)
  /-- ARB_LOST_SR (R375). -/
  | arbLostSr (m : Bool)
  /-- SCL_TO (R376). -/
  | sclTo (m : Bool)
  /-- SDA_TO (R376). -/
  | sdaTo (m cleared : Bool)
  /-- STUCK_RETRY_EXPIRY (R376). -/
  | stuckRetryExpiry (m sdaLow cleared : Bool)
  /-- TW_M_COMMAND (R379). -/
  | twMCommand (sdaLow cleared : Bool)
  /-- TW_M_COMMAND_DONE (R379). -/
  | twMCommandDone (nack : Bool) (code : Byte) (data : List Byte)
  /-- SHED_SAMPLE (R388). -/
  | shedSample (feeds : Nat) (pf : List Nat) (berm : Nat) (vdda : Nat) (vddc : Nat) (die : BitVec 12)
  /-- SHELF_REQ (R387). -/
  | shelfReq
  /-- SHELF_WAKE (R387). -/
  | shelfWake
  /-- PROGRAM (R405). -/
  | fuseProgram (src : Src) (addr : BitVec 9)
  /-- LOCK (R409). -/
  | fuseLock (src : Src) (region : BitVec 9) (up : List (Nat × BitVec 44))
  /-- READ_NORMAL (R416). -/
  | readNormal (src : Src) (addr : BitVec 9) (upset : BitVec 44)
  /-- READ_STRICT (R416). -/
  | readStrict (src : Src) (addr : BitVec 9) (upset : BitVec 44)
  /-- REVOKE (R411). -/
  | fuseRevoke (src : Src) (slot : BitVec 9)
  /-- FUSE_PROGRAM_DONE (R405). -/
  | fuseProgramDone (got : BitVec 44)
  /-- FUSE_SCRUB_READ (R414). -/
  | fuseScrubRead (normal : BitVec 44) (strict : BitVec 44)
  /-- FZ_SCRUB_CNT_CLR (R416). -/
  | fzScrubCntClr
  /-- FLASH_READ (R440). -/
  | flashRead (addr : BitVec 24) (n : BitVec 9)
  /-- FLASH_PROGRAM (R440). -/
  | flashProgram (addr : BitVec 24) (n : BitVec 9) (data : List Byte)
  /-- ERASE_4K (R440). -/
  | erase4k (addr : BitVec 24) (n : BitVec 9)
  /-- ERASE_64K (R440). -/
  | erase64k (addr : BitVec 24) (n : BitVec 9)
  /-- READ_ID (R440). -/
  | readId (addr : BitVec 24) (n : BitVec 9)
  /-- FLASH_COMMAND_DONE (R440). -/
  | flashCommandDone
  /-- SETTINGS_RECORD_WRITE (R443). -/
  | settingsRecordWrite (j : Nat)
  /-- LOG_RECORD_WRITE (R444). -/
  | logRecordWrite (code : Byte) (value : BitVec 120)
  /-- FL_UPD_STAGE_BEGIN (R451). -/
  | flUpdStageBegin
  /-- FL_STG_DATA_WRITE (R451). -/
  | flStgDataWrite (w : Word)
  /-- FL_UPD_STAGE_END (R451). -/
  | flUpdStageEnd
  /-- FL_UPD_ARM (R452). -/
  | flUpdArm
  /-- FL_UPD_ABORT (R452). -/
  | flUpdAbort
  /-- FL_UPD_REVERT (R456). -/
  | flUpdRevert
  /-- STAGE_BEGIN (R451). -/
  | stageBegin (i : LinkId)
  /-- BUNDLE (R451). -/
  | bundle (i : LinkId)
  /-- STAGE_REPORT_TIMER (R451). -/
  | stageReportTimer
  /-- STAGE_REPORT (R451). -/
  | stageReport (i : LinkId)
  /-- STAGING_TIMEOUT (R450). -/
  | stagingTimeout
  /-- ARM (R452). -/
  | updArm (i : LinkId)
  /-- ARM_REPORT (R452). -/
  | armReport (i : LinkId)
  /-- ARM_REPORT_TIMEOUT (R452). -/
  | armReportTimeout
  /-- ABORT (R452). -/
  | updAbort (i : LinkId)
  /-- UPDATE_MESSAGE_REPEAT (R449). -/
  | updateMessageRepeat
  /-- ACTIVATE (R453). -/
  | updActivate
  /-- HEALTH (R455). -/
  | updHealth (i : LinkId)
  /-- CONFIRM (R455). -/
  | updConfirm (i : LinkId)
  /-- CONFIRM_DEADLINE (R456). -/
  | confirmDeadline
  /-- REVERT (R456). -/
  | updRevert (i : LinkId)
  /-- REVERTED (R457). -/
  | updReverted (i : LinkId)
  /-- LATE_WINDOW_EXPIRY (R457). -/
  | lateWindowExpiry
  /-- ROLE_FLIP_DONE (R120). -/
  | roleFlipDone (n : PortId)
  /-- BREACH_CONDITION_END (R148). -/
  | breachConditionEnd (n : PortId) (code : BitVec 4)
  /-- VGD_RESTORED (R383). -/
  | vgdRestored (q : PolderId)
  /-- VDDIO_RESTORED (R383). -/
  | vddioRestored (mv : Nat)
deriving DecidableEq, Repr

end Sys2Proof
end

