-- ==== Sys2Proof/Decode.lean ====
section
/-! DEFINITION. The command that a word spells: by the bits of spec/opcode_table.json, which gives no row any, and a 14-bit
Cenan instruction by the layout of spec/10_cenan_isa.md R295. -/

namespace Sys2Proof

/-- No word spells a command by the table's bits: the table gives no row any. -/
def decodeTableWord (_nbits _w : Nat) : Option Instr := none

/-- The command of core `k` that a 14-bit word spells (spec/10_cenan_isa.md Tables 10.3 and 10.6 to 10.12). Every word spells
one; the reserved sub-operations of RET, WAIT and SYS stand with RET, WAIT and FENCE, which raise ILL on them (R313).
`upset` is what has changed in the row that a load reads. (Noncomputable: the compiler has no tag for a constructor this late
in Instr; the kernel evaluates it.) -/
noncomputable def decodeCenan (k : CoreId) (upset : BitVec 48) (w : BitVec 14) : Instr :=
  let cond : BitVec 3 := w.extractLsb' 11 3
  let rd : BitVec 3 := w.extractLsb' 3 3
  let rs : BitVec 3 := w.extractLsb' 0 3
  let low : BitVec 6 := w.extractLsb' 0 6
  match (w.extractLsb' 6 5).toNat with
  | 0x00 => .add k cond rd rs
  | 0x01 => .adc k cond rd rs
  | 0x02 => .sub k cond rd rs
  | 0x03 => .sbc k cond rd rs
  | 0x04 => .andI k cond rd rs
  | 0x05 => .orI k cond rd rs
  | 0x06 => .xorI k cond rd rs
  | 0x07 => .mov k cond rd rs
  | 0x08 => .addi k cond rd rs
  | 0x09 => .cmp k cond rd rs
  | 0x0A => .tst k cond rd rs
  | 0x0B =>
    match rs.toNat with
    | 0 => .lsl k cond rd
    | 1 => .lsr k cond rd
    | 2 => .asr k cond rd
    | 3 => .rol k cond rd
    | 4 => .ror k cond rd
    | 5 => .rlc k cond rd
    | 6 => .rrc k cond rd
    | _ => .sxt k cond rd
  | 0x0C => .ldk k cond rd rs
  | 0x0D => .ld k cond rd rs upset
  | 0x0E => .st k cond rd rs
  | 0x0F => .ldx k cond rd rs upset
  | 0x10 => .stx k cond rd rs
  | 0x11 => .inp k cond rd rs
  | 0x12 => .outp k cond rd rs
  | 0x13 => .bra k cond low
  | 0x14 => .jmp k cond rs
  | 0x15 => .callI k cond rs
  | 0x16 =>
    match rs.toNat with
    | 1 => .rett k cond rd
    | 2 => .dropI k cond rd
    | 3 => .depthI k cond rd
    | 4 => .pushI k cond rd
    | 5 => .topI k cond rd
    | _ => .retI k cond { rd := rd, rs := rs }
  | 0x17 => .pfx k cond low
  | 0x18 => .crcs k cond rd rs
  | 0x19 => .parI k cond rd rs
  | 0x1A => .brev k cond rd rs
  | 0x1B => .mulI k cond rd rs
  | 0x1C =>
    match rs.toNat with
    | 0 => .ldm k cond rd
    | 1 => .macu k cond rd
    | 2 => .macs k cond rd
    | 3 => .msus k cond rd
    | 4 => .rdh k cond rd
    | 5 => .rdl k cond rd
    | 6 => .clrI k cond rd
    | _ => .rnd k cond rd
  | 0x1D => .setp k cond rd rs
  | 0x1E => if rs = 1#3 then .poll k cond rd else .waitI k cond { rd := rd, rs := rs }
  | _ =>
    match rs.toNat with
    | 0 => .gets k cond rd
    | 1 => .puts k cond rd
    | 2 => .kick k cond rd
    | 3 => .trapI k cond rd
    | _ => .fenceI k cond { rd := rd, rs := rs }

end Sys2Proof
end

