-- ==== Sys2Proof/Machine/Bits.lean ====
section
/-! DEFINITION. Bit fields of register words, and counters that saturate or wrap (spec/00_scope.md, Table 0.5). -/

namespace Sys2Proof.Machine

/-- Bit i of a word. -/
def bit {n : Nat} (w : BitVec n) (i : Nat) : Bool := w.getLsbD i

/-- The field of `k` bits of a word whose lowest bit is `lo`. -/
def fld {n : Nat} (w : BitVec n) (lo k : Nat) : BitVec k := w.extractLsb' lo k

/-- A field placed at bit `lo` of a register word. -/
def putF {k : Nat} (lo : Nat) (v : BitVec k) : Word := v.setWidth 32 <<< lo

/-- A flag placed at bit `lo` of a register word. -/
def putB (lo : Nat) (b : Bool) : Word := if b then 1#32 <<< lo else 0#32

/-- A field placed at bit `lo` of a 36-bit payload. -/
def pay {k : Nat} (lo : Nat) (v : BitVec k) : W36 := v.setWidth 36 <<< lo

/-- A flag placed at bit `lo` of a 36-bit payload. -/
def payB (lo : Nat) (b : Bool) : W36 := if b then 1#36 <<< lo else 0#36

/-- A counter that saturates at all ones. -/
def satInc {k : Nat} (v : BitVec k) : BitVec k := if v = BitVec.allOnes k then v else v + 1#k

/-- The four bytes of a word, highest first. -/
def beBytes (w : Word) : List Byte := [fld w 24 8, fld w 16 8, fld w 8 8, fld w 0 8]

/-- The four bytes of a word, lowest first. -/
def leBytes (w : Word) : List Byte := [fld w 0 8, fld w 8 8, fld w 16 8, fld w 24 8]

/-- The word of four bytes, lowest first; missing bytes read zero. -/
def leWord (bs : List Byte) : Word :=
  let at' (i : Nat) : Word := (bs.getD i 0#8).setWidth 32
  at' 0 ||| at' 1 <<< 8 ||| at' 2 <<< 16 ||| at' 3 <<< 24

/-- Words of bytes, lowest byte first, four bytes a word. -/
def leWords : List Byte → List Word
  | a :: b :: c :: d :: rest => leWord [a, b, c, d] :: leWords rest
  | [] => []
  | rest => [leWord rest]

end Sys2Proof.Machine
end

