-- ==== Sys2Proof/Machine/Mem.lean ====
section
/-! DEFINITION. An addressed memory as a list of addresses and words in one canonical form: addresses strictly rising,
and no entry equal to what an unlisted address reads as. The SRAMs (unlisted words read 0), the flash (unlisted bytes
read 0xFF) and the staging areas are held so (log entries 15 and 16). -/

namespace Sys2Proof.Machine

/-- A memory of words of `n` bits. -/
abbrev Mem (n : Nat) := List (Nat × BitVec n)

namespace Mem

variable {n : Nat}

/-- The word at an address; `d` is what an unlisted address reads as. -/
def read (d : BitVec n) (m : Mem n) (a : Nat) : BitVec n :=
  match m with
  | [] => d
  | (b, v) :: rest => if a = b then v else read d rest a

/-- The memory with address `a` unlisted. -/
def erase (a : Nat) (m : Mem n) : Mem n :=
  match m with
  | [] => []
  | (b, v) :: rest => if b = a then rest else (b, v) :: erase a rest

/-- The memory with `v` listed at address `a`. -/
def insert (a : Nat) (v : BitVec n) (m : Mem n) : Mem n :=
  match m with
  | [] => [(a, v)]
  | (b, w) :: rest =>
    if a < b then (a, v) :: (b, w) :: rest
    else if a = b then (a, v) :: rest
    else (b, w) :: insert a v rest

/-- Write one word: writing what an unlisted address reads as removes the entry. -/
def write (d : BitVec n) (a : Nat) (v : BitVec n) (m : Mem n) : Mem n :=
  if v = d then erase a m else insert a v m

/-- Write several words from an address on. -/
def writeList (d : BitVec n) (a : Nat) (vs : List (BitVec n)) (m : Mem n) : Mem n :=
  match vs with
  | [] => m
  | v :: rest => writeList d (a + 1) rest (write d a v m)

/-- Read `k` words from an address on. -/
def readList (d : BitVec n) (a k : Nat) (m : Mem n) : List (BitVec n) := (List.range k).map fun i => read d m (a + i)

/-- The memory with every address of a range unlisted. -/
def clear (a k : Nat) (m : Mem n) : Mem n := m.filter fun x => !(decide (a ≤ x.1) && decide (x.1 < a + k))

/-- The canonical form: addresses strictly rising, no entry equal to `d`. -/
def wf (d : BitVec n) (m : Mem n) : Bool :=
  match m with
  | [] => true
  | (a, v) :: rest =>
    decide (v ≠ d) && (match rest with | [] => true | (b, _) :: _ => decide (a < b)) && wf d rest

end Mem

end Sys2Proof.Machine
end

