-- ==== Sys2Proof/Machine/RegsDev.lean ====
section
/-! DEFINITION. The registers of the device that no port owns, one structure a register, with the fields, reset values,
read words and write rules of their field tables (spec chapters 06 to 18) and of Table 0.5. Fields that the device
computes from other state are arguments of the read. Registers of one field are held as plain values in the state. -/

namespace Sys2Proof.Machine

/-- PL_STAT (Table 18.6): every field the device keeps; `WO` fields keep nothing. -/
structure PlStat where
  hbLost : Bool  -- [0] RO
  hbSeen : Bool  -- [1] W1C
  otpDie : Bool  -- [2] RO
  otpNtc : Bool  -- [3] RO
  vgdLow : Bool  -- [4] RO
  ntcFault : Bool  -- [6] RO
deriving DecidableEq, Repr

/-- PL_STAT at reset (Table 18.6). -/
def PlStat.reset : PlStat where
  hbLost := false
  hbSeen := false
  otpDie := false
  otpNtc := false
  vgdLow := false
  ntcFault := false

/-- The word a read of PL_STAT returns (Tables 18.6, 0.5). -/
def PlStat.read (r : PlStat) (fallback : Bool) : Word :=
  putB 0 r.hbLost |||
  putB 1 r.hbSeen |||
  putB 2 r.otpDie |||
  putB 3 r.otpNtc |||
  putB 4 r.vgdLow |||
  putB 5 fallback |||
  putB 6 r.ntcFault

/-- A write of PL_STAT acts on its fields by their types (Table 0.5, R12). -/
def PlStat.write (r : PlStat) (w : Word) : PlStat :=
  { r with
    hbSeen := r.hbSeen && !(bit w 1) }

/-- PL_NTC_CFG (Table 18.6): every field the device keeps; `WO` fields keep nothing. -/
structure PlNtcCfg where
  thr : BitVec 8  -- [7:0] RW
  beta : BitVec 12  -- [19:8] RW
  r27 : BitVec 8  -- [27:20] RW
deriving DecidableEq, Repr

/-- PL_NTC_CFG at reset (Table 18.6). -/
def PlNtcCfg.reset : PlNtcCfg where
  thr := 145#8
  beta := 3435#12
  r27 := 10#8

/-- The word a read of PL_NTC_CFG returns (Tables 18.6, 0.5). -/
def PlNtcCfg.read (r : PlNtcCfg) : Word :=
  putF 0 r.thr |||
  putF 8 r.beta |||
  putF 20 r.r27

/-- A write of PL_NTC_CFG acts on its fields by their types (Table 0.5, R12). -/
def PlNtcCfg.write (r : PlNtcCfg) (w : Word) : PlNtcCfg :=
  { r with
    thr := fld w 0 8,
    beta := (let n := fld w 8 12; if n ≠ 0#12 then n else r.beta),
    r27 := (let n := fld w 20 8; if n ≠ 0#8 then n else r.r27) }

/-- PL_TEMP (Table 18.6): every field the device keeps; `WO` fields keep nothing. -/
structure PlTemp where
  ntc : BitVec 12  -- [11:0] RO
  die : BitVec 12  -- [23:12] RO
deriving DecidableEq, Repr

/-- PL_TEMP at reset (Table 18.6). -/
def PlTemp.reset : PlTemp where
  ntc := 0#12
  die := 0#12

/-- The word a read of PL_TEMP returns (Tables 18.6, 0.5). -/
def PlTemp.read (r : PlTemp) : Word :=
  putF 0 r.ntc |||
  putF 12 r.die

/-- PL_OSC (Table 18.6): every field the device keeps; `WO` fields keep nothing. -/
structure PlOsc where
  count : BitVec 16  -- [15:0] RO
  trim : BitVec 8  -- [23:16] RO
deriving DecidableEq, Repr

/-- PL_OSC at reset (Table 18.6) (TRIM: set from `fuse`, strap or index when the device starts). -/
def PlOsc.reset : PlOsc where
  count := 0#16
  trim := 0#8

/-- The word a read of PL_OSC returns (Tables 18.6, 0.5). -/
def PlOsc.read (r : PlOsc) : Word :=
  putF 0 r.count |||
  putF 16 r.trim

/-- PL_LOAD_STAT (Table 8.15): every field the device keeps; `WO` fields keep nothing. -/
structure PlLoadStat where
  busy : Bool  -- [0] RO
  done : Bool  -- [1] W1C
  refused : Bool  -- [2] W1C
  err : BitVec 3  -- [5:3] RO
  lastRegion : BitVec 6  -- [11:6] RO
  lastSlot : BitVec 4  -- [15:12] RO
  loadUs : BitVec 8  -- [23:16] RO
deriving DecidableEq, Repr

/-- PL_LOAD_STAT at reset (Table 8.15). -/
def PlLoadStat.reset : PlLoadStat where
  busy := false
  done := false
  refused := false
  err := 0#3
  lastRegion := 0#6
  lastSlot := 0#4
  loadUs := 0#8

/-- The word a read of PL_LOAD_STAT returns (Tables 8.15, 0.5). -/
def PlLoadStat.read (r : PlLoadStat) : Word :=
  putB 0 r.busy |||
  putB 1 r.done |||
  putB 2 r.refused |||
  putF 3 r.err |||
  putF 6 r.lastRegion |||
  putF 12 r.lastSlot |||
  putF 16 r.loadUs

/-- A write of PL_LOAD_STAT acts on its fields by their types (Table 0.5, R12). -/
def PlLoadStat.write (r : PlLoadStat) (w : Word) : PlLoadStat :=
  { r with
    done := r.done && !(bit w 1),
    refused := r.refused && !(bit w 2) }

/-- PL_SCRUB (Table 8.16): every field the device keeps; `WO` fields keep nothing. -/
structure PlScrub where
  pos : BitVec 14  -- [15:2] RO
  corr : BitVec 8  -- [23:16] RO
  uncorr : BitVec 4  -- [27:24] RO
deriving DecidableEq, Repr

/-- PL_SCRUB at reset (Table 8.16). -/
def PlScrub.reset : PlScrub where
  pos := 0#14
  corr := 0#8
  uncorr := 0#4

/-- The word a read of PL_SCRUB returns (Tables 8.16, 0.5). -/
def PlScrub.read (r : PlScrub) : Word :=
  putF 2 r.pos |||
  putF 16 r.corr |||
  putF 24 r.uncorr

/-- PL_CULV (Table 8.17): every field the device keeps; `WO` fields keep nothing. -/
structure PlCulv where
  region : BitVec 6  -- [5:0] RO
  switching : Bool  -- [6] RO
  slot : BitVec 4  -- [10:7] RO
deriving DecidableEq, Repr

/-- PL_CULV at reset (Table 8.17) (REGION: set from `fuse`, strap or index when the device starts). -/
def PlCulv.reset : PlCulv where
  region := 0#6
  switching := false
  slot := 0#4

/-- The word a read of PL_CULV returns (Tables 8.17, 0.5). -/
def PlCulv.read (r : PlCulv) : Word :=
  putF 0 r.region |||
  putB 6 r.switching |||
  putF 7 r.slot

/-- SYS_TPL_STAT (Table 8.18): every field the device keeps; `WO` fields keep nothing. -/
structure SysTplStat where
  err : BitVec 4  -- [4:1] RO
  storeUncorr : Bool  -- [13] W1C
deriving DecidableEq, Repr

/-- SYS_TPL_STAT at reset (Table 8.18). -/
def SysTplStat.reset : SysTplStat where
  err := 0#4
  storeUncorr := false

/-- The word a read of SYS_TPL_STAT returns (Tables 8.18, 0.5). -/
def SysTplStat.read (r : SysTplStat) (writing : Bool) (nFree : BitVec 5) : Word :=
  putB 0 writing |||
  putF 1 r.err |||
  putF 8 nFree |||
  putB 13 r.storeUncorr

/-- A write of SYS_TPL_STAT acts on its fields by their types (Table 0.5, R12). -/
def SysTplStat.write (r : SysTplStat) (w : Word) : SysTplStat :=
  { r with
    storeUncorr := r.storeUncorr && !(bit w 13) }

/-- QY_STAT (Table 9.15): every field the device keeps; `WO` fields keep nothing. -/
structure QyStat where
  aOos : Bool  -- [6] W1C
  sramNospare : Bool  -- [7] W1C
  queueNospare : Bool  -- [8] W1C
deriving DecidableEq, Repr

/-- QY_STAT at reset (Table 9.15). -/
def QyStat.reset : QyStat where
  aOos := false
  sramNospare := false
  queueNospare := false

/-- The word a read of QY_STAT returns (Tables 9.15, 0.5). -/
def QyStat.read (r : QyStat) (exhausted : BitVec 4) (doubled : Bool) (noStandby : Bool) (fallback : BitVec 4) : Word :=
  putF 0 exhausted |||
  putB 4 doubled |||
  putB 5 noStandby |||
  putB 6 r.aOos |||
  putB 7 r.sramNospare |||
  putB 8 r.queueNospare |||
  putF 9 fallback

/-- A write of QY_STAT acts on its fields by their types (Table 0.5, R12). -/
def QyStat.write (r : QyStat) (w : Word) : QyStat :=
  { r with
    aOos := r.aOos && !(bit w 6),
    sramNospare := r.sramNospare && !(bit w 7),
    queueNospare := r.queueNospare && !(bit w 8) }

/-- QY_CORE (Table 9.15): every field the device keeps; `WO` fields keep nothing. -/
structure QyCore where
  supCore : BitVec 4  -- [3:0] RO
  lifeCore : BitVec 4  -- [7:4] RO
  stbyCore : BitVec 4  -- [11:8] RO
  c15Bench : BitVec 4  -- [15:12] RO
  dblBench : BitVec 4  -- [19:16] RO
  dblCore : BitVec 4  -- [23:20] RO
deriving DecidableEq, Repr

/-- QY_CORE at reset (Table 9.15). -/
def QyCore.reset : QyCore where
  supCore := 13#4
  lifeCore := 12#4
  stbyCore := 14#4
  c15Bench := 15#4
  dblBench := 15#4
  dblCore := 0#4

/-- The word a read of QY_CORE returns (Tables 9.15, 0.5). -/
def QyCore.read (r : QyCore) : Word :=
  putF 0 r.supCore |||
  putF 4 r.lifeCore |||
  putF 8 r.stbyCore |||
  putF 12 r.c15Bench |||
  putF 16 r.dblBench |||
  putF 20 r.dblCore

/-- QY_MIG_STAT (Table 9.15): every field the device keeps; `WO` fields keep nothing. -/
structure QyMigStat where
  busy : Bool  -- [0] RO
  done : Bool  -- [1] W1C
  lapsed : Bool  -- [2] W1C
  refused : Bool  -- [3] W1C
  err : BitVec 4  -- [7:4] RO
  lastPort : BitVec 8  -- [15:8] RO
deriving DecidableEq, Repr

/-- QY_MIG_STAT at reset (Table 9.15). -/
def QyMigStat.reset : QyMigStat where
  busy := false
  done := false
  lapsed := false
  refused := false
  err := 0#4
  lastPort := 0#8

/-- The word a read of QY_MIG_STAT returns (Tables 9.15, 0.5). -/
def QyMigStat.read (r : QyMigStat) : Word :=
  putB 0 r.busy |||
  putB 1 r.done |||
  putB 2 r.lapsed |||
  putB 3 r.refused |||
  putF 4 r.err |||
  putF 8 r.lastPort

/-- A write of QY_MIG_STAT acts on its fields by their types (Table 0.5, R12). -/
def QyMigStat.write (r : QyMigStat) (w : Word) : QyMigStat :=
  { r with
    done := r.done && !(bit w 1),
    lapsed := r.lapsed && !(bit w 2),
    refused := r.refused && !(bit w 3) }

/-- QY_SPOIL (Table 9.15): every field the device keeps; `WO` fields keep nothing. -/
structure QySpoil where
  ledgerUsed : BitVec 7  -- [6:0] RO
  flashUsed : BitVec 8  -- [15:8] RO
  badWords : BitVec 4  -- [27:24] RO
  flashFull : Bool  -- [28] W1C
deriving DecidableEq, Repr

/-- QY_SPOIL at reset (Table 9.15). -/
def QySpoil.reset : QySpoil where
  ledgerUsed := 0#7
  flashUsed := 0#8
  badWords := 0#4
  flashFull := false

/-- The word a read of QY_SPOIL returns (Tables 9.15, 0.5). -/
def QySpoil.read (r : QySpoil) (pending : BitVec 8) : Word :=
  putF 0 r.ledgerUsed |||
  putF 8 r.flashUsed |||
  putF 16 pending |||
  putF 24 r.badWords |||
  putB 28 r.flashFull

/-- A write of QY_SPOIL acts on its fields by their types (Table 0.5, R12). -/
def QySpoil.write (r : QySpoil) (w : Word) : QySpoil :=
  { r with
    flashFull := r.flashFull && !(bit w 28) }

/-- QY_LAST (Table 9.15): every field the device keeps; `WO` fields keep nothing. -/
structure QyLast where
  event : BitVec 28  -- [27:0] RO
  action : BitVec 4  -- [31:28] RO
deriving DecidableEq, Repr

/-- QY_LAST at reset (Table 9.15). -/
def QyLast.reset : QyLast where
  event := 0#28
  action := 0#4

/-- The word a read of QY_LAST returns (Tables 9.15, 0.5). -/
def QyLast.read (r : QyLast) : Word :=
  putF 0 r.event |||
  putF 28 r.action

/-- C_CFG (Table 10.19): every field the device keeps; `WO` fields keep nothing. -/
structure CCfg where
  rstkMode : Bool  -- [0] RW
  crcPoly : BitVec 2  -- [2:1] RW
deriving DecidableEq, Repr

/-- C_CFG at reset (Table 10.19). -/
def CCfg.reset : CCfg where
  rstkMode := true
  crcPoly := 0#2

/-- The word a read of C_CFG returns (Tables 10.19, 0.5). -/
def CCfg.read (r : CCfg) : Word :=
  putB 0 r.rstkMode |||
  putF 1 r.crcPoly

/-- A write of C_CFG acts on its fields by their types (Table 0.5, R12). -/
def CCfg.write (r : CCfg) (w : Word) : CCfg :=
  { r with
    rstkMode := bit w 0,
    crcPoly := (let n := fld w 1 2; if n ≠ 3#2 then n else r.crcPoly) }

/-- C_TRAP (Table 10.20): every field the device keeps; `WO` fields keep nothing. -/
structure CTrap where
  cause : BitVec 4  -- [3:0] RO
  tpc : BitVec 14  -- [17:4] RO
  tact : Bool  -- [18] RO
  double : Bool  -- [19] W1C
  count : BitVec 8  -- [27:20] RO
deriving DecidableEq, Repr

/-- C_TRAP at reset (Table 10.20). -/
def CTrap.reset : CTrap where
  cause := 0#4
  tpc := 0#14
  tact := false
  double := false
  count := 0#8

/-- C_TRAP after a reset of its core that is no trial: no handler runs, COUNT starts again, and what the last trap left stays
(Table 10.20, R318). -/
def CTrap.afterReset (r : CTrap) : CTrap := { r with tact := false, count := 0#8 }

/-- The word a read of C_TRAP returns (Tables 10.20, 0.5). -/
def CTrap.read (r : CTrap) : Word :=
  putF 0 r.cause |||
  putF 4 r.tpc |||
  putB 18 r.tact |||
  putB 19 r.double |||
  putF 20 r.count

/-- A write of C_TRAP acts on its fields by their types (Table 0.5, R12). -/
def CTrap.write (r : CTrap) (w : Word) : CTrap :=
  { r with
    double := r.double && !(bit w 19) }

/-- C_ROLE (Table 11.9): every field the device keeps; `WO` fields keep nothing. -/
structure CRole where
  role : BitVec 4  -- [3:0] RO
  role2 : BitVec 4  -- [7:4] RO
deriving DecidableEq, Repr

/-- C_ROLE at reset (Table 11.9) (ROLE: set from `fuse`, strap or index when the device starts). -/
def CRole.reset : CRole where
  role := 0#4
  role2 := 15#4

/-- The word a read of C_ROLE returns (Tables 11.9, 0.5). -/
def CRole.read (r : CRole) : Word :=
  putF 0 r.role |||
  putF 4 r.role2

/-- C_STAT (Table 11.9): every field the device keeps; `WO` fields keep nothing. -/
structure CStat where
  state : BitVec 3  -- [2:0] RO
  wdExp : Bool  -- [3] W1C
  ptrErr : Bool  -- [4] W1C
  stgLost : Bool  -- [5] W1C
  wdLeft : BitVec 10  -- [17:8] RO
deriving DecidableEq, Repr

/-- C_STAT at reset (Table 11.9) (WD_LEFT: set from `fuse`, strap or index when the device starts). -/
def CStat.reset : CStat where
  state := 1#3
  wdExp := false
  ptrErr := false
  stgLost := false
  wdLeft := 0#10

/-- The word a read of C_STAT returns (Tables 11.9, 0.5). -/
def CStat.read (r : CStat) : Word :=
  putF 0 r.state |||
  putB 3 r.wdExp |||
  putB 4 r.ptrErr |||
  putB 5 r.stgLost |||
  putF 8 r.wdLeft

/-- A write of C_STAT acts on its fields by their types (Table 0.5, R12). -/
def CStat.write (r : CStat) (w : Word) : CStat :=
  { r with
    wdExp := r.wdExp && !(bit w 3),
    ptrErr := r.ptrErr && !(bit w 4),
    stgLost := r.stgLost && !(bit w 5) }

/-- C_DWIN (Table 11.9): every field the device keeps; `WO` fields keep nothing. -/
structure CDwin where
  sel : BitVec 8  -- [7:0] RW
  winOpen : Bool  -- [8] RW
deriving DecidableEq, Repr

/-- C_DWIN at reset (Table 11.9). -/
def CDwin.reset : CDwin where
  sel := 0#8
  winOpen := false

/-- The word a read of C_DWIN returns (Tables 11.9, 0.5). -/
def CDwin.read (r : CDwin) : Word :=
  putF 0 r.sel |||
  putB 8 r.winOpen

/-- A write of C_DWIN acts on its fields by their types (Table 0.5, R12). -/
def CDwin.write (r : CDwin) (w : Word) : CDwin :=
  { r with
    sel := fld w 0 8,
    winOpen := bit w 8 }

/-- C_ECC (Table 11.9): every field the device keeps; `WO` fields keep nothing. -/
structure CEcc where
  codeCorr : BitVec 8  -- [7:0] RO
  dataCorr : BitVec 8  -- [15:8] RO
  codeUncorr : Bool  -- [16] W1C
  dataUncorr : Bool  -- [17] W1C
  codeSpare : BitVec 4  -- [21:18] RO
  dataSpare : BitVec 4  -- [25:22] RO
deriving DecidableEq, Repr

/-- C_ECC at reset (Table 11.9). -/
def CEcc.reset : CEcc where
  codeCorr := 0#8
  dataCorr := 0#8
  codeUncorr := false
  dataUncorr := false
  codeSpare := 8#4
  dataSpare := 8#4

/-- The word a read of C_ECC returns (Tables 11.9, 0.5). -/
def CEcc.read (r : CEcc) : Word :=
  putF 0 r.codeCorr |||
  putF 8 r.dataCorr |||
  putB 16 r.codeUncorr |||
  putB 17 r.dataUncorr |||
  putF 18 r.codeSpare |||
  putF 22 r.dataSpare

/-- A write of C_ECC acts on its fields by their types (Table 0.5, R12). -/
def CEcc.write (r : CEcc) (w : Word) : CEcc :=
  { r with
    codeUncorr := r.codeUncorr && !(bit w 16),
    dataUncorr := r.dataUncorr && !(bit w 17) }

/-- BG_STAT (Table 6.11): every field the device keeps; `WO` fields keep nothing. -/
structure BgStat where
  leaseValid : Bool  -- [1] RO
  island : Bool  -- [2] RO
  limInherited : Bool  -- [3] RO
  classaClipped : Bool  -- [16] W1C
  allocOverrun : Bool  -- [17] W1C
  floorOver : Bool  -- [18] W1C
  aGuarLost : Bool  -- [19] W1C
deriving DecidableEq, Repr

/-- BG_STAT at reset (Table 6.11). -/
def BgStat.reset : BgStat where
  leaseValid := false
  island := false
  limInherited := false
  classaClipped := false
  allocOverrun := false
  floorOver := false
  aGuarLost := false

/-- The word a read of BG_STAT returns (Tables 6.11, 0.5). -/
def BgStat.read (r : BgStat) (aGuar : Bool) (nClassa : BitVec 5) : Word :=
  putB 0 aGuar |||
  putB 1 r.leaseValid |||
  putB 2 r.island |||
  putB 3 r.limInherited |||
  putF 8 nClassa |||
  putB 16 r.classaClipped |||
  putB 17 r.allocOverrun |||
  putB 18 r.floorOver |||
  putB 19 r.aGuarLost

/-- A write of BG_STAT acts on its fields by their types (Table 0.5, R12). -/
def BgStat.write (r : BgStat) (w : Word) : BgStat :=
  { r with
    classaClipped := r.classaClipped && !(bit w 16),
    allocOverrun := r.allocOverrun && !(bit w 17),
    floorOver := r.floorOver && !(bit w 18),
    aGuarLost := r.aGuarLost && !(bit w 19) }

/-- BG_CFG (Table 6.11): every field the device keeps; `WO` fields keep nothing. -/
structure BgCfg where
  tLease : BitVec 12  -- [11:0] RW
deriving DecidableEq, Repr

/-- BG_CFG at reset (Table 6.11). -/
def BgCfg.reset : BgCfg where
  tLease := 500#12

/-- The word a read of BG_CFG returns (Tables 6.11, 0.5). -/
def BgCfg.read (r : BgCfg) : Word :=
  putF 0 r.tLease

/-- A write of BG_CFG acts on its fields by their types (Table 0.5, R12). -/
def BgCfg.write (r : BgCfg) (w : Word) : BgCfg :=
  { r with
    tLease := fld w 0 12 }

/-- BG_FLOOR (Table 6.11): every field the device keeps; `WO` fields keep nothing. -/
structure BgFloor where
  floorA : BitVec 8  -- [7:0] RW
  floorB : BitVec 8  -- [15:8] RW
  floorC : BitVec 8  -- [23:16] RW
deriving DecidableEq, Repr

/-- BG_FLOOR at reset (Table 6.11). -/
def BgFloor.reset : BgFloor where
  floorA := 50#8
  floorB := 25#8
  floorC := 5#8

/-- The word a read of BG_FLOOR returns (Tables 6.11, 0.5). -/
def BgFloor.read (r : BgFloor) : Word :=
  putF 0 r.floorA |||
  putF 8 r.floorB |||
  putF 16 r.floorC

/-- A write of BG_FLOOR acts on its fields by their types (Table 0.5, R12). -/
def BgFloor.write (r : BgFloor) (w : Word) : BgFloor :=
  { r with
    floorA := fld w 0 8,
    floorB := fld w 8 8,
    floorC := fld w 16 8 }

/-- BG_LEASE (Table 6.11): every field the device keeps; `WO` fields keep nothing. -/
structure BgLease where
  leaseW : BitVec 20  -- [19:0] RO
  remain : BitVec 12  -- [31:20] RO
deriving DecidableEq, Repr

/-- BG_LEASE at reset (Table 6.11). -/
def BgLease.reset : BgLease where
  leaseW := 0#20
  remain := 0#12

/-- The word a read of BG_LEASE returns (Tables 6.11, 0.5). -/
def BgLease.read (r : BgLease) : Word :=
  putF 0 r.leaseW |||
  putF 20 r.remain

/-- BG_LAT (Table 6.11): every field the device keeps; `WO` fields keep nothing. -/
structure BgLat where
  max : BitVec 12  -- [11:0] RO
  port : BitVec 8  -- [19:12] RO
  overCnt : BitVec 7  -- [26:20] RO
deriving DecidableEq, Repr

/-- BG_LAT at reset (Table 6.11). -/
def BgLat.reset : BgLat where
  max := 0#12
  port := 0#8
  overCnt := 0#7

/-- The word a read of BG_LAT returns (Tables 6.11, 0.5). -/
def BgLat.read (r : BgLat) : Word :=
  putF 0 r.max |||
  putF 12 r.port |||
  putF 20 r.overCnt

/-- KG_STAT (Table 7.11): every field the device keeps; `WO` fields keep nothing. -/
structure KgStat where
  slotConflict : Bool  -- [0] W1C
  smpLost : Bool  -- [1] W1C
  limitsBad : Bool  -- [2] W1C
  spanRej : Bool  -- [3] W1C
deriving DecidableEq, Repr

/-- KG_STAT at reset (Table 7.11). -/
def KgStat.reset : KgStat where
  slotConflict := false
  smpLost := false
  limitsBad := false
  spanRej := false

/-- The word a read of KG_STAT returns (Tables 7.11, 0.5). -/
def KgStat.read (r : KgStat) (nServing : BitVec 6) : Word :=
  putB 0 r.slotConflict |||
  putB 1 r.smpLost |||
  putB 2 r.limitsBad |||
  putB 3 r.spanRej |||
  putF 4 nServing

/-- A write of KG_STAT acts on its fields by their types (Table 0.5, R12). -/
def KgStat.write (r : KgStat) (w : Word) : KgStat :=
  { r with
    slotConflict := r.slotConflict && !(bit w 0),
    smpLost := r.smpLost && !(bit w 1),
    limitsBad := r.limitsBad && !(bit w 2),
    spanRej := r.spanRej && !(bit w 3) }

/-- KG_CUR (Table 7.11): every field the device keeps; `WO` fields keep nothing. -/
structure KgCur where
  iQuiet : BitVec 8  -- [7:0] RW
  iRest : BitVec 8  -- [15:8] RW
  iTaperLo : BitVec 8  -- [23:16] RW
  iTaperHi : BitVec 8  -- [31:24] RW
deriving DecidableEq, Repr

/-- KG_CUR at reset (Table 7.11). -/
def KgCur.reset : KgCur where
  iQuiet := 50#8
  iRest := 10#8
  iTaperLo := 25#8
  iTaperHi := 100#8

/-- The word a read of KG_CUR returns (Tables 7.11, 0.5). -/
def KgCur.read (r : KgCur) : Word :=
  putF 0 r.iQuiet |||
  putF 8 r.iRest |||
  putF 16 r.iTaperLo |||
  putF 24 r.iTaperHi

/-- A write of KG_CUR acts on its fields by their types (Table 0.5, R12). -/
def KgCur.write (r : KgCur) (w : Word) : KgCur :=
  { r with
    iQuiet := (let n := fld w 0 8; if n ≠ 0#8 then n else r.iQuiet),
    iRest := (let n := fld w 8 8; if n ≠ 0#8 ∧ n ≤ (if fld w 0 8 ≠ 0#8 then fld w 0 8 else r.iQuiet) then n else r.iRest),
    iTaperLo := fld w 16 8,
    iTaperHi := (let n := fld w 24 8; if fld w 16 8 < n then n else r.iTaperHi) }

/-- KG_TIME (Table 7.11): every field the device keeps; `WO` fields keep nothing. -/
structure KgTime where
  tRest : BitVec 8  -- [7:0] RW
  tTaper : BitVec 8  -- [15:8] RW
  tTopup : BitVec 8  -- [23:16] RW
  tCommit : BitVec 8  -- [31:24] RW
deriving DecidableEq, Repr

/-- KG_TIME at reset (Table 7.11). -/
def KgTime.reset : KgTime where
  tRest := 30#8
  tTaper := 30#8
  tTopup := 24#8
  tCommit := 60#8

/-- The word a read of KG_TIME returns (Tables 7.11, 0.5). -/
def KgTime.read (r : KgTime) : Word :=
  putF 0 r.tRest |||
  putF 8 r.tTaper |||
  putF 16 r.tTopup |||
  putF 24 r.tCommit

/-- A write of KG_TIME acts on its fields by their types (Table 0.5, R12). -/
def KgTime.write (r : KgTime) (w : Word) : KgTime :=
  { r with
    tRest := fld w 0 8,
    tTaper := (let n := fld w 8 8; if n ≠ 0#8 then n else r.tTaper),
    tTopup := (let n := fld w 16 8; if n ≠ 0#8 then n else r.tTopup),
    tCommit := (let n := fld w 24 8; if n ≠ 0#8 then n else r.tCommit) }

/-- KG_LEARN (Table 7.11): every field the device keeps; `WO` fields keep nothing. -/
structure KgLearn where
  span : BitVec 7  -- [6:0] RW
  etaChg : BitVec 7  -- [14:8] RW
  etaSrc : BitVec 7  -- [22:16] RW
  vFold : BitVec 8  -- [31:24] RW
deriving DecidableEq, Repr

/-- KG_LEARN at reset (Table 7.11). -/
def KgLearn.reset : KgLearn where
  span := 40#7
  etaChg := 90#7
  etaSrc := 90#7
  vFold := 225#8

/-- The word a read of KG_LEARN returns (Tables 7.11, 0.5). -/
def KgLearn.read (r : KgLearn) : Word :=
  putF 0 r.span |||
  putF 8 r.etaChg |||
  putF 16 r.etaSrc |||
  putF 24 r.vFold

/-- A write of KG_LEARN acts on its fields by their types (Table 0.5, R12). -/
def KgLearn.write (r : KgLearn) (w : Word) : KgLearn :=
  { r with
    span := (let n := fld w 0 7; if 10#7 ≤ n ∧ n ≤ 90#7 then n else r.span),
    etaChg := (let n := fld w 8 7; if 50#7 ≤ n ∧ n ≤ 100#7 then n else r.etaChg),
    etaSrc := (let n := fld w 16 7; if 50#7 ≤ n ∧ n ≤ 100#7 then n else r.etaSrc),
    vFold := (let n := fld w 24 8; if n ≠ 0#8 then n else r.vFold) }

/-- KG_JSTAT (Table 7.11): every field the device keeps; `WO` fields keep nothing. -/
structure KgJstat where
  busy : Bool  -- [0] RO
  heldStage : Bool  -- [1] RO
  heldBerm : Bool  -- [2] RO
  crcFails : BitVec 8  -- [23:16] RO
deriving DecidableEq, Repr

/-- KG_JSTAT at reset (Table 7.11). -/
def KgJstat.reset : KgJstat where
  busy := false
  heldStage := false
  heldBerm := false
  crcFails := 0#8

/-- The word a read of KG_JSTAT returns (Tables 7.11, 0.5). -/
def KgJstat.read (r : KgJstat) (pending : BitVec 8) : Word :=
  putB 0 r.busy |||
  putB 1 r.heldStage |||
  putB 2 r.heldBerm |||
  putF 8 pending |||
  putF 16 r.crcFails

/-- KG_SLOT (Table 7.11): every field the device keeps; `WO` fields keep nothing. -/
structure KgSlot where
  port : BitVec 8  -- [7:0] RW
  en : Bool  -- [8] RW
  table : BitVec 3  -- [11:9] RW
  cells : BitVec 4  -- [15:12] RW
  designMah : BitVec 16  -- [31:16] RW
deriving DecidableEq, Repr

/-- KG_SLOT at reset (Table 7.11). -/
def KgSlot.reset : KgSlot where
  port := 255#8
  en := false
  table := 0#3
  cells := 0#4
  designMah := 0#16

/-- The word a read of KG_SLOT returns (Tables 7.11, 0.5). -/
def KgSlot.read (r : KgSlot) : Word :=
  putF 0 r.port |||
  putB 8 r.en |||
  putF 9 r.table |||
  putF 12 r.cells |||
  putF 16 r.designMah

/-- A write of KG_SLOT acts on its fields by their types (Table 0.5, R12). -/
def KgSlot.write (r : KgSlot) (w : Word) : KgSlot :=
  { r with
    port := fld w 0 8,
    en := bit w 8,
    table := fld w 9 3,
    cells := fld w 12 4,
    designMah := fld w 16 16 }

/-- LK_CTRL (Table 12.7): every field the device keeps; `WO` fields keep nothing. -/
structure LkCtrl where
  en : Bool  -- [0] RW
  rateMax : Bool  -- [1] RW
deriving DecidableEq, Repr

/-- LK_CTRL at reset (Table 12.7). -/
def LkCtrl.reset : LkCtrl where
  en := true
  rateMax := false

/-- The word a read of LK_CTRL returns (Tables 12.7, 0.5). -/
def LkCtrl.read (r : LkCtrl) : Word :=
  putB 0 r.en |||
  putB 1 r.rateMax

/-- A write of LK_CTRL acts on its fields by their types (Table 0.5, R12). -/
def LkCtrl.write (r : LkCtrl) (w : Word) : LkCtrl :=
  { r with
    en := bit w 0,
    rateMax := bit w 1 }

/-- LK_STAT (Table 12.7): every field the device keeps; `WO` fields keep nothing. -/
structure LkStat where
  state : BitVec 3  -- [2:0] RO
  rate : Bool  -- [3] RO
  inverted : Bool  -- [4] RO
  eq : BitVec 3  -- [7:5] RO
  roleUp : Bool  -- [8] RO
  active : Bool  -- [9] RO
  authFail : Bool  -- [10] W1C
  roleMismatch : Bool  -- [11] W1C
  loopSeen : Bool  -- [12] W1C
  depthRef : Bool  -- [13] W1C
  peerAddr : BitVec 6  -- [19:14] RO
  peerOk : Bool  -- [20] RO
deriving DecidableEq, Repr

/-- LK_STAT at reset (Table 12.7) (ROLE_UP: set from `fuse`, strap or index when the device starts). -/
def LkStat.reset : LkStat where
  state := 0#3
  rate := false
  inverted := false
  eq := 0#3
  roleUp := false
  active := false
  authFail := false
  roleMismatch := false
  loopSeen := false
  depthRef := false
  peerAddr := 0#6
  peerOk := false

/-- The word a read of LK_STAT returns (Tables 12.7, 0.5). -/
def LkStat.read (r : LkStat) : Word :=
  putF 0 r.state |||
  putB 3 r.rate |||
  putB 4 r.inverted |||
  putF 5 r.eq |||
  putB 8 r.roleUp |||
  putB 9 r.active |||
  putB 10 r.authFail |||
  putB 11 r.roleMismatch |||
  putB 12 r.loopSeen |||
  putB 13 r.depthRef |||
  putF 14 r.peerAddr |||
  putB 20 r.peerOk

/-- A write of LK_STAT acts on its fields by their types (Table 0.5, R12). -/
def LkStat.write (r : LkStat) (w : Word) : LkStat :=
  { r with
    authFail := r.authFail && !(bit w 10),
    roleMismatch := r.roleMismatch && !(bit w 11),
    loopSeen := r.loopSeen && !(bit w 12),
    depthRef := r.depthRef && !(bit w 13) }

/-- LK_ERR (Table 12.7): every field the device keeps; `WO` fields keep nothing. -/
structure LkErr where
  crcErr : BitVec 8  -- [7:0] RO
  retx : BitVec 8  -- [15:8] RO
  downCnt : BitVec 8  -- [23:16] RO
  authCnt : BitVec 4  -- [27:24] RO
deriving DecidableEq, Repr

/-- LK_ERR at reset (Table 12.7). -/
def LkErr.reset : LkErr where
  crcErr := 0#8
  retx := 0#8
  downCnt := 0#8
  authCnt := 0#4

/-- The word a read of LK_ERR returns (Tables 12.7, 0.5). -/
def LkErr.read (r : LkErr) : Word :=
  putF 0 r.crcErr |||
  putF 8 r.retx |||
  putF 16 r.downCnt |||
  putF 24 r.authCnt

/-- LK_CFG (Table 12.8): every field the device keeps; `WO` fields keep nothing. -/
structure LkCfg where
  revert : Bool  -- [0] RW
deriving DecidableEq, Repr

/-- LK_CFG at reset (Table 12.8). -/
def LkCfg.reset : LkCfg where
  revert := true

/-- The word a read of LK_CFG returns (Tables 12.8, 0.5). -/
def LkCfg.read (r : LkCfg) : Word :=
  putB 0 r.revert

/-- A write of LK_CFG acts on its fields by their types (Table 0.5, R12). -/
def LkCfg.write (r : LkCfg) (w : Word) : LkCfg :=
  { r with
    revert := bit w 0 }

/-- LK_TREE (Table 12.8): every field the device keeps; `WO` fields keep nothing. -/
structure LkTree where
  addr : BitVec 6  -- [5:0] RO
  addrOk : Bool  -- [6] RO
  depth : BitVec 3  -- [9:7] RO
  rootPort : BitVec 3  -- [12:10] RO
  actingMgr : Bool  -- [13] RO
  deputy : Bool  -- [14] RO
  deputyExtra : Bool  -- [15] W1C
  deposed : Bool  -- [16] RO
  term : BitVec 8  -- [31:24] RO
deriving DecidableEq, Repr

/-- LK_TREE at reset (Table 12.8) (ADDR_OK, ACTING_MGR: set from `fuse`, strap or index when the device starts). -/
def LkTree.reset : LkTree where
  addr := 0#6
  addrOk := false
  depth := 0#3
  rootPort := 7#3
  actingMgr := false
  deputy := false
  deputyExtra := false
  deposed := false
  term := 0#8

/-- The word a read of LK_TREE returns (Tables 12.8, 0.5). -/
def LkTree.read (r : LkTree) (nWorkers : BitVec 6) : Word :=
  putF 0 r.addr |||
  putB 6 r.addrOk |||
  putF 7 r.depth |||
  putF 10 r.rootPort |||
  putB 13 r.actingMgr |||
  putB 14 r.deputy |||
  putB 15 r.deputyExtra |||
  putB 16 r.deposed |||
  putF 18 nWorkers |||
  putF 24 r.term

/-- A write of LK_TREE acts on its fields by their types (Table 0.5, R12). -/
def LkTree.write (r : LkTree) (w : Word) : LkTree :=
  { r with
    deputyExtra := r.deputyExtra && !(bit w 15) }

/-- LK_TIME (Table 12.8): every field the device keeps; `WO` fields keep nothing. -/
structure LkTime where
  synced : Bool  -- [0] RO
  syncLost : Bool  -- [1] W1C
  stepped : Bool  -- [2] W1C
  lastCorr : BitVec 16  -- [18:3] RO
deriving DecidableEq, Repr

/-- LK_TIME at reset (Table 12.8). -/
def LkTime.reset : LkTime where
  synced := false
  syncLost := false
  stepped := false
  lastCorr := 0#16

/-- The word a read of LK_TIME returns (Tables 12.8, 0.5). -/
def LkTime.read (r : LkTime) : Word :=
  putB 0 r.synced |||
  putB 1 r.syncLost |||
  putB 2 r.stepped |||
  putF 3 r.lastCorr

/-- A write of LK_TIME acts on its fields by their types (Table 0.5, R12). -/
def LkTime.write (r : LkTime) (w : Word) : LkTime :=
  { r with
    syncLost := r.syncLost && !(bit w 1),
    stepped := r.stepped && !(bit w 2) }

/-- REM_SEL (Table 12.9): every field the device keeps; `WO` fields keep nothing. -/
structure RemSel where
  target : BitVec 6  -- [5:0] RW
deriving DecidableEq, Repr

/-- REM_SEL at reset (Table 12.9). -/
def RemSel.reset : RemSel where
  target := 0#6

/-- The word a read of REM_SEL returns (Tables 12.9, 0.5). -/
def RemSel.read (r : RemSel) : Word :=
  putF 0 r.target

/-- A write of REM_SEL acts on its fields by their types (Table 0.5, R12). -/
def RemSel.write (r : RemSel) (w : Word) : RemSel :=
  { r with
    target := fld w 0 6 }

/-- REM_ADDR (Table 12.9): every field the device keeps; `WO` fields keep nothing. -/
structure RemAddr where
  addr : BitVec 16  -- [15:0] RW
  wr : Bool  -- [16] RW
deriving DecidableEq, Repr

/-- REM_ADDR at reset (Table 12.9). -/
def RemAddr.reset : RemAddr where
  addr := 0#16
  wr := false

/-- The word a read of REM_ADDR returns (Tables 12.9, 0.5). -/
def RemAddr.read (r : RemAddr) : Word :=
  putF 0 r.addr |||
  putB 16 r.wr

/-- A write of REM_ADDR acts on its fields by their types (Table 0.5, R12). -/
def RemAddr.write (r : RemAddr) (w : Word) : RemAddr :=
  { r with
    addr := fld w 0 16,
    wr := bit w 16 }

/-- REM_STAT (Table 12.9): every field the device keeps; `WO` fields keep nothing. -/
structure RemStat where
  busy : Bool  -- [0] RO
  done : Bool  -- [1] W1C
  timeout : Bool  -- [2] W1C
  noroute : Bool  -- [3] W1C
  refused : Bool  -- [4] W1C
deriving DecidableEq, Repr

/-- REM_STAT at reset (Table 12.9). -/
def RemStat.reset : RemStat where
  busy := false
  done := false
  timeout := false
  noroute := false
  refused := false

/-- The word a read of REM_STAT returns (Tables 12.9, 0.5). -/
def RemStat.read (r : RemStat) : Word :=
  putB 0 r.busy |||
  putB 1 r.done |||
  putB 2 r.timeout |||
  putB 3 r.noroute |||
  putB 4 r.refused

/-- A write of REM_STAT acts on its fields by their types (Table 0.5, R12). -/
def RemStat.write (r : RemStat) (w : Word) : RemStat :=
  { r with
    done := r.done && !(bit w 1),
    timeout := r.timeout && !(bit w 2),
    noroute := r.noroute && !(bit w 3),
    refused := r.refused && !(bit w 4) }

/-- TW_H_ADDR (Table 13.7): every field the device keeps; `WO` fields keep nothing. -/
structure TwHAddr where
  primary : BitVec 7  -- [6:0] RO
  mode : Bool  -- [7] RW
  mask : BitVec 7  -- [14:8] RW
deriving DecidableEq, Repr

/-- TW_H_ADDR at reset (Table 13.7) (PRIMARY: set from `fuse`, strap or index when the device starts). -/
def TwHAddr.reset : TwHAddr where
  primary := 0#7
  mode := false
  mask := 0#7

/-- The word a read of TW_H_ADDR returns (Tables 13.7, 0.5). -/
def TwHAddr.read (r : TwHAddr) : Word :=
  putF 0 r.primary |||
  putB 7 r.mode |||
  putF 8 r.mask

/-- A write of TW_H_ADDR acts on its fields by their types (Table 0.5, R12). -/
def TwHAddr.write (r : TwHAddr) (w : Word) : TwHAddr :=
  { r with
    mode := bit w 7,
    mask := fld w 8 7 }

/-- TW_H_CFG (Table 13.7): every field the device keeps; `WO` fields keep nothing. -/
structure TwHCfg where
  en : Bool  -- [0] RW
  pecEn : Bool  -- [1] RW
  pecReq : Bool  -- [2] RW
  toEn : Bool  -- [3] RW
  secGroup : BitVec 4  -- [7:4] RW
  hostAddr : BitVec 7  -- [14:8] RW
  alertEn : Bool  -- [15] RW
  alertRetry : BitVec 4  -- [19:16] RW
deriving DecidableEq, Repr

/-- TW_H_CFG at reset (Table 13.7). -/
def TwHCfg.reset : TwHCfg where
  en := true
  pecEn := false
  pecReq := false
  toEn := true
  secGroup := 0#4
  hostAddr := 8#7
  alertEn := true
  alertRetry := 8#4

/-- The word a read of TW_H_CFG returns (Tables 13.7, 0.5). -/
def TwHCfg.read (r : TwHCfg) : Word :=
  putB 0 r.en |||
  putB 1 r.pecEn |||
  putB 2 r.pecReq |||
  putB 3 r.toEn |||
  putF 4 r.secGroup |||
  putF 8 r.hostAddr |||
  putB 15 r.alertEn |||
  putF 16 r.alertRetry

/-- A write of TW_H_CFG acts on its fields by their types (Table 0.5, R12). -/
def TwHCfg.write (r : TwHCfg) (w : Word) : TwHCfg :=
  { r with
    en := bit w 0,
    pecEn := bit w 1,
    pecReq := bit w 2,
    toEn := bit w 3,
    secGroup := fld w 4 4,
    hostAddr := fld w 8 7,
    alertEn := bit w 15,
    alertRetry := fld w 16 4 }

/-- TW_H_TIM (Table 13.7): every field the device keeps; `WO` fields keep nothing. -/
structure TwHTim where
  hdDat : BitVec 8  -- [7:0] RW
  spike : BitVec 4  -- [11:8] RW
deriving DecidableEq, Repr

/-- TW_H_TIM at reset (Table 13.7). -/
def TwHTim.reset : TwHTim where
  hdDat := 30#8
  spike := 5#4

/-- The word a read of TW_H_TIM returns (Tables 13.7, 0.5). -/
def TwHTim.read (r : TwHTim) : Word :=
  putF 0 r.hdDat |||
  putF 8 r.spike

/-- A write of TW_H_TIM acts on its fields by their types (Table 0.5, R12). -/
def TwHTim.write (r : TwHTim) (w : Word) : TwHTim :=
  { r with
    hdDat := fld w 0 8,
    spike := fld w 8 4 }

/-- TW_H_STAT (Table 13.7): every field the device keeps; `WO` fields keep nothing. -/
structure TwHStat where
  busyNack : Bool  -- [0] W1C
  pecErr : Bool  -- [1] W1C
  partForm : Bool  -- [2] W1C
  sclTo : Bool  -- [3] W1C
  sdaTo : Bool  -- [4] W1C
  arbLost : Bool  -- [5] W1C
  arbLostSr : Bool  -- [6] W1C
  alertFail : Bool  -- [7] W1C
  rdDiscard : Bool  -- [8] W1C
  overlong : Bool  -- [9] W1C
  nackCnt : BitVec 8  -- [31:24] RO
deriving DecidableEq, Repr

/-- TW_H_STAT at reset (Table 13.7). -/
def TwHStat.reset : TwHStat where
  busyNack := false
  pecErr := false
  partForm := false
  sclTo := false
  sdaTo := false
  arbLost := false
  arbLostSr := false
  alertFail := false
  rdDiscard := false
  overlong := false
  nackCnt := 0#8

/-- The word a read of TW_H_STAT returns (Tables 13.7, 0.5). -/
def TwHStat.read (r : TwHStat) (alertPend : BitVec 8) : Word :=
  putB 0 r.busyNack |||
  putB 1 r.pecErr |||
  putB 2 r.partForm |||
  putB 3 r.sclTo |||
  putB 4 r.sdaTo |||
  putB 5 r.arbLost |||
  putB 6 r.arbLostSr |||
  putB 7 r.alertFail |||
  putB 8 r.rdDiscard |||
  putB 9 r.overlong |||
  putF 16 alertPend |||
  putF 24 r.nackCnt

/-- A write of TW_H_STAT acts on its fields by their types (Table 0.5, R12). -/
def TwHStat.write (r : TwHStat) (w : Word) : TwHStat :=
  { r with
    busyNack := r.busyNack && !(bit w 0),
    pecErr := r.pecErr && !(bit w 1),
    partForm := r.partForm && !(bit w 2),
    sclTo := r.sclTo && !(bit w 3),
    sdaTo := r.sdaTo && !(bit w 4),
    arbLost := r.arbLost && !(bit w 5),
    arbLostSr := r.arbLostSr && !(bit w 6),
    alertFail := r.alertFail && !(bit w 7),
    rdDiscard := r.rdDiscard && !(bit w 8),
    overlong := r.overlong && !(bit w 9) }

/-- TW_M_CFG (Table 13.7): every field the device keeps; `WO` fields keep nothing. -/
structure TwMCfg where
  en : Bool  -- [0] RW
  toEn : Bool  -- [1] RW
deriving DecidableEq, Repr

/-- TW_M_CFG at reset (Table 13.7). -/
def TwMCfg.reset : TwMCfg where
  en := true
  toEn := true

/-- The word a read of TW_M_CFG returns (Tables 13.7, 0.5). -/
def TwMCfg.read (r : TwMCfg) : Word :=
  putB 0 r.en |||
  putB 1 r.toEn

/-- A write of TW_M_CFG acts on its fields by their types (Table 0.5, R12). -/
def TwMCfg.write (r : TwMCfg) (w : Word) : TwMCfg :=
  { r with
    en := bit w 0,
    toEn := bit w 1 }

/-- TW_M_TIM (Table 13.7): every field the device keeps; `WO` fields keep nothing. -/
structure TwMTim where
  low : BitVec 10  -- [9:0] RW
  high : BitVec 10  -- [19:10] RW
  hdDat : BitVec 6  -- [25:20] RW
deriving DecidableEq, Repr

/-- TW_M_TIM at reset (Table 13.7). -/
def TwMTim.reset : TwMTim where
  low := 150#10
  high := 100#10
  hdDat := 30#6

/-- The word a read of TW_M_TIM returns (Tables 13.7, 0.5). -/
def TwMTim.read (r : TwMTim) : Word :=
  putF 0 r.low |||
  putF 10 r.high |||
  putF 20 r.hdDat

/-- A write of TW_M_TIM acts on its fields by their types (Table 0.5, R12). -/
def TwMTim.write (r : TwMTim) (w : Word) : TwMTim :=
  { r with
    low := (let n := fld w 0 10; if n ≠ 0#10 then n else r.low),
    high := (let n := fld w 10 10; if n ≠ 0#10 then n else r.high),
    hdDat := fld w 20 6 }

/-- TW_M_STAT (Table 13.7): every field the device keeps; `WO` fields keep nothing. -/
structure TwMStat where
  busy : Bool  -- [0] RO
  nack : Bool  -- [1] W1C
  arbLost : Bool  -- [2] W1C
  arbLostSr : Bool  -- [3] W1C
  sclTo : Bool  -- [4] W1C
  sdaTo : Bool  -- [5] W1C
  pecErr : Bool  -- [6] W1C
  busClrCnt : BitVec 8  -- [15:8] RO
deriving DecidableEq, Repr

/-- TW_M_STAT at reset (Table 13.7). -/
def TwMStat.reset : TwMStat where
  busy := false
  nack := false
  arbLost := false
  arbLostSr := false
  sclTo := false
  sdaTo := false
  pecErr := false
  busClrCnt := 0#8

/-- The word a read of TW_M_STAT returns (Tables 13.7, 0.5). -/
def TwMStat.read (r : TwMStat) : Word :=
  putB 0 r.busy |||
  putB 1 r.nack |||
  putB 2 r.arbLost |||
  putB 3 r.arbLostSr |||
  putB 4 r.sclTo |||
  putB 5 r.sdaTo |||
  putB 6 r.pecErr |||
  putF 8 r.busClrCnt

/-- A write of TW_M_STAT acts on its fields by their types (Table 0.5, R12). -/
def TwMStat.write (r : TwMStat) (w : Word) : TwMStat :=
  { r with
    nack := r.nack && !(bit w 1),
    arbLost := r.arbLost && !(bit w 2),
    arbLostSr := r.arbLostSr && !(bit w 3),
    sclTo := r.sclTo && !(bit w 4),
    sdaTo := r.sdaTo && !(bit w 5),
    pecErr := r.pecErr && !(bit w 6) }

/-- SH_STAT (Table 14.7): every field the device keeps; `WO` fields keep nothing. -/
structure ShStat where
  stage : BitVec 3  -- [2:0] RO
  prev : BitVec 3  -- [5:3] RO
  cause : BitVec 3  -- [8:6] RO
  ratio : BitVec 7  -- [15:9] RO
  commitOk : Bool  -- [16] RO
  parked : Bool  -- [17] RO
  s6Timing : Bool  -- [18] RO
  forced : Bool  -- [19] RO
deriving DecidableEq, Repr

/-- SH_STAT at reset (Table 14.7). -/
def ShStat.reset : ShStat where
  stage := 0#3
  prev := 0#3
  cause := 0#3
  ratio := 0#7
  commitOk := false
  parked := false
  s6Timing := false
  forced := false

/-- The word a read of SH_STAT returns (Tables 14.7, 0.5). -/
def ShStat.read (r : ShStat) : Word :=
  putF 0 r.stage |||
  putF 3 r.prev |||
  putF 6 r.cause |||
  putF 9 r.ratio |||
  putB 16 r.commitOk |||
  putB 17 r.parked |||
  putB 18 r.s6Timing |||
  putB 19 r.forced

/-- SH_THR (Table 14.7): every field the device keeps; `WO` fields keep nothing. -/
structure ShThr where
  t1 : BitVec 6  -- [5:0] RW
  t2 : BitVec 6  -- [11:6] RW
  t3 : BitVec 6  -- [17:12] RW
  t4 : BitVec 6  -- [23:18] RW
  t5 : BitVec 6  -- [29:24] RW
deriving DecidableEq, Repr

/-- SH_THR at reset (Table 14.7). -/
def ShThr.reset : ShThr where
  t1 := 32#6
  t2 := 25#6
  t3 := 20#6
  t4 := 15#6
  t5 := 10#6

/-- The word a read of SH_THR returns (Tables 14.7, 0.5). -/
def ShThr.read (r : ShThr) : Word :=
  putF 0 r.t1 |||
  putF 6 r.t2 |||
  putF 12 r.t3 |||
  putF 18 r.t4 |||
  putF 24 r.t5

/-- A write of SH_THR acts on its fields by their types (Table 0.5, R12). -/
def ShThr.write (r : ShThr) (w : Word) : ShThr :=
  { r with
    t1 := fld w 0 6,
    t2 := fld w 6 6,
    t3 := fld w 12 6,
    t4 := fld w 18 6,
    t5 := fld w 24 6 }

/-- SH_CFG (Table 14.7): every field the device keeps; `WO` fields keep nothing. -/
structure ShCfg where
  hyst : BitVec 4  -- [3:0] RW
  t6 : BitVec 6  -- [9:4] RW
  pfEn : BitVec 4  -- [13:10] RW
  packSrc : Bool  -- [14] RW
  force : BitVec 3  -- [17:15] RW
deriving DecidableEq, Repr

/-- SH_CFG at reset (Table 14.7). -/
def ShCfg.reset : ShCfg where
  hyst := 2#4
  t6 := 0x3C#6
  pfEn := 15#4
  packSrc := false
  force := 0#3

/-- The word a read of SH_CFG returns (Tables 14.7, 0.5). -/
def ShCfg.read (r : ShCfg) : Word :=
  putF 0 r.hyst |||
  putF 4 r.t6 |||
  putF 10 r.pfEn |||
  putB 14 r.packSrc |||
  putF 15 r.force

/-- A write of SH_CFG acts on its fields by their types (Table 0.5, R12). -/
def ShCfg.write (r : ShCfg) (w : Word) : ShCfg :=
  { r with
    hyst := fld w 0 4,
    pfEn := fld w 10 4,
    packSrc := bit w 14,
    force := (let n := fld w 15 3; if n ≤ 5#3 then n else r.force) }

/-- SH_DWELL (Table 14.7): every field the device keeps; `WO` fields keep nothing. -/
structure ShDwell where
  dn : BitVec 8  -- [7:0] RW
  up : BitVec 8  -- [15:8] RW
  s6 : BitVec 8  -- [23:16] RW
deriving DecidableEq, Repr

/-- SH_DWELL at reset (Table 14.7). -/
def ShDwell.reset : ShDwell where
  dn := 20#8
  up := 20#8
  s6 := 20#8

/-- The word a read of SH_DWELL returns (Tables 14.7, 0.5). -/
def ShDwell.read (r : ShDwell) : Word :=
  putF 0 r.dn |||
  putF 8 r.up |||
  putF 16 r.s6

/-- A write of SH_DWELL acts on its fields by their types (Table 0.5, R12). -/
def ShDwell.write (r : ShDwell) (w : Word) : ShDwell :=
  { r with
    dn := fld w 0 8,
    up := fld w 8 8,
    s6 := fld w 16 8 }

/-- SH_NOM (Table 14.7): every field the device keeps; `WO` fields keep nothing. -/
structure ShNom where
  feedsNom : BitVec 12  -- [11:0] RW
  pfNom : BitVec 12  -- [23:12] RW
deriving DecidableEq, Repr

/-- SH_NOM at reset (Table 14.7). -/
def ShNom.reset : ShNom where
  feedsNom := 1000#12
  pfNom := 1000#12

/-- The word a read of SH_NOM returns (Tables 14.7, 0.5). -/
def ShNom.read (r : ShNom) : Word :=
  putF 0 r.feedsNom |||
  putF 12 r.pfNom

/-- A write of SH_NOM acts on its fields by their types (Table 0.5, R12). -/
def ShNom.write (r : ShNom) (w : Word) : ShNom :=
  { r with
    feedsNom := (let n := fld w 0 12; if n ≠ 0#12 then n else r.feedsNom),
    pfNom := (let n := fld w 12 12; if n ≠ 0#12 then n else r.pfNom) }

/-- SH_BERM (Table 14.7): every field the device keeps; `WO` fields keep nothing. -/
structure ShBerm where
  vFloor : BitVec 10  -- [9:0] RW
  vCommit : BitVec 10  -- [19:10] RW
  vBerm : BitVec 10  -- [29:20] RO
deriving DecidableEq, Repr

/-- SH_BERM at reset (Table 14.7). -/
def ShBerm.reset : ShBerm where
  vFloor := 0#10
  vCommit := 1023#10
  vBerm := 0#10

/-- The word a read of SH_BERM returns (Tables 14.7, 0.5). -/
def ShBerm.read (r : ShBerm) : Word :=
  putF 0 r.vFloor |||
  putF 10 r.vCommit |||
  putF 20 r.vBerm

/-- A write of SH_BERM acts on its fields by their types (Table 0.5, R12). -/
def ShBerm.write (r : ShBerm) (w : Word) : ShBerm :=
  { r with
    vFloor := fld w 0 10,
    vCommit := fld w 10 10 }

/-- SH_MON (Table 14.7): every field the device keeps; `WO` fields keep nothing. -/
structure ShMon where
  feeds : BitVec 7  -- [6:0] RO
  vdda : BitVec 9  -- [15:7] RO
  vddc : BitVec 8  -- [23:16] RO
deriving DecidableEq, Repr

/-- SH_MON at reset (Table 14.7). -/
def ShMon.reset : ShMon where
  feeds := 0#7
  vdda := 0#9
  vddc := 0#8

/-- The word a read of SH_MON returns (Tables 14.7, 0.5). -/
def ShMon.read (r : ShMon) : Word :=
  putF 0 r.feeds |||
  putF 7 r.vdda |||
  putF 16 r.vddc

/-- SH_PWR (Table 14.7): every field the device keeps; `WO` fields keep nothing. -/
structure ShPwr where
  refused : Bool  -- [4] W1C
  wake : BitVec 16  -- [20:5] RW
deriving DecidableEq, Repr

/-- SH_PWR at reset (Table 14.7). -/
def ShPwr.reset : ShPwr where
  refused := false
  wake := 0#16

/-- The word a read of SH_PWR returns (Tables 14.7, 0.5). -/
def ShPwr.read (r : ShPwr) (state : BitVec 3) : Word :=
  putF 0 state |||
  putB 4 r.refused |||
  putF 5 r.wake

/-- A write of SH_PWR acts on its fields by their types (Table 0.5, R12). -/
def ShPwr.write (r : ShPwr) (w : Word) : ShPwr :=
  { r with
    refused := r.refused && !(bit w 4),
    wake := fld w 5 16 }

/-- SH_SUP (Table 14.7): every field the device keeps; `WO` fields keep nothing. -/
structure ShSup where
  vddcEarly : Bool  -- [0] W1C
  vddioLost : Bool  -- [1] W1C
  vgdLow : Bool  -- [2] W1C
  s6Seen : Bool  -- [3] W1C
  lastStage : BitVec 3  -- [6:4] RO
deriving DecidableEq, Repr

/-- SH_SUP at reset (Table 14.7). -/
def ShSup.reset : ShSup where
  vddcEarly := false
  vddioLost := false
  vgdLow := false
  s6Seen := false
  lastStage := 7#3

/-- The word a read of SH_SUP returns (Tables 14.7, 0.5). -/
def ShSup.read (r : ShSup) : Word :=
  putB 0 r.vddcEarly |||
  putB 1 r.vddioLost |||
  putB 2 r.vgdLow |||
  putB 3 r.s6Seen |||
  putF 4 r.lastStage

/-- A write of SH_SUP acts on its fields by their types (Table 0.5, R12). -/
def ShSup.write (r : ShSup) (w : Word) : ShSup :=
  { r with
    vddcEarly := r.vddcEarly && !(bit w 0),
    vddioLost := r.vddioLost && !(bit w 1),
    vgdLow := r.vgdLow && !(bit w 2),
    s6Seen := r.s6Seen && !(bit w 3) }

/-- FZ_STAT (Table 15.7): every field the device keeps; `WO` fields keep nothing. -/
structure FzStat where
  provHold : Bool  -- [0] RO
  scrap : Bool  -- [1] RO
  copyBUsed : Bool  -- [2] RO
  cfgUnlocked : Bool  -- [3] RO
  secretsAbsent : Bool  -- [4] RO
  revokePend : Bool  -- [5] RO
  weak : Bool  -- [6] W1C
  weakCorrected : Bool  -- [7] W1C
  keysPresent : BitVec 4  -- [11:8] RO
  keysRevoked : BitVec 4  -- [15:12] RO
  sparesOut : Bool  -- [16] W1C
deriving DecidableEq, Repr

/-- FZ_STAT at reset (Table 15.7). -/
def FzStat.reset : FzStat where
  provHold := false
  scrap := false
  copyBUsed := false
  cfgUnlocked := false
  secretsAbsent := false
  revokePend := false
  weak := false
  weakCorrected := false
  keysPresent := 0#4
  keysRevoked := 0#4
  sparesOut := false

/-- The word a read of FZ_STAT returns (Tables 15.7, 0.5). -/
def FzStat.read (r : FzStat) : Word :=
  putB 0 r.provHold |||
  putB 1 r.scrap |||
  putB 2 r.copyBUsed |||
  putB 3 r.cfgUnlocked |||
  putB 4 r.secretsAbsent |||
  putB 5 r.revokePend |||
  putB 6 r.weak |||
  putB 7 r.weakCorrected |||
  putF 8 r.keysPresent |||
  putF 12 r.keysRevoked |||
  putB 16 r.sparesOut

/-- A write of FZ_STAT acts on its fields by their types (Table 0.5, R12). -/
def FzStat.write (r : FzStat) (w : Word) : FzStat :=
  { r with
    weak := r.weak && !(bit w 6),
    weakCorrected := r.weakCorrected && !(bit w 7),
    sparesOut := r.sparesOut && !(bit w 16) }

/-- FZ_CMD_STAT (Table 15.7): every field the device keeps; `WO` fields keep nothing. -/
structure FzCmdStat where
  busy : Bool  -- [0] RO
  done : Bool  -- [1] W1C
  refused : Bool  -- [2] W1C
  err : BitVec 4  -- [6:3] RO
  spared : Bool  -- [7] W1C
  rawChk : BitVec 12  -- [19:8] RO
deriving DecidableEq, Repr

/-- FZ_CMD_STAT at reset (Table 15.7). -/
def FzCmdStat.reset : FzCmdStat where
  busy := false
  done := false
  refused := false
  err := 0#4
  spared := false
  rawChk := 0#12

/-- The word a read of FZ_CMD_STAT returns (Tables 15.7, 0.5). -/
def FzCmdStat.read (r : FzCmdStat) : Word :=
  putB 0 r.busy |||
  putB 1 r.done |||
  putB 2 r.refused |||
  putF 3 r.err |||
  putB 7 r.spared |||
  putF 8 r.rawChk

/-- A write of FZ_CMD_STAT acts on its fields by their types (Table 0.5, R12). -/
def FzCmdStat.write (r : FzCmdStat) (w : Word) : FzCmdStat :=
  { r with
    done := r.done && !(bit w 1),
    refused := r.refused && !(bit w 2),
    spared := r.spared && !(bit w 7) }

/-- FZ_RSTAT (Table 15.7): every field the device keeps; `WO` fields keep nothing. -/
structure FzRstat where
  scrub : BitVec 2  -- [1:0] RO
  corrStart : Bool  -- [2] RO
  spared : Bool  -- [3] RO
  uncorrStart : Bool  -- [4] RO
deriving DecidableEq, Repr

/-- FZ_RSTAT at reset (Table 15.7). -/
def FzRstat.reset : FzRstat where
  scrub := 0#2
  corrStart := false
  spared := false
  uncorrStart := false

/-- The word a read of FZ_RSTAT returns (Tables 15.7, 0.5). -/
def FzRstat.read (r : FzRstat) : Word :=
  putF 0 r.scrub |||
  putB 2 r.corrStart |||
  putB 3 r.spared |||
  putB 4 r.uncorrStart

/-- FZ_SCRUB (Table 15.7): every field the device keeps; `WO` fields keep nothing. -/
structure FzScrub where
  pos : BitVec 9  -- [8:0] RO
  weakCnt : BitVec 8  -- [16:9] RO
  wcorrCnt : BitVec 8  -- [24:17] RO
deriving DecidableEq, Repr

/-- FZ_SCRUB at reset (Table 15.7). -/
def FzScrub.reset : FzScrub where
  pos := 0#9
  weakCnt := 0#8
  wcorrCnt := 0#8

/-- The word a read of FZ_SCRUB returns (Tables 15.7, 0.5). -/
def FzScrub.read (r : FzScrub) : Word :=
  putF 0 r.pos |||
  putF 9 r.weakCnt |||
  putF 17 r.wcorrCnt

/-- FZ_SPARE (Table 15.7): every field the device keeps; `WO` fields keep nothing. -/
structure FzSpare where
  freeA : BitVec 4  -- [3:0] RO
  freeB : BitVec 4  -- [7:4] RO
deriving DecidableEq, Repr

/-- FZ_SPARE at reset (Table 15.7). -/
def FzSpare.reset : FzSpare where
  freeA := 12#4
  freeB := 12#4

/-- The word a read of FZ_SPARE returns (Tables 15.7, 0.5). -/
def FzSpare.read (r : FzSpare) : Word :=
  putF 0 r.freeA |||
  putF 4 r.freeB

/-- SYS_RST_CAUSE (Table 16.2): every field the device keeps; `WO` fields keep nothing. -/
structure SysRstCause where
  last : BitVec 4  -- [3:0] RO
  seen : BitVec 8  -- [11:4] W1C
  pldSeen : BitVec 4  -- [15:12] W1C
  vaoLost : Bool  -- [16] RO
  warmCnt : BitVec 7  -- [23:17] RO
deriving DecidableEq, Repr

/-- SYS_RST_CAUSE at reset (Table 16.2). -/
def SysRstCause.reset : SysRstCause where
  last := 1#4
  seen := 1#8
  pldSeen := 0#4
  vaoLost := true
  warmCnt := 0#7

/-- The word a read of SYS_RST_CAUSE returns (Tables 16.2, 0.5). -/
def SysRstCause.read (r : SysRstCause) : Word :=
  putF 0 r.last |||
  putF 4 r.seen |||
  putF 12 r.pldSeen |||
  putB 16 r.vaoLost |||
  putF 17 r.warmCnt

/-- A write of SYS_RST_CAUSE acts on its fields by their types (Table 0.5, R12). -/
def SysRstCause.write (r : SysRstCause) (w : Word) : SysRstCause :=
  { r with
    seen := r.seen &&& ~~~(fld w 4 8),
    pldSeen := r.pldSeen &&& ~~~(fld w 12 4) }

/-- SYS_START (Table 16.2): every field the device keeps; `WO` fields keep nothing. -/
structure SysStart where
  phase : BitVec 4  -- [3:0] RO
  tLife : BitVec 12  -- [15:4] RO
  tAll : BitVec 12  -- [27:16] RO
deriving DecidableEq, Repr

/-- SYS_START at reset (Table 16.2). -/
def SysStart.reset : SysStart where
  phase := 0#4
  tLife := 0#12
  tAll := 0#12

/-- The word a read of SYS_START returns (Tables 16.2, 0.5). -/
def SysStart.read (r : SysStart) : Word :=
  putF 0 r.phase |||
  putF 4 r.tLife |||
  putF 16 r.tAll

/-- SYS_REV (Table 18.5): every field the device keeps; `WO` fields keep nothing. -/
structure SysRev where
  srev : BitVec 8  -- [7:0] RO
  rom : BitVec 8  -- [15:8] RO
deriving DecidableEq, Repr

/-- SYS_REV at reset (Table 18.5) (SREV: set from `fuse`, strap or index when the device starts). -/
def SysRev.reset : SysRev where
  srev := 0#8
  rom := 1#8

/-- The word a read of SYS_REV returns (Tables 18.5, 0.5). -/
def SysRev.read (r : SysRev) : Word :=
  putF 0 r.srev |||
  putF 8 r.rom

/-- SYS_STAT (Table 18.5): every field the device keeps; `WO` fields keep nothing. -/
structure SysStat where
  role : BitVec 2  -- [1:0] RO
  roleStrapBad : Bool  -- [2] RO
  addr : BitVec 3  -- [5:3] RO
  deputy : Bool  -- [6] RO
  vddio3v3 : Bool  -- [7] RO
  island : Bool  -- [8] RO
deriving DecidableEq, Repr

/-- SYS_STAT at reset (Table 18.5) (ROLE, ROLE_STRAP_BAD, ADDR, DEPUTY: set from `fuse`, strap or index when the device starts). -/
def SysStat.reset : SysStat where
  role := 0#2
  roleStrapBad := false
  addr := 0#3
  deputy := false
  vddio3v3 := false
  island := false

/-- The word a read of SYS_STAT returns (Tables 18.5, 0.5). -/
def SysStat.read (r : SysStat) : Word :=
  putF 0 r.role |||
  putB 2 r.roleStrapBad |||
  putF 3 r.addr |||
  putB 6 r.deputy |||
  putB 7 r.vddio3v3 |||
  putB 8 r.island

/-- SYS_TEMP (Table 18.5): every field the device keeps; `WO` fields keep nothing. -/
structure SysTemp where
  die : BitVec 12  -- [11:0] RO
deriving DecidableEq, Repr

/-- SYS_TEMP at reset (Table 18.5). -/
def SysTemp.reset : SysTemp where
  die := 0#12

/-- The word a read of SYS_TEMP returns (Tables 18.5, 0.5). -/
def SysTemp.read (r : SysTemp) : Word :=
  putF 0 r.die

/-- FL_STAT (Table 17.11): every field the device keeps; `WO` fields keep nothing. -/
structure FlStat where
  present : Bool  -- [0] RO
  bootBank : Bool  -- [1] RO
  bankFallback : Bool  -- [2] RO
  noImage : Bool  -- [3] RO
  refused : Bool  -- [4] W1C
  verifyFail : Bool  -- [5] W1C
  cut : Bool  -- [6] W1C
  settingsReset : Bool  -- [7] W1C
  stateA : BitVec 2  -- [9:8] RO
  stateB : BitVec 2  -- [11:10] RO
deriving DecidableEq, Repr

/-- FL_STAT at reset (Table 17.11). -/
def FlStat.reset : FlStat where
  present := false
  bootBank := false
  bankFallback := false
  noImage := false
  refused := false
  verifyFail := false
  cut := false
  settingsReset := false
  stateA := 0#2
  stateB := 0#2

/-- The word a read of FL_STAT returns (Tables 17.11, 0.5). -/
def FlStat.read (r : FlStat) : Word :=
  putB 0 r.present |||
  putB 1 r.bootBank |||
  putB 2 r.bankFallback |||
  putB 3 r.noImage |||
  putB 4 r.refused |||
  putB 5 r.verifyFail |||
  putB 6 r.cut |||
  putB 7 r.settingsReset |||
  putF 8 r.stateA |||
  putF 10 r.stateB

/-- A write of FL_STAT acts on its fields by their types (Table 0.5, R12). -/
def FlStat.write (r : FlStat) (w : Word) : FlStat :=
  { r with
    refused := r.refused && !(bit w 4),
    verifyFail := r.verifyFail && !(bit w 5),
    cut := r.cut && !(bit w 6),
    settingsReset := r.settingsReset && !(bit w 7) }

/-- FL_UPD_CFG (Table 17.11): every field the device keeps; `WO` fields keep nothing. -/
structure FlUpdCfg where
  actDelay : BitVec 8  -- [7:0] RW
  tConfirm : BitVec 8  -- [15:8] RW
deriving DecidableEq, Repr

/-- FL_UPD_CFG at reset (Table 17.11). -/
def FlUpdCfg.reset : FlUpdCfg where
  actDelay := 10#8
  tConfirm := 30#8

/-- The word a read of FL_UPD_CFG returns (Tables 17.11, 0.5). -/
def FlUpdCfg.read (r : FlUpdCfg) : Word :=
  putF 0 r.actDelay |||
  putF 8 r.tConfirm

/-- A write of FL_UPD_CFG acts on its fields by their types (Table 0.5, R12). -/
def FlUpdCfg.write (r : FlUpdCfg) (w : Word) : FlUpdCfg :=
  { r with
    actDelay := (let n := fld w 0 8; if 2#8 ≤ n then n else r.actDelay),
    tConfirm := (let n := fld w 8 8; if 5#8 ≤ n then n else r.tConfirm) }

/-- FL_UPD_LEN (Table 17.11): every field the device keeps; `WO` fields keep nothing. -/
structure FlUpdLen where
  len : BitVec 19  -- [18:0] RW
deriving DecidableEq, Repr

/-- FL_UPD_LEN at reset (Table 17.11). -/
def FlUpdLen.reset : FlUpdLen where
  len := 0#19

/-- The word a read of FL_UPD_LEN returns (Tables 17.11, 0.5). -/
def FlUpdLen.read (r : FlUpdLen) : Word :=
  putF 0 r.len

/-- A write of FL_UPD_LEN acts on its fields by their types (Table 0.5, R12). -/
def FlUpdLen.write (r : FlUpdLen) (w : Word) : FlUpdLen :=
  { r with
    len := fld w 0 19 }

/-- FL_UPD_STAT (Table 17.11): every field the device keeps; `WO` fields keep nothing. -/
structure FlUpdStat where
  phase : BitVec 3  -- [2:0] RO
  result : BitVec 5  -- [7:3] RO
  updId : BitVec 8  -- [15:8] RO
  healthOk : Bool  -- [16] RO
  nOk : BitVec 6  -- [22:17] RO
  nFail : BitVec 6  -- [28:23] RO
deriving DecidableEq, Repr

/-- FL_UPD_STAT at reset (Table 17.11). -/
def FlUpdStat.reset : FlUpdStat where
  phase := 0#3
  result := 0#5
  updId := 0#8
  healthOk := false
  nOk := 0#6
  nFail := 0#6

/-- The word a read of FL_UPD_STAT returns (Tables 17.11, 0.5). -/
def FlUpdStat.read (r : FlUpdStat) : Word :=
  putF 0 r.phase |||
  putF 3 r.result |||
  putF 8 r.updId |||
  putB 16 r.healthOk |||
  putF 17 r.nOk |||
  putF 23 r.nFail

end Sys2Proof.Machine
end

