-- ==== Sys2Proof/Machine/CoreState.lean ====
section
/-! DEFINITION. What one Cenan core holds: the programmer-visible state of spec/10_cenan_isa.md Table 10.1 and the
special registers of Table 10.11, its private data SRAM, its C_ registers, and what the queue hardware keeps for it
(spec/11_cores_queues.md). -/

namespace Sys2Proof.Machine

/-- The image a core's code space holds (Tables 9.1 and 11.1, spec/16_startup_resets.md). -/
inductive CoreImage where
  | none | lifeline | policy | supervisor | emergency
deriving DecidableEq, Repr

/-- The special registers of Table 10.11 that are their own state. -/
structure Special where
  iob : BitVec 16
  bank : BitVec 3
  tpc : BitVec 14
  tfl : BitVec 5
  tcause : BitVec 4
  tval : BitVec 36
  cycle : BitVec 36
  ctim : BitVec 24
deriving DecidableEq, Repr

/-- The flags and the predicate (Table 10.1). -/
structure Flags where
  z : Bool
  c : Bool
  n : Bool
  v : Bool
  p : Bool
deriving DecidableEq, Repr

/-- The prefix chain: accumulator, count and suppress bit (R297, R299), the PFX seen whether executed or not, and the
address of the first of them (R311). -/
structure Chain where
  acc : BitVec 36
  count : BitVec 3
  suppress : Bool
  seen : BitVec 3
  first : BitVec 14
deriving DecidableEq, Repr

/-- No prefix chain. -/
def Chain.none : Chain where
  acc := 0#36
  count := 0#3
  suppress := false
  seen := 0#3
  first := 0#14

/-- The return stack (R310). -/
structure RStack where
  entries : Vector (BitVec 14) 8
  ptr : BitVec 3
  depth : BitVec 4
deriving DecidableEq, Repr

/-- A group a core is pushing (R331): the queue of its first push and the entries so far. -/
structure PushGroup where
  queue : Nat
  entries : List (BitVec 6 × BitVec 36)
  mixed : Bool  -- its pushes named more than one queue
deriving DecidableEq, Repr

/-- The turn a role is in: per level, 1 to 4, the last queue served, and the mailboxes served since a pointer of a port
level last wrapped (R333). 256 stands for none. -/
structure Turn where
  last : Vector Nat 4
  mailDone : List Nat
deriving DecidableEq, Repr

/-- One Cenan core. -/
structure Core where
  w : Vector (BitVec 36) 8
  flags : Flags
  pc : BitVec 14
  a : BitVec 72
  m : BitVec 36
  chain : Chain
  stack : RStack
  sp : Special
  tact : Bool
  ctimPend : Bool                -- wake source 0x100 pending
  image : CoreImage
  code : Mem 56                  -- code rows, each as its difference from the row of the image (R290)
  data : Mem 36                  -- private data SRAM, unlisted words read 0
  cfg : CCfg
  trap : CTrap
  role : CRole
  stat : CStat
  dwin : CDwin
  ecc : CEcc
  pushType : BitVec 7            -- PUSH_TYPE (Table 11.3)
  pushAcc : Bool                 -- PUSH_RES[0]
  push : Option PushGroup
  held : Option (Fin 256)        -- the queue whose head group was handed out (R329)
  waitReg : Option (Fin 8)       -- destination of a WAIT that sleeps (R308)
  turn : Turn
  scrubPos : Nat                 -- row of the next scrub read, 0 to 12,287 (R335)
  corrPrev : List Nat            -- rows corrected on the last pass, and on this one (Table 9.2)
  corrCur : List Nat
  expired24 : Bool               -- a watchdog expiry of it in the last 24 h (R275)
deriving DecidableEq, Repr

/-- Start of a turn. -/
def Turn.init : Turn where
  last := Vector.replicate 4 256
  mailDone := []

/-- The programmer-visible state of a core after its reset: all zero (R289). -/
def Core.resetState (c : Core) : Core :=
  { c with
    w := Vector.replicate 8 0#36,
    flags := { z := false, c := false, n := false, v := false, p := false },
    pc := 0#14, a := 0#72, m := 0#36, chain := Chain.none,
    stack := { entries := Vector.replicate 8 0#14, ptr := 0#3, depth := 0#4 },
    sp := { iob := 0#16, bank := 0#3, tpc := 0#14, tfl := 0#5, tcause := 0#4, tval := 0#36, cycle := 0#36, ctim := 0#24 },
    tact := false, ctimPend := false, dwin := CDwin.reset, pushType := 0#7, pushAcc := false, push := none,
    held := none, waitReg := none, turn := Turn.init }

/-- The watchdog period of a role in µs (Table 11.1). -/
def watchdogOf (role : BitVec 4) : BitVec 10 := if role = 12#4 then 0x12C#10 else 0x3E8#10

/-- Core k after POR (Tables 10.1, 10.19, 10.20, 11.1, 11.9): it holds role k and runs (STATE 0b001). -/
def Core.reset (k : Nat) : Core where
  w := Vector.replicate 8 0#36
  flags := { z := false, c := false, n := false, v := false, p := false }
  pc := 0#14
  a := 0#72
  m := 0#36
  chain := Chain.none
  stack := { entries := Vector.replicate 8 0#14, ptr := 0#3, depth := 0#4 }
  sp := { iob := 0#16, bank := 0#3, tpc := 0#14, tfl := 0#5, tcause := 0#4, tval := 0#36, cycle := 0#36, ctim := 0#24 }
  tact := false
  ctimPend := false
  image := .none
  code := []
  data := []
  cfg := CCfg.reset
  trap := CTrap.reset
  role := { CRole.reset with role := BitVec.ofNat 4 k }
  stat := { CStat.reset with wdLeft := watchdogOf (BitVec.ofNat 4 k) }
  dwin := CDwin.reset
  ecc := CEcc.reset
  pushType := 0#7
  pushAcc := false
  push := none
  held := none
  waitReg := none
  turn := Turn.init
  scrubPos := 0
  corrPrev := []
  corrCur := []
  expired24 := false

end Sys2Proof.Machine
end

