-- ==== Sys2Proof/Machine/Flags.lean ====
section
/-! DEFINITION. The flag computations of a Cenan core: the conditions of Table 10.4 and the flags of R302, R305, R306,
R314 and R315 (spec/10_cenan_isa.md). -/

namespace Sys2Proof.Machine

namespace Flags

/-- Whether a condition of Table 10.4 holds. -/
def cond (f : Flags) (c : BitVec 3) : Bool :=
  match c.toNat with
  | 0 => true
  | 1 => f.z
  | 2 => !f.z
  | 3 => f.c
  | 4 => !f.c
  | 5 => f.n
  | 6 => !f.n
  | _ => f.p

/-- Z and N from a result (R302). -/
def zn (f : Flags) (r : BitVec 36) : Flags := { f with z := r = 0#36, n := r.msb }

/-- Sum of two words and a carry in, with Z, C, N and V (R302). -/
def addc (f : Flags) (x y : BitVec 36) (cin : Bool) : BitVec 36 × Flags :=
  let r := x + y + (if cin then 1#36 else 0#36)
  let carry := decide (2 ^ 36 ≤ x.toNat + y.toNat + cin.toNat)
  let s : Int := x.toInt + y.toInt + cin.toNat
  (r, { f.zn r with c := carry, v := s ≠ r.toInt })

/-- Difference of two words and a borrow in: C is 1 when no borrow occurs (R302). -/
def subb (f : Flags) (x y : BitVec 36) (borrow : Bool) : BitVec 36 × Flags :=
  let r := x - y - (if borrow then 1#36 else 0#36)
  let ok := decide (y.toNat + borrow.toNat ≤ x.toNat)
  let s : Int := x.toInt - y.toInt - borrow.toNat
  (r, { f.zn r with c := ok, v := s ≠ r.toInt })

/-- The flags after MUL: Z when A = 0, C when the high half is not 0, N from rd[35] (R301). -/
def mul (f : Flags) (a : BitVec 72) : Flags := { f with z := a = 0#72, c := fld a 36 36 ≠ 0#36, n := a.getLsbD 35 }

/-- The flags of FLAGS and TFL as a field: Z, C, N, V, P from bit 0 (Table 10.11). -/
def word (f : Flags) : BitVec 5 :=
  let b (i : Nat) (x : Bool) : BitVec 5 := if x then 1#5 <<< i else 0#5
  b 0 f.z ||| b 1 f.c ||| b 2 f.n ||| b 3 f.v ||| b 4 f.p

/-- The flags that a field of FLAGS or TFL spells. -/
def ofWord (w : BitVec 5) : Flags :=
  { z := bit w 0, c := bit w 1, n := bit w 2, v := bit w 3, p := bit w 4 }

/-- The value SETP takes from the flags (Table 10.10). -/
def setpValue (f : Flags) (rs : BitVec 3) : Bool :=
  match rs.toNat with
  | 0 => f.z
  | 1 => f.c
  | 2 => f.n
  | 3 => f.v
  | 4 => f.n ^^ f.v
  | 5 => f.z || (f.n ^^ f.v)
  | 6 => f.c && !f.z
  | _ => true

/-- SETP combines the value with P (Table 10.10). -/
def setp (f : Flags) (comb rs : BitVec 3) : Flags :=
  let c := f.setpValue rs
  { f with p := match comb.toNat with | 0 => c | 1 => f.p && c | 2 => f.p || c | _ => f.p ^^ c }

end Flags

/-- One bit step of the left-shifting CRCs of Table 10.14 over a byte, highest bit first. -/
def crcLeft {k : Nat} (poly : BitVec k) (crc : BitVec k) (b : BitVec 8) : BitVec k :=
  (List.range 8).foldl (fun c i =>
    let inBit := b.getLsbD (7 - i)
    let top := c.msb ^^ inBit
    if top then (c <<< 1) ^^^ poly else c <<< 1) crc

/-- One bit step of the reflected CRC-32, lowest bit first (Table 10.14). -/
def crcRight (crc : BitVec 32) (b : BitVec 8) : BitVec 32 :=
  (List.range 8).foldl (fun c i =>
    let top := c.getLsbD 0 ^^ b.getLsbD i
    if top then (c >>> 1) ^^^ 0xEDB88320#32 else c >>> 1) crc

/-- CRCS: the register word after one byte, and Z (R314). -/
def crcStep (poly : BitVec 2) (rd : BitVec 36) (b : BitVec 8) : BitVec 36 × Bool :=
  if poly = 0#2 then
    let r := crcRight (fld rd 0 32) b
    ((fld rd 32 4) ++ r, r = 0xDEBB20E3#32)
  else if poly = 1#2 then
    let r := crcLeft 0x07#8 (fld rd 0 8) b
    ((fld rd 8 28) ++ r, r = 0#8)
  else
    let r := crcLeft 0x1021#16 (fld rd 0 16) b
    ((fld rd 16 20) ++ r, r = 0#16)

/-- The width a selector of PAR and BREV names (R315). -/
def selWidth (sel : BitVec 36) : Nat :=
  match sel.toNat with | 0 => 8 | 1 => 16 | 2 => 32 | _ => 36

/-- Parity of the low `w` bits (R315). -/
def parityOf (w : Nat) (x : BitVec 36) : Bool := (List.range w).foldl (fun p i => p ^^ x.getLsbD i) false

/-- Bit reverse of the low `w` bits, the bits above them copied (R315). -/
def bitReverse (w : Nat) (x : BitVec 36) : BitVec 36 :=
  (List.range w).foldl (fun r i => if x.getLsbD i then r ||| (1#36 <<< (w - 1 - i)) else r) ((x >>> w) <<< w)

/-- A shift of Table 10.7: the result and C, from the amount, the sub-operation and the present C. -/
def shiftOp (sub : BitVec 3) (k : Nat) (x : BitVec 36) (c : Bool) : BitVec 36 × Bool :=
  match sub.toNat with
  | 0 => if k = 0 then (x, c) else (x <<< k, if k ≤ 36 then x.getLsbD (36 - k) else false)
  | 1 => if k = 0 then (x, c) else (x >>> k, if k ≤ 36 then x.getLsbD (k - 1) else false)
  | 2 => if k = 0 then (x, c) else (x.sshiftRight k, if k < 36 then x.getLsbD (k - 1) else x.msb)
  | 3 => let j := k % 36; if j = 0 then (x, c) else (x.rotateLeft j, x.getLsbD (36 - j))
  | 4 => let j := k % 36; if j = 0 then (x, c) else (x.rotateRight j, x.getLsbD (j - 1))
  | 5 =>
    let y : BitVec 37 := (if c then 1#1 else 0#1) ++ x
    let r := y.rotateLeft (k % 37)
    (r.setWidth 36, r.msb)
  | 6 =>
    let y : BitVec 37 := (if c then 1#1 else 0#1) ++ x
    let r := y.rotateRight (k % 37)
    (r.setWidth 36, r.msb)
  | _ =>
    if k = 0 then (0#36, c)
    else if 36 ≤ k then (x, c)
    else ((x <<< (36 - k)).sshiftRight (36 - k), c)

end Sys2Proof.Machine
end

