-- ==== Sys2Proof/Machine/Operands.lean ====
section
/-! DEFINITION. The operands of a Cenan instruction: its 14-bit word, the registers, and the operand a prefix chain
forms for each kind of Table 10.5 (spec/10_cenan_isa.md R295 to R300). -/

namespace Sys2Proof.Machine

/-- The opcodes of Table 10.6 in order, 0x00 to 0x1F. -/
inductive Op where
  | add | adc | sub | sbc | and | or | xor | mov | addi | cmp | tst | shf | ldk | ld | st | ldx | stx | inp | out | bra
  | jmp | call | ret | pfx | crcs | par | brev | mul | mac | setp | wait | sys
deriving DecidableEq, Repr

/-- The code of an opcode (Table 10.6). -/
def Op.code : Op → BitVec 5
  | .add => 0x00#5 | .adc => 0x01#5 | .sub => 0x02#5 | .sbc => 0x03#5 | .and => 0x04#5 | .or => 0x05#5
  | .xor => 0x06#5 | .mov => 0x07#5 | .addi => 0x08#5 | .cmp => 0x09#5 | .tst => 0x0A#5 | .shf => 0x0B#5
  | .ldk => 0x0C#5 | .ld => 0x0D#5 | .st => 0x0E#5 | .ldx => 0x0F#5 | .stx => 0x10#5 | .inp => 0x11#5
  | .out => 0x12#5 | .bra => 0x13#5 | .jmp => 0x14#5 | .call => 0x15#5 | .ret => 0x16#5 | .pfx => 0x17#5
  | .crcs => 0x18#5 | .par => 0x19#5 | .brev => 0x1A#5 | .mul => 0x1B#5 | .mac => 0x1C#5 | .setp => 0x1D#5
  | .wait => 0x1E#5 | .sys => 0x1F#5

/-- An instruction word of Table 10.3, by its fields. -/
def instrWord (cond : BitVec 3) (op : Op) (rd rs : BitVec 3) : BitVec 14 := cond ++ op.code ++ rd ++ rs

/-- Sign-extend the low `w` bits of a word to 36 bits; a width of 36 or more takes it as it stands (R298). -/
def sextLow (x : BitVec 36) (w : Nat) : BitVec 36 :=
  if 36 ≤ w then x else if w = 0 then 0#36 else (x <<< (36 - w)).sshiftRight (36 - w)

/-- Zero-extend the low `w` bits of a word to 36 bits (R298). -/
def zextLow (x : BitVec 36) (w : Nat) : BitVec 36 := if 36 ≤ w then x else (x <<< (36 - w)) >>> (36 - w)

namespace Core

/-- The number n of executed prefixes. -/
def n (c : Core) : Nat := c.chain.count.toNat

/-- acc · 8 + RS. -/
def acc8 (c : Core) (rs : BitVec 3) : BitVec 36 := (c.chain.acc <<< 3) ||| rs.setWidth 36

/-- A work register. -/
def reg (c : Core) (r : BitVec 3) : BitVec 36 := c.w[r.toNat]'(by have := r.isLt; omega)

/-- A work register written. -/
def setReg (c : Core) (r : BitVec 3) (v : BitVec 36) : Core :=
  { c with w := c.w.set r.toNat v (by have := r.isLt; omega) }

/-- The R-form operand: register rs, or the signed immediate of a chain (Table 10.5). -/
def rForm (c : Core) (rs : BitVec 3) : BitVec 36 :=
  if c.n = 0 then c.reg rs else sextLow (c.acc8 rs) (3 + 6 * c.n)

/-- The small immediate of ADDI. -/
def smallImm (c : Core) (rs : BitVec 3) : BitVec 36 := sextLow (c.acc8 rs) (3 + 6 * c.n)

/-- The unsigned immediate of LDK, and the I/O offset of IN and OUT. -/
def unsImm (c : Core) (rs : BitVec 3) : BitVec 36 := zextLow (c.acc8 rs) (3 + 6 * c.n)

/-- The data offset of LD and ST. -/
def dataOffset (c : Core) : BitVec 36 := sextLow c.chain.acc (6 * c.n)

/-- The data step of LDX and STX. -/
def dataStep (c : Core) : BitVec 36 := if c.n = 0 then 1#36 else sextLow c.chain.acc (6 * c.n)

/-- The displacement of BRA. -/
def displacement (c : Core) (d6 : BitVec 6) : BitVec 36 :=
  sextLow ((c.chain.acc <<< 6) ||| d6.setWidth 36) (6 + 6 * c.n)

/-- The target of JMP and CALL. -/
def target (c : Core) (rs : BitVec 3) : BitVec 14 :=
  if c.n = 0 then fld (c.reg rs) 0 14 else fld (c.unsImm rs) 0 14

/-- The shift amount of SHF: 1, or 32 for SXT; with one prefix its payload. -/
def shiftAmount (c : Core) (sub : BitVec 3) : Nat :=
  if c.n = 0 then (if sub = 7#3 then 32 else 1) else c.chain.acc.toNat

/-- The selector of CRCS, PAR, BREV, GETS and PUTS, with its value without a prefix. -/
def selector (c : Core) (dflt : BitVec 36) : BitVec 36 := if c.n = 0 then dflt else c.chain.acc

/-- The I/O address of IN and OUT (R292). -/
def ioAddr (c : Core) (rs : BitVec 3) : BitVec 16 := c.sp.iob + fld (c.unsImm rs) 0 16

end Core

end Sys2Proof.Machine
end

