-- ==== Sys2Proof/Machine/Cenan.lean ====
section
/-! DEFINITION. One Cenan core executing one instruction: whether it executes, traps, the return stack, and the
instructions that act on the core alone (spec/10_cenan_isa.md R296 to R315). -/

namespace Sys2Proof.Machine

/-- What becomes of an instruction that a core is given. -/
inductive Gate where
  | stopped -- the core does not run
  | ill     -- an encoding of R313
  | skip    -- its condition fails, or its chain is suppressed
  | go
deriving DecidableEq, Repr

namespace Core

/-- The encodings of R313, by opcode, fields and chain. -/
def isIll (op : Op) (rd rs : BitVec 3) (c : Core) : Bool :=
  let chained : Bool := c.chain.seen ≠ 0#3
  match op with
  | .ret => 6#3 ≤ rs || chained || (rs = 1#3 && !c.tact)
  | .mac => chained
  | .setp => 4#3 ≤ rd || chained
  | .wait => 2#3 ≤ rs || chained
  | .sys => 5#3 ≤ rs || (2#3 ≤ rs && chained) || (rs ≤ 1#3 && 15#36 < c.selector 0#36)
  | .shf => 2#3 ≤ c.chain.seen
  | .crcs => 3#36 < c.selector 0#36
  | .par => 3#36 < c.selector 2#36
  | .brev => 3#36 < c.selector 2#36
  | _ => false

/-- Whether the core runs: C_STAT.STATE is running (Table 11.9). -/
def running (c : Core) : Bool := c.stat.state = 1#3

/-- What becomes of an instruction (R296, R299, R313). -/
def gate (op : Op) (cond rd rs : BitVec 3) (c : Core) : Gate :=
  if !c.running then .stopped
  else if c.isIll op rd rs then .ill
  else if c.chain.suppress || !c.flags.cond cond then .skip
  else .go

/-- The instruction ends: the chain is consumed, PC advances and CYCLE counts its cycles (R297, Table 10.6). -/
def done (cycles : Nat) (c : Core) : Core :=
  { c with chain := Chain.none, pc := c.pc + 1#14, sp := { c.sp with cycle := c.sp.cycle + BitVec.ofNat 36 cycles } }

/-- The instruction ends with PC at a target (R304). -/
def doneAt (pc : BitVec 14) (cycles : Nat) (c : Core) : Core :=
  { c with chain := Chain.none, pc := pc, sp := { c.sp with cycle := c.sp.cycle + BitVec.ofNat 36 cycles } }

/-- The address a trap returns to: the first PFX of the chain, or the instruction (R311). -/
def returnAddr (c : Core) : BitVec 14 := if c.chain.seen ≠ 0#3 then c.chain.first else c.pc

/-- A trap (R311); raised while TACT = 1 it is a double trap, and the core stops fetching (R312). -/
def takeTrap (cause : BitVec 4) (tval : BitVec 36) (ret : BitVec 14) (c : Core) : Core :=
  if c.tact then
    { c with stat := { c.stat with state := 3#3 }, trap := { c.trap with double := true } }
  else
    let sp := { c.sp with tpc := ret, tfl := c.flags.word, tcause := cause, tval := tval, cycle := c.sp.cycle + 2#36 }
    { c with
      sp := sp, tact := true, chain := Chain.none, pc := 4#14,
      trap := { c.trap with cause := cause, tpc := ret, tact := true, count := satInc c.trap.count } }

/-- Trap ILL with the instruction word in TVAL (Table 10.13). -/
def trapIll (op : Op) (cond rd rs : BitVec 3) (c : Core) : Core :=
  c.takeTrap 1#4 ((instrWord cond op rd rs).setWidth 36) c.returnAddr

/-- An instruction that acts on its own core alone: `f` gives its effect, PC included. -/
def runTo (op : Op) (cond rd rs : BitVec 3) (f : Core → Core) (c : Core) : Core :=
  match c.gate op cond rd rs with
  | .stopped => c
  | .ill => c.trapIll op cond rd rs
  | .skip => c.done 1
  | .go => f c

/-- An instruction that goes on to the next address after `cycles` cycles. -/
def run (op : Op) (cond rd rs : BitVec 3) (cycles : Nat) (f : Core → Core) (c : Core) : Core :=
  c.runTo op cond rd rs fun c => (f c).done cycles

/-- An R-form instruction that writes rd and the flags. -/
def alu (op : Op) (cond rd rs : BitVec 3) (f : Flags → BitVec 36 → BitVec 36 → BitVec 36 × Flags) (c : Core) : Core :=
  c.run op cond rd rs 1 fun c =>
    let (r, fl) := f c.flags (c.reg rd) (c.rForm rs)
    { c.setReg rd r with flags := fl }

/-- An R-form instruction that writes the flags alone. -/
def cmpOp (op : Op) (cond rd rs : BitVec 3) (f : Flags → BitVec 36 → BitVec 36 → Flags) (c : Core) : Core :=
  c.run op cond rd rs 1 fun c => { c with flags := f c.flags (c.reg rd) (c.rForm rs) }

/-- ADDI (Table 10.6). -/
def addi (cond rd rs : BitVec 3) (c : Core) : Core :=
  c.run .addi cond rd rs 1 fun c =>
    let (r, fl) := c.flags.addc (c.reg rd) (c.smallImm rs) false
    { c.setReg rd r with flags := fl }

/-- MOV (Table 10.6). -/
def mov (cond rd rs : BitVec 3) (c : Core) : Core := c.run .mov cond rd rs 1 fun c => c.setReg rd (c.rForm rs)

/-- LDK (Table 10.6). -/
def ldk (cond rd rs : BitVec 3) (c : Core) : Core := c.run .ldk cond rd rs 1 fun c => c.setReg rd (c.unsImm rs)

/-- A SHF sub-operation (R305, Table 10.7). -/
def shift (sub : BitVec 3) (cond rd : BitVec 3) (c : Core) : Core :=
  c.run .shf cond rd sub 1 fun c =>
    let (r, cy) := shiftOp sub (c.shiftAmount sub) (c.reg rd) c.flags.c
    { c.setReg rd r with flags := { c.flags.zn r with c := cy } }

/-- BRA (R304): the displacement counts from the BRA. -/
def bra (cond : BitVec 3) (d6 : BitVec 6) (c : Core) : Core :=
  c.runTo .bra cond (fld d6 3 3) (fld d6 0 3) fun c => c.doneAt (c.pc + fld (c.displacement d6) 0 14) 2

/-- JMP (R304). -/
def jmp (cond rs : BitVec 3) (c : Core) : Core := c.runTo .jmp cond 0#3 rs fun c => c.doneAt (c.target rs) 2

/-- Push under R310; `none` where trap mode refuses it. -/
def push14 (v : BitVec 14) (c : Core) : Option Core :=
  if c.stack.depth = 8#4 ∧ c.cfg.rstkMode then none
  else
    some { c with stack :=
      { entries := c.stack.entries.set c.stack.ptr.toNat v (by have := c.stack.ptr.isLt; omega),
        ptr := c.stack.ptr + 1#3,
        depth := if c.stack.depth = 8#4 then 8#4 else c.stack.depth + 1#4 } }

/-- The entry below the pointer (Table 10.8, TOP). -/
def top (c : Core) : BitVec 14 := c.stack.entries[(c.stack.ptr - 1#3).toNat]'(by have := (c.stack.ptr - 1#3).isLt; omega)

/-- Pop under R310; `none` where trap mode refuses it. -/
def pop14 (c : Core) : Option (BitVec 14 × Core) :=
  if c.stack.depth = 0#4 ∧ c.cfg.rstkMode then none
  else
    some (c.top, { c with stack :=
      { c.stack with
        ptr := c.stack.ptr - 1#3,
        depth := if c.stack.depth = 0#4 then 0#4 else c.stack.depth - 1#4 } })

/-- CALL: push, then PC changes; a refused push traps RSTK_OVF and leaves PC and the stack (R304, R310). -/
def call (cond rs : BitVec 3) (c : Core) : Core :=
  c.runTo .call cond 0#3 rs fun c =>
    let next := c.pc + 1#14
    match c.push14 next with
    | some c' => c'.doneAt (c.target rs) 2
    | none => c.takeTrap 2#4 (next.setWidth 36) c.returnAddr

/-- RET, whose RS is 0; 6 and 7 raise ILL (Table 10.8). -/
def ret (cond rd rs : BitVec 3) (c : Core) : Core :=
  c.runTo .ret cond rd rs fun c =>
    match c.pop14 with
    | some (v, c') => c'.doneAt v 2
    | none => c.takeTrap 3#4 0#36 c.returnAddr

/-- RETT (Table 10.8): PC from TPC, the flags from TFL, TACT clear; ILL when TACT is 0. -/
def rett (cond rd : BitVec 3) (c : Core) : Core :=
  c.runTo .ret cond rd 1#3 fun c =>
    { c with flags := Flags.ofWord c.sp.tfl, tact := false, trap := { c.trap with tact := false } }.doneAt c.sp.tpc 2

/-- DROP (Table 10.8). -/
def dropTop (cond rd : BitVec 3) (c : Core) : Core :=
  c.runTo .ret cond rd 2#3 fun c =>
    match c.pop14 with
    | some (_, c') => c'.done 1
    | none => c.takeTrap 3#4 0#36 c.returnAddr

/-- DEPTH (Table 10.8). -/
def depthOp (cond rd : BitVec 3) (c : Core) : Core :=
  c.run .ret cond rd 3#3 1 fun c => c.setReg rd (c.stack.depth.setWidth 36)

/-- PUSH (Table 10.8). -/
def pushOp (cond rd : BitVec 3) (c : Core) : Core :=
  c.runTo .ret cond rd 4#3 fun c =>
    let v := fld (c.reg rd) 0 14
    match c.push14 v with
    | some c' => c'.done 1
    | none => c.takeTrap 2#4 (v.setWidth 36) c.returnAddr

/-- TOP (Table 10.8). -/
def topOp (cond rd : BitVec 3) (c : Core) : Core :=
  c.run .ret cond rd 5#3 1 fun c => c.setReg rd (c.top.setWidth 36)

/-- PFX (R297, R299): an executed PFX extends the chain; one whose condition fails suppresses the rest of it. -/
def pfx (cond : BitVec 3) (p6 : BitVec 6) (c : Core) : Core :=
  if !c.running then c
  else
    let ch := { c.chain with seen := satInc c.chain.seen, first := c.returnAddr }
    let ch :=
      if c.chain.suppress || !c.flags.cond cond then { ch with suppress := true }
      else { ch with acc := (ch.acc <<< 6) ||| p6.setWidth 36, count := if ch.count = 6#3 then 6#3 else ch.count + 1#3 }
    { c with chain := ch, pc := c.pc + 1#14, sp := { c.sp with cycle := c.sp.cycle + 1#36 } }

/-- CRCS (R314). -/
def crcs (cond rd rs : BitVec 3) (c : Core) : Core :=
  c.run .crcs cond rd rs 1 fun c =>
    let b := fld (c.reg rs) (8 * (c.selector 0#36).toNat) 8
    let (r, z) := crcStep c.cfg.crcPoly (c.reg rd) b
    { c.setReg rd r with flags := { c.flags with z := z } }

/-- PAR (R315). -/
def par (cond rd rs : BitVec 3) (c : Core) : Core :=
  c.run .par cond rd rs 1 fun c =>
    let b := parityOf (selWidth (c.selector 2#36)) (c.reg rs)
    { c.setReg rd (if b then 1#36 else 0#36) with flags := { c.flags with z := !b } }

/-- BREV (R315). -/
def brev (cond rd rs : BitVec 3) (c : Core) : Core :=
  c.run .brev cond rd rs 1 fun c =>
    let r := bitReverse (selWidth (c.selector 2#36)) (c.reg rs)
    { c.setReg rd r with flags := c.flags.zn r }

/-- The unsigned product of two words. -/
def umul (x y : BitVec 36) : BitVec 72 := x.setWidth 72 * y.setWidth 72

/-- The signed product of two words. -/
def smul (x y : BitVec 36) : BitVec 72 := x.signExtend 72 * y.signExtend 72

/-- MUL (R301). -/
def mul (cond rd rs : BitVec 3) (c : Core) : Core :=
  c.run .mul cond rd rs 1 fun c =>
    let a := umul (c.reg rd) (c.rForm rs)
    { c.setReg rd (fld a 0 36) with a := a, flags := c.flags.mul a }

/-- LDM (Table 10.9). -/
def ldm (cond rd : BitVec 3) (c : Core) : Core := c.run .mac cond rd 0#3 1 fun c => { c with m := c.reg rd }

/-- MACU (Table 10.9). -/
def macu (cond rd : BitVec 3) (c : Core) : Core :=
  c.run .mac cond rd 1#3 1 fun c =>
    let p := umul (c.reg rd) c.m
    let a := c.a + p
    { c with a := a, flags := { c.flags with z := a = 0#72, n := a.msb, c := decide (2 ^ 72 ≤ c.a.toNat + p.toNat) } }

/-- A signed accumulation and its flags (Table 10.9). -/
def macSigned (sub : Bool) (rd : BitVec 3) (c : Core) : Core :=
  let p := smul (c.reg rd) c.m
  let a := if sub then c.a - p else c.a + p
  let s : Int := if sub then c.a.toInt - p.toInt else c.a.toInt + p.toInt
  { c with a := a, flags := { c.flags with z := a = 0#72, n := a.msb, v := s ≠ a.toInt } }

/-- MACS (Table 10.9). -/
def macs (cond rd : BitVec 3) (c : Core) : Core := c.run .mac cond rd 2#3 1 fun c => c.macSigned false rd

/-- MSUS (Table 10.9). -/
def msus (cond rd : BitVec 3) (c : Core) : Core := c.run .mac cond rd 3#3 1 fun c => c.macSigned true rd

/-- rd from a part of A, with Z and N (Table 10.9). -/
def macRead (sub : BitVec 3) (f : BitVec 72 → BitVec 36) (cond rd : BitVec 3) (c : Core) : Core :=
  c.run .mac cond rd sub 1 fun c => { c.setReg rd (f c.a) with flags := c.flags.zn (f c.a) }

/-- CLR (Table 10.9). -/
def clrA (cond rd : BitVec 3) (c : Core) : Core := c.run .mac cond rd 6#3 1 fun c => { c with a := 0#72 }

/-- SETP (R307). -/
def setp (cond comb sub : BitVec 3) (c : Core) : Core :=
  c.run .setp cond comb sub 1 fun c => { c with flags := c.flags.setp comb sub }

/-- A special register as GETS reads it; TIME is an input (Table 10.11). -/
def special (time : BitVec 36) (sel : Nat) (c : Core) : BitVec 36 :=
  match sel with
  | 0 => c.flags.word.setWidth 36 ||| payB 5 c.tact
  | 1 => c.sp.iob.setWidth 36
  | 2 => c.sp.bank.setWidth 36
  | 3 => c.sp.tpc.setWidth 36
  | 4 => c.sp.tfl.setWidth 36
  | 5 => c.sp.tcause.setWidth 36
  | 6 => c.sp.tval
  | 8 => c.sp.cycle
  | 9 => time
  | 10 => c.sp.ctim.setWidth 36
  | 11 => fld c.a 36 36
  | 12 => fld c.a 0 36
  | 13 => c.m
  | _ => 0#36

/-- A special register written by PUTS; read-only and unlisted ones take nothing (R309, Table 10.11). -/
def setSpecial (sel : Nat) (v : BitVec 36) (c : Core) : Core :=
  match sel with
  | 0 => { c with flags := Flags.ofWord (fld v 0 5) }
  | 1 => { c with sp := { c.sp with iob := fld v 0 16 } }
  | 2 => { c with sp := { c.sp with bank := fld v 0 3 } }
  | 3 => { c with sp := { c.sp with tpc := fld v 0 14 } }
  | 4 => { c with sp := { c.sp with tfl := fld v 0 5 } }
  | 10 => { c with sp := { c.sp with ctim := fld v 0 24 } }
  | 11 => { c with a := v ++ fld c.a 0 36 }
  | 12 => { c with a := fld c.a 36 36 ++ v }
  | 13 => { c with m := v }
  | _ => c

/-- GETS (R309); `id` is the index of the core, for CORE. -/
def gets (id : BitVec 4) (time : BitVec 36) (cond rd : BitVec 3) (c : Core) : Core :=
  c.run .sys cond rd 0#3 1 fun c =>
    let sel := (c.selector 0#36).toNat
    c.setReg rd (if sel = 7 then (c.role.role ++ id).setWidth 36 else c.special time sel)

/-- PUTS (R309). -/
def puts (cond rd : BitVec 3) (c : Core) : Core :=
  c.run .sys cond rd 1#3 1 fun c => c.setSpecial (c.selector 0#36).toNat (c.reg rd)

/-- KICK restarts the watchdog with the period of the role (R334). -/
def kick (cond rd : BitVec 3) (c : Core) : Core :=
  c.run .sys cond rd 2#3 1 fun c => { c with stat := { c.stat with wdLeft := watchdogOf c.role.role } }

/-- TRAP (Table 10.12): SWTRAP with TVAL from rd, returning to the next address. -/
def trapOp (cond rd : BitVec 3) (c : Core) : Core :=
  c.runTo .sys cond rd 3#3 fun c => c.takeTrap 4#4 (c.reg rd) (c.pc + 1#14)

/-- FENCE (R293), whose RS is 4; 5 to 7 raise ILL (Table 10.12). Every access of this model is complete when its command
ends, so the wait ends at once. -/
def fenceOp (cond rd rs : BitVec 3) (c : Core) : Core := c.run .sys cond rd rs 1 fun c => c

/-- CTIM reaches 0: wake source 0x100 becomes pending (Table 10.11). -/
def ctimExpiry (c : Core) : Core :=
  if c.sp.ctim = 0#24 then c else { c with sp := { c.sp with ctim := 0#24 }, ctimPend := true }

/-- C_TRAP.CNT_CLR (R318). -/
def cntClr (c : Core) : Core := { c with trap := { c.trap with count := 0#8 } }

/-- C_ECC.CNT_CLR (R337). -/
def eccClr (c : Core) : Core := { c with ecc := { c.ecc with codeCorr := 0#8, dataCorr := 0#8 } }

end Core

end Sys2Proof.Machine
end

