-- ==== Sys2Proof/Config.lean ====
section
/-! DEFINITION. What an implementation fixes and the spec leaves open: the free values (constants with no body, so
that no proof can see what they are). -/

namespace Sys2Proof.Config

/-- The change of the VSET loop integral, in counts, for an error in mV: k_i · err of spec/05_sluice.md R159, whose
k_i the spec gives only by the loop crossover. Free value (log entry 7). -/
opaque kiErr : Int → Int

/-- The VSET duty that keeps IBUS between CURR and CURR + 100 mA in current limit, from the duty before and the load
current in mA: spec/05_sluice.md R160 states the bound and no value. Free value (log entry 8). -/
opaque clDuty : BitVec 12 → Int → BitVec 12

/-- Code and remaining time, bits 28 to 0, of word i, 8 to 15, of a checkpoint of a given sequence. Table 9.4 of
spec/09_quarry_migration.md gives the fields; the codes belong to the template, and the model has no clock. Free value
(log entry 17). -/
opaque ckptTimer : Nat → BitVec 8 → BitVec 29

/-- Whether the compatible list of the template of the first ID holds the second: the Thoelm compiler makes it, and
spec/09_quarry_migration.md R263 gives no layout. Free value (log entry 206). -/
opaque ckptCompat : BitVec 16 → BitVec 16 → Bool

/-- Whether the supervisor means a spare region (polder, region, template slot) for a planned migration of a position, from
the LOAD on: spec/06_classes_budget.md R179 counts from there, and no register shows it before PREPARE. Free value (log
entry 215). -/
opaque spareMeant : Fin 4 → Fin 56 → BitVec 4 → Fin 48 → Bool

/-- Word i, 24 to 63, of a checkpoint: the template's own (spec/09_quarry_migration.md R263). Free value (log entry
17). -/
opaque ckptOwn : Nat → BitVec 16 → BitVec 8 → BitVec 36

/-- The boundary pattern, frame 0 to 7, that the boot ROM holds for the silicon revision: spec/08_polder_fabric.md R228
names it and gives no bits. Free value (log entry 18). -/
opaque boundary : Nat → BitVec 96

/-- The mask that the crypto engine scrambles a secret fuse word with, from the words of factory trim and the offset of
the word: spec/15_fuses_secure_start.md R405 names the die key and gives no function. Free value (log entry 22). -/
opaque dieMask : List Word → Nat → Word

/-- The bits that a fuse word holds when a POR cuts its program short (spec/15_fuses_secure_start.md R415). Free value
(log entry 23). -/
opaque cutFuse : Nat → BitVec 44

/-- The byte that a flash address holds after a program or an erase of it was cut off (spec/17_flash_update.md R440).
Free value (log entry 24). -/
opaque cutByte : Nat → Nat → BitVec 8

/-- Whether an ECDSA P-256 signature verifies, from the public key (X, Y), the SHA-256 of the signed bytes, and r and s
(spec/17_flash_update.md R447, which names the algorithm). Free value (log entry 25). -/
opaque ecdsaOk : List (BitVec 8) → List (BitVec 8) → List (BitVec 8) → Bool

/-- The nominal cell voltage (point 0) and the OCV points (1 to 21) in mV of a gauge table that the running bundle does
not carry, which KG_SLOT.TABLE may name (spec/07_knaser_gauge.md R206). Free value (log entry 26). -/
opaque absentTable : Nat → Nat → Nat

/-- The state of charge for a cell voltage inside the pack limits and outside the points of its OCV table
(spec/07_knaser_gauge.md R206 states interpolation and no value there). Free value (log entry 27). -/
opaque ocvOutside : Rat → Rat

/-- The 16 bytes of a nonce from the entropy source of the crypto engine (spec/12_ndomund_link.md R343). Free value (log
entry 28). -/
opaque linkNonce : Nat → BitVec 128

/-- The body of a STATE_COPY message, from the numbers it carries: spec/12_ndomund_link.md Table 12.3 names the content
and gives no layout. Free value (log entry 29). -/
opaque stateCopyBody : List Nat → List (BitVec 8)

/-- The body of settings record `j` in the layout of one schema version, from its body in another: the supervisor image
converts it (spec/17_flash_update.md R458), and the spec gives the layout of schema 0x0001 alone. Free value (log entry
34). -/
opaque convert : Nat → Nat → Nat → List (BitVec 8) → List (BitVec 8)

/-- The maximum current in 10 mA that SOURCE_PERMIT names to the pack in a gauged slot: spec/14_supplies_shedding.md R394
takes it from the dock record, whose layout (spec/07_knaser_gauge.md Table 7.5) has no such field. Free value (log entry
37). -/
opaque dockCurrent : Nat → BitVec 10

/-- The time in 0.1 µs units that PL_LOAD_STAT.LOAD_US shows for a load that the supervisor makes within a command of its
own, by the model's counter: spec/08_polder_fabric.md Table 8.15 bounds it and gives no value. Free value (log entry
42). -/
opaque loadUs : Nat → Nat

/-- The oscillator trim of a polder from the words of region 0: spec/18_register_map.md Table 18.6 names their source, and
spec/15_fuses_secure_start.md gives no layout of region 0. Free value (log entry 48). -/
opaque oscTrim : List Word → Nat → BitVec 8

/-- Whether a low pulse of RST_N of at least 1 µs and less than 2 µs is taken as a PIN reset (spec/16_startup_resets.md
R418). Free value (log entry 49). -/
opaque pinTaken : Nat → Bool

/-- The words of the emergency template (`false`) and the emergency common image (`true`) of the boot ROM: the spec gives
neither (spec/15_fuses_secure_start.md R413, spec/16_startup_resets.md R430). Free value (log entry 50). -/
opaque romWord : Bool → Nat → Word

/-- Whether beacons still arrive on a link port when the root port goes DOWN: spec/12_ndomund_link.md R354 chooses among the
ports on which they do, and the model has no clock to tell. Free value (log entry 218). -/
opaque beaconArrives : Nat → Nat → Bool

/-- The code rows of the emergency image of the boot ROM: the spec gives none (spec/15_fuses_secure_start.md R413). Free
value (log entry 50). -/
opaque romCode : Nat → BitVec 56

/-- Type and payload of an entry of supervisor queue 240 to 242, by queue and write count: spec/01_architecture.md Table 1.2
names the queues and spec/11_cores_queues.md R327 leaves their types to chapters that give none. Free value (log entry
85). -/
opaque supEntry : Nat → BitVec 16 → BitVec 6 × BitVec 36

/-- PID and manufacturer string of the Manufacturer_Info that the device answers with: spec/00_scope.md Table 0.2 lists the
message, and no chapter gives its content. Free value (log entry 178). -/
opaque mfgInfo : List (BitVec 8)

end Sys2Proof.Config
end

