-- ==== Sys2Proof/Machine/Queue.lean ====
section
/-! DEFINITION. One hardware queue (spec/11_cores_queues.md R325 to R332): its entries, its two counts and the fields
of Q_CFG; writing a group, handing out the head group and committing it. -/

namespace Sys2Proof.Machine

/-- One queue entry: payload, type, placement epoch, and the end-of-group mark that the head descriptor shows
(R325, Table 11.3). -/
structure Entry where
  payload : W36
  typ : BitVec 6
  epoch : BitVec 6
  last : Bool
deriving DecidableEq, Repr

/-- One queue: the entries between the two counts, oldest first, the counts themselves and the stored fields of
Q_CFG (R328, Table 11.10). FILL is computed from the counts. -/
structure Queue where
  entries : List Entry
  rd : BitVec 16
  wr : BitVec 16
  role : BitVec 5
  wakeNe : Bool
  wakeWm : Bool
  wmark : BitVec 7
  wmHit : Bool
  ovf : Bool
  held : Bool
deriving DecidableEq, Repr

/-- A queue after reset, read by `role` (R330, Table 11.10). -/
def Queue.init (role : BitVec 5) (wake : Bool) : Queue where
  entries := []
  rd := 0#16
  wr := 0#16
  role := role
  wakeNe := wake
  wakeWm := false
  wmark := 0#7
  wmHit := false
  ovf := false
  held := false

/-- Fill, (write − read) mod 2¹⁶ (R328). -/
def Queue.fill (q : Queue) : BitVec 7 := (q.wr - q.rd).setWidth 7

/-- Whether a group of `n` entries fits the room of a queue of 64 entries (R325, R328). -/
def Queue.fits (q : Queue) (n : Nat) : Bool := q.entries.length + n ≤ 64

/-- WM_HIT is set when FILL rises to WMARK; a WMARK of 0 gives no event (R332). -/
def Queue.watermark (before : Nat) (q : Queue) : Queue :=
  if q.wmark.toNat ≠ 0 ∧ before < q.wmark.toNat ∧ q.wmark.toNat ≤ q.entries.length then { q with wmHit := true } else q

/-- Write a group: taken whole, or refused whole with OVF set (R328). -/
def Queue.push (g : List Entry) (q : Queue) : Queue :=
  if q.fits g.length then
    Queue.watermark q.entries.length
      { q with entries := q.entries ++ g, wr := q.wr + BitVec.ofNat 16 g.length }
  else { q with ovf := true }

/-- The length of the head group: the entries up to the first end mark. -/
def groupLen : List Entry → Nat
  | [] => 0
  | e :: es => if e.last then 1 else groupLen es + 1

/-- The head group (R329). -/
def Queue.head (q : Queue) : List Entry := q.entries.take (groupLen q.entries)

/-- Advance the read count over `n` entries and release the held group (R329). -/
def Queue.drop (n : Nat) (q : Queue) : Queue :=
  { q with entries := q.entries.drop n, rd := q.rd + BitVec.ofNat 16 n, held := false }

/-- A commit writes RD: it changes the read count only when it advances it by 1 to 64 and does not pass the write
count; `none` for any other commit, which sets PTR_ERR at the core (R329). -/
def Queue.commit (rd : BitVec 16) (q : Queue) : Option Queue :=
  let n := (rd - q.rd).toNat
  if 1 ≤ n ∧ n ≤ 64 ∧ n ≤ q.entries.length then some (q.drop n) else none

/-- Commit the head group whole, as the delivered firmware does at the end of a turn (R22, R329). -/
def Queue.commitHead (q : Queue) : Queue :=
  if q.entries.isEmpty then { q with held := false } else q.drop (groupLen q.entries)

/-- The word a read of Q_CFG returns (Table 11.10). -/
def Queue.readCfg (q : Queue) : Word :=
  putF 0 q.role ||| putB 5 q.wakeNe ||| putB 6 q.wakeWm ||| putF 7 q.wmark ||| putB 14 q.wmHit ||| putB 15 q.ovf |||
  putB 16 q.held ||| putF 17 q.fill

/-- The word a read of Q_PTR returns (Table 11.10). -/
def Queue.readPtr (q : Queue) : Word := putF 0 q.rd ||| putF 16 q.wr

/-- A write of Q_CFG: ROLE only where `roleOk` holds and the value is 0 to 15; a WMARK above 64 leaves the field
unchanged; a watermark set at or below the present fill gives no rise (R330, R332). -/
def Queue.writeCfg (roleOk : Bool) (w : Word) (q : Queue) : Queue :=
  { q with
    role := if roleOk ∧ fld w 0 5 ≤ 15#5 then fld w 0 5 else q.role,
    wakeNe := bit w 5,
    wakeWm := bit w 6,
    wmark := if fld w 7 7 ≤ 64#7 then fld w 7 7 else q.wmark,
    wmHit := q.wmHit && !bit w 14,
    ovf := q.ovf && !bit w 15 }

end Sys2Proof.Machine
end

