-- ==== Sys2Proof/Machine/RegsPort.lean ====
section
/-! DEFINITION. The per-port registers of spec/18_register_map.md Table 18.7, one structure a register, with the
fields, reset values, read words and write rules of their field tables (Tables 2.7 to 9.14) and of Table 0.5. Fields
that the device computes from other state are arguments of the read. -/

namespace Sys2Proof.Machine

/-- The Type-C states of Table 2.3 (spec/02_port_attach.md R44). -/
inductive TcState where
  | disabled | errorRecovery | unattachedSnk | attachWaitSnk | attachedSnk | unattachedSrc | attachWaitSrc
  | attachedSrc | trySrc | tryWaitSnk | trySnk | tryWaitSrc | audioAccessory | debugSrc | debugSnk | start
deriving DecidableEq, Repr

/-- The code of a Type-C state in P_TCSTATE (Table 2.3). -/
def TcState.code : TcState → BitVec 5
  | .disabled => 0x00#5 | .errorRecovery => 0x01#5 | .unattachedSnk => 0x02#5 | .attachWaitSnk => 0x03#5
  | .attachedSnk => 0x04#5 | .unattachedSrc => 0x05#5 | .attachWaitSrc => 0x06#5 | .attachedSrc => 0x07#5
  | .trySrc => 0x08#5 | .tryWaitSnk => 0x09#5 | .trySnk => 0x0A#5 | .tryWaitSrc => 0x0B#5
  | .audioAccessory => 0x0C#5 | .debugSrc => 0x0D#5 | .debugSnk => 0x0E#5 | .start => 0x0F#5

/-- The service classes, coded as P_CFG.CLASS (spec/06_classes_budget.md Table 6.9); 0b00 is never held. -/
inductive SvcClass where
  | a | b | c
deriving DecidableEq, Repr

/-- The code of a class in P_CFG.CLASS and P_STAT.CLASS. -/
def SvcClass.code : SvcClass → BitVec 2
  | .a => 1#2 | .b => 2#2 | .c => 3#2

/-- P_CC (Table 2.7): every field the device keeps; `WO` fields keep nothing. -/
structure PCc where
  portType : BitVec 2  -- [1:0] RW
  tryPref : BitVec 2  -- [3:2] RW
  rpLvl : BitVec 2  -- [5:4] RW
  rpPeriod : BitVec 4  -- [9:6] RW
  vconnEn : Bool  -- [10] RW
  accDet : Bool  -- [11] RW
  enable : Bool  -- [12] RW
  cc1Line : BitVec 3  -- [18:16] RO
  cc2Line : BitVec 3  -- [21:19] RO
  polarity : Bool  -- [22] RO
  vconnOn : Bool  -- [23] RO
  cableOnly : Bool  -- [24] RO
  vbPresent : Bool  -- [25] RO
  vbSafe0 : Bool  -- [26] RO
deriving DecidableEq, Repr

/-- P_CC at reset (Table 2.7) (PORT_TYPE, TRY, ENABLE: set from `fuse`, strap or index when the device starts). -/
def PCc.reset : PCc where
  portType := 0#2
  tryPref := 0#2
  rpLvl := 0#2
  rpPeriod := 2#4
  vconnEn := true
  accDet := true
  enable := false
  cc1Line := 0#3
  cc2Line := 0#3
  polarity := false
  vconnOn := false
  cableOnly := false
  vbPresent := false
  vbSafe0 := false

/-- The word a read of P_CC returns (Tables 2.7, 0.5). -/
def PCc.read (r : PCc) : Word :=
  putF 0 r.portType |||
  putF 2 r.tryPref |||
  putF 4 r.rpLvl |||
  putF 6 r.rpPeriod |||
  putB 10 r.vconnEn |||
  putB 11 r.accDet |||
  putB 12 r.enable |||
  putF 16 r.cc1Line |||
  putF 19 r.cc2Line |||
  putB 22 r.polarity |||
  putB 23 r.vconnOn |||
  putB 24 r.cableOnly |||
  putB 25 r.vbPresent |||
  putB 26 r.vbSafe0

/-- A write of P_CC acts on its fields by their types (Table 0.5, R12). -/
def PCc.write (r : PCc) (w : Word) : PCc :=
  { r with
    portType := (let n := fld w 0 2; if n ≠ 3#2 then n else r.portType),
    tryPref := (let n := fld w 2 2; if n ≠ 3#2 then n else r.tryPref),
    rpLvl := (let n := fld w 4 2; if n ≠ 3#2 then n else r.rpLvl),
    rpPeriod := fld w 6 4,
    vconnEn := bit w 10,
    accDet := bit w 11,
    enable := bit w 12 }

/-- P_TCSTATE (Table 2.8): every field the device keeps; `WO` fields keep nothing. -/
structure PTcstate where
  state : TcState  -- [4:0] RO
  prevState : TcState  -- [9:5] RO
  rpProbing : Bool  -- [10] RO
  dbAttach : Bool  -- [11] RO
  detachCause : BitVec 3  -- [14:12] RO
  attachCnt : BitVec 8  -- [23:16] RO
deriving DecidableEq, Repr

/-- P_TCSTATE at reset (Table 2.8). -/
def PTcstate.reset : PTcstate where
  state := .start
  prevState := .start
  rpProbing := false
  dbAttach := false
  detachCause := 0#3
  attachCnt := 0#8

/-- The word a read of P_TCSTATE returns (Tables 2.8, 0.5). -/
def PTcstate.read (r : PTcstate) : Word :=
  putF 0 r.state.code |||
  putF 5 r.prevState.code |||
  putB 10 r.rpProbing |||
  putB 11 r.dbAttach |||
  putF 12 r.detachCause |||
  putF 16 r.attachCnt

/-- P_PDCFG (Table 3.14): every field the device keeps; `WO` fields keep nothing. -/
structure PPdcfg where
  pdEn : Bool  -- [0] RW
  maxRev : BitVec 2  -- [2:1] RW
  sop1En : Bool  -- [3] RW
  bistEn : Bool  -- [4] RW
  erLimit : BitVec 4  -- [11:8] RW
deriving DecidableEq, Repr

/-- P_PDCFG at reset (Table 3.14) (PD_EN, BIST_EN, ER_LIMIT: set from `fuse`, strap or index when the device starts). -/
def PPdcfg.reset : PPdcfg where
  pdEn := false
  maxRev := 2#2
  sop1En := true
  bistEn := false
  erLimit := 0#4

/-- The word a read of P_PDCFG returns (Tables 3.14, 0.5). -/
def PPdcfg.read (r : PPdcfg) : Word :=
  putB 0 r.pdEn |||
  putF 1 r.maxRev |||
  putB 3 r.sop1En |||
  putB 4 r.bistEn |||
  putF 8 r.erLimit

/-- A write of P_PDCFG acts on its fields by their types (Table 0.5, R12). -/
def PPdcfg.write (r : PPdcfg) (w : Word) : PPdcfg :=
  { r with
    pdEn := bit w 0,
    maxRev := (let n := fld w 1 2; if n = 1#2 ∨ n = 2#2 then n else r.maxRev),
    sop1En := bit w 3,
    bistEn := bit w 4,
    erLimit := fld w 8 4 }

/-- P_PDSTAT (Table 3.15): every field the device keeps; `WO` fields keep nothing. -/
structure PPdstat where
  rev : BitVec 2  -- [1:0] RO
  collAv : Bool  -- [2] RO
  sinkTxOk : Bool  -- [3] RO
  amsActive : Bool  -- [4] RO
  txPending : Bool  -- [5] RO
  vbMask : Bool  -- [6] RO
  hrActive : Bool  -- [7] RO
  hrCount : BitVec 2  -- [9:8] RO
  giveup : Bool  -- [10] RO
  drole : Bool  -- [11] RO
  erCount : BitVec 4  -- [15:12] RO
  crcErr : BitVec 4  -- [19:16] RO
  txFail : BitVec 4  -- [23:20] RO
  srCnt : BitVec 4  -- [27:24] RO
  hrCnt : BitVec 4  -- [31:28] RO
deriving DecidableEq, Repr

/-- P_PDSTAT at reset (Table 3.15). -/
def PPdstat.reset : PPdstat where
  rev := 0#2
  collAv := false
  sinkTxOk := false
  amsActive := false
  txPending := false
  vbMask := false
  hrActive := false
  hrCount := 0#2
  giveup := false
  drole := false
  erCount := 0#4
  crcErr := 0#4
  txFail := 0#4
  srCnt := 0#4
  hrCnt := 0#4

/-- The word a read of P_PDSTAT returns (Tables 3.15, 0.5). -/
def PPdstat.read (r : PPdstat) : Word :=
  putF 0 r.rev |||
  putB 2 r.collAv |||
  putB 3 r.sinkTxOk |||
  putB 4 r.amsActive |||
  putB 5 r.txPending |||
  putB 6 r.vbMask |||
  putB 7 r.hrActive |||
  putF 8 r.hrCount |||
  putB 10 r.giveup |||
  putB 11 r.drole |||
  putF 12 r.erCount |||
  putF 16 r.crcErr |||
  putF 20 r.txFail |||
  putF 24 r.srCnt |||
  putF 28 r.hrCnt

/-- P_SRCCAP_SEL (Table 4.19): every field the device keeps; `WO` fields keep nothing. -/
structure PSrccapSel where
  set : BitVec 3  -- [2:0] RW
  ppsEn : Bool  -- [3] RW
  sprAvsEn : Bool  -- [4] RW
  eprEn : Bool  -- [5] RW
  eprAvsEn : Bool  -- [6] RW
  drpPwr : Bool  -- [7] RW
  drd : Bool  -- [8] RW
  vconnSwapAcc : Bool  -- [9] RW
  frsEn : Bool  -- [10] RW
  dockEn : Bool  -- [11] RW
  pCap : BitVec 8  -- [23:16] RW
deriving DecidableEq, Repr

/-- P_SRCCAP_SEL at reset (Table 4.19) (SET, PPS_EN, SPR_AVS_EN, EPR_EN, EPR_AVS_EN, DRP_PWR, DRD, FRS_EN, DOCK_EN, P_CAP: set from `fuse`, strap or index when the device starts). -/
def PSrccapSel.reset : PSrccapSel where
  set := 0#3
  ppsEn := false
  sprAvsEn := false
  eprEn := false
  eprAvsEn := false
  drpPwr := false
  drd := false
  vconnSwapAcc := true
  frsEn := false
  dockEn := false
  pCap := 0#8

/-- The word a read of P_SRCCAP_SEL returns (Tables 4.19, 0.5). -/
def PSrccapSel.read (r : PSrccapSel) : Word :=
  putF 0 r.set |||
  putB 3 r.ppsEn |||
  putB 4 r.sprAvsEn |||
  putB 5 r.eprEn |||
  putB 6 r.eprAvsEn |||
  putB 7 r.drpPwr |||
  putB 8 r.drd |||
  putB 9 r.vconnSwapAcc |||
  putB 10 r.frsEn |||
  putB 11 r.dockEn |||
  putF 16 r.pCap

/-- A write of P_SRCCAP_SEL acts on its fields by their types (Table 0.5, R12). -/
def PSrccapSel.write (r : PSrccapSel) (w : Word) : PSrccapSel :=
  { r with
    set := (let n := fld w 0 3; if n ≤ 4#3 then n else r.set),
    ppsEn := bit w 3,
    sprAvsEn := bit w 4,
    eprEn := bit w 5,
    eprAvsEn := bit w 6,
    drpPwr := bit w 7,
    drd := bit w 8,
    vconnSwapAcc := bit w 9,
    frsEn := bit w 10,
    dockEn := bit w 11,
    pCap := fld w 16 8 }

/-- P_CONTRACT (Table 4.20): every field the device keeps; `WO` fields keep nothing. -/
structure PContract where
  contract : BitVec 29  -- [28:0] RO
  explicit : Bool  -- [29] RO
  transPend : Bool  -- [30] RO
  swap : Bool  -- [31] RO
deriving DecidableEq, Repr

/-- P_CONTRACT at reset (Table 4.20). -/
def PContract.reset : PContract where
  contract := 0#29
  explicit := false
  transPend := false
  swap := false

/-- The word a read of P_CONTRACT returns (Tables 4.20, 0.5). -/
def PContract.read (r : PContract) : Word :=
  putF 0 r.contract |||
  putB 29 r.explicit |||
  putB 30 r.transPend |||
  putB 31 r.swap

/-- P_PARTNER (Table 4.21): every field the device keeps; `WO` fields keep nothing. -/
structure PPartner where
  cableKnown : Bool  -- [0] RW
  cable5a : Bool  -- [1] RW
  cableEpr : Bool  -- [2] RW
  ident : BitVec 2  -- [4:3] RW
  identDone : Bool  -- [5] RW
  dockMode : Bool  -- [6] RW
  partnerEpr : Bool  -- [7] RW
  partnerDrp : Bool  -- [8] RW
  frsArmed : Bool  -- [9] RW
  identTag : BitVec 16  -- [31:16] RW
deriving DecidableEq, Repr

/-- P_PARTNER at reset (Table 4.21). -/
def PPartner.reset : PPartner where
  cableKnown := false
  cable5a := false
  cableEpr := false
  ident := 0#2
  identDone := false
  dockMode := false
  partnerEpr := false
  partnerDrp := false
  frsArmed := false
  identTag := 0#16

/-- The word a read of P_PARTNER returns (Tables 4.21, 0.5). -/
def PPartner.read (r : PPartner) : Word :=
  putB 0 r.cableKnown |||
  putB 1 r.cable5a |||
  putB 2 r.cableEpr |||
  putF 3 r.ident |||
  putB 5 r.identDone |||
  putB 6 r.dockMode |||
  putB 7 r.partnerEpr |||
  putB 8 r.partnerDrp |||
  putB 9 r.frsArmed |||
  putF 16 r.identTag

/-- A write of P_PARTNER acts on its fields by their types (Table 0.5, R12). -/
def PPartner.write (r : PPartner) (w : Word) : PPartner :=
  { r with
    cableKnown := bit w 0,
    cable5a := bit w 1,
    cableEpr := bit w 2,
    ident := fld w 3 2,
    identDone := bit w 5,
    dockMode := bit w 6,
    partnerEpr := bit w 7,
    partnerDrp := bit w 8,
    frsArmed := bit w 9,
    identTag := fld w 16 16 }

/-- P_ALTMODE (Table 4.22): every field the device keeps; `WO` fields keep nothing. -/
structure PAltmode where
  dpEn : Bool  -- [0] RW
  dp4lane : Bool  -- [1] RW
  muxAddr : BitVec 7  -- [8:2] RW
  muxReg : BitVec 8  -- [16:9] RW
  dpState : BitVec 2  -- [18:17] RW
  pinAssign : BitVec 2  -- [20:19] RW
  hpd : Bool  -- [21] RW
  muxFail : Bool  -- [22] W1C
deriving DecidableEq, Repr

/-- P_ALTMODE at reset (Table 4.22). -/
def PAltmode.reset : PAltmode where
  dpEn := false
  dp4lane := true
  muxAddr := 0#7
  muxReg := 0#8
  dpState := 0#2
  pinAssign := 0#2
  hpd := false
  muxFail := false

/-- The word a read of P_ALTMODE returns (Tables 4.22, 0.5). -/
def PAltmode.read (r : PAltmode) : Word :=
  putB 0 r.dpEn |||
  putB 1 r.dp4lane |||
  putF 2 r.muxAddr |||
  putF 9 r.muxReg |||
  putF 17 r.dpState |||
  putF 19 r.pinAssign |||
  putB 21 r.hpd |||
  putB 22 r.muxFail

/-- A write of P_ALTMODE acts on its fields by their types (Table 0.5, R12). -/
def PAltmode.write (r : PAltmode) (w : Word) : PAltmode :=
  { r with
    dpEn := bit w 0,
    dp4lane := bit w 1,
    muxAddr := fld w 2 7,
    muxReg := fld w 9 8,
    dpState := fld w 17 2,
    pinAssign := fld w 19 2,
    hpd := bit w 21,
    muxFail := r.muxFail && !(bit w 22) }

/-- P_VSET (Table 5.9): every field the device keeps; `WO` fields keep nothing. -/
structure PVset where
  duty : BitVec 12  -- [23:12] RO
  slew : BitVec 4  -- [27:24] RW
  loopHold : Bool  -- [28] RW
  clActive : Bool  -- [29] RO
deriving DecidableEq, Repr

/-- P_VSET at reset (Table 5.9). -/
def PVset.reset : PVset where
  duty := 0#12
  slew := 10#4
  loopHold := false
  clActive := false

/-- The word a read of P_VSET returns (Tables 5.9, 0.5). -/
def PVset.read (r : PVset) (target : BitVec 12) : Word :=
  putF 0 target |||
  putF 12 r.duty |||
  putF 24 r.slew |||
  putB 28 r.loopHold |||
  putB 29 r.clActive

/-- A write of P_VSET acts on its fields by their types (Table 0.5, R12). -/
def PVset.write (r : PVset) (w : Word) : PVset :=
  { r with
    slew := (let n := fld w 24 4; if n ≠ 0#4 then n else r.slew),
    loopHold := bit w 28 }

/-- P_ILIM (Table 5.10): every field the device keeps; `WO` fields keep nothing. -/
structure PIlim where
  fast : BitVec 8  -- [7:0] RW
  slow : BitVec 8  -- [15:8] RW
  qSlow : BitVec 4  -- [19:16] RW
  revI : BitVec 4  -- [23:20] RW
  auto : Bool  -- [24] RW
deriving DecidableEq, Repr

/-- P_ILIM at reset (Table 5.10). -/
def PIlim.reset : PIlim where
  fast := 160#8
  slow := 20#8
  qSlow := 5#4
  revI := 4#4
  auto := true

/-- The word a read of P_ILIM returns (Tables 5.10, 0.5). -/
def PIlim.read (r : PIlim) : Word :=
  putF 0 r.fast |||
  putF 8 r.slow |||
  putF 16 r.qSlow |||
  putF 20 r.revI |||
  putB 24 r.auto

/-- A write of P_ILIM acts on its fields by their types (Table 0.5, R12). -/
def PIlim.write (r : PIlim) (w : Word) : PIlim :=
  { r with
    fast := (let n := fld w 0 8; if n ≠ 0#8 then n else r.fast),
    slow := (let n := fld w 8 8; if n ≠ 0#8 then n else r.slow),
    qSlow := (let n := fld w 16 4; if n ≠ 0#4 then n else r.qSlow),
    revI := (let n := fld w 20 4; if n ≠ 0#4 then n else r.revI),
    auto := bit w 24 }

/-- P_TRIP (Table 5.11): every field the device keeps; `WO` fields keep nothing. -/
structure PTrip where
  breach : BitVec 9  -- [8:0] W1C
  uv : Bool  -- [9] W1C
  foreignVb : Bool  -- [10] W1C
  disTimeout : Bool  -- [11] W1C
  passRefused : Bool  -- [12] W1C
  first : BitVec 4  -- [19:16] RO
  winCnt : BitVec 4  -- [23:20] RO
  breachTotal : BitVec 8  -- [31:24] RO
deriving DecidableEq, Repr

/-- P_TRIP at reset (Table 5.11). -/
def PTrip.reset : PTrip where
  breach := 0#9
  uv := false
  foreignVb := false
  disTimeout := false
  passRefused := false
  first := 0#4
  winCnt := 0#4
  breachTotal := 0#8

/-- The word a read of P_TRIP returns (Tables 5.11, 0.5). -/
def PTrip.read (r : PTrip) : Word :=
  putF 0 r.breach |||
  putB 9 r.uv |||
  putB 10 r.foreignVb |||
  putB 11 r.disTimeout |||
  putB 12 r.passRefused |||
  putF 16 r.first |||
  putF 20 r.winCnt |||
  putF 24 r.breachTotal

/-- A write of P_TRIP acts on its fields by their types (Table 0.5, R12). -/
def PTrip.write (r : PTrip) (w : Word) : PTrip :=
  { r with
    breach := r.breach &&& ~~~(fld w 0 9),
    uv := r.uv && !(bit w 9),
    foreignVb := r.foreignVb && !(bit w 10),
    disTimeout := r.disTimeout && !(bit w 11),
    passRefused := r.passRefused && !(bit w 12) }

/-- P_SLUICE (Table 5.12): every field the device keeps; `WO` fields keep nothing. -/
structure PSluice where
  latched : Bool  -- [2] RO
  lockout : Bool  -- [4] RO
  senseMode : BitVec 2  -- [11:10] RW
  ssCur : BitVec 2  -- [13:12] RW
  vcalOk : Bool  -- [14] RO
  rcalOk : Bool  -- [15] RO
  fullEnh : Bool  -- [17] RO
  otherPair : Bool  -- [18] W1C
deriving DecidableEq, Repr

/-- P_SLUICE at reset (Table 5.12) (SENSE_MODE: set from `fuse`, strap or index when the device starts). -/
def PSluice.reset : PSluice where
  latched := false
  lockout := false
  senseMode := 0#2
  ssCur := 2#2
  vcalOk := false
  rcalOk := false
  fullEnh := false
  otherPair := false

/-- The word a read of P_SLUICE returns (Tables 5.12, 0.5). -/
def PSluice.read (r : PSluice) (srcPass : Bool) (snkPass : Bool) (cond : Bool) (holdSrc : BitVec 3) (disOn : Bool) : Word :=
  putB 0 srcPass |||
  putB 1 snkPass |||
  putB 2 r.latched |||
  putB 3 cond |||
  putB 4 r.lockout |||
  putF 5 holdSrc |||
  putF 10 r.senseMode |||
  putF 12 r.ssCur |||
  putB 14 r.vcalOk |||
  putB 15 r.rcalOk |||
  putB 16 disOn |||
  putB 17 r.fullEnh |||
  putB 18 r.otherPair

/-- A write of P_SLUICE acts on its fields by their types (Table 0.5, R12). -/
def PSluice.write (r : PSluice) (w : Word) : PSluice :=
  { r with
    senseMode := fld w 10 2,
    ssCur := fld w 12 2,
    otherPair := r.otherPair && !(bit w 18) }

/-- P_VBUS (Table 5.13): every field the device keeps; `WO` fields keep nothing. -/
structure PVbus where
  vb : BitVec 13  -- [12:0] RO
  vpath : BitVec 13  -- [25:13] RO
deriving DecidableEq, Repr

/-- P_VBUS at reset (Table 5.13). -/
def PVbus.reset : PVbus where
  vb := 0#13
  vpath := 0#13

/-- The word a read of P_VBUS returns (Tables 5.13, 0.5). -/
def PVbus.read (r : PVbus) : Word :=
  putF 0 r.vb |||
  putF 13 r.vpath

/-- P_IBUS (Table 5.13): every field the device keeps; `WO` fields keep nothing. -/
structure PIbus where
  ibus : BitVec 16  -- [15:0] RO
  iAvg : BitVec 16  -- [31:16] RO
deriving DecidableEq, Repr

/-- P_IBUS at reset (Table 5.13). -/
def PIbus.reset : PIbus where
  ibus := 0#16
  iAvg := 0#16

/-- The word a read of P_IBUS returns (Tables 5.13, 0.5). -/
def PIbus.read (r : PIbus) : Word :=
  putF 0 r.ibus |||
  putF 16 r.iAvg

/-- P_CFG (Table 6.9): every field the device keeps; `WO` fields keep nothing. -/
structure PCfg where
  cls : SvcClass  -- [1:0] RW
  feeder : BitVec 5  -- [6:2] RW
  classRef : Bool  -- [7] W1C
deriving DecidableEq, Repr

/-- P_CFG at reset (Table 6.9). CLASS, whose reset value is "fuse", is that of class C until the fuses are sensed (log entry
220). -/
def PCfg.reset : PCfg where
  cls := .c
  feeder := 0#5
  classRef := false

/-- The word a read of P_CFG returns (Tables 6.9, 0.5). -/
def PCfg.read (r : PCfg) : Word :=
  putF 0 r.cls.code |||
  putF 2 r.feeder |||
  putB 7 r.classRef

/-- A write of P_CFG acts on its fields by their types (Table 0.5, R12). -/
def PCfg.write (r : PCfg) (w : Word) : PCfg :=
  { r with
    feeder := fld w 2 5,
    classRef := r.classRef && !(bit w 7) }

/-- P_KG_SOC (Table 7.8): every field the device keeps; `WO` fields keep nothing. -/
structure PKgSoc where
  soc : BitVec 10  -- [9:0] RO
  socSrc : BitVec 2  -- [11:10] RO
  state : BitVec 2  -- [13:12] RO
  endSt : BitVec 2  -- [15:14] RO
  conflict : Bool  -- [16] RO
  rest : Bool  -- [17] RO
  quiet : Bool  -- [18] RO
  tempPack : Bool  -- [19] RO
  tband : BitVec 2  -- [21:20] RO
  remain : BitVec 10  -- [31:22] RO
deriving DecidableEq, Repr

/-- P_KG_SOC at reset (Table 7.8). -/
def PKgSoc.reset : PKgSoc where
  soc := 0#10
  socSrc := 0#2
  state := 0#2
  endSt := 0#2
  conflict := false
  rest := false
  quiet := false
  tempPack := false
  tband := 0#2
  remain := 0#10

/-- The word a read of P_KG_SOC returns (Tables 7.8, 0.5). -/
def PKgSoc.read (r : PKgSoc) : Word :=
  putF 0 r.soc |||
  putF 10 r.socSrc |||
  putF 12 r.state |||
  putF 14 r.endSt |||
  putB 16 r.conflict |||
  putB 17 r.rest |||
  putB 18 r.quiet |||
  putB 19 r.tempPack |||
  putF 20 r.tband |||
  putF 22 r.remain

/-- P_KG_CAP (Table 7.9): every field the device keeps; `WO` fields keep nothing. -/
structure PKgCap where
  cap : BitVec 16  -- [15:0] RO
  learned : Bool  -- [16] RO
  suspect : Bool  -- [17] RO
  learnStale : Bool  -- [18] RO
  owner : Bool  -- [19] RO
  cycles : BitVec 12  -- [31:20] RO
deriving DecidableEq, Repr

/-- P_KG_CAP at reset (Table 7.9). -/
def PKgCap.reset : PKgCap where
  cap := 0#16
  learned := false
  suspect := false
  learnStale := false
  owner := false
  cycles := 0#12

/-- The word a read of P_KG_CAP returns (Tables 7.9, 0.5). -/
def PKgCap.read (r : PKgCap) : Word :=
  putF 0 r.cap |||
  putB 16 r.learned |||
  putB 17 r.suspect |||
  putB 18 r.learnStale |||
  putB 19 r.owner |||
  putF 20 r.cycles

/-- P_PLACE (Table 9.13): every field the device keeps; `WO` fields keep nothing. -/
structure PPlace where
  epoch : BitVec 6  -- [5:0] RO
  region : BitVec 6  -- [11:6] RO
  migrating : Bool  -- [12] RO
  prepared : Bool  -- [13] RO
  fences : BitVec 3  -- [16:14] RO
  dropped : BitVec 8  -- [24:17] RO
deriving DecidableEq, Repr

/-- P_PLACE at reset (Table 9.13) (REGION: set from `fuse`, strap or index when the device starts). -/
def PPlace.reset : PPlace where
  epoch := 0#6
  region := 0#6
  migrating := false
  prepared := false
  fences := 0#3
  dropped := 0#8

/-- The word a read of P_PLACE returns (Tables 9.13, 0.5). -/
def PPlace.read (r : PPlace) : Word :=
  putF 0 r.epoch |||
  putF 6 r.region |||
  putB 12 r.migrating |||
  putB 13 r.prepared |||
  putF 14 r.fences |||
  putF 17 r.dropped

/-- P_FAULT (Table 9.14): every field the device keeps; `WO` fields keep nothing. -/
structure PFault where
  fe : BitVec 4  -- [3:0] RO
  oos : Bool  -- [8] RO
  oosCause : BitVec 2  -- [10:9] RO
  migRefused : Bool  -- [11] W1C
  ckptBad : Bool  -- [12] W1C
  migCnt : BitVec 8  -- [23:16] RO
deriving DecidableEq, Repr

/-- P_FAULT at reset (Table 9.14). -/
def PFault.reset : PFault where
  fe := 0#4
  oos := false
  oosCause := 0#2
  migRefused := false
  ckptBad := false
  migCnt := 0#8

/-- The word a read of P_FAULT returns (Tables 9.14, 0.5). -/
def PFault.read (r : PFault) : Word :=
  putF 0 r.fe |||
  putB 8 r.oos |||
  putF 9 r.oosCause |||
  putB 11 r.migRefused |||
  putB 12 r.ckptBad |||
  putF 16 r.migCnt

/-- A write of P_FAULT acts on its fields by their types (Table 0.5, R12). -/
def PFault.write (r : PFault) (w : Word) : PFault :=
  { r with
    migRefused := r.migRefused && !(bit w 11),
    ckptBad := r.ckptBad && !(bit w 12) }

end Sys2Proof.Machine
end

