-- ==== Sys2Proof/Machine/PortState.lean ====
section
/-! DEFINITION. What one port holds: its registers, its sluice and front end, the private state of its region (the
part a checkpoint carries and the part that is lost with the region), its staging area, its event queue and the role
state that the serving core keeps for it (spec chapters 02 to 05, 09 and 11). -/

namespace Sys2Proof.Machine

/-- The port events of Table 18.10, with the two names of bit [5] apart and the two without a bit last
(spec/18_register_map.md R474). -/
inductive PEvent where
  | tcAttach | tcDetach | tcAccessory | tcCableOnly | tcVbStuck | tcVconnReady | tcVconnOff | tcVconnRefused
  | tcVconnFault | pdTxOk | pdTxFail | pdTxDiscarded | pdCmdBad | pdTimer | pdSoftResetRx | pdSoftResetDone
  | pdHardReset | pdHardResetDone | pdChunkAbort | pdGiveup | pdBist | pdFrsDetect | ppDone | ppTimeout
  | detachInTransition | ppCl | ppClFloor | slBreach | slUv | slForeignVb | slDisTimeout | slPassRefused | slCalRaw
  | placeChanged | queueLoss
deriving DecidableEq, Repr

/-- The bit of an event in P_EVT (Table 18.10); `none` for the two that have no bit. -/
def PEvent.bit : PEvent → Option Nat
  | .tcAttach => some 0 | .tcDetach => some 1 | .tcAccessory => some 2 | .tcCableOnly => some 3
  | .tcVbStuck => some 4 | .tcVconnReady => some 5 | .tcVconnOff => some 5 | .tcVconnRefused => some 6
  | .tcVconnFault => some 7 | .pdTxOk => some 8 | .pdTxFail => some 9 | .pdTxDiscarded => some 10
  | .pdCmdBad => some 11 | .pdTimer => some 12 | .pdSoftResetRx => some 13 | .pdSoftResetDone => some 14
  | .pdHardReset => some 15 | .pdHardResetDone => some 16 | .pdChunkAbort => some 17 | .pdGiveup => some 18
  | .pdBist => some 19 | .pdFrsDetect => some 20 | .ppDone => some 21 | .ppTimeout => some 22
  | .detachInTransition => some 23 | .ppCl => some 24 | .ppClFloor => some 25 | .slBreach => some 26
  | .slUv => some 27 | .slForeignVb => some 28 | .slDisTimeout => some 29 | .slPassRefused => some 30
  | .slCalRaw => some 31 | .placeChanged => none | .queueLoss => none

/-- The queue entry type of an event (spec/11_cores_queues.md Table 11.4). -/
def PEvent.typ : PEvent → BitVec 6
  | .tcAttach => 0x04#6 | .tcDetach => 0x05#6 | .tcAccessory => 0x06#6 | .tcCableOnly => 0x07#6
  | .tcVbStuck => 0x08#6 | .tcVconnReady => 0x09#6 | .tcVconnOff => 0x0A#6 | .tcVconnRefused => 0x0B#6
  | .tcVconnFault => 0x0C#6 | .pdTxOk => 0x10#6 | .pdTxFail => 0x11#6 | .pdTxDiscarded => 0x12#6
  | .pdCmdBad => 0x13#6 | .pdTimer => 0x14#6 | .pdSoftResetRx => 0x15#6 | .pdSoftResetDone => 0x16#6
  | .pdHardReset => 0x17#6 | .pdHardResetDone => 0x18#6 | .pdChunkAbort => 0x19#6 | .pdGiveup => 0x1A#6
  | .pdBist => 0x1B#6 | .pdFrsDetect => 0x1C#6 | .ppDone => 0x20#6 | .ppTimeout => 0x21#6
  | .detachInTransition => 0x22#6 | .ppCl => 0x23#6 | .ppClFloor => 0x24#6 | .slBreach => 0x28#6
  | .slUv => 0x29#6 | .slForeignVb => 0x2A#6 | .slDisTimeout => 0x2B#6 | .slPassRefused => 0x2C#6
  | .slCalRaw => 0x2D#6 | .placeChanged => 0x30#6 | .queueLoss => 0x31#6

/-- The breaches of Table 5.3 (spec/05_sluice.md R148). -/
inductive Breach where
  | ccShort | ovp | ocFast | rev | ocSlow | otpDie | otpNtc | vgdLow | gate
deriving DecidableEq, Repr

/-- The code of a breach (Table 5.3). -/
def Breach.code : Breach → BitVec 4
  | .ccShort => 1#4 | .ovp => 2#4 | .ocFast => 3#4 | .rev => 4#4 | .ocSlow => 5#4 | .otpDie => 6#4
  | .otpNtc => 7#4 | .vgdLow => 8#4 | .gate => 9#4

/-- Which pair of a port passes. The source pair and the sink pair never pass together (spec/05_sluice.md R146). -/
inductive Path where
  | none | source | sink
deriving DecidableEq, Repr

/-- Why DIS is driven (spec/05_sluice.md R156): towards vSafe0V, or on a falling ramp. -/
inductive Dis where
  | off | toSafe0 | ramp
deriving DecidableEq, Repr

/-- What waits for vSafe5V after a cold pass (spec/02_port_attach.md R495, Tables 3.9 and 4.1). -/
inductive Rise where
  | none | attach | hardReset | srcOn
deriving DecidableEq, Repr

/-- The timers of a port that end in a command of their own (Tables 2.4, 3.8, 4.8 to 4.12, 5.3 and 7.1). A timer in
a port's list runs; its expiry is the command that names it. -/
inductive TimerId where
  | ccDebounce | pdDebounce | tryCcDebounce | drpHalf | drpTry | tryTimeout | errorRecovery | srcDisconnect
  | vb0Wait | vbusOn | vconnLow | fdetWindow | breachWindow | gateLimit | uv | clFloor | measure
  | crcReceive | sinkTx | amsIdle | response | chunkRequest | chunkResponse | psTransition | psSourceOff
  | psSourceOn | noResponse | hrComplete | psHardReset | srcRecover | hrSink | bistCont | srcTrans | ppTimeout
  | chunkResponse1 | softAccept | roleFlip | vconnSource | identBound
  | pd (id : BitVec 4)
deriving DecidableEq, Repr

/-- A transmission: the command word's header and control fields, TX_SEQ, the message's data, and whether the region
sends it on its own (spec/03_pd_protocol.md R73 to R76). -/
structure TxMsg where
  header : BitVec 16
  extHeader : BitVec 16
  sop1 : Bool
  amsStart : Bool
  amsEnd : Bool
  onFail : BitVec 2
  onTimeout : BitVec 2
  resp : BitVec 3
  seq : BitVec 8
  own : Bool
  objs : List Word
deriving DecidableEq, Repr

/-- Where the transmission in hand stands (R72, R75, R77 to R79, R85). -/
inductive TxPhase where
  | idle       -- nothing in hand
  | sinkTxWait -- a source presents SinkTxNG and waits tSinkTx
  | heldNg     -- a sink waits for SinkTxOk
  | ready      -- waits for the idle line and tInterFrameGap
  | onLine     -- being transmitted
  | awaitCrc   -- CRCReceiveTimer runs
  | retryWait  -- the next attempt is due
  | chunkWait  -- waits for a Chunk Request
deriving DecidableEq, Repr

/-- Progress of a Hard Reset (Table 3.9 and spec/04_contracts_swaps.md R120). -/
inductive HrPhase where
  | idle | signalling | srcHold | srcSafe0 | srcRecover | srcRise | snkSafe0 | snkPresent
deriving DecidableEq, Repr

/-- BIST service (spec/03_pd_protocol.md R92). -/
inductive Bist where
  | off | carrier | testData
deriving DecidableEq, Repr

/-- An extended message being received in chunks on a SOP type (R85, R86): the next chunk expected and the bytes still
due. -/
structure RxChunk where
  header : BitVec 16
  next : BitVec 4
  left : Nat
deriving DecidableEq, Repr

/-- The private state of a region: what it keeps beside the P_ registers, which lie in the polder die
(Table 18.11). Everything here is carried by the checkpoint, or lost with the region, under chapter 09. -/
structure Region where
  timers : List TimerId
  announced : Bool        -- TC_ATTACH or TC_ACCESSORY written for the present attach (R495)
  ccMet : Bool            -- tCCDebounce met, VB_PRESENT awaited (Table 2.5)
  tryWindow : Bool        -- Try.SNK: tDRPTry elapsed since entry (Table 2.3)
  fdet : Bool             -- the fast-detach flag was taken by the region and t_fdet_win runs (R59)
  rise : Rise
  snkOnWait : Bool        -- SNK_ON given, VB_PRESENT awaited (Table 4.1)
  srcOnWait : Bool        -- SRC_ON given, VB_SAFE0 awaited
  srcOffRun : Bool        -- SRC_OFF executed, VB_SAFE0 awaited
  srcOffArmed : Bool      -- SRC_OFF with DEFER = 1
  snkOffArmed : Bool      -- SNK_OFF with DEFER = 1
  armed : Option (BitVec 29) -- the contract word of an armed TRANSITION
  ramping : Bool          -- its ramp has started
  settling : Bool         -- the moving target has reached its end
  sinkContract : Option (BitVec 29) -- sink TRANSITION waiting for the partner's PS_RDY
  snkLevel : Nat          -- sink disconnect level in mV (R61)
  sinkVolt : Nat          -- OVP contract voltage as sink in mV (R148)
  flip : Bool             -- terminations in change (R120)
  prevVolt : Nat          -- target of the previous contract in mV (R110 step 4)
  frsSwap : Bool          -- the swap in progress is a fast role swap (Table 4.12)
  target : Nat            -- end of the ramp in mV
  moving : Nat            -- moving target in mV (P_VSET.TARGET)
  coldRamp : Bool         -- the ramp runs at v_ss_slew (R144)
  integ : Int             -- integral of the VSET loop in counts (R159)
  latchedPdEn : Bool      -- PD_EN and MAX_REV in force (R100)
  latchedMaxRev : BitVec 2
  txId : BitVec 3         -- MessageIDCounter on SOP (R75)
  txId1 : BitVec 3        -- on SOP′
  rxId : Option (BitVec 3)   -- stored MessageID on SOP (R81)
  rxId1 : Option (BitVec 3)  -- on SOP′
  lastSeq : Option (BitVec 8)  -- TX_SEQ of the last message on SOP (R76)
  lastSeq1 : Option (BitVec 8) -- on SOP′
  lastOk : Option Bool    -- outcome of the last message on SOP; `none` while it has not ended
  lastOk1 : Option Bool
  last1 : Bool            -- the last message transmitted was on SOP′ (Table 9.4)
  phase : TxPhase
  tx : Option TxMsg
  ownDue : List TxMsg     -- messages of the region itself that wait behind `tx` (R75, R85)
  retries : Nat           -- attempts left after this one
  chunk : BitVec 4        -- chunk of `tx` in hand
  held : Option TxMsg     -- command held behind `tx` (R79)
  waiting : Option TxMsg  -- message whose response timer runs (R74)
  soft : Option Bool      -- a Soft_Reset of the ladder awaits Accept; true on SOP′ (Table 3.10)
  accepted : Bool         -- an Accept since the last contract: the next PS_RDY makes it explicit (R110)
  rx : Option RxChunk     -- an exchange received on SOP
  rx1 : Option RxChunk    -- on SOP′
  rxFirst : Bool          -- a first message since attach, Hard Reset or ErrorRecovery was taken (R70)
  hr : HrPhase
  hrSource : Bool         -- the role of the Hard Reset in progress (R120)
  hrSwap : Bool           -- it began during a swap (R120)
  savedLine : BitVec 3    -- class of the active CC under a transmission (Table 2.7)
  savedOther : BitVec 3   -- class of the non-active CC under VCONN (Table 2.7, R54)
  asked : Bool            -- an own Request or EPR_Request awaits its answer (Table 3.8)
  ending : Bool           -- PP_DONE written, and the GoodCRC of the PS_RDY that ends the transition due (R98)
  bist : Bist
  noFirstPass : Bool      -- Attached.SRC before its first pass (R154)
  meas : Bool             -- a reply of R182 is being measured
  measSlack : Bool        -- it is under the 3.25 ms bound of R179
  measBefore : List (Fin 56) -- regions whose load by a command began after the message that it measures (R179)
  dbStart : Bool          -- AttachWait.SNK was entered from Start with VB_PRESENT (R51)
  inTrans : Bool          -- inside a transition: from the GoodCRC of its Accept to that of its PS_RDY (R98)
  cfgType : BitVec 2      -- PORT_TYPE, TRY and ACC_DET in force (R64)
  cfgTry : BitVec 2
  cfgAcc : Bool
deriving DecidableEq, Repr

/-- A region that has just started, or that serves no session. -/
def Region.init : Region where
  timers := []
  announced := false
  ccMet := false
  tryWindow := false
  fdet := false
  rise := .none
  snkOnWait := false
  srcOnWait := false
  srcOffRun := false
  srcOffArmed := false
  snkOffArmed := false
  armed := none
  ramping := false
  settling := false
  sinkContract := none
  snkLevel := 3670
  sinkVolt := 0
  flip := false
  prevVolt := 0
  frsSwap := false
  target := 0
  moving := 0
  coldRamp := false
  integ := 0
  latchedPdEn := true
  latchedMaxRev := 2#2
  txId := 0#3
  txId1 := 0#3
  rxId := none
  rxId1 := none
  lastSeq := none
  lastSeq1 := none
  lastOk := none
  lastOk1 := none
  last1 := false
  phase := .idle
  tx := none
  ownDue := []
  retries := 0
  chunk := 0#4
  held := none
  waiting := none
  soft := none
  accepted := false
  rx := none
  rx1 := none
  rxFirst := false
  hr := .idle
  hrSource := false
  hrSwap := false
  savedLine := 0#3
  savedOther := 0#3
  asked := false
  ending := false
  bist := .off
  noFirstPass := false
  meas := false
  measSlack := false
  measBefore := []
  dbStart := false
  inTrans := false
  cfgType := PCc.reset.portType
  cfgTry := PCc.reset.tryPref
  cfgAcc := PCc.reset.accDet

/-- The sluice parameter set in force at a front end (spec/08_polder_fabric.md Table 8.8), in the units of its bytes. -/
structure SluiceSet where
  ccShort : Nat   -- CC_SHORT level, 10 mV
  ccFilt : Nat    -- CC_SHORT filter, 0.1 µs
  ovpFactor : Nat -- 0.001
  ovpOffset : Nat -- 10 mV
  ovpCap : Nat    -- 10 mV
  ovpFilt : Nat   -- 0.1 µs
  revFilt : Nat   -- 0.1 µs
  ocFilt : Nat    -- OC_FAST on-resistance filter, 0.1 µs
  otpDie : Nat    -- OTP_DIE level, 0.1 °C
  otpFilt : Nat   -- OTP filters, ms
  tCcFilt : Nat   -- t_cc_filt, 0.1 µs
deriving DecidableEq, Repr

/-- The delivered values (Table 8.8), in force from POR until the first culvert switch (R238). -/
def SluiceSet.delivered : SluiceSet where
  ccShort := 600
  ccFilt := 10
  ovpFactor := 1100
  ovpOffset := 50
  ovpCap := 5500
  ovpFilt := 50
  revFilt := 30
  ocFilt := 50
  otpDie := 1250
  otpFilt := 100
  tCcFilt := 20

/-- The values of SLUICE_CFG that act through an update (R165): VSET points, shunt in µΩ and gain. -/
structure Cal where
  d5 : BitVec 12
  d20 : BitVec 12
  d48 : BitVec 12
  shunt : BitVec 16
  gain : BitVec 16
deriving DecidableEq, Repr

/-- The defaults of R158 and Table 5.1. -/
def Cal.init : Cal where
  d5 := 410#12
  d20 := 1638#12
  d48 := 3932#12
  shunt := 5000#16
  gain := 0x8000#16

/-- The front end of a port beside its registers (spec/05_sluice.md): the VBUS level, the trip and sensing values that
SLUICE_CFG loads, the metering registers behind P_IBUS and P_ENERGY, and the fast-detach latch. -/
structure FrontEnd where
  vb : Nat                -- VB as last sensed, in mV
  path : Path             -- the latched pass state
  dis : Dis
  foreign : Bool          -- foreign VBUS flagged (R154)
  slowInt : Nat           -- slow integral in units of 10 nC (R149)
  cond : List Breach      -- breaches whose condition persists (P_SLUICE.COND)
  vcnDriven : Bool        -- VCN driven (R53)
  ccIsolated : Bool       -- CC PHY isolated by CC_SHORT (Table 5.3)
  fdetLatch : Bool        -- fast-detach flag of the front end (R59)
  fdetBlank : Bool        -- the active CC crossed Rd/Open while the comparator was blanked (R60)
  preBias : Bool          -- source gate pre-biased for FRS (Table 5.2)
  fastPass : Bool         -- the present pass is the fast pass of FRS (R143)
  held : Bool             -- held by heartbeat loss: Hard Reset due when heartbeats resume (R167)
  d5 : BitVec 12          -- VSET feed-forward points (R158)
  d20 : BitVec 12
  d48 : BitVec 12
  rCal : BitVec 16        -- R_cal in µΩ (R163)
  tCal : BitVec 12
  alpha : BitVec 8
  theta : BitVec 12       -- 0.1 K/W
  shunt : BitVec 16       -- µΩ
  gain : BitVec 16
  cal : Cal               -- the points, shunt and gain in force (R165)
  offset : Int            -- shunt offset sample, 10 nV
  rEst : Nat              -- present pair resistance in µΩ
  tFet : Int              -- pair temperature in 0.1 °C
  vFast : Nat             -- OC_FAST comparator threshold in nV
  means : List Int        -- the last 1,000 block means of IBUS in mA, newest first (R166)
  energy : BitVec 64      -- VB · IBUS summed at 50 µs, in units of 0.5 nJ (R166)
  accum : Int             -- coulomb accumulator in nC (R27)
  measuring : Bool        -- MEASURE runs (R165)
  measureVoid : Bool
  breachMark : Bool       -- a breach since the gauge's newest rest point (R210)
  reports : List Breach   -- breaches whose SL_BREACH no region has written yet (R151)
  set : SluiceSet         -- the parameter set in force (R238)
  gateSrc : Bool          -- the source pair's last pass ended in a GATE breach, no FULL_ENH since (Table 9.3)
  gateSnk : Bool          -- the sink pair's
  foreignOwed : Bool      -- SL_FOREIGN_VB and SL_DIS_TIMEOUT that no region has written yet (R154, R156)
  disOwed : Bool
deriving DecidableEq, Repr

/-- The front end after POR: defaults of R158, R163 and Table 5.1. -/
def FrontEnd.init : FrontEnd where
  vb := 0
  path := .none
  dis := .off
  foreign := false
  slowInt := 0
  cond := []
  vcnDriven := false
  ccIsolated := false
  fdetLatch := false
  fdetBlank := false
  preBias := false
  fastPass := false
  held := false
  d5 := 410#12
  d20 := 1638#12
  d48 := 3932#12
  rCal := 2000#16
  tCal := 0#12
  alpha := 0#8
  theta := 400#12
  shunt := 5000#16
  gain := 0x8000#16
  cal := Cal.init
  offset := 0
  rEst := 2000
  tFet := 0
  vFast := 16000000
  means := []
  energy := 0#64
  accum := 0
  measuring := false
  measureVoid := false
  breachMark := false
  reports := []
  set := SluiceSet.delivered
  gateSrc := false
  gateSnk := false
  foreignOwed := false
  disOwed := false

/-- One copy of a port's checkpoint in retained shared SRAM (spec/09_quarry_migration.md R262, R263). The Type-C,
protocol and contract registers that Table 9.4 repeats lie in the polder die and are not copied here; `rg` is the rest
of words 2 to 23 and the template's own words. -/
structure Ckpt where
  good : Bool             -- complete, and it passes correction
  epoch : BitVec 6        -- word 0: epoch, template ID and sequence of the writer
  tid : BitVec 16
  seq : BitVec 8
  time : BitVec 24        -- capture time in µs of the polder time base
  ringPos : BitVec 16     -- ring position recorded at the close
  words : List W36        -- words 0 to 23 (Table 9.4), and the template's own
  rg : Region
deriving DecidableEq, Repr

/-- A copy that no region has written. -/
def Ckpt.none : Ckpt where
  good := false
  epoch := 0#6
  tid := 0#16
  seq := 0#8
  time := 0#24
  ringPos := 0#16
  words := []
  rg := Region.init

/-- A fence record: an epoch and the ring position it holds up to (R270). -/
structure Fence where
  epoch : BitVec 6
  pos : BitVec 16
deriving DecidableEq, Repr

/-- What a message of the core is to it, while its outcome is not served (R79, R103, R107). -/
inductive OutKind where
  | accept | psRdy | set | cable | epr | ask | other
deriving DecidableEq, Repr

/-- A message of the core whose outcome is not served: its TX_SEQ and what it is. -/
structure OutMsg where
  seq : BitVec 8
  kind : OutKind
deriving DecidableEq, Repr

/-- A capability set that has been handed to the region and has no outcome yet; `avs` is the PDP of its SPR AVS object
(R107). -/
structure SetOut where
  seq : BitVec 8
  set : List Word
  avs : Nat
deriving DecidableEq, Repr

/-- The chunks of an extended message that the core has taken and the rest of which is to come (Table 3.1). -/
structure RxParts where
  header : BitVec 16
  sop1 : Bool
  bytes : List Byte
deriving DecidableEq, Repr

/-- What the serving core waits for on a port: the answer to the last request it sent on its own. -/
inductive Await where
  | nothing | cableId | limits | temp | battStatus | sinkCap | request | psRdy | swap
deriving DecidableEq, Repr

/-- The swap the serving core carries out, and its next step. -/
inductive SwapKind where
  | none | prSrc | prSnk | dr | vconnTake | vconnGive | frs
deriving DecidableEq, Repr

/-- The role state that the serving core keeps for a port in shared SRAM (spec/11_cores_queues.md Table 11.2, words
0xC000 + 16·n). The spec fixes what it must remember and not its layout. -/
structure RoleState where
  lastSet : List Word       -- objects of the capability set last sent; [] none (Table 4.17)
  share : BitVec 16         -- p_share in 0.5 W; 2.5 W until the first division (R189)
  divided : BitVec 16       -- share of the last division, which may wait in the mailbox (R189)
  eprMode : Bool
  eprExit : Bool            -- leaving EPR under R116
  eprAsk : Bool             -- the Request of the present contract had EPR Mode Capable set (R113)
  seqCount : BitVec 7       -- running count of TX_SEQ (R76)
  capsCount : Nat           -- Source_Capabilities sent without an answer (nCapsCount)
  setDue : Bool             -- a new set is due (R107)
  softDue : Bool            -- a Soft_Reset is due for lost role state (Table 9.7)
  cableTries : Nat          -- Discover Identity attempts of the attach (R106)
  cableEnded : Bool         -- ended by NAK, success or nDiscoverIdentityCount
  await : Await
  swap : SwapKind
  dpStep : Nat              -- step of Table 4.14 in hand; 0 none
  dockStep : Nat            -- step of R131 in hand; 0 none
  dockDone : Bool           -- dock-mode discovery made for the present contract
  identStep : Nat           -- step of R132 in hand; 0 none
  idSerial : List Word      -- answers of R132
  idMfg : List Byte
  idCap : List Byte
  breach : Option (BitVec 4) -- SL_BREACH served, clear and Hard Reset due (R152)
  flags : BitVec 3          -- OCP, OVP, OTP since the last Get_Status (Table 4.17)
  frsCurrent : Nat          -- Fast Role Swap required current of the partner in 10 mA; 0 none
  modesC : Bool             -- the partner's DisplayPort mode offers pin assignment C
  dpPos : BitVec 3          -- object position of the partner's DisplayPort mode (Table 4.14)
  reqDue : Bool             -- a set was sent and its Request is awaited (R88, R98)
  avsPdp : Nat              -- PDP in W of the SPR AVS object of the last set (Table 4.4)
  exitDue : Bool            -- an EPR_Request was accepted on the way out of EPR; EPR_Mode (Exit) follows (R116)
  sinkMa : Nat              -- current of the partner's 5 V object in mA, capped at 3 A (R112)
  dpOk : Bool               -- steps 1 and 2 of Table 4.14: Modal Operation set and SVID 0xFF01 listed (R131)
  dpDone : Bool             -- DisplayPort entry made or ended (R127)
  dpState : BitVec 2        -- the DisplayPort mode as the core knows it: P_ALTMODE.DP_STATE, PIN_ASSIGN, HPD (R138)
  pin : BitVec 2
  hpd : Bool
  identSoft : Bool          -- the Soft_Reset of a request of R132 that has been counted as not answered is under way
  eprStep : Nat             -- step of R114 in hand; 0 none
  newDfp : Bool             -- data role agreed by a DR_Swap (R122)
  feed : Nat                -- pack feed (R394): 0 none, 1 permit sent, 2 PR_Swap sent or swapped, 3 turned down,
                            -- 4 swapped, and dropped at END = EMPTY
  outs : List OutMsg        -- messages of the core without a served outcome, oldest first
  pendSet : Option SetOut   -- the set handed to the region; it is the last set once it has its GoodCRC (R107)
  offered : Bool            -- a set has been handed to the region in this session (R106)
  swapGo : Bool             -- the Accept of the VCONN_Swap in hand has its GoodCRC (R98)
  parts : Option RxParts
deriving DecidableEq, Repr

/-- Role state of a port with nothing attached. -/
def RoleState.init : RoleState where
  lastSet := []
  share := 5#16
  divided := 5#16
  eprMode := false
  eprExit := false
  eprAsk := false
  seqCount := 0#7
  capsCount := 0
  setDue := false
  softDue := false
  cableTries := 0
  cableEnded := false
  await := .nothing
  swap := .none
  dpStep := 0
  dockStep := 0
  dockDone := false
  identStep := 0
  idSerial := []
  idMfg := []
  idCap := []
  breach := none
  flags := 0#3
  frsCurrent := 0
  modesC := false
  dpPos := 0#3
  reqDue := false
  avsPdp := 0
  exitDue := false
  sinkMa := 0
  dpOk := false
  dpDone := false
  dpState := 0#2
  pin := 0#2
  hpd := false
  identSoft := false
  eprStep := 0
  newDfp := false
  feed := 0
  outs := []
  pendSet := none
  offered := false
  swapGo := false
  parts := none

/-- Staging area of a port (spec/03_pd_protocol.md Table 3.2): 67 words. PENDING is P_CTRL.PENDING. -/
structure Staging where
  words : Vector W36 67
  pending : Bool
deriving DecidableEq, Repr

/-- A staging area with every word zero and no request pending. -/
def Staging.init : Staging where
  words := Vector.replicate 67 0#36
  pending := false

/-- One port (R27, Table 18.7). Its class lies beside the ports in the state, because the class latch of the polder
die does not depend on the region or the core. -/
structure Port where
  cc : PCc
  tc : PTcstate
  pdcfg : PPdcfg
  pdstat : PPdstat
  srccap : PSrccapSel
  contract : PContract
  partner : PPartner
  alt : PAltmode
  vset : PVset
  ilim : PIlim
  trip : PTrip
  sluice : PSluice
  vbus : PVbus
  ibus : PIbus
  kgSoc : PKgSoc
  kgCap : PKgCap
  place : PPlace
  pfault : PFault
  evt : Word
  evtEn : Word
  power : BitVec 9
  fe : FrontEnd
  rg : Region
  stg : Staging
  q : Queue
  role : RoleState
  ck0 : Ckpt
  ck1 : Ckpt
  ckNewer : Bool     -- the copy written last: false copy 0, true copy 1
  fences : List Fence -- oldest first, at most four
  bank : Ckpt        -- the checkpoint that the restore bank holds (R264)
  heldCls : Option SvcClass -- a class write held until the cut-over of a migration (R177)
  islandSink : Bool  -- served by the emergency template of the island, as a Sink (R430)
  gs : BitVec 2      -- the gauge state that the contract and role last gave (R199)
  attachSeen : Bool  -- attached at least once since POR, PIN or SYS (R179)
  rebindDue : Bool   -- the queue is to be bound to the core of a new class (R177)
deriving DecidableEq, Repr

/-- Port n after POR (Tables 2.7 to 9.14; fields with reset "fuse" take their value when the shadows are sensed, log
entry 14). Its queue is bound to its bench, as a class-C port's is (R7, R330). -/
def Port.reset (n : Nat) : Port where
  cc := PCc.reset
  tc := PTcstate.reset
  pdcfg := PPdcfg.reset
  pdstat := PPdstat.reset
  srccap := PSrccapSel.reset
  contract := PContract.reset
  partner := PPartner.reset
  alt := PAltmode.reset
  vset := PVset.reset
  ilim := PIlim.reset
  trip := PTrip.reset
  sluice := PSluice.reset
  vbus := PVbus.reset
  ibus := PIbus.reset
  kgSoc := PKgSoc.reset
  kgCap := PKgCap.reset
  place := { PPlace.reset with region := BitVec.ofNat 6 (n % 48) }
  pfault := PFault.reset
  evt := 0#32
  evtEn := 0xFFFFFFFF#32
  power := 0#9
  fe := FrontEnd.init
  rg := Region.init
  stg := Staging.init
  q := Queue.init (BitVec.ofNat 5 (n / 16)) true
  role := RoleState.init
  ck0 := Ckpt.none
  ck1 := Ckpt.none
  ckNewer := false
  fences := []
  bank := Ckpt.none
  heldCls := none
  islandSink := false
  gs := 0#2
  attachSeen := false
  rebindDue := false

end Sys2Proof.Machine
end

