-- ==== Sys2Proof/Machine/PortOps.lean ====
section
/-! DEFINITION. The operations of one port that several commands share: writing an event, timers, the pass and hold
decisions of the sluice, a breach, the Type-C state changes, detach and ErrorRecovery (spec/02_port_attach.md,
spec/05_sluice.md). Each is a function of what the port sees from outside (`Env`) and of the port. -/

namespace Sys2Proof.Machine

/-- What a port sees of the rest of the device: its class, the hold sources that are not its own (R145), whether a
region in service is joined to its front end, and the readings the polder shares. -/
structure Env where
  cls : SvcClass
  shedHold : Bool   -- the hold line of the class is raised (R30)
  shedOff : Bool    -- Rp of the class is removed by the shed stage (R65)
  hbLost : Bool     -- no heartbeat for 20 ms at the polder (R32)
  alone : Bool      -- the front end stands alone: heartbeats lost, BOR or PLD (Table 5.6)
  oscOk : Bool      -- the polder oscillator, or the fallback clock, runs (R26, Table 5.6)
  vgdPass : Bool    -- VGD at least v_gd_pass, 10.0 V
  run : Bool        -- RUN reached since POR, or the exemption of R431
  regionUp : Bool   -- a region serves the front end
  ntc : Nat         -- t_ntc in 0.1 °C from −40.0 °C
  stage : Nat       -- shed stage, for the capability caps of R104
deriving DecidableEq, Repr

/-- The breaches whose condition does not outlast them: GATE has none, and the slow integral is zero at the hold
(Table 5.3, R149). -/
def Breach.momentary (b : Breach) : Bool := b = .gate || b = .ocSlow

namespace Port

/-- Write a group into the port event queue, each entry with the port's placement epoch (R82). -/
def pushGroup (g : List (BitVec 6 × W36)) (p : Port) : Port :=
  let n := g.length
  let es := g.mapIdx fun i x => { payload := x.2, typ := x.1, epoch := p.place.epoch, last := i + 1 = n : Entry }
  { p with q := p.q.push es }

/-- Write an event: its P_EVT bit is set whether or not the queue takes the entry (spec/18_register_map.md R475). -/
def post (e : PEvent) (pl : W36) (p : Port) : Port :=
  let p := match e.bit with
    | some i => { p with evt := p.evt ||| (1#32 <<< i) }
    | none => p
  p.pushGroup [(e.typ, pl)]

/-- Whether a timer runs. -/
def timerOn (t : TimerId) (p : Port) : Bool := t ∈ p.rg.timers

/-- Start a timer afresh. -/
def start (t : TimerId) (p : Port) : Port := { p with rg := { p.rg with timers := t :: p.rg.timers.filter (· ≠ t) } }

/-- Stop a timer. -/
def stop (t : TimerId) (p : Port) : Port := { p with rg := { p.rg with timers := p.rg.timers.filter (· ≠ t) } }

/-- Stop several timers. -/
def stopAll (ts : List TimerId) (p : Port) : Port :=
  { p with rg := { p.rg with timers := p.rg.timers.filter (· ∉ ts) } }

/-- The timers that run in the front end and not in the region: they outlast it (R31, R143, R150, R165). -/
def feTimers : List TimerId := [.breachWindow, .gateLimit, .measure]

/-- PORT_TYPE, TRY and ACC_DET take effect as they are written (R64). -/
def latchCfg (p : Port) : Port :=
  { p with rg := { p.rg with cfgType := p.cc.portType, cfgTry := p.cc.tryPref, cfgAcc := p.cc.accDet } }

/-- A region that starts with nothing restored: the timers of the front end run on, and the written values of PD_EN and
MAX_REV and of the type fields are in force (R64, R100, R150). -/
def freshRegion (p : Port) : Port :=
  { p with rg := { Region.init with timers := p.rg.timers.filter (· ∈ feTimers), latchedPdEn := p.pdcfg.pdEn,
                                    latchedMaxRev := p.pdcfg.maxRev } }.latchCfg

/-- The code that a CC line shows: the active one, or the other (Table 2.7). -/
def lineCode (active : Bool) (p : Port) : BitVec 3 :=
  if p.cc.polarity = active then p.cc.cc2Line else p.cc.cc1Line

/-- The code that a CC line shows is set. -/
def setLineCode (active : Bool) (c : BitVec 3) (p : Port) : Port :=
  if p.cc.polarity = active then { p with cc := { p.cc with cc2Line := c } } else { p with cc := { p.cc with cc1Line := c } }

/-- The device transmits BMC on the active CC: its code shows it (Table 2.7). -/
def onAir (p : Port) : Bool := p.lineCode true = 7#3

/-- The class of the active CC, under a transmission that of its start. -/
def activeClass (p : Port) : BitVec 3 := if p.onAir then p.rg.savedLine else p.lineCode true

/-- The class of the non-active CC, under VCONN that of the start of the drive. -/
def otherClass (p : Port) : BitVec 3 := if p.cc.vconnOn then p.rg.savedOther else p.lineCode false

/-- A transmission begins on the active CC, which shows it; the fast-detach comparator is blanked (R60, R72). -/
def airBegin (p : Port) : Port :=
  if p.onAir then p else { p with rg := { p.rg with savedLine := p.lineCode true } }.setLineCode true 7#3

/-- A transmission ends: the active CC shows its class again, and a crossing that was blanked is latched (R60). -/
def airEnd (p : Port) : Port :=
  if p.onAir then
    { p with fe := { p.fe with fdetLatch := p.fe.fdetLatch || p.fe.fdetBlank, fdetBlank := false } }.setLineCode true
      p.rg.savedLine
  else p

/-- On-resistance sensing selected (R141). -/
def onRes (p : Port) : Bool := p.sluice.senseMode = 1#2

/-- The port type in force: a port in on-resistance mode is treated as a Source port (R141), and a port that the
emergency template serves in the island is a Sink otherwise (R430, log entry 173); any other is of the PORT_TYPE that its
last Unattached took (R64). -/
def typeOf (p : Port) : BitVec 2 := if p.onRes then 0#2 else if p.islandSink then 1#2 else p.rg.cfgType

/-- DRP in force. -/
def isDrp (p : Port) : Bool := p.typeOf = 2#2

/-- Try.SRC, for a DRP only (R41). -/
def trySrcOn (p : Port) : Bool := p.isDrp && p.rg.cfgTry = 1#2

/-- Try.SNK, for a DRP only (R41). -/
def trySnkOn (p : Port) : Bool := p.isDrp && p.rg.cfgTry = 2#2

/-- Attached.SRC or Attached.SNK. -/
def attached (p : Port) : Bool := p.tc.state = .attachedSrc || p.tc.state = .attachedSnk

/-- The port takes power or waits to: the sink pair passes, or the port presents Rd (Table 2.3). DIS is not driven then
(R156). -/
def sinkSide (p : Port) : Bool :=
  p.fe.path = .sink ||
    match p.tc.state with
    | .unattachedSnk | .attachWaitSnk | .attachedSnk | .tryWaitSnk | .trySnk | .debugSnk | .start => true
    | _ => false

/-- The first condition of R145, other than the pass command, that fails, as HOLD_SRC codes it; 0b001 when none
fails (R147). `src` asks for the source pair, which foreign VBUS also holds. -/
def holdCond (e : Env) (src : Bool) (p : Port) : BitVec 3 :=
  if p.sluice.latched then 2#3
  else if e.shedHold then 3#3
  else if e.hbLost && e.cls ≠ .a then 4#3
  else if !e.vgdPass then 5#3
  else if !e.run then 6#3
  else if src && p.fe.foreign then 7#3
  else 1#3

/-- P_SLUICE.HOLD_SRC (R147). -/
def holdSrc (e : Env) (p : Port) : BitVec 3 := if p.fe.path ≠ .none then 0#3 else p.holdCond e true

/-- DIS on a falling ramp is released (R156). -/
def rampDisOff (d : Dis) : Dis := if d = .ramp then .off else d

/-- Both pairs hold; the slow integral returns to zero at every hold (R149), and DIS of a falling ramp is released with
the ramp's source path (R156). -/
def hold (p : Port) : Port :=
  { p with
    fe := { p.fe with path := .none, slowInt := 0, fastPass := false, dis := rampDisOff p.fe.dis,
                      measureVoid := p.fe.measureVoid || p.fe.measuring },
    sluice := { p.sluice with fullEnh := false } }
  |>.stopAll [.gateLimit, .uv]

/-- A refused pass: SL_PASS_REFUSED and P_TRIP.PASS_REFUSED; bit [3] and OTHER_PAIR when the other pair passes
(R145, R146). -/
def refusePass (e : Env) (other : Bool) (p : Port) : Port :=
  let p := { p with
    trip := { p.trip with passRefused := true },
    sluice := { p.sluice with otherPair := p.sluice.otherPair || other } }
  p.post .slPassRefused (pay 0 (p.holdSrc e) ||| payB 3 other)

/-- Whether the sluice takes a pass command for a pair (R141, R145, R146); none after an oscillator failure until the
fallback clock runs (Table 5.6). -/
def canPass (e : Env) (side : Path) (p : Port) : Bool :=
  match side with
  | .none => false
  | .source => e.oscOk && p.fe.path ≠ .sink && p.holdCond e true = 1#3
  | .sink => e.oscOk && p.fe.path ≠ .source && !p.onRes && p.holdCond e false = 1#3

/-- A pass command for a pair (R145). A pair that already passes is left as it is. A sink pass in on-resistance mode is refused
as R141 has it, also while the source pair passes, without OTHER_PAIR: the model's choice between R141 and R146 (log entry
216). -/
def pass (e : Env) (side : Path) (fast : Bool) (p : Port) : Port :=
  if side = .none then p
  else if p.fe.path = side then p
  else if p.fe.path ≠ .none && !(side = .sink && p.onRes) then p.refusePass e true
  else if p.canPass e side then
    { p with fe := { p.fe with path := side, fastPass := fast }, sluice := { p.sluice with fullEnh := false } }
    |>.start .gateLimit
  else p.refusePass e false

/-- VSET at duty zero (R144, R157); the integral starts from zero again (log entry 162), and a ramp ends with its DIS. -/
def vsetZero (p : Port) : Port :=
  { p with
    fe := { p.fe with dis := rampDisOff p.fe.dis },
    rg := { p.rg with target := 0, moving := 0, integ := 0, coldRamp := false, ramping := false, settling := false },
    vset := { p.vset with duty := 0#12 } }

/-- VSET ramps to a target in mV, at v_ss_slew on a cold pass and at SLEW otherwise (R110, R144). -/
def vsetRamp (mv : Nat) (cold : Bool) (p : Port) : Port :=
  { p with rg := { p.rg with target := mv, coldRamp := cold } }

/-- Discharge towards vSafe0V: not under a foreign VBUS, and released at VB_SAFE0 (R156). Those that call it see to it that
the port is no sink. -/
def discharge (p : Port) : Port :=
  if p.fe.foreign || p.cc.vbSafe0 then p
  else { p with fe := { p.fe with dis := .toSafe0 } }.start .vb0Wait

/-- DIS released. -/
def releaseDis (p : Port) : Port := { p with fe := { p.fe with dis := .off } }

/-- VCN to high impedance and VCONN_ON clear (R53, R55); the non-active CC shows its class of before (Table 2.7). -/
def vcnOff (p : Port) : Port :=
  let p := if p.cc.vconnOn then p.setLineCode false p.rg.savedOther else p
  { p with fe := { p.fe with vcnDriven := false }, cc := { p.cc with vconnOn := false } }.stop .vconnLow

/-- VCN driven on the non-active CC (R53), which shows it (Table 2.7). -/
def vcnOn (p : Port) : Port :=
  let p := if p.cc.vconnOn then p
           else { p with rg := { p.rg with savedOther := p.lineCode false } }.setLineCode false 6#3
  { p with fe := { p.fe with vcnDriven := true }, cc := { p.cc with vconnOn := true } }

/-- SLOW with AUTO = 1 and no explicit contract: 1.0 A, 1.65 A or 3.3 A by RP_LVL (Table 5.10). -/
def autoSlowIdle (p : Port) : Port :=
  if p.ilim.auto then
    let v : BitVec 8 := if p.cc.rpLvl = 0#2 then 20#8 else if p.cc.rpLvl = 1#2 then 33#8 else 66#8
    { p with ilim := { p.ilim with slow := v } }
  else p

/-- SLOW with AUTO = 1 for a contract current in mA: max(1.1 · CURR, CURR + 0.25 A) rounded up to 50 mA
(Table 5.10). -/
def autoSlowFor (ma : Nat) : BitVec 8 :=
  BitVec.ofNat 8 ((max (11 * ma) (10 * (ma + 250)) + 499) / 500)

/-- SLOW with AUTO = 1 at PP_DONE of a contract word (Table 5.10). -/
def slowFor (w : BitVec 29) (p : Port) : Port :=
  if p.ilim.auto then { p with ilim := { p.ilim with slow := autoSlowFor ((fld w 12 9).toNat * 10) } } else p

/-- SLOW with AUTO = 1 during the transition to a contract word: the higher of the old and the new value (Table 5.10). -/
def slowRaise (w : BitVec 29) (p : Port) : Port :=
  let v := autoSlowFor ((fld w 12 9).toNat * 10)
  if p.ilim.auto ∧ p.ilim.slow < v then { p with ilim := { p.ilim with slow := v } } else p

/-- P_ILIM is written; without an explicit contract AUTO sets SLOW (R170). -/
def writeIlim (w : Word) (p : Port) : Port :=
  let p := { p with ilim := p.ilim.write w }
  if p.contract.explicit then p else p.autoSlowIdle

/-- The contract is dropped: P_CONTRACT cleared and what was armed with it (R136, R110). -/
def clearContract (p : Port) : Port :=
  { p with
    contract := PContract.reset,
    rg := { p.rg with armed := none, ramping := false, settling := false, sinkContract := none, srcOffArmed := false,
                      snkOffArmed := false, srcOnWait := false, snkOnWait := false, srcOffRun := false, flip := false, inTrans := false,
                      frsSwap := false, accepted := false, asked := false, ending := false, prevVolt := 0, sinkVolt := 0, snkLevel := 3670 },
    vset := { p.vset with clActive := false } }
  |>.stopAll [.srcTrans, .ppTimeout, .psTransition, .psSourceOff, .psSourceOn, .roleFlip, .vconnSource, .clFloor]
  |>.autoSlowIdle

/-- The transmission in hand and every wait of the protocol layer end without an event (Table 3.12). A repeat of a
message that ends so is answered as failed (log entry 161). -/
def abortTx (p : Port) : Port :=
  let p := p.airEnd
  { p with
    rg := { p.rg with phase := .idle, tx := none, ownDue := [], asked := false, held := none, waiting := none, soft := none, rx := none,
                      rx1 := none,
                      retries := 0, chunk := 0#4, lastOk := p.rg.lastOk.or (some false),
                      lastOk1 := p.rg.lastOk1.or (some false) },
    pdstat := { p.pdstat with txPending := false } }
  |>.stopAll [.crcReceive, .sinkTx, .amsIdle, .response, .chunkRequest, .chunkResponse, .chunkResponse1, .softAccept]

/-- The protocol state of a session ends: MessageIDs, REV, collision avoidance, the AMS and BIST; PD_EN and MAX_REV
take their new values here (R70, R77, R95, R100). -/
def clearPd (p : Port) : Port :=
  let p := p.abortTx
  { p with
    rg := { p.rg with txId := 0#3, txId1 := 0#3, rxId := none, rxId1 := none, lastSeq := none, lastSeq1 := none,
                      lastOk := none, lastOk1 := none, rxFirst := false, bist := .off,
                      latchedPdEn := p.pdcfg.pdEn, latchedMaxRev := p.pdcfg.maxRev },
    pdstat := { p.pdstat with rev := 0#2, collAv := false, sinkTxOk := false, amsActive := false } }
  |>.stopAll [.bistCont, .psHardReset, .srcRecover, .hrComplete, .hrSink,
    .pd 1#4, .pd 2#4, .pd 3#4, .pd 4#4, .pd 5#4, .pd 6#4, .pd 7#4, .pd 8#4]

/-- P_PARTNER at a Hard Reset: only DOCK_MODE and FRS_ARMED clear (R137). -/
def partnerHardReset (p : Port) : Port :=
  { p with partner := { p.partner with dockMode := false, frsArmed := false }, fe := { p.fe with preBias := false } }

/-- FRS disarmed (R124). -/
def disarmFrs (p : Port) : Port :=
  { p with partner := { p.partner with frsArmed := false }, fe := { p.fe with preBias := false } }

/-- The states on the way from state Start to Attached.SNK, in which an attach under dead-battery Rd is still that
(R51). -/
def keepsDb (st : TcState) : Bool :=
  match st with
  | .attachWaitSnk | .trySrc | .tryWaitSnk | .trySnk => true
  | _ => false

/-- A Type-C state change: STATE and PREV_STATE move and the debounces of the state left end (R44, R68). -/
def toState (st : TcState) (p : Port) : Port :=
  { p with
    tc := { p.tc with state := st, prevState := p.tc.state, rpProbing := false },
    rg := { p.rg with ccMet := false, tryWindow := false, dbStart := p.rg.dbStart && keepsDb st } }
  |>.stopAll [.ccDebounce, .pdDebounce, .tryCcDebounce, .drpHalf, .drpTry, .tryTimeout, .errorRecovery, .srcDisconnect,
    .fdetWindow, .vbusOn]

/-- An unattached state is entered: the type fields take effect, probing by RP_PERIOD, and the DRP half starts (R47, R48,
R64). -/
def toUnattachedSt (st : TcState) (p : Port) : Port :=
  let p := p.latchCfg.toState st
  let p := { p with tc := { p.tc with rpProbing := p.cc.rpPeriod ≠ 0#4 } }
  if p.isDrp then p.start .drpHalf else p

/-- "Unattached" without a suffix (R44). -/
def toUnattached (p : Port) : Port :=
  p.toUnattachedSt (if p.latchCfg.typeOf = 0#2 then .unattachedSrc else .unattachedSnk)

/-- The end of an attach: TC_DETACH once when it was announced, and DETACH_CAUSE in every case (R495). -/
def endAttach (cause : BitVec 3) (p : Port) : Port :=
  let p := { p with tc := { p.tc with detachCause := cause, dbAttach := false } }
  if p.rg.announced then
    { p with rg := { p.rg with announced := false } }.post .tcDetach (pay 0 cause)
  else p

/-- A detach on a CC path ends the breach window and LOCKOUT (R150, R152). -/
def ccPathClear (p : Port) : Port :=
  { p with trip := { p.trip with winCnt := 0#4 }, sluice := { p.sluice with lockout := false } }.stop .breachWindow

/-- The counters that a detach in the sense of R96 clears: HR_COUNT, ER_COUNT and GIVEUP (R96, R97). -/
def ladderClear (p : Port) : Port :=
  { p with pdstat := { p.pdstat with hrCount := 0#2, erCount := 0#4, giveup := false } }.stop .noResponse

/-- The gauge state that a port's contract and role give; a transition that is done has its contract (Table 7.1). -/
def gaugeState (p : Port) : BitVec 2 :=
  if p.tc.state = .attachedSnk then 3#2
  else if p.tc.state = .attachedSrc then
    if (p.contract.explicit || p.rg.ending) && fld p.contract.contract 25 2 ≠ 0#2 && p.partner.dockMode then 2#2 else 1#2
  else 0#2

/-- The gauge state follows the contract and role: at an attach, PP_DONE, the end of a swap and a Hard Reset (R199). -/
def gaugeMark (p : Port) : Port := { p with gs := p.gaugeState }

/-- What the serving core keeps for a session ends with it: p_share is 2.5 W again. The running TX_SEQ count stays,
and the DisplayPort mode until it is left (R63, R76, R129, R189). -/
def roleEnd (p : Port) : Port :=
  { p with role := { RoleState.init with seqCount := p.role.seqCount, flags := p.role.flags,
                                         breach := p.role.breach, dpState := p.role.dpState, pin := p.role.pin,
                                         hpd := p.role.hpd } }
  |>.stop .identBound

/-- The role state of a port that the serving core rebuilds from the port's registers: what they do not show starts again, and a
Soft_Reset is due. The share is the allocator's, and stays (Table 9.7, log entry 211). -/
def roleRebuilt (p : Port) : Port :=
  let a := p.alt
  let seq := (p.stg.words[1]?).getD 0#36
  let epr := decide (20000 < 20 * (fld p.contract.contract 0 12).toNat)
  { p with role := { RoleState.init with
      share := p.role.share, divided := p.role.divided, seqCount := if bit seq 7 then fld seq 0 7 + 1#7 else 0#7, eprMode := epr, eprAsk := epr,
      offered := p.contract.explicit, cableEnded := p.partner.cableKnown, dockDone := p.partner.dockMode || p.partner.identDone,
      dpState := a.dpState, pin := a.pinAssign, hpd := a.hpd, dpDone := a.dpState ≠ 0#2, softDue := true,
      breach := if p.sluice.latched then some p.trip.first else none } }
  |>.stop .identBound

/-- What the serving core keeps for a session at a Hard Reset: what it knows of the cable, of the DisplayPort mode until it is
left, and of an identified pack (R116, R129, R132, R137). -/
def roleHardReset (p : Port) : Port :=
  let r := p.role
  let known := p.partner.identDone
  { p with role := { RoleState.init with
      share := r.share, divided := r.divided, seqCount := r.seqCount, capsCount := r.capsCount, cableTries := r.cableTries,
      cableEnded := r.cableEnded, breach := r.breach, flags := r.flags, feed := r.feed, dpState := r.dpState, pin := r.pin,
      hpd := r.hpd, idSerial := if known then r.idSerial else [], idMfg := if known then r.idMfg else [],
      idCap := if known then r.idCap else [] } }
  |>.stop .identBound

/-- What an end of a session clears beside the contract and the protocol state: P_PARTNER, POLARITY, the Hard Reset and the
fast-detach detector (R51, R60, R66, R137). -/
def sessionClear (p : Port) : Port :=
  { p with
    partner := PPartner.reset,
    cc := { p.cc with polarity := false },
    rg := { p.rg with rise := .none, hr := .idle, fdet := false, noFirstPass := false, meas := false },
    fe := { p.fe with fdetLatch := false, fdetBlank := false, preBias := false },
    pdstat := { p.pdstat with vbMask := false, hrActive := false } }

/-- What every end of a session does: the sluice holds, VSET goes to zero, VCN goes off, the contract and P_PARTNER
are cleared and the protocol state ends (R59, R63, R136, R137). -/
def endSession (p : Port) : Port :=
  let held := p.airEnd.hold.vsetZero.vcnOff
  (if p.sinkSide then held else held.discharge).sessionClear.clearContract.clearPd.roleEnd

/-- Detach with its cause: hold, VCN off, discharge, TC_DETACH, Unattached, in the order of R59. -/
def detach (cause : BitVec 3) (p : Port) : Port :=
  let p := p.endSession.ladderClear
  let p := if cause = 1#3 || cause = 2#3 || cause = 3#3 then p.ccPathClear else p
  (p.endAttach cause).toUnattached

/-- Entry to ErrorRecovery: both lines open, sluice holding, discharge, HR_COUNT to zero; ER_COUNT and GIVEUP are
kept (Table 2.3, R95, R96). -/
def toErrorRecovery (p : Port) : Port :=
  let p := p.endSession.stop .noResponse
  let p := { p with pdstat := { p.pdstat with hrCount := 0#2 } }
  ((p.endAttach 7#3).toState .errorRecovery).start .errorRecovery

/-- Entry to Disabled with a cause (R64, R65); a port that is Disabled already takes the cause. A port that was no sink
with its path passing discharges (R64, R156, log entry 106). -/
def toDisabled (cause : BitVec 3) (p : Port) : Port :=
  if p.tc.state = .disabled then { p with tc := { p.tc with detachCause := cause } }
  else
    let src := p.tc.state ≠ .attachedSnk
    let p := p.endSession.ladderClear
    let p := if src then p.discharge else p
    (p.endAttach cause).toState .disabled

/-- The lowest code of a list of breaches, for FIRST when several arise at once (R150). -/
def firstCode (old new : BitVec 4) : BitVec 4 := if old = 0#4 then new else old

/-- Record a breach in P_TRIP and P_SLUICE (R150, R152): the bit, FIRST, WIN_CNT, BREACH_TOTAL, the latch, and LOCKOUT
on the breach that brings WIN_CNT to 3 on a class-B or class-C port. -/
def recordBreach (e : Env) (b : Breach) (p : Port) : Port :=
  let win := satInc p.trip.winCnt
  { p with
    trip := { p.trip with
      breach := p.trip.breach ||| (1#9 <<< (b.code.toNat - 1)),
      first := if p.sluice.latched then p.trip.first else b.code,
      winCnt := win,
      breachTotal := satInc p.trip.breachTotal },
    sluice := { p.sluice with latched := true, lockout := p.sluice.lockout || decide (win = 3#4 ∧ e.cls ≠ SvcClass.a) },
    fe := { p.fe with breachMark := true, cond := if b.momentary ∨ b ∈ p.fe.cond then p.fe.cond else b :: p.fe.cond } }
  |>.start .breachWindow

/-- SL_BREACH is written by the region, or left for the region that takes the port over (R151). -/
def reportBreach (e : Env) (b : Breach) (p : Port) : Port :=
  if e.regionUp then p.post .slBreach (pay 0 b.code)
  else { p with fe := { p.fe with reports := p.fe.reports ++ [b] } }

/-- A breach of Table 5.3: recorded and latched, the pairs hold, and the front-end action of its row (R148). -/
def breach (e : Env) (b : Breach) (p : Port) : Port :=
  let wasSrc := p.fe.path = .source
  let src := !p.sinkSide
  let p := (p.recordBreach e b).hold
  let p := match b with
    | .ccShort =>
      let p := { p with fe := { p.fe with ccIsolated := true } }.vcnOff.vsetZero
      if src then p.discharge else p
    | .ovp | .ocFast | .ocSlow => if wasSrc then p.vsetZero.discharge else p
    | .rev => p.vsetZero
    | .gate => if src then p.vsetZero.discharge else p.vsetZero
    | .otpDie | .otpNtc | .vgdLow => p
  let p := p.reportBreach e b
  if b = .ccShort ∧ e.regionUp ∧ p.tc.state ≠ .errorRecovery ∧ p.tc.state ≠ .disabled then p.toErrorRecovery else p

/-- P_SLUICE.CLEAR clears the latch only after the condition has ended and while LOCKOUT is clear (R29, R152). The
CC PHY is joined again with the latch. -/
def clearBreach (p : Port) : Port :=
  if p.sluice.latched && p.fe.cond.isEmpty && !p.sluice.lockout then
    { p with sluice := { p.sluice with latched := false }, fe := { p.fe with ccIsolated := false } }
  else p

/-- The sluice goes to holding by an outside line (shed, heartbeat, VGD): no latch, no DIS (R30, R32, R147). -/
def holdBy (p : Port) : Port := p.hold

/-- v_ovp in mV (R148): factor · max(moving target, contract voltage, 5.0 V) + offset, at most the cap, with the values
of the parameter set in force (R238; 1.10, 0.5 V and 55.0 V as delivered). As sink the
moving target counts 0 and the contract voltage is that of the last sink TRANSITION. -/
def vOvp (p : Port) : Nat :=
  let m := if p.tc.state = .attachedSnk then p.rg.sinkVolt
           else max p.rg.moving ((fld p.contract.contract 0 12).toNat * 20)
  min (p.fe.set.ovpCap * 10) ((max m 5000) * p.fe.set.ovpFactor / 1000 + p.fe.set.ovpOffset * 10)

/-- The Type-C power role of the termination presented: Rp is source. -/
def isSource (p : Port) : Bool := p.tc.state = .attachedSrc

/-- The specification revision served is 3.x. -/
def rev3 (p : Port) : Bool := p.pdstat.rev = 2#2

end Port

end Sys2Proof.Machine
end

