-- ==== Sys2Proof/Machine/Sha256.lean ====
section
/-! DEFINITION. The functions of the crypto engine and of the checks over bytes: SHA-256, HMAC-SHA-256 and the CRC-32
of spec/03_pd_protocol.md R71. The spec names SHA-256 and HMAC and leaves their definition to the standards, from
which they are taken here (log entry 13). -/

namespace Sys2Proof.Machine

/-- The constants of the 64 rounds of SHA-256, first half. -/
def shaK0 : List Word :=
  [0x428a2f98#32, 0x71374491#32, 0xb5c0fbcf#32, 0xe9b5dba5#32, 0x3956c25b#32, 0x59f111f1#32, 0x923f82a4#32,
   0xab1c5ed5#32, 0xd807aa98#32, 0x12835b01#32, 0x243185be#32, 0x550c7dc3#32, 0x72be5d74#32, 0x80deb1fe#32,
   0x9bdc06a7#32, 0xc19bf174#32, 0xe49b69c1#32, 0xefbe4786#32, 0x0fc19dc6#32, 0x240ca1cc#32, 0x2de92c6f#32,
   0x4a7484aa#32, 0x5cb0a9dc#32, 0x76f988da#32, 0x983e5152#32, 0xa831c66d#32, 0xb00327c8#32, 0xbf597fc7#32,
   0xc6e00bf3#32, 0xd5a79147#32, 0x06ca6351#32, 0x14292967#32]

/-- The constants of the 64 rounds of SHA-256, second half. -/
def shaK1 : List Word :=
  [0x27b70a85#32, 0x2e1b2138#32, 0x4d2c6dfc#32, 0x53380d13#32, 0x650a7354#32, 0x766a0abb#32, 0x81c2c92e#32,
   0x92722c85#32, 0xa2bfe8a1#32, 0xa81a664b#32, 0xc24b8b70#32, 0xc76c51a3#32, 0xd192e819#32, 0xd6990624#32,
   0xf40e3585#32, 0x106aa070#32, 0x19a4c116#32, 0x1e376c08#32, 0x2748774c#32, 0x34b0bcb5#32, 0x391c0cb3#32,
   0x4ed8aa4a#32, 0x5b9cca4f#32, 0x682e6ff3#32, 0x748f82ee#32, 0x78a5636f#32, 0x84c87814#32, 0x8cc70208#32,
   0x90befffa#32, 0xa4506ceb#32, 0xbef9a3f7#32, 0xc67178f2#32]

/-- The eight working words of SHA-256. -/
structure Sha where
  a : Word
  b : Word
  c : Word
  d : Word
  e : Word
  f : Word
  g : Word
  h : Word
deriving DecidableEq, Repr

/-- The initial hash value. -/
def Sha.init : Sha :=
  { a := 0x6a09e667#32, b := 0xbb67ae85#32, c := 0x3c6ef372#32, d := 0xa54ff53a#32,
    e := 0x510e527f#32, f := 0x9b05688c#32, g := 0x1f83d9ab#32, h := 0x5be0cd19#32 }

/-- One round, with its constant and message word. -/
def Sha.round (s : Sha) (k w : Word) : Sha :=
  let s1 := s.e.rotateRight 6 ^^^ s.e.rotateRight 11 ^^^ s.e.rotateRight 25
  let ch := (s.e &&& s.f) ^^^ (~~~s.e &&& s.g)
  let t1 := s.h + s1 + ch + k + w
  let s0 := s.a.rotateRight 2 ^^^ s.a.rotateRight 13 ^^^ s.a.rotateRight 22
  let maj := (s.a &&& s.b) ^^^ (s.a &&& s.c) ^^^ (s.b &&& s.c)
  { a := t1 + s0 + maj, b := s.a, c := s.b, d := s.c, e := s.d + t1, f := s.e, g := s.f, h := s.g }

/-- The message schedule, newest word first. -/
def shaSchedule : Nat → List Word → List Word
  | 0, ws => ws
  | n + 1, ws =>
    let at' (i : Nat) : Word := ws.getD i 0#32
    let s0 := (at' 14).rotateRight 7 ^^^ (at' 14).rotateRight 18 ^^^ (at' 14 >>> 3)
    let s1 := (at' 1).rotateRight 17 ^^^ (at' 1).rotateRight 19 ^^^ (at' 1 >>> 10)
    shaSchedule n ((at' 15 + s0 + at' 6 + s1) :: ws)

/-- One block of 16 words. -/
def Sha.block (s : Sha) (ws : List Word) : Sha :=
  let sched := (shaSchedule 48 ws.reverse).reverse
  let t := ((shaK0 ++ shaK1).zip sched).foldl (fun t kw => t.round kw.1 kw.2) s
  { a := s.a + t.a, b := s.b + t.b, c := s.c + t.c, d := s.d + t.d,
    e := s.e + t.e, f := s.f + t.f, g := s.g + t.g, h := s.h + t.h }

/-- Big-endian words of bytes. -/
def beWords : List Byte → List Word
  | a :: b :: c :: d :: rest =>
    (a.setWidth 32 <<< 24 ||| b.setWidth 32 <<< 16 ||| c.setWidth 32 <<< 8 ||| d.setWidth 32) :: beWords rest
  | _ => []

/-- Blocks of 16 words, `n` of them. -/
def shaBlocks : Nat → List Word → Sha → Sha
  | 0, _, s => s
  | n + 1, ws, s => shaBlocks n (ws.drop 16) (s.block (ws.take 16))

/-- The padding of SHA-256: 0x80, zeros, and the length in bits in 8 bytes. -/
def shaPad (bs : List Byte) : List Byte :=
  let z := (119 - bs.length % 64) % 64
  let n := bs.length * 8
  bs ++ [0x80#8] ++ List.replicate z 0#8 ++ beBytes (BitVec.ofNat 32 (n / 4294967296)) ++ beBytes (BitVec.ofNat 32 n)

/-- SHA-256 over bytes: 32 bytes. -/
def sha256 (bs : List Byte) : List Byte :=
  let ws := beWords (shaPad bs)
  let s := shaBlocks (ws.length / 16) ws Sha.init
  [s.a, s.b, s.c, s.d, s.e, s.f, s.g, s.h].flatMap beBytes

/-- HMAC-SHA-256 with a key of at most 64 bytes. -/
def hmacSha256 (key msg : List Byte) : List Byte :=
  let k := key ++ List.replicate (64 - key.length) 0#8
  sha256 (k.map (· ^^^ 0x5c#8) ++ sha256 (k.map (· ^^^ 0x36#8) ++ msg))

/-- One byte into a reflected CRC of polynomial `poly`, `n` bits to go. -/
def crcBits {k : Nat} (poly : BitVec k) : Nat → BitVec k → BitVec k
  | 0, c => c
  | n + 1, c => crcBits poly n (if c.getLsbD 0 then (c >>> 1) ^^^ poly else c >>> 1)

/-- The CRC-32 of R71: polynomial 0x04C11DB7, reflected, initial value and final exclusive-or all ones. -/
def crc32 (bs : List Byte) : Word :=
  ~~~(bs.foldl (fun c b => crcBits 0xEDB88320#32 8 (c ^^^ b.setWidth 32)) 0xFFFFFFFF#32)

end Sys2Proof.Machine
end

