-- ==== Sys2Proof/Machine/SymCode.lean ====
section
/-! DEFINITION. The symbol code that protects every on-chip store: GF(16) on x⁴ + x + 1, the columns of H, the check
symbols, the syndrome, and what a read does with it (spec/01_architecture.md R19, R20). -/

namespace Sys2Proof.Machine

/-- A symbol: an element of GF(16). -/
abbrev Sym := BitVec 4

/-- Multiplication by x in GF(16) on x⁴ + x + 1. -/
def gfDouble (a : Sym) : Sym := (a <<< 1) ^^^ (if a.getLsbD 3 then 3#4 else 0#4)

/-- Multiplication in GF(16) (R19). -/
def gfMul (a b : Sym) : Sym :=
  let t (i : Nat) (v : Sym) : Sym := if b.getLsbD i then v else 0#4
  let a1 := gfDouble a
  let a2 := gfDouble a1
  t 0 a ^^^ t 1 a1 ^^^ t 2 a2 ^^^ t 3 (gfDouble a2)

/-- A column of H, four rows; with r = 3 the fourth row is zero and is not stored (Table 1.11). -/
structure HCol where
  h0 : Sym
  h1 : Sym
  h2 : Sym
  h3 : Sym
deriving DecidableEq, Repr

/-- The column (1, e(j), e(j)², last). -/
def HCol.power (j : Nat) (last : Sym) : HCol :=
  let e : Sym := BitVec.ofNat 4 j
  { h0 := 1#4, h1 := e, h2 := gfMul e e, h3 := last }

/-- The column of data symbol d_i (Table 1.11). -/
def HCol.data (i : Nat) : HCol :=
  if i ≤ 14 then HCol.power (i + 1) 0#4
  else if i ≤ 29 then HCol.power (i - 14) 1#4
  else if i = 30 then { h0 := 0#4, h1 := 1#4, h2 := 0#4, h3 := 1#4 }
  else { h0 := 0#4, h1 := 0#4, h2 := 1#4, h3 := 1#4 }

/-- The column of check symbol c_k: the k-th unit column, and (1, 0, 0, 1) for c_3 (Table 1.11). -/
def HCol.check : Nat → HCol
  | 0 => { h0 := 1#4, h1 := 0#4, h2 := 0#4, h3 := 0#4 }
  | 1 => { h0 := 0#4, h1 := 1#4, h2 := 0#4, h3 := 0#4 }
  | 2 => { h0 := 0#4, h1 := 0#4, h2 := 1#4, h3 := 0#4 }
  | _ => { h0 := 1#4, h1 := 0#4, h2 := 0#4, h3 := 1#4 }

/-- v · h. -/
def HCol.scale (v : Sym) (h : HCol) : HCol :=
  { h0 := gfMul v h.h0, h1 := gfMul v h.h1, h2 := gfMul v h.h2, h3 := gfMul v h.h3 }

/-- Sum of two columns. -/
def HCol.add (a b : HCol) : HCol :=
  { h0 := a.h0 ^^^ b.h0, h1 := a.h1 ^^^ b.h1, h2 := a.h2 ^^^ b.h2, h3 := a.h3 ^^^ b.h3 }

/-- The zero column. -/
def HCol.zero : HCol := { h0 := 0#4, h1 := 0#4, h2 := 0#4, h3 := 0#4 }

/-- Symbol i of a row. -/
def symAt {n : Nat} (w : BitVec n) (i : Nat) : Sym := fld w (4 * i) 4

/-- Σ d_i · h_i over the `nd` data symbols of a row (R19). -/
def dataSum {n : Nat} (w : BitVec n) : Nat → HCol
  | 0 => HCol.zero
  | i + 1 => (dataSum w i).add ((HCol.data i).scale (symAt w i))

/-- The check symbols of a data word of `nd` symbols, as one field of 4·r bits (R19). -/
def checkField (r : Nat) (s : HCol) : BitVec (4 * r) :=
  let c0 : Sym := if r = 4 then s.h0 ^^^ s.h3 else s.h0
  (c0.setWidth (4 * r)) ||| (s.h1.setWidth (4 * r) <<< 4) ||| (s.h2.setWidth (4 * r) <<< 8) |||
    (s.h3.setWidth (4 * r) <<< 12)

/-- A stored row: the data in its low bits, the check symbols above them (Table 1.10). -/
def rowEncode (nd r : Nat) (d : BitVec (4 * nd)) : BitVec (4 * nd + 4 * r) :=
  d.setWidth (4 * nd + 4 * r) ||| ((checkField r (dataSum d nd)).setWidth (4 * nd + 4 * r) <<< (4 * nd))

/-- The column of symbol j of a row: the data symbols, then the check symbols (R19). -/
def HCol.ofRow (nd j : Nat) : HCol := if j < nd then HCol.data j else HCol.check (j - nd)

/-- The syndrome H·x of a row as read (R20). -/
def syndrome (nd r : Nat) (row : BitVec (4 * nd + 4 * r)) : HCol :=
  (List.range (nd + r)).foldl (fun s j => s.add ((HCol.ofRow nd j).scale (symAt row j))) HCol.zero

/-- What a read finds (R20): the row as read, the row with one symbol corrected, or no value. -/
inductive RowRead (n : Nat) where
  | clean (row : BitVec n)
  | corrected (row : BitVec n)
  | bad
deriving DecidableEq, Repr

/-- The read of a protected row (R20): one bad symbol j of value v when the syndrome is v · h_j. -/
def rowRead (nd r : Nat) (row : BitVec (4 * nd + 4 * r)) : RowRead (4 * nd + 4 * r) :=
  let s := syndrome nd r row
  if s = HCol.zero then .clean row
  else
    let cands := (List.range (nd + r)).flatMap fun j => (List.range 15).map fun v => (j, (BitVec.ofNat 4 (v + 1) : Sym))
    match cands.find? fun jv => (HCol.ofRow nd jv.1).scale jv.2 = s with
    | some (j, v) => .corrected (row ^^^ (v.setWidth (4 * nd + 4 * r) <<< (4 * j)))
    | none => .bad

/-- How many bad symbols a read finds: none, one that it corrects, or more (R20). -/
inductive Found where
  | clean | one | many
deriving DecidableEq, Repr

/-- The finding of a read of data `d` whose stored row differs from its codeword by `upset`. -/
def foundIn (nd r : Nat) (d : BitVec (4 * nd)) (upset : BitVec (4 * nd + 4 * r)) : Found :=
  match rowRead nd r (rowEncode nd r d ^^^ upset) with
  | .clean _ => .clean
  | .corrected _ => .one
  | .bad => .many

/-- By how much a read of a row differs from the data that was stored, when the stored row has changed by `upset`: by nothing
after a correction of the one bad symbol, and, where an error in three or more symbols is taken for none or for another
one, by what stands or by what the correction makes of it (R20). The code is linear, so the data does not matter. -/
def slip (nd r : Nat) (upset : BitVec (4 * nd + 4 * r)) : BitVec (4 * nd) :=
  match rowRead nd r upset with
  | .clean x => x.setWidth (4 * nd)
  | .corrected x => x.setWidth (4 * nd)
  | .bad => 0#(4 * nd)

end Sys2Proof.Machine
end

