-- ==== Sys2Proof/Machine/BlockState.lean ====
section
/-! DEFINITION. What the blocks beside the ports, the fabric and the cores hold: the budget (spec/06_classes_budget.md),
the gauge (spec/07_knaser_gauge.md), the links and the tree (spec/12_ndomund_link.md), the two-wire interfaces
(spec/13_two_wire.md), the fuse array (spec/15_fuses_secure_start.md) and the flash with the update
(spec/17_flash_update.md). -/

namespace Sys2Proof.Machine

-- Budget

/-- The inputs of an allocator run, taken at its tick (R188, Table 6.8). -/
structure AllocIn where
  ship : BitVec 20
  lim : Vector (BitVec 20) 32
  cap : Vector (BitVec 20) 32
  floor : BgFloor
  demand : List (BitVec 6 × List Demand)
  tLease : BitVec 12
  time : BitVec 48
deriving DecidableEq, Repr

/-- The budget block: its registers, the allocator memory and the agent's lease (R186 to R193). -/
structure Budget where
  stat : BgStat
  cfg : BgCfg
  shipLim : BitVec 20
  floor : BgFloor
  islandW : BitVec 16
  lease : BgLease
  latA : BgLat
  latB : BgLat
  latC : BgLat
  feedLim : Vector (BitVec 20) 32
  feedCap : Vector (BitVec 20) 32
  feedGrant : Vector (BitVec 20) 32
  demand : List (BitVec 6 × List Demand) -- demand reports by worker address
  run : Option AllocIn                   -- the allocator run in progress
  grants : List Grant                    -- the lease in force, or the device's own grants
  leaseTime : BitVec 48                  -- the issue time of the lease in force (R191)
  floorNow : BgFloor                     -- the floors of the last tick (Tables 6.5 and 6.8)
deriving DecidableEq, Repr

/-- The budget block after POR (Table 6.11). -/
def Budget.reset : Budget where
  stat := BgStat.reset
  cfg := BgCfg.reset
  shipLim := 0xFFFFF#20
  floor := BgFloor.reset
  islandW := 0#16
  lease := BgLease.reset
  latA := BgLat.reset
  latB := BgLat.reset
  latC := BgLat.reset
  feedLim := Vector.replicate 32 0xFFFFF#20
  feedCap := Vector.replicate 32 0xFFFFF#20
  feedGrant := Vector.replicate 32 0#20
  demand := []
  run := none
  grants := []
  leaseTime := 0#48
  floorNow := BgFloor.reset

-- Bundle

/-- The revision statement of a bundle: USB Type-C release, USB PD revision and the version within it (R4, Table 8.7). -/
structure Revisions where
  typeC : BitVec 8
  pdRev : BitVec 8
  pdVer : BitVec 8
deriving DecidableEq, Repr

-- Gauge

/-- A learned-data record (R217, Table 7.5). -/
structure GaugeRec where
  used : Bool              -- a pack record in use; a dock record always is
  digest : BitVec 32
  cap : BitVec 16          -- mAh
  learned : Bool
  suspect : Bool
  stale : Bool
  cycles : BitVec 16
  since : Rat              -- cell charge since the last cycle advance, in mAh
  spanTime : BitVec 32     -- tree time of the last good span, in s
  imp : Vector (BitVec 16) 64 -- band-major: [11:0] 0.5 mΩ, [15:12] count
  changed : Bool           -- differs from its last committed slot
  due : Bool               -- a commit is due (R220)
  age : Nat                -- attach count at its last attach
deriving DecidableEq, Repr

/-- A record of design values: nothing learned. -/
def GaugeRec.init : GaugeRec where
  used := false
  digest := 0#32
  cap := 0#16
  learned := false
  suspect := false
  stale := false
  cycles := 0#16
  since := 0
  spanTime := 0#32
  imp := Vector.replicate 64 0#16
  changed := false
  due := false
  age := 0

/-- The pack limits of an attach, in mV and mA (Table 7.3). -/
structure PackLimits where
  vFull : Nat
  vMin : Nat
  taperLo : Nat
  taperHi : Nat
deriving DecidableEq, Repr

/-- The state of a gauged slot over one attach (R199 to R216). -/
structure GaugeSlot where
  port : Option (Fin 192)    -- the port served, latched until its detach (R198)
  cells : BitVec 4
  table : BitVec 3
  state : BitVec 2           -- Table 7.1
  lastIdx : Option (BitVec 16)
  lastAcc : Option (BitVec 36)
  q : Rat                    -- cell charge counted since attach, in mAh
  anchor : Option (Rat × Rat) -- soc_a as a fraction, and q_a
  src : BitVec 2             -- SOC_SRC
  soc : Rat
  full : BitVec 2            -- END
  conflict : Bool
  rest : Bool
  quiet : Bool
  tempPack : Option Int      -- pack temperature in 0.1 °C
  point : Option (Rat × Rat) -- the newest rest point of the attach: SoC and count
  pointClean : Bool          -- no SOURCING, COUNT or breach since it (R210)
  limitsAsked : Bool         -- GET_LIMITS has been sent in the attach
  last8 : List (Int × Int)   -- VB in 10 mV and IBUS in mA of the last 8 groups, newest first
  lastProc : Option (BitVec 16) -- the sample index of the last group processed whole (R203)
  endIdx : Option (BitVec 16) -- the sample index at an end of charge, until the next group (R222)
  suspectDue : Bool          -- an anchor has ended a conflict before the owner was known (R214)
  lastQuiet : Bool           -- the last group came at the reduced rate
  limits : Option PackLimits
  owner : Option (Bool × Fin 64) -- pack record, or the dock record of the slot
  identified : Bool          -- IDENT_DONE taken
  pre : Rat                  -- charge into the pack counted before the owner was known
  phase8 : Nat               -- groups taken since the last processed one under 8 Hz (R203)
deriving DecidableEq, Repr

/-- A slot that serves nothing. -/
def GaugeSlot.off : GaugeSlot where
  port := none
  cells := 0#4
  table := 0#3
  state := 0#2
  lastIdx := none
  lastAcc := none
  q := 0
  anchor := none
  src := 0#2
  soc := 0
  full := 0#2
  conflict := false
  rest := false
  quiet := false
  tempPack := none
  point := none
  pointClean := false
  limitsAsked := false
  last8 := []
  lastProc := none
  endIdx := none
  suspectDue := false
  lastQuiet := false
  limits := none
  owner := none
  identified := false
  pre := 0
  phase8 := 0

/-- One OCV table: nominal cell voltage, then 21 open-circuit voltages at 0 % to 100 %, in mV (R206). -/
structure OcvTable where
  nominal : Nat
  ocv : List Nat
deriving DecidableEq, Repr

/-- The gauge block (R197 to R225). -/
structure Gauge where
  stat : KgStat
  cur : KgCur
  time : KgTime
  learn : KgLearn
  curNow : KgCur             -- the parameters in force: those of the last group processed (R225)
  timeNow : KgTime
  learnNow : KgLearn
  jstat : KgJstat
  cfg : Vector KgSlot 48
  slots : Vector GaugeSlot 48
  dock : Vector GaugeRec 48
  packs : Vector GaugeRec 64
  tables : List OcvTable     -- the gauge tables of the running bundle
  attaches : Nat             -- attaches counted, for the least recently attached record
deriving DecidableEq, Repr

/-- The gauge after POR (Table 7.11). -/
def Gauge.reset : Gauge where
  stat := KgStat.reset
  cur := KgCur.reset
  time := KgTime.reset
  learn := KgLearn.reset
  curNow := KgCur.reset
  timeNow := KgTime.reset
  learnNow := KgLearn.reset
  jstat := KgJstat.reset
  cfg := Vector.replicate 48 KgSlot.reset
  slots := Vector.replicate 48 GaugeSlot.off
  dock := Vector.replicate 48 { GaugeRec.init with used := true }
  packs := Vector.replicate 64 GaugeRec.init
  tables := []
  attaches := 0

-- Link

/-- A cell that carries a message fragment (Table 12.2); its SEQ is numbered hop by hop. -/
structure Cell where
  bulk : Bool
  dest : BitVec 6
  bcast : Bool
  src : BitVec 6
  typ : BitVec 8
  frag : BitVec 7
  last : Bool
  body : List Byte      -- 22 bytes
deriving DecidableEq, Repr

/-- A control cell of a link. The spec names them and gives their content, not their bytes (log entry 20). -/
inductive Ctl where
  | hello
  | auth1 (up : Bool) (serial : BitVec 64) (nonce : BitVec 128)
  | auth2 (mac : List Byte)
  | ack (a b : BitVec 12) (creditA creditB : Nat)
  | nak (bulk : Bool) (seq : BitVec 12)
  | sync (t1 : BitVec 64)
  | delayReq
  | delayRsp (t4 : BitVec 64)
deriving DecidableEq, Repr

/-- What a link port sent in a slot: a control cell with its bytes 0 to 3 (Table 12.2), or the 32 bytes of a cell. -/
inductive TxCell where
  | ctl (head : List Byte) (c : Ctl)
  | cell (bytes : List Byte)
deriving DecidableEq, Repr

/-- One class of one link: the sender's and the receiver's side of the reliable hop (R348). -/
structure Hop where
  txSeq : BitVec 12                 -- SEQ of the next new cell
  unacked : List (BitVec 12 × Nat × Cell) -- oldest first, at most 16, each with the times it has been sent
  sent : Nat                        -- how many of them have been sent in the present round
  credit : Nat                      -- the receiver's last reported credit
  fwd : List (Cell × BitVec 16)     -- cells to forward, with the own queue's write count at their arrival
  outbox : List Cell                -- fragments that core 13 or 12 has not yet put into the queue
  rxNext : BitVec 12
  naked : Bool                      -- the gap in hand has been answered with NAK
  buffer : List Cell                -- received cells that wait for room in the queue
deriving DecidableEq, Repr

/-- A hop at the entry to UP: SEQ 0, the full credit of 16 buffers. -/
def Hop.init : Hop where
  txSeq := 0#12
  unacked := []
  sent := 0
  credit := 16
  fwd := []
  outbox := []
  rxNext := 0#12
  naked := false
  buffer := []

/-- What the last beacon of a port said (R352, R354). -/
structure BeaconSeen where
  term : BitVec 8
  serial : BitVec 64
  depth : Nat          -- depth through this port
  loop : Bool          -- its path holds the own address
  time : BitVec 48
deriving DecidableEq, Repr

/-- One link port (R339 to R348). -/
structure LinkPort where
  ctrl : LkCtrl
  stat : LkStat
  err : LkErr
  only40 : Bool             -- sent back to RATE for 40 Mbit/s only (R342)
  eqViol : List Nat         -- code violations of the equaliser trials so far, setting 0 first
  nonce : BitVec 128
  peerNonce : Option (BitVec 128)
  peerSerial : BitVec 64
  authOk : Bool             -- the peer's AUTH2 matched
  authRun : Nat             -- consecutive failures of AUTH (R343)
  syncLeft : Nat            -- time exchanges still due in SYNC
  ctl : List Ctl            -- control cells that wait
  ctlJust : Bool            -- the last slot carried a control cell (R347)
  last : Option TxCell      -- what the last slot carried
  hopA : Hop
  hopB : Hop
  subtree : List (BitVec 6) -- addresses learned by TOPO (R353)
  beacon : Option BeaconSeen
  t1 : BitVec 64            -- stamps of the exchange in hand (R355)
  t2 : BitVec 64
deriving DecidableEq, Repr

/-- A link port after POR. -/
def LinkPort.reset : LinkPort where
  ctrl := LkCtrl.reset
  stat := LkStat.reset
  err := LkErr.reset
  only40 := false
  eqViol := []
  nonce := 0#128
  peerNonce := none
  peerSerial := 0#64
  authOk := false
  authRun := 0
  syncLeft := 0
  ctl := []
  ctlJust := false
  last := none
  hopA := Hop.init
  hopB := Hop.init
  subtree := []
  beacon := none
  t1 := 0#64
  t2 := 0#64

/-- A message that core 13 is putting together: source, class, port and the bytes so far (R349). -/
structure Partial where
  src : BitVec 6
  bulk : Bool
  port : Fin 4
  typ : BitVec 8
  next : Nat
  bytes : List Byte
deriving DecidableEq, Repr

/-- The links and the tree (R339 to R364). -/
structure Link where
  ports : Vector LinkPort 4
  cfg : LkCfg
  tree : LkTree
  time : LkTime
  clock : BitVec 64                   -- tree time in 5 ns
  firstSync : Bool                    -- no exchange has been applied since POR (R355)
  mgrSerial : BitVec 64               -- serial of the manager followed
  reqAddr : BitVec 6                  -- address requested in TOPO (R351)
  table : List (BitVec 64 × BitVec 6) -- addresses held by serials
  workers : List (BitVec 6 × Bool)    -- workers that have sent TOPO, with their DEPUTY strap
  highTerm : BitVec 8                 -- highest term seen
  copy : Option StateCopy
  copyFresh : Bool                    -- a STATE_COPY has come since the last LEASE (R357)
  lostRoot : Option (Fin 4)           -- the root port that went DOWN and has no successor yet (R354)
  parts : List Partial
  life : List (BitVec 6 × List Byte)  -- LIFE messages by source
  logs : List (BitVec 6 × List Byte)  -- LOG records received, the last of each source
  remSel : RemSel
  remAddr : RemAddr
  remData : BitVec 32
  remStat : RemStat
  remTag : BitVec 8
  remWr : Bool                        -- the access in progress is a write (R360)
deriving DecidableEq, Repr

/-- The links after POR (Tables 12.7 to 12.9). -/
def Link.reset : Link where
  ports := Vector.replicate 4 LinkPort.reset
  cfg := LkCfg.reset
  tree := LkTree.reset
  time := LkTime.reset
  clock := 0#64
  firstSync := true
  mgrSerial := 0#64
  reqAddr := 0#6
  table := []
  workers := []
  highTerm := 0#8
  copy := none
  copyFresh := false
  lostRoot := none
  parts := []
  life := []
  logs := []
  remSel := RemSel.reset
  remAddr := RemAddr.reset
  remData := 0#32
  remStat := RemStat.reset
  remTag := 0#8
  remWr := false

-- Two-wire

/-- An alert record that waits (R373). -/
structure Alert where
  code : BitVec 8
  value : Word
  seq : BitVec 8
  tries : Nat     -- attempts made
deriving DecidableEq, Repr

/-- A TW_M command (Table 13.5). -/
structure TwmCmd where
  addr : BitVec 7
  read : Bool
  nw : Nat
  nr : Nat
  tag : BitVec 8
  pec : Bool
  bytes : List Byte
deriving DecidableEq, Repr

/-- The two-wire interfaces (R365 to R382). -/
structure TwoWire where
  hAddr : TwHAddr
  hSec : Word
  hCfg : TwHCfg
  hTim : TwHTim
  hStat : TwHStat
  haccData : Word
  mCfg : TwMCfg
  mTim : TwMTim
  mStat : TwMStat
  started : Bool               -- TW_H has been enabled since POR (Table 13.2)
  ptr : BitVec 16              -- register number of the pointer, bit 15 the block form
  staged : Option (List Word)  -- the staged reply, with its count of registers
  stagedRead : Bool            -- it has been read
  lead : List Byte             -- bytes since the START before a repeated START, for the code (R370)
  sda : List Byte              -- bytes the device drove last as target transmitter
  ack : Bool                   -- whether it acknowledged the last address byte sent to it
  seq : BitVec 12              -- transaction sequence of the next group
  applied : Option (BitVec 12) -- the last sequence core 13 has applied (R371)
  alerts : List Alert          -- oldest first, at most 16
  alertSeq : BitVec 8
  alertHeld : Bool             -- the head record waits 5 ms after a not-acknowledge
  run : Option TwmCmd          -- the TW_M command in progress
  mSda : List Byte             -- bytes that TW_M drove for its last command, a code appended included (R365, R379)
deriving DecidableEq, Repr

/-- The two-wire interfaces after POR (Table 13.7). -/
def TwoWire.reset : TwoWire where
  hAddr := TwHAddr.reset
  hSec := 0#32
  hCfg := TwHCfg.reset
  hTim := TwHTim.reset
  hStat := TwHStat.reset
  haccData := 0#32
  mCfg := TwMCfg.reset
  mTim := TwMTim.reset
  mStat := TwMStat.reset
  started := false
  ptr := 0#16
  staged := none
  stagedRead := false
  lead := []
  sda := []
  ack := false
  seq := 0#12
  applied := none
  alerts := []
  alertSeq := 0#8
  alertHeld := false
  run := none
  mSda := []

-- Fuses

/-- One word program of a fuse command (R405, R406). -/
inductive FzStep where
  | word (a : Nat) (v : Word)                  -- a word of a region, digest or revocation, with a spare on failure
  | spareVal (slot : Nat) (a : Nat) (v : Word) -- value word of spare slot `slot` of the bank of `a`
  | spareTag (slot : Nat) (a : Nat) (v : Word) -- tag word of it
  | ledger (a : Nat) (v : Word)  -- a ledger word, abandoned on failure (R280)
deriving DecidableEq, Repr

/-- A fuse command that programs: the word in hand, those to follow, and whether a command or the quarry runs it. -/
structure FzJob where
  now : FzStep
  next : List FzStep
  command : Bool
deriving DecidableEq, Repr

/-- The fuse array and its shadows (R400 to R416). -/
structure Fuses where
  raw : Mem 44             -- the words as blown, unlisted words unprogrammed
  shadow : Mem 32          -- logical values sensed at start
  stat : FzStat
  region : Vector (BitVec 4) 6
  wdata : Word
  cmdStat : FzCmdStat
  rawData : Word
  raddr : BitVec 9
  rstat : Mem 5            -- FZ_RSTAT by word, unlisted words 0
  scrub : FzScrub
  scrubNext : Nat          -- word that the next scrub read takes (R414)
  spare : FzSpare
  job : Option FzJob
  failed : Option Nat      -- the region that keeps the device in reset (R412)
deriving DecidableEq, Repr

/-- A fuse word as programmed (R400, R405). -/
def fuseRow (v : Word) : BitVec 44 := rowEncode 8 3 v

/-- The digest of a region over its words (R408). -/
def regionDigest (r : Nat) (ws : List Word) : List Word :=
  (leWords (sha256 (BitVec.ofNat 8 r :: ws.flatMap leBytes))).take 4

/-- The array as this model's device leaves the factory: regions 0, 1 and 5 programmed and locked in both copies, with
the device code and zeros elsewhere; regions 2, 3 and 4 unprogrammed (R401, log entry 21). The digest words are those
of R408. -/
def Fuses.factory : Mem 44 :=
  let half (b : Nat) : Mem 44 :=
    [(b + 0x22, fuseRow 0x192#32),
     (b + 0xA8, fuseRow 0x9D61802C#32), (b + 0xA9, fuseRow 0x25587C7E#32), (b + 0xAA, fuseRow 0xA3CD9372#32),
     (b + 0xAB, fuseRow 0x3EC178A8#32),
     (b + 0xAC, fuseRow 0x3166BD6F#32), (b + 0xAD, fuseRow 0x6205BD06#32), (b + 0xAE, fuseRow 0x138DED15#32),
     (b + 0xAF, fuseRow 0xB1E2F21A#32),
     (b + 0xBC, fuseRow 0x76E868C1#32), (b + 0xBD, fuseRow 0x8214F131#32), (b + 0xBE, fuseRow 0x9F8BBD69#32),
     (b + 0xBF, fuseRow 0xFA303A2F#32)]
  half 0 ++ half 256

/-- The fuse block in POR (Table 15.7). -/
def Fuses.reset : Fuses where
  raw := Fuses.factory
  shadow := []
  stat := FzStat.reset
  region := Vector.replicate 6 0#4
  wdata := 0#32
  cmdStat := FzCmdStat.reset
  rawData := 0#32
  raddr := 0#9
  rstat := []
  scrub := FzScrub.reset
  scrubNext := 0
  spare := FzSpare.reset
  job := none
  failed := none

-- Flash and update

/-- A flash command in progress (Table 17.1). -/
structure FlCmd where
  op : BitVec 3
  addr : Nat
  n : Nat
  data : List Byte
deriving DecidableEq, Repr

/-- What a device holds of an update beside FL_UPD_STAT (R449 to R458). -/
structure Update where
  len : Nat                  -- L
  hash : List Byte           -- SHA-256 announced with STAGE_BEGIN
  chunks : List Nat          -- chunks received
  staged : Nat               -- bundle bytes taken through FL_STG_DATA
  bundleOk : Bool            -- the staged bundle of the manager passed R448
  active : BitVec 48         -- ACTIVATE time
  tConfirm : BitVec 8
  newSlots : List (Fin 16)   -- slots written at ARM
  oldSlots : List (Fin 16)   -- slots of the image in force before the update, templates first; [] once they are freed
  migrated : Bool            -- settings migration has completed (R454)
  watchBad : Bool            -- a watchdog expiry since ACTIVATE (R454)
  ok : List (BitVec 6)       -- on the acting manager: devices that succeeded in the phase
  bad : List (BitVec 6)      -- and those that reported a result
  pending : List Byte        -- the UPDATE message that is being repeated; [] none
  report : List Byte         -- the report of a worker that is being repeated; [] none
  onNew : Bool               -- the running images are those of the other bank (R453)
deriving DecidableEq, Repr

/-- No update in hand. -/
def Update.init : Update where
  len := 0
  hash := []
  chunks := []
  staged := 0
  bundleOk := false
  active := 0#48
  tConfirm := 0#8
  newSlots := []
  oldSlots := []
  migrated := false
  watchBad := false
  ok := []
  bad := []
  pending := []
  report := []
  onNew := false

/-- The flash and the update (R439 to R460). -/
structure Flash where
  mem : Mem 8              -- the fitted flash, unlisted bytes 0xFF
  stat : FlStat
  id : BitVec 24
  ver : Word
  verOther : Word
  updCfg : FlUpdCfg
  updLen : FlUpdLen
  upd : FlUpdStat
  run : Option FlCmd       -- the command that the controller carries out
  job : Update
  logSeq : BitVec 32
  bankDue : Bool           -- a bank record write held by the stage (R455)
  revs : Option Revisions  -- what the bundle in force states, in place of Table 0.2; none before the first (R4)
  reserve : Bool           -- the images in force were built with class-A reserve on (R179)
  cacheVer : Word          -- version of the bundle that the role image cache holds
deriving DecidableEq, Repr

/-- The flash block after POR, with an erased flash (Table 17.11, log entry 16). -/
def Flash.reset : Flash where
  mem := []
  stat := FlStat.reset
  id := 0#24
  ver := 0#32
  verOther := 0#32
  updCfg := FlUpdCfg.reset
  updLen := FlUpdLen.reset
  upd := FlUpdStat.reset
  run := none
  job := Update.init
  logSeq := 0#32
  bankDue := false
  revs := none
  reserve := false
  cacheVer := 0#32

end Sys2Proof.Machine
end

