-- ==== Sys2Proof/Machine/FabricState.lean ====
section
/-! DEFINITION. What the polder fabric, the template store and the quarry hold (spec/08_polder_fabric.md,
spec/09_quarry_migration.md), with the registers of each polder. -/

namespace Sys2Proof.Machine

/-- The state of a region or common half (R252). -/
inductive RState where
  | empty | loading | ready | serving
deriving DecidableEq, Repr

/-- The code of a region state in PL_RSTATE (R252). -/
def RState.code : RState → BitVec 2
  | .empty => 0#2 | .loading => 1#2 | .ready => 2#2 | .serving => 3#2

/-- Where the trial of a region stands (R272). -/
inductive Trial where
  | none
  | unloading
  | loading   -- to be loaded again; while its slot is not VALID it waits for that
  | watching (bad : Bool) -- READY and unconnected for two scrub passes; a bad symbol was found
deriving DecidableEq, Repr

/-- One fabric region: its state, the slot its present configuration was loaded from, its frames as stored codewords
of 112 bits (none while it holds zero codewords), and what the quarry keeps of it. -/
structure FabRegion where
  st : RState
  slot : BitVec 4
  frames : List (BitVec 112)
  ffInit : List Bool   -- what its flip-flops, nodes 0 to 1,151, took at the last release (R226, R240)
  ref : Bool           -- REFS of `slot` counts it (R231)
  isolated : Bool      -- held, boundary outputs forced to zero
  corrected : Bool     -- a correction was made in it before (REPEAT, Table 8.11)
  failing : Bool       -- two bad symbols were found in a frame of it
  repeated : Bool      -- REPEAT reported while SERVING: it is left and spoiled when a spare is free (Table 9.2)
  leaves : Nat         -- SERVING sessions it has left under R264 (R272)
  idleTrial : Bool     -- its trial follows no session that it left (R272, R284)
  left : List (Fin 48 × BitVec 8) -- sessions, by position and ATTACH_CNT, that left it and no trial since (R267)
  backDue : Bool       -- a home region that passed its trial and is to take its session back (R272)
  trial : Trial
deriving DecidableEq, Repr

/-- A region after POR: EMPTY, zero codewords (R228). -/
def FabRegion.init : FabRegion where
  st := .empty
  slot := 0#4
  frames := []
  ffInit := []
  ref := false
  isolated := false
  corrected := false
  failing := false
  repeated := false
  leaves := 0
  idleTrial := false
  left := []
  backDue := false
  trial := .none

/-- One polder-common half (R229). -/
structure Half where
  st : RState
  slot : BitVec 4
  tid : BitVec 16
  frames : List (BitVec 112)
  ref : Bool
deriving DecidableEq, Repr

/-- A half after POR. -/
def Half.init : Half where
  st := .empty
  slot := 0#4
  tid := 0#16
  frames := []
  ref := false

/-- What a load is made for: a PL_LOAD command, a fault migration of a position, a planned migration after REPEAT, a
trial, a region given to a parked position, or the standby half in place of a faulty active one (R239, R264, R257, R272,
R261, R247). -/
inductive Purpose where
  | command
  | migrate (pos : Fin 48) (cause : BitVec 4)
  | planned (pos : Fin 48)
  | trial
  | give (pos : Fin 48)
  | common
deriving DecidableEq, Repr

/-- A LOAD or UNLOAD: its target (`none` the standby common half), the slot read, and its purpose. -/
structure LoadJob where
  target : Option (Fin 56)
  slot : BitVec 4
  unload : Bool
  purpose : Purpose
deriving DecidableEq, Repr

/-- A load of a fault migration, which goes before the others (R248, R284). -/
def LoadJob.urgent (j : LoadJob) : Bool := match j.purpose with | .migrate _ _ => true | _ => false

/-- What a culvert switch is made for: a SWITCH command, a fault migration, a planned migration after REPEAT, the
session taken back by a region that passed its trial, or a region given to a parked port (R243, R264, R257, R272). -/
inductive SwitchKind where
  | command | fault | planned | back | give
deriving DecidableEq, Repr

/-- A culvert switch in progress: the position, the region it joins, and what makes it (R243). -/
structure SwitchJob where
  pos : Fin 48
  region : Fin 56
  kind : SwitchKind
  cause : BitVec 4   -- cause of its detection, as Table 9.8 codes it
deriving DecidableEq, Repr

/-- One polder: its registers, its fabric section and what the culverts and the quarry controller have in hand. -/
structure Polder where
  stat : PlStat
  ntcCfg : PlNtcCfg
  temp : PlTemp
  osc : PlOsc
  loadStat : PlLoadStat
  scrub : PlScrub
  scrubNext : Nat                -- frame of the next scrub read
  scrubStack : List (Nat × Nat)  -- last frame of a loaded region that is read through, and the frame to go on from
  scrubSkip : Bool               -- the scrub skipped the region that is loading (R245)
  regions : Vector FabRegion 56
  culv : Vector PlCulv 48
  commonB : Bool                 -- PL_COMMON.ACTIVE: half B is active
  halfA : Half
  halfB : Half
  swPend : Bool
  load : Option LoadJob          -- the LOAD or UNLOAD that runs
  waiting : List LoadJob         -- loads of the quarry that wait for it
  switching : List SwitchJob
  prepared : Option (Fin 48 × Fin 56) -- PREPARE done for a position and target (R266)
  order : List (Fin 56)          -- spare order of MAP (Table 8.6)
  tplMap : Vector (BitVec 4) 48  -- slot of the template that MAP names for each position
  timeUs : BitVec 24             -- time base of the active common half
  sampleIdx : Vector (BitVec 16) 48 -- gauge sample indices (R229)
  vgdPass : Bool                 -- VGD at least v_gd_pass
  fallback : Bool                -- on the fallback clock (R26, R278)
  oscBad : Bool                  -- the last 2.5 µs window was outside its limits (Table 9.2)
  pld : Bool                     -- a PLD of this polder runs (R427)
  die : Bool                     -- the polder die has its supply: not in POR
deriving DecidableEq, Repr

/-- Polder after POR (Tables 18.6, 8.15 to 8.17). The spare order is that of the delivered images (R244). VGD
stands at v_gd_pass, so that HOLD_SRC reads 0b110 as Table 5.12 says (log entry 172). -/
def Polder.reset : Polder where
  stat := PlStat.reset
  ntcCfg := PlNtcCfg.reset
  temp := PlTemp.reset
  osc := PlOsc.reset
  loadStat := PlLoadStat.reset
  scrub := PlScrub.reset
  scrubNext := 0
  scrubStack := []
  scrubSkip := false
  regions := Vector.replicate 56 FabRegion.init
  culv := Vector.ofFn fun p => { PlCulv.reset with region := BitVec.ofNat 6 p.val }
  commonB := false
  halfA := Half.init
  halfB := Half.init
  swPend := false
  load := none
  waiting := []
  switching := []
  prepared := none
  order := [48, 49, 50, 51, 52, 53, 54, 55]
  tplMap := Vector.replicate 48 0#4
  timeUs := 0#24
  sampleIdx := Vector.replicate 48 0#16
  vgdPass := true
  fallback := false
  oscBad := false
  pld := false
  die := false

/-- The state of a template slot (Table 8.3). -/
inductive SlotState where
  | empty | writing | valid | bad
deriving DecidableEq, Repr

/-- The code of a slot state (Table 8.3). -/
def SlotState.code : SlotState → BitVec 2
  | .empty => 0#2 | .writing => 1#2 | .valid => 2#2 | .bad => 3#2

/-- One slot of the template store: its fields of SYS_TPL[t], the template ID that its loaded regions carry, and the
words written, body first and digest last (R231 to R233). -/
structure TplSlot where
  st : SlotState
  common : Bool        -- KIND
  refs : BitVec 8
  srcIdx : BitVec 4
  tid : BitVec 16
  words : List Word
  set : SluiceSet      -- the set its descriptor names (R238)
deriving DecidableEq, Repr

/-- A slot with no content. -/
def TplSlot.init : TplSlot where
  st := .empty
  common := false
  refs := 0#8
  srcIdx := 0#4
  tid := 0#16
  words := []
  set := SluiceSet.delivered

/-- The template store (R231). -/
structure TplStore where
  slots : Vector TplSlot 16
  stat : SysTplStat
  writing : Option (Fin 16)  -- the slot between BEGIN and END
  checking : List (Fin 16)   -- the slots whose checks run, in the order of their ENDs
  scrubRow : Nat             -- row of the next scrub read, 0 to 4,623
  sets : Vector SluiceSet 4  -- the sluice parameter sets of the image that the next slots are written from (R238)
deriving DecidableEq, Repr

/-- The store after POR: every slot EMPTY (Table 8.12). -/
def TplStore.reset : TplStore where
  slots := Vector.replicate 16 TplSlot.init
  stat := SysTplStat.reset
  writing := none
  checking := []
  scrubRow := 0
  sets := Vector.replicate 4 SluiceSet.delivered

/-- The quarry: its registers, the spoil list, the entries not yet written, and the queue map (R279 to R287). -/
structure Quarry where
  stat : QyStat
  core : QyCore
  mig : QyMigStat
  spoil : QySpoil
  last : QyLast
  spoiled : List Word             -- the spoil list in force, as entries of Table 9.8
  held : List Word                -- entries not yet written (R280)
  ledgerAt : Nat                  -- the next empty word of the fuse ledger; 64 none (R280)
  qmap : Vector (Option (Fin 256)) 12 -- logical queue that spare physical queue 244 + i serves
  taken : List (Fin 256 × Fin 256) -- logical queue, and the physical queue of a parked port that serves it (R276)
  freeRows : BitVec 7             -- free spare rows of the shared SRAM
  sharedPos : Nat                 -- shared SRAM row of the next scrub read (R335)
  corrPrev : List Nat             -- shared rows corrected on the last pass, and on this one (Table 9.2)
  corrCur : List Nat
deriving DecidableEq, Repr

/-- The quarry after POR (Table 9.15). -/
def Quarry.reset : Quarry where
  stat := QyStat.reset
  core := QyCore.reset
  mig := QyMigStat.reset
  spoil := QySpoil.reset
  last := QyLast.reset
  spoiled := []
  held := []
  ledgerAt := 0
  qmap := Vector.replicate 12 none
  taken := []
  freeRows := 0x40#7
  sharedPos := 0
  corrPrev := []
  corrCur := []

end Sys2Proof.Machine
end

