-- ==== Sys2Proof/Machine/Shed.lean ====
section
/-! DEFINITION. The shed sequencer (spec/14_supplies_shedding.md): what it holds, the sample of the feeds and the berm,
the walk of R388, and the entry to and leaving of S6 (R390). -/

namespace Sys2Proof.Machine

/-- One sample of the supplies (R384): pin voltages in mV, the berm in 0.1 V, VDDA and VDDC in mV. -/
structure FeedSample where
  feeds : Nat
  pf : List Nat
  berm : Nat
  vdda : Nat
  vddc : Nat
deriving DecidableEq, Repr

/-- The sequencer: its registers, the dwell counters of R388 in units of 50 µs, and the rails. -/
structure Shed where
  stat : ShStat
  thr : ShThr
  cfg : ShCfg
  dwell : ShDwell
  nom : ShNom
  berm : ShBerm
  mon : ShMon
  pfeed : Vector (BitVec 7) 4
  pwr : ShPwr
  sup : ShSup
  low : Vector Nat 5      -- low[k + 1]
  high : Vector Nat 5     -- high[k + 1]
  since : Nat             -- since_last_change
  t6 : Nat                -- FEEDS below T6
  up6 : Nat               -- the conditions that leave S6 have held
  vddioOk : Bool          -- VDDIO good, mode set (Table 14.1)
  feedsRatio : Nat        -- last FEEDS ratio in 0.1 %
deriving DecidableEq, Repr

/-- The sequencer after POR (Table 14.7). -/
def Shed.reset : Shed where
  stat := ShStat.reset
  thr := ShThr.reset
  cfg := ShCfg.reset
  dwell := ShDwell.reset
  nom := ShNom.reset
  berm := ShBerm.reset
  mon := ShMon.reset
  pfeed := Vector.replicate 4 0#7
  pwr := ShPwr.reset
  sup := ShSup.reset
  low := Vector.replicate 5 0
  high := Vector.replicate 5 0
  since := 0
  t6 := 0
  up6 := 0
  vddioOk := false
  feedsRatio := 0

namespace Shed

/-- Threshold k in 0.1 % (R388). -/
def threshold (k : Nat) (s : Shed) : Nat :=
  let f : BitVec 6 := match k with
    | 1 => s.thr.t1 | 2 => s.thr.t2 | 3 => s.thr.t3 | 4 => s.thr.t4 | _ => s.thr.t5
  600 + 10 * f.toNat

/-- hyst in 0.1 %; 0 acts as 1 % (R388). -/
def hyst (s : Shed) : Nat := 10 * (if s.cfg.hyst = 0#4 then 1 else s.cfg.hyst.toNat)

/-- t_dn, t_up and t_s6 in units of 50 µs. -/
def tDn (s : Shed) : Nat := 2 * s.dwell.dn.toNat

/-- t_up in units of 50 µs. -/
def tUp (s : Shed) : Nat := 200 * s.dwell.up.toNat

/-- t_s6 in units of 50 µs. -/
def tS6 (s : Shed) : Nat := 20 * s.dwell.s6.toNat

/-- T6 in 0.1 %. -/
def t6Level (s : Shed) : Nat := 10 * s.cfg.t6.toNat

/-- A ratio in 0.1 % of a nominal pin voltage (R384). -/
def ratioOf (mv : Nat) (nom : BitVec 12) : Nat := if nom = 0#12 then 0 else mv * 1000 / nom.toNat

/-- The lowest ratio and the input that gives it: FEEDS first, then the enabled polder feeds in order (R388). -/
def lowest (s : Shed) (feeds : Nat) (pf : List Nat) : Nat × BitVec 3 :=
  (List.range 4).foldl (fun (b : Nat × BitVec 3) q =>
    let r := pf.getD q 0
    if bit s.cfg.pfEn q && r < b.1 then (r, BitVec.ofNat 3 (q + 1)) else b) (feeds, 0#3)

/-- Percent in 7 bits, saturating. -/
def percent (r : Nat) : BitVec 7 := BitVec.ofNat 7 (min 127 (r / 10))

/-- A stage entered, with the input that gave it at a deeper entry (R388). -/
def enter (stage : Nat) (cause : Option (BitVec 3)) (s : Shed) : Shed :=
  { s with
    stat := { s.stat with stage := BitVec.ofNat 3 stage, prev := s.stat.stage, cause := cause.getD s.stat.cause,
                          s6Timing := decide (stage ≠ 6) && s.stat.s6Timing },
    since := 0 }

/-- The readings of a sample are taken: SH_MON, SH_PFEED, V_BERM, COMMIT_OK and the stage ratio (R384, R396). -/
def take (x : FeedSample) (s : Shed) : Shed :=
  let feeds := ratioOf x.feeds s.nom.feedsNom
  let pf := x.pf.map fun v => ratioOf v s.nom.pfNom
  let r := (s.lowest feeds pf).1
  { s with
    feedsRatio := feeds,
    mon := { s.mon with feeds := percent feeds, vdda := BitVec.ofNat 9 (min 511 (x.vdda / 10)),
                        vddc := BitVec.ofNat 8 (min 255 (x.vddc / 5)) },
    pfeed := Vector.ofFn fun q : Fin 4 => percent (pf.getD q.val 0),
    berm := { s.berm with vBerm := BitVec.ofNat 10 (min 1023 x.berm) },
    stat := { s.stat with ratio := percent r, commitOk := decide (s.berm.vCommit.toNat ≤ min 1023 x.berm) } }

/-- The stage that the measurement and FORCE ask for (R388, R389), while the stage is S0 to S5. -/
def walk (r : Nat) (cause : BitVec 3) (s : Shed) : Shed :=
  let low := Vector.ofFn fun k : Fin 5 => if r < s.threshold (k.val + 1) then s.low[k] + 1 else 0
  let high := Vector.ofFn fun k : Fin 5 => if s.threshold (k.val + 1) + s.hyst ≤ r then s.high[k] + 1 else 0
  let s : Shed := { s with low := low, high := high, since := s.since + 1 }
  let stage : Nat := s.stat.stage.toNat
  let force : Nat := s.cfg.force.toNat
  let measured := decide (stage < 5) && decide (s.tDn ≤ low.toList.getD stage 0 ∧ 0 < low.toList.getD stage 0)
  let deeper := decide (stage < 5) && (measured || decide (stage < force))
  if deeper && decide (s.tDn ≤ s.since) then s.enter (stage + 1) (some cause)
  else if decide (0 < stage) && decide (force < stage) &&
      decide (s.tUp ≤ high.toList.getD (stage - 1) 0 ∧ 0 < high.toList.getD (stage - 1) 0) then s.enter (stage - 1) none
  else s

/-- SH_STAT.FORCED: FORCE alone keeps the stage deeper than the measurement would (R389). -/
def forcedNow (r : Nat) (s : Shed) : Bool :=
  let stage : Nat := s.stat.stage.toNat
  decide (1 ≤ stage ∧ stage ≤ 5 ∧ stage ≤ s.cfg.force.toNat) && decide (s.threshold stage + s.hyst ≤ r)

/-- Whether the supplies stand within the levels that S6 needs to be left (R390). -/
def railsGood (x : FeedSample) (s : Shed) : Bool :=
  decide (3100 ≤ x.vdda) && decide (765 ≤ x.vddc) &&
    (s.berm.vFloor = 0#10 || decide (s.berm.vFloor.toNat < x.berm))

/-- The input that leads to S6 at once, besides the rails that SUPPLY_S6_LEVEL reports: the berm (R390). -/
def bermFloor (x : FeedSample) (s : Shed) : Bool := s.berm.vFloor ≠ 0#10 && decide (x.berm ≤ s.berm.vFloor.toNat)

/-- SHED_SAMPLE: one sample every 50 µs (R388, R390). In S6 only the conditions that leave it count. -/
def sample (x : FeedSample) (s : Shed) : Shed :=
  let s := s.take x
  let pf := x.pf.map fun v => ratioOf v s.nom.pfNom
  let (r, cause) := s.lowest s.feedsRatio pf
  if s.stat.stage = 6#3 then
    let ok := decide (s.threshold 5 + s.hyst ≤ s.feedsRatio) && s.railsGood x
    let s := { s with up6 := if ok then s.up6 + 1 else 0 }
    if ok && decide (s.tUp ≤ s.up6) then { s with up6 := 0, t6 := 0 }.enter 5 none else s
  else
    let below := decide (s.feedsRatio < s.t6Level)
    let s := { s with t6 := if below then s.t6 + 1 else 0, stat := { s.stat with s6Timing := below } }
    if s.bermFloor x then { s with up6 := 0 }.enter 6 (some 7#3)
    else if below && decide (s.tS6 ≤ s.t6) then { s with up6 := 0 }.enter 6 (some 0#3)
    else
      let s := s.walk r cause
      { s with stat := { s.stat with forced := s.forcedNow r } }

/-- The hold lines of the stage: class C from S2, class B from S4, class A at S6 (Table 14.4, R30). -/
def holdC (s : Shed) : Bool := decide (2#3 ≤ s.stat.stage)

/-- The class-B hold line. -/
def holdB (s : Shed) : Bool := decide (4#3 ≤ s.stat.stage)

/-- The class-A hold line. -/
def holdA (s : Shed) : Bool := s.stat.stage = 6#3

/-- A write of SH_THR: the thresholds stand in strictly falling order with T5 above T6, or the register is unchanged
(R388). -/
def writeThr (w : Word) (s : Shed) : Shed :=
  let t := s.thr.write w
  if t.t2 < t.t1 ∧ t.t3 < t.t2 ∧ t.t4 < t.t3 ∧ t.t5 < t.t4 ∧ s.cfg.t6.toNat < 60 + t.t5.toNat then { s with thr := t } else s

/-- A write of SH_CFG: a T6 at or above T5 leaves that field unchanged (Table 14.7). -/
def writeCfg (w : Word) (s : Shed) : Shed :=
  let c := s.cfg.write w
  let t6 := fld w 4 6
  { s with cfg := { c with t6 := if t6.toNat < 60 + s.thr.t5.toNat then t6 else s.cfg.t6 } }

end Shed

end Sys2Proof.Machine
end

