-- ==== Sys2Proof/Machine/SysState.lean ====
section
/-! DEFINITION. The system block: identity, reset cause and start registers, and how far the device has come since its
last reset (spec/16_startup_resets.md, spec/18_register_map.md). -/

namespace Sys2Proof.Machine

/-- Where the device stands. -/
inductive DevMode where
  | por        -- held in POR
  | stayReset  -- fuse checks keep it in reset (R412)
  | provHold   -- provisioning-hold (R413, R423)
  | run        -- RUN, DOZE or LIFELINE
  | bor        -- VDDC below 0.74 V: the control die is down
  | warm       -- a PIN, SYS or LNK reset is in progress
  | shelf      -- SHELF (R387)
  | holdDown   -- S6 (R395)
  | off        -- OFF: neither VDDA nor VDB (Table 14.3)
  | harvest    -- VDB driven, island not yet released (R428)
  | island     -- the lifeline island of a dead-battery start (R429)
deriving DecidableEq, Repr

/-- A SYS or LNK reset that a write has commanded and that has not started yet (R418). -/
inductive ResetReq where
  | none | sys | lnk
deriving DecidableEq, Repr

/-- The system block. -/
structure SysBlk where
  rstCause : SysRstCause
  start : SysStart
  rev : SysRev
  serialLo : BitVec 32
  serialHi : BitVec 32
  stat : SysStat
  temp : SysTemp
  mode : DevMode
  runSeen : Bool       -- RUN reached since POR (R145)
  req : ResetReq
  rstN : Bool          -- RST_N stands high
  harvestOff : Bool    -- the boot ROM has turned the harvest circuits off (R428)
  supKicked : Bool     -- the supervisor role has kicked since the last PIN, SYS or LNK reset, or there was none (R424)
deriving DecidableEq, Repr

/-- The system block in POR (Tables 16.2 and 18.5). -/
def SysBlk.reset : SysBlk where
  rstCause := SysRstCause.reset
  start := SysStart.reset
  rev := SysRev.reset
  serialLo := 0#32
  serialHi := 0#32
  stat := SysStat.reset
  temp := SysTemp.reset
  mode := .por
  runSeen := false
  req := .none
  rstN := true
  harvestOff := false
  supKicked := false

end Sys2Proof.Machine
end

