-- ==== Sys2Proof/Machine/State.lean ====
section
/-! DEFINITION. The state of the AXK192 as plain data, its state right after reset, and the reasons a step can stop. -/

namespace Sys2Proof.Machine

/-- The state of the device. `pending` is the queue of waiting commands, first in, first out; `fresh` is the model's
own counter, which free values are drawn with (log entry 1). -/
structure State where
  ports : Vector Port 192
  pcfg : Vector PCfg 192     -- P_CFG, latched in the polder die (R32)
  polders : Vector Polder 4
  store : TplStore
  qy : Quarry
  cores : Vector Core 16
  sysq : Vector Queue 64     -- queues 192 to 255
  shared : Mem 36            -- shared SRAM, unlisted words read 0
  sys : SysBlk
  sh : Shed
  bg : Budget
  kg : Gauge
  lk : Link
  tw : TwoWire
  fz : Fuses
  fl : Flash
  fresh : Nat
  pending : List Instr
deriving DecidableEq, Repr

/-- The reasons a step stops with a fault: none in this model. The device answers every condition of its spec with a
state of its own, so no command faults. -/
inductive Fault where
  /-- Raised by nobody: kept because the interface asks for a type of faults; safe. -/
  | none
deriving DecidableEq, Repr

/-- The reasons a step is refused. -/
inductive Refusal where
  /-- Raised by `exec` for a command that has no meaning yet; safe: nothing is claimed of it. -/
  | notModelled (mnemonic : String)
deriving DecidableEq, Repr

/-- The default role and WAKE_NE of system queue 192 + i (spec/11_cores_queues.md R330, Table 11.10). -/
def sysQueueInit (i : Nat) : Queue :=
  let q := 192 + i
  if q ≤ 207 then Queue.init (BitVec.ofNat 5 i) true
  else if q ≤ 215 ∨ q = 233 ∨ q = 235 ∨ q = 236 ∨ q = 238 then Queue.init 0x1F#5 false
  else if q = 216 ∨ q = 218 ∨ q = 220 ∨ q = 222 then Queue.init 0x1E#5 true
  else if q = 237 then Queue.init 13#5 false
  else if q ≤ 243 then Queue.init 13#5 true
  else Queue.init 0#5 false

/-- The machine right after reset: in POR, every register at the value the spec gives for reset. -/
def State.reset : State where
  ports := Vector.ofFn fun n => Port.reset n.val
  pcfg := Vector.replicate 192 PCfg.reset
  polders := Vector.replicate 4 Polder.reset
  store := TplStore.reset
  qy := Quarry.reset
  cores := Vector.ofFn fun k => Core.reset k.val
  sysq := Vector.ofFn fun i => sysQueueInit i.val
  shared := []
  sys := SysBlk.reset
  sh := Shed.reset
  bg := Budget.reset
  kg := Gauge.reset
  lk := Link.reset
  tw := TwoWire.reset
  fz := Fuses.reset
  fl := Flash.reset
  fresh := 0
  pending := []

end Sys2Proof.Machine
end

