-- ==== Sys2Proof/Machine/GaugeOps.lean ====
section
/-! DEFINITION. The Knaser gauge (spec/07_knaser_gauge.md R197 to R221): which slot serves a port, the state of a slot,
the charge count, the state of charge, anchors, capacity learning, impedance and the owner of the learned data. -/

namespace Sys2Proof.Machine

/-- The part of R197 that lies with the port: DOCK_EN and the shunt sense mode. -/
def Port.gaugeable (p : Port) : Bool := p.srccap.dockEn && p.sluice.senseMode = 0#2

/-- The answers the identity digest is taken over, in the order of R132. -/
def Port.identAnswers (p : Port) : List Byte := p.role.idSerial.flatMap leBytes ++ p.role.idMfg ++ p.role.idCap

/-- The identity digest: the first 32 bits of SHA-256, first hash byte lowest (R132, log entry 36). -/
def Port.packDigest (p : Port) : Word := leWord (sha256 p.identAnswers)

/-- The design capacity in 0.1 Wh that Battery_Capabilities gives; 0 for none, not present or unknown (R211). -/
def Port.packCap (p : Port) : Nat :=
  let c := (p.role.idCap.getD 4 0#8).toNat + 256 * (p.role.idCap.getD 5 0#8).toNat
  if c = 0xFFFF then 0 else c

/-- A fraction in 0.1 % (R223). -/
def permille (x : Rat) : BitVec 10 := BitVec.ofNat 10 (min 1000 (x * 1000).floor.toNat)

/-- A fraction kept within 0 and 1. -/
def clamp01 (x : Rat) : Rat := max 0 (min 1 x)

/-- A charge in mAh as a 16-bit number. -/
def mah16 (x : Rat) : BitVec 16 := BitVec.ofNat 16 (min 65535 (x + 1 / 2).floor.toNat)

/-- Linear interpolation in an OCV table, 5 % a step; the first step that holds the voltage counts (R206). -/
def ocvSoc (pts : List Nat) (v : Rat) : Rat :=
  let steps := (pts.zip (pts.drop 1)).mapIdx fun i x => (i, x)
  match steps.find? fun s => (s.2.1 : Rat) ≤ v ∧ v ≤ (s.2.2 : Rat) ∧ s.2.1 < s.2.2 with
  | some (i, a, b) => ((i : Rat) + (v - a) / ((b : Rat) - a)) / 20
  | none => Config.ocvOutside v

namespace State

/-- A slot changed. -/
def onSlotG (i : Fin 48) (f : GaugeSlot → GaugeSlot) (s : State) : State :=
  { s with kg := { s.kg with slots := s.kg.slots.set i (f s.kg.slots[i]) } }

/-- The slots that are enabled, have cells and name a port (R197), lowest first. -/
def slotsNaming (s : State) (n : PortId) : List (Fin 48) :=
  (List.finRange 48).filter fun i =>
    let c := s.kg.cfg[i]
    c.en && c.cells ≠ 0#4 && c.port.toNat = n.val

/-- The slot that serves a port in its present attach. -/
def slotOf (s : State) (n : PortId) : Option (Fin 48) := (List.finRange 48).find? fun i => s.kg.slots[i].port = some n

/-- The OCV table of a slot: nominal voltage and 21 points in mV (R206). -/
def ocvTable (s : State) (i : Fin 48) : OcvTable :=
  let t := s.kg.slots[i].table.toNat
  match s.kg.tables[t]? with
  | some x => x
  | none => { nominal := Config.absentTable t 0, ocv := (List.range 21).map fun k => Config.absentTable t (k + 1) }

/-- v_nom in mV (R202). -/
def vNom (s : State) (i : Fin 48) : Rat := ((s.kg.slots[i].cells.toNat * (s.ocvTable i).nominal : Nat) : Rat)

/-- The record that owns the learned data of the present attach (R217). -/
def gaugeRec (s : State) (i : Fin 48) : Option GaugeRec :=
  match s.kg.slots[i].owner with
  | some (true, k) => some s.kg.packs[k]
  | some (false, _) => some s.kg.dock[i]
  | none => none

/-- The owning record changed. -/
def onGaugeRec (i : Fin 48) (f : GaugeRec → GaugeRec) (s : State) : State :=
  match s.kg.slots[i].owner with
  | some (true, k) => { s with kg := { s.kg with packs := s.kg.packs.set k { f s.kg.packs[k] with changed := true } } }
  | some (false, _) => { s with kg := { s.kg with dock := s.kg.dock.set i { f s.kg.dock[i] with changed := true } } }
  | none => s

/-- Commits that are due at S4 or deeper are held (R221). -/
def heldAtStage (s : State) : State :=
  if 3#3 < s.sh.stat.stage ∧ (s.kg.dock.any (·.due) || s.kg.packs.any (·.due)) then
    { s with kg := { s.kg with jstat := { s.kg.jstat with heldStage := true } } }
  else s

/-- The design capacity in 0.1 Wh of the pack in a slot; 0 for none. -/
def slotPackCap (s : State) (i : Fin 48) : Nat :=
  match s.kg.slots[i].port with
  | some n => s.ports[n].packCap
  | none => 0

/-- The design capacity in mAh: that of Battery_Capabilities, else DESIGN_MAH (R211). -/
def designCap (s : State) (i : Fin 48) : Rat :=
  if s.slotPackCap i ≠ 0 then (s.slotPackCap i : Rat) * 100000 / s.vNom i else (s.kg.cfg[i].designMah.toNat : Rat)

/-- A commit of the owning record is due (R220). That of a pack keeps the design capacity of its slot as its CAP until it has
learned one (R211). -/
def commitDue (i : Fin 48) (s : State) : State :=
  match s.kg.slots[i].owner with
  | some (true, k) =>
    let r := s.kg.packs[k]
    let cap := if r.learned then r.cap else mah16 (s.designCap i)
    heldAtStage { s with kg := { s.kg with packs := s.kg.packs.set k { r with cap := cap, due := r.due || r.changed } } }
  | some (false, _) =>
    let r := s.kg.dock[i]
    heldAtStage { s with kg := { s.kg with dock := s.kg.dock.set i { r with due := r.due || r.changed } } }
  | none => s

/-- CAP in mAh (R210, R211). -/
def capOf (s : State) (i : Fin 48) : Rat :=
  match s.gaugeRec i with
  | some r => if r.learned then (r.cap.toNat : Rat) else s.designCap i
  | none => s.designCap i

/-- The temperature band (R207, R470). -/
def tband (s : State) (i : Fin 48) : BitVec 2 :=
  let x := s.kg.slots[i]
  let t : Int := match x.tempPack, x.port with
    | some t, _ => t
    | none, some n => (s.polders[n.val / 48]'(by have := n.isLt; omega)).temp.ntc.toNat - 400
    | none, none => 0
  if t < 100 then 0#2 else if t < 250 then 1#2 else if t < 400 then 2#2 else 3#2

/-- P_KG_SOC and P_KG_CAP of the port that a slot serves (R204, R223, R224). -/
def showSlot (i : Fin 48) (s : State) : State :=
  let x := s.kg.slots[i]
  match x.port with
  | none => s
  | some n =>
    let p := s.ports[n]
    let cap := s.capOf i
    let r := (s.gaugeRec i).getD GaugeRec.init
    let src : BitVec 2 := if cap = 0 then 0#2 else x.src
    let soc : Rat := if cap = 0 then 0 else x.soc
    let remain : BitVec 10 := if x.conflict then 0#10 else BitVec.ofNat 10 (min 1023 (soc * cap / 10).floor.toNat)
    let p := { p with
      kgSoc := { soc := permille soc, socSrc := src, state := x.state, endSt := x.full, conflict := x.conflict,
                 rest := x.rest, quiet := x.quiet, tempPack := x.tempPack.isSome, tband := s.tband i, remain := remain },
      kgCap := { cap := mah16 cap, learned := r.learned, suspect := r.suspect, learnStale := r.stale,
                 owner := match x.owner with | some (b, _) => b | none => false,
                 cycles := if 4095#16 < r.cycles then 4095#12 else r.cycles.setWidth 12 } }
    { s with ports := s.ports.set n p }

/-- The accumulator as a sample group carries it: 1 µC units modulo 2^36 (Table 7.2). -/
def accWord (p : Port) : BitVec 36 := BitVec.ofInt 36 (p.fe.accum / 1000)

/-- A slot stops serving: at a detach, or where it may serve no longer. A changed record is due for a commit, and
P_KG_SOC and P_KG_CAP read 0 (R198, R220, R223). -/
def slotOff (i : Fin 48) (s : State) : State :=
  let s := s.commitDue i
  let s : State := match s.kg.slots[i].port with
    | some n => { s with ports := s.ports.set n { s.ports[n] with kgSoc := PKgSoc.reset, kgCap := PKgCap.reset } }
    | none => s
  s.onSlotG i fun _ => GaugeSlot.off

/-- A slot begins to serve a port at its attach: charge counts from here (R205, R217). -/
def slotAttach (i : Fin 48) (n : PortId) (s : State) : State :=
  let c := s.kg.cfg[i]
  let p := s.ports[n]
  let s := s.onSlotG i fun _ => { GaugeSlot.off with
    port := some n, cells := c.cells, table := c.table, lastAcc := some (accWord p) }
  { s with kg := { s.kg with attaches := s.kg.attaches + 1 } }

/-- The charge into the pack goes to the cycle count of the owner (R216). -/
def cycleCharge (i : Fin 48) (dq : Rat) (s : State) : State :=
  if dq ≤ 0 then s
  else match s.gaugeRec i with
    | none => s.onSlotG i fun x => { x with pre := x.pre + dq }
    | some _ =>
      let cap := s.capOf i
      s.onGaugeRec i fun r =>
        let since := r.since + dq
        if 0 < cap ∧ cap ≤ since then { r with since := 0, cycles := satInc r.cycles } else { r with since := since }

/-- The owner of the learned data, once IDENT_DONE is set (Table 7.4); the charge and a SUSPECT that came before go to it
(R214, R216). -/
def takeOwner (i : Fin 48) (s : State) : State :=
  let x := s.kg.slots[i]
  match x.port with
  | none => s
  | some n =>
    let ident := s.ports[n].partner.ident
    let charge (s : State) : State :=
      let s := (s.cycleCharge i x.pre).onSlotG i fun x => { x with pre := 0, suspectDue := false }
      if x.suspectDue then (s.onGaugeRec i fun r => { r with suspect := true }).commitDue i else s
    let s := s.onSlotG i fun x => { x with identified := true }
    if ident = 0#2 then
      let r := s.kg.dock[i]
      let s := s.onSlotG i fun x => { x with owner := some (false, ⟨i.val, by have := i.isLt; omega⟩) }
      charge (if r.stale = r.learned then s else (s.onGaugeRec i fun r => { r with stale := r.learned }).commitDue i)
    else
      let digest := s.ports[n].packDigest
      let known := (List.finRange 64).find? fun k => s.kg.packs[k].used && s.kg.packs[k].digest = digest
      let empty := (List.finRange 64).find? fun k => !s.kg.packs[k].used
      let oldest : Fin 64 := (List.finRange 64).foldl (fun b k => if s.kg.packs[k].age < s.kg.packs[b].age then k else b) 0
      let k : Fin 64 := match known with | some k => k | none => empty.getD oldest
      let r : GaugeRec := if known.isSome then s.kg.packs[k]
        else { GaugeRec.init with used := true, digest := digest, changed := true }
      let s : State := { s with kg := { s.kg with packs := s.kg.packs.set k { r with age := s.kg.attaches } } }
      charge (s.onSlotG i fun x => { x with owner := some (true, k) })

/-- A slot takes the gauge state of its port: a full indication, a rest and a clean point end where the state leaves theirs
(R199). -/
def slotState (i : Fin 48) (new : BitVec 2) (s : State) : State :=
  if s.kg.slots[i].state = new then s
  else s.onSlotG i fun x =>
    let full : BitVec 2 := if x.full = 1#2 ∧ new = 3#2 then 0#2 else if x.full = 2#2 ∧ new ≠ 3#2 then 0#2 else x.full
    { x with state := new, full := full, rest := x.rest && new = 2#2, pointClean := x.pointClean && new = 2#2, last8 := [] }

/-- A slot is shown in its port's registers, its owner taken first where its identification has ended (R197, R217). -/
def slotShow (i : Fin 48) (take : Bool) (s : State) : State := if take then (s.takeOwner i).showSlot i else s.showSlot i

/-- Two enabled slots that name one port raise SLOT_CONFLICT (R197; EN and PORT alone decide, log entry 186). -/
def markConflict (n : PortId) (s : State) : State :=
  if 2 ≤ ((List.finRange 48).filter fun i => s.kg.cfg[i].en && s.kg.cfg[i].port.toNat = n.val).length then
    { s with kg := { s.kg with stat := { s.kg.stat with slotConflict := true } } }
  else s

/-- The slot that is to serve a port: the lowest of those that name it and serve no other (R197). -/
def slotFor (s : State) (n : PortId) : Option (Fin 48) :=
  (s.slotsNaming n).find? fun i => s.kg.slots[i].port.isNone || s.kg.slots[i].port = some n

/-- The slot that serves a port goes on, or goes OFF: at the end of the attach, where it may serve no longer, and where a
lower one is to serve (R197, R198). A pack temperature counts in dock mode alone (R207). -/
def slotKeep (n : PortId) (s : State) : State :=
  let p := s.ports[n]
  match s.slotOf n with
  | some i =>
    if !p.gaugeable ∨ p.gaugeState = 0#2 ∨ !s.kg.cfg[i].en ∨ (s.slotFor n).any (· < i) then s.slotOff i
    else
      let s := (s.slotState i p.gs).onSlotG i fun x => { x with tempPack := if p.partner.dockMode then x.tempPack else none }
      s.slotShow i (p.partner.identDone && p.partner.ident = 0#2 && !s.kg.slots[i].identified)
  | none => s

/-- A port that no slot serves, in an attach, is served by the slot that names it (R197). -/
def slotTake (n : PortId) (s : State) : State :=
  let p := s.ports[n]
  if (s.slotOf n).isNone ∧ p.gaugeable ∧ p.gaugeState ≠ 0#2 then
    match s.slotFor n with
    | some i => (((s.markConflict n).slotAttach i n).onSlotG i fun x => { x with state := p.gs }).slotShow i p.partner.identDone
    | none => s
  else s

/-- The gauge follows a port after every change of it: a slot attaches, changes its state, takes its owner or goes OFF; one
that has gone OFF serves the port that it names by then (R197 to R199, R217). -/
def gaugeFollow (n : PortId) (s : State) : State :=
  let p := s.ports[n]
  if p.kgSoc.state = 0#2 ∧ (p.gaugeState = 0#2 ∨ !p.gaugeable) then s
  else
    let t := (s.slotKeep n).slotTake n
    match s.slotOf n with
    | some i =>
      if h : t.kg.slots[i].port.isNone ∧ t.kg.cfg[i].port.toNat < 192 then t.slotTake ⟨t.kg.cfg[i].port.toNat, h.2⟩ else t
    | none => t

-- State of charge

/-- soc_count (R204); 0 without an anchor or without a capacity. -/
def socCount (s : State) (i : Fin 48) : Rat :=
  let x := s.kg.slots[i]
  let cap := s.capOf i
  match x.anchor with
  | some (a, qa) => if cap = 0 then 0 else a + (x.q - qa) / cap
  | none => 0

/-- The impedance of the pack in mΩ for a SoC: the table entry, or 100 mΩ per cell while it is unset (R206). -/
def impedance (s : State) (i : Fin 48) (soc : Rat) : Rat :=
  let pt := min 15 (soc * 16).floor.toNat
  let e := match s.gaugeRec i with
    | some r => r.imp.toList.getD ((s.tband i).toNat * 16 + pt) 0#16
    | none => 0#16
  let perCell : Rat := if fld e 0 12 = 0#12 then 100 else ((fld e 0 12).toNat : Rat) / 2
  perCell * (s.kg.slots[i].cells.toNat : Rat)

/-- The pack limits in force: v_full and v_min in mV, taper currents in mA (Table 7.3). -/
def packLimits (s : State) (i : Fin 48) : PackLimits :=
  match s.kg.slots[i].limits with
  | some l => l
  | none =>
    let t := s.ocvTable i
    let n := s.kg.slots[i].cells.toNat
    { vFull := n * t.ocv.getD 20 0, vMin := n * t.ocv.getD 0 0, taperLo := s.kg.curNow.iTaperLo.toNat,
      taperHi := s.kg.curNow.iTaperHi.toNat }

/-- The SoC for a cell voltage in mV (R206). -/
def socOfOcv (s : State) (i : Fin 48) (v : Rat) : Rat :=
  let l := s.packLimits i
  let n : Rat := (s.kg.slots[i].cells.toNat : Rat)
  if v ≤ (l.vMin : Rat) / n then 0
  else if (l.vFull : Rat) / n ≤ v then 1
  else ocvSoc (s.ocvTable i).ocv v

/-- The loaded voltage estimate of the SoC, from VB in mV and IBUS in mA (R206). -/
def loadedSoc (s : State) (i : Fin 48) (vb ma : Rat) : Rat :=
  let x := s.kg.slots[i]
  s.socOfOcv i ((vb - ma * s.impedance i x.soc / 1000) / (x.cells.toNat : Rat))

/-- v_fold in mV (Table 7.3). -/
def vFold (s : State) : Nat := 20 * s.kg.learnNow.vFold.toNat

/-- SoC and conflict after a group (R204, R214); `vb` in mV, `ma` in mA. -/
def computeSoc (i : Fin 48) (vb ma : Rat) (s : State) : State :=
  let x := s.kg.slots[i]
  if x.anchor.isNone || s.capOf i = 0 then s.onSlotG i fun x => { x with soc := 0 }
  else
    let c := s.socCount i
    let disagree : Bool := (x.state = 2#2 && decide ((1 : Rat) / 20 ≤ s.loadedSoc i vb ma)) ||
      (x.state = 3#2 && decide (((s.vFold : Nat) : Rat) < vb))
    if x.conflict ∨ (c ≤ 0 ∧ disagree) then s.onSlotG i fun x => { x with soc := 1 / 100, conflict := true }
    else if x.full = 1#2 ∧ x.state = 1#2 then s.onSlotG i fun x => { x with soc := 1 }
    else if 1 ≤ c ∧ x.full ≠ 1#2 then s.onSlotG i fun x => { x with soc := 99 / 100 }
    else s.onSlotG i fun x => { x with soc := clamp01 c }

/-- An anchor of the attach: SoC and the present count; a conflict ends and sets SUSPECT (R209, R212 to R214). -/
def anchorAt (i : Fin 48) (soc : Rat) (s : State) : State :=
  let conflict := s.kg.slots[i].conflict
  let s := s.onSlotG i fun x => { x with anchor := some (soc, x.q), src := 3#2, soc := soc, conflict := false }
  if !conflict then s
  else if s.kg.slots[i].owner.isNone then s.onSlotG i fun x => { x with suspectDue := true }
  else (s.onGaugeRec i fun r => { r with suspect := true }).commitDue i

/-- The cell charge of a VBUS charge in mAh, with the group's VB in mV (R202). -/
def cellCharge (s : State) (i : Fin 48) (vb dq : Rat) : Rat :=
  let st := s.kg.slots[i].state
  if st = 2#2 then dq
  else if st = 1#2 then (s.kg.learnNow.etaChg.toNat : Rat) / 100 * vb * dq / s.vNom i
  else if st = 3#2 then vb * dq / ((s.kg.learnNow.etaSrc.toNat : Rat) / 100 * s.vNom i)
  else 0

/-- One update of the impedance table from two consecutive 1 kHz groups: VB in 10 mV, IBUS in mA (R215). -/
def learnImpedance (i : Fin 48) (prev cur : Int × Int) (s : State) : State :=
  let x := s.kg.slots[i]
  let di := cur.2 - prev.2
  if x.state ≠ 2#2 ∨ 3#3 ≤ s.sh.stat.stage ∨ di.natAbs < 200 then s
  else
    let r : Rat := ((cur.1 - prev.1) * 10 : Int) / (di : Rat) / (x.cells.toNat : Rat)
    if r ≤ 0 ∨ 2 < r then s
    else
      let pt := min 15 (x.soc * 16).floor.toNat
      let idx := (s.tband i).toNat * 16 + pt
      s.onGaugeRec i fun g =>
        let e := g.imp.toList.getD idx 0#16
        let cnt := fld e 12 4
        let old : Rat := ((fld e 0 12).toNat : Rat) / 2000
        let v : Rat := if cnt = 0#4 then r else old + (r - old) / 8
        let u : Nat := max 1 (min 4095 (v * 2000 + 1 / 2).floor.toNat)
        let w : BitVec 16 := satInc cnt ++ BitVec.ofNat 12 u
        { g with imp := if h : idx < 64 then g.imp.set idx w h else g.imp }

/-- Whether sample index x comes after index y, modulo 2^16 (R271). -/
def serialAfter (x y : BitVec 16) : Bool := x ≠ y && decide ((x - y).toNat < 32768)

/-- One group of a slot: index, accumulator, QUIET, VB in 10 mV and IBUS in mA (R200 to R206, R214, R215). A group whose
sample index does not come after the last one was merged already and is left out (R222, R271). -/
def gaugeGroup (i : Fin 48) (idx : BitVec 16) (acc : BitVec 36) (quiet : Bool) (vb : Nat) (ma : Int) (s : State) : State :=
  let x := s.kg.slots[i]
  if !(x.lastIdx.all fun l => serialAfter idx l) then s
  else
    let dq : Rat := match x.lastAcc with
      | some a => ((acc - a).toInt : Rat) / 3600000
      | none => 0
    let vmv : Rat := ((vb * 10 : Nat) : Rat)
    let dc := s.cellCharge i vmv dq
    let slow := decide (3#3 ≤ s.sh.stat.stage) && !quiet
    let n := if slow then x.phase8 + 1 else 0
    let s := s.onSlotG i fun x => { x with lastIdx := some idx, lastAcc := some acc, q := x.q + dc, quiet := quiet, phase8 := n % 125, endIdx := none }
    let s := s.cycleCharge i dc
    if slow ∧ n < 125 then s.showSlot i
    else
      let consecutive := !quiet && !x.lastQuiet && (x.lastProc.map (· + 1#16)) = some idx
      let s : State := match x.last8 with
        | prev :: _ => if consecutive then s.learnImpedance i prev ((vb : Int), ma) else s
        | [] => s
      let s := s.onSlotG i fun x => { x with
        last8 := (((vb : Int), ma) :: x.last8).take 8, lastQuiet := quiet, lastProc := some idx,
        rest := x.rest && decide (ma.natAbs < s.kg.curNow.iRest.toNat) }
      let s : State := if x.anchor.isNone ∧ x.state = 2#2 ∧ 0 < s.capOf i then
          let v := s.loadedSoc i vmv (ma : Rat)
          s.onSlotG i fun x => { x with anchor := some (v, x.q), src := 2#2, soc := v }
        else s
      (s.computeSoc i vmv (ma : Rat)).showSlot i

/-- The first anchor from Battery_Status: present over design capacity, both in 0.1 Wh (R205). -/
def batteryAnchor (i : Fin 48) (present : Nat) (s : State) : State :=
  let x := s.kg.slots[i]
  let design : Rat := s.designCap i * s.vNom i / 100000
  if x.anchor.isSome ∨ design ≤ 0 then s
  else
    let v := clamp01 ((present : Rat) / design)
    (s.onSlotG i fun x => { x with anchor := some (v, x.q), src := 1#2, soc := v }).showSlot i

/-- REST_POINT: |IBUS| has stayed below i_rest for t_rest in DIRECT; after an end of charge from the same group the next
t_rest brings it (R209, R210, R222, log entry 186). -/
def restPoint (i : Fin 48) (s : State) : State :=
  let x := s.kg.slots[i]
  let still := match x.last8 with | (_, ma) :: _ => decide (ma.natAbs < s.kg.curNow.iRest.toNat) | [] => false
  if x.state ≠ 2#2 ∨ s.kg.timeNow.tRest = 0#8 ∨ !still ∨ (x.endIdx.isSome ∧ x.endIdx = x.lastIdx) then s
  else
    let n : Rat := (x.last8.length : Rat)
    let vb : Rat := (((x.last8.map (·.1)).sum * 10 : Int) : Rat) / n
    let ma : Rat := ((x.last8.map (·.2)).sum : Rat) / n
    let soc := s.loadedSoc i vb ma
    let broken := match x.port with | some p => s.ports[p].fe.breachMark | none => false
    let s := s.anchorAt i soc
    let s : State := match x.point with
      | none => s
      | some (soc0, q0) =>
        let d := if soc0 ≤ soc then soc - soc0 else soc0 - soc
        let dq := if q0 ≤ x.q then x.q - q0 else q0 - x.q
        if d < (s.kg.learnNow.span.toNat : Rat) / 100 ∨ d = 0 then s
        else
          let q := dq / d
          let design := s.designCap i
          if x.pointClean ∧ !broken ∧ design / 2 ≤ q ∧ q ≤ design * 3 / 2 then
            (s.onGaugeRec i fun r =>
              let cap : Rat := if !r.learned ∨ r.suspect ∨ r.stale then q else (3 * (r.cap.toNat : Rat) + q) / 4
              { r with cap := mah16 cap, learned := true, suspect := false, stale := false,
                       spanTime := BitVec.ofNat 32 (s.lk.clock.toNat / 200000000) }).commitDue i
          else { s with kg := { s.kg with stat := { s.kg.stat with spanRej := true } } }
    let s : State := match x.port with
      | some p => { s with ports := s.ports.set p { s.ports[p] with fe := { s.ports[p].fe with breachMark := false } } }
      | none => s
    (s.onSlotG i fun x => { x with rest := true, point := some (soc, x.q), pointClean := true }).showSlot i

end State

end Sys2Proof.Machine
end

