-- ==== Sys2Proof/Machine/PdTx.lean ====
section
/-! DEFINITION. The transmit side that the Type-C machine and the protocol layer of one port share (spec/03_pd_protocol.md
R72 to R79, R84 to R86, R96): the message in hand, the command held behind it, and the region's own messages. -/

namespace Sys2Proof.Machine

/-- Message type of a header. -/
def hType (h : BitVec 16) : BitVec 5 := fld h 0 5
/-- Number of data objects of a header. -/
def hNdo (h : BitVec 16) : Nat := (fld h 12 3).toNat
/-- Extended bit of a header. -/
def hExt (h : BitVec 16) : Bool := bit h 15
/-- A control message of type `t`. -/
def isCtrl (h : BitVec 16) (t : BitVec 5) : Bool := !hExt h && hNdo h = 0 && hType h = t
/-- A data message of type `t`. -/
def isData (h : BitVec 16) (t : BitVec 5) : Bool := !hExt h && hNdo h ≠ 0 && hType h = t

/-- Control message types, as USB PD Revision 3.2 numbers them (log entry 11). -/
def tGoodCrc : BitVec 5 := 1#5
/-- Accept. -/
def tAccept : BitVec 5 := 3#5
/-- Reject. -/
def tReject : BitVec 5 := 4#5
/-- PS_RDY. -/
def tPsRdy : BitVec 5 := 6#5
/-- Soft_Reset. -/
def tSoftReset : BitVec 5 := 13#5

/-- A header with its MessageID (Table 3.3). -/
def withId (h : BitVec 16) (id : BitVec 3) : BitVec 16 := (h &&& 0xF1FF#16) ||| (id.setWidth 16 <<< 9)

/-- Number of chunks of an extended message, by Data Size at 26 bytes a chunk (R85). -/
def chunksOf (ext : BitVec 16) : Nat := max 1 (((fld ext 0 9).toNat + 25) / 26)

namespace Port

/-- Header of a message the region builds itself: type, DROLE, REV, Type-C power role (R70). -/
def ownHeader (t : BitVec 5) (p : Port) : BitVec 16 :=
  t.setWidth 16 ||| ((BitVec.ofBool p.pdstat.drole).setWidth 16 <<< 5) ||| (p.pdstat.rev.setWidth 16 <<< 6) |||
    ((BitVec.ofBool p.isSource).setWidth 16 <<< 8)

/-- A message that the region sends on its own. -/
def ownMsg (h ext : BitVec 16) (sop1 : Bool) : TxMsg where
  header := h
  extHeader := ext
  sop1 := sop1
  amsStart := false
  amsEnd := false
  onFail := 0#2
  onTimeout := 0#2
  resp := 0#3
  seq := 0#8
  own := true
  objs := []

/-- Payload of PD_TX_OK, PD_TX_FAIL and PD_TX_DISCARDED (Table 11.4). -/
def txPay (m : TxMsg) : W36 := pay 0 m.seq ||| payB 8 m.sop1 ||| payB 9 m.own

/-- A command or message is discarded before its preamble (R79). A message of the region itself writes no event. -/
def discarded (m : TxMsg) (p : Port) : Port := if m.own then p else p.post .pdTxDiscarded (txPay m)

/-- The AMS ends: the source presents SinkTxOk again (R77). -/
def amsEnd (p : Port) : Port :=
  { p with pdstat := { p.pdstat with
    amsActive := false, sinkTxOk := if p.isSource then p.pdstat.collAv else p.pdstat.sinkTxOk } }.stop .amsIdle

/-- Collision avoidance begins with the first explicit contract at Revision 3.x; a sink reads SinkTxOk from the Rp level
that stands on its active CC (R77, R78). -/
def startCollAv (p : Port) : Port :=
  if p.rev3 ∧ !p.pdstat.collAv then
    { p with pdstat := { p.pdstat with collAv := true, sinkTxOk := p.isSource || p.activeClass = 5#3 } }
  else p

/-- Take a message in hand: collision avoidance, or ready for the idle line (R72, R77, R78). -/
def beginTx (m : TxMsg) (p : Port) : Port :=
  let p := { p with rg := { p.rg with tx := some m, chunk := 0#4, retries := if p.rev3 then 2 else 3, phase := .ready } }
  let p := if m.amsStart then { p with pdstat := { p.pdstat with amsActive := true } } else p
  if m.amsStart ∧ p.pdstat.collAv then
    if p.isSource then
      { p with rg := { p.rg with phase := .sinkTxWait }, pdstat := { p.pdstat with sinkTxOk := false } }.start .sinkTx
    else if p.pdstat.sinkTxOk then p
    else { p with rg := { p.rg with phase := .heldNg }, pdstat := { p.pdstat with txPending := true } }
  else p

/-- The transmission in hand has begun on the line or waits inside its exchange (R79). -/
def busy (p : Port) : Bool :=
  p.rg.phase = .onLine || p.rg.phase = .awaitCrc || p.rg.phase = .retryWait || p.rg.phase = .chunkWait ||
    (p.rg.phase = .ready && p.rg.chunk ≠ 0#4)

/-- A chunked exchange is sent on a SOP type (R85, R86). -/
def txExchange (sop1 : Bool) (p : Port) : Bool :=
  match p.rg.tx with
  | some m => m.sop1 = sop1 && !m.own && hExt m.header && decide (1 < chunksOf m.extHeader) && p.busy
  | none => false

/-- A chunked exchange is received on a SOP type. -/
def rxExchange (sop1 : Bool) (p : Port) : Bool := if sop1 then p.rg.rx1.isSome else p.rg.rx.isSome

/-- The exchange received on a SOP type. -/
def rxOf (sop1 : Bool) (p : Port) : Option RxChunk := if sop1 then p.rg.rx1 else p.rg.rx

/-- The exchange received on a SOP type is set. -/
def setRx (sop1 : Bool) (x : Option RxChunk) (p : Port) : Port :=
  if sop1 then { p with rg := { p.rg with rx1 := x } } else { p with rg := { p.rg with rx := x } }

/-- The wait of the receive side for the next chunk on a SOP type (Table 3.8). -/
def chunkTimer (sop1 : Bool) : TimerId := if sop1 then .chunkResponse1 else .chunkResponse

/-- A Chunk Request of the region on a SOP type. -/
def isOwnChunk (sop1 : Bool) (m : TxMsg) : Bool := m.own && hExt m.header && m.sop1 = sop1

/-- The receive side of a chunked exchange ends; a Chunk Request that has not started is not sent (R86). -/
def dropRx (sop1 : Bool) (p : Port) : Port :=
  let now := match p.rg.tx with | some m => isOwnChunk sop1 m && !p.busy | none => false
  ({ p with rg := { p.rg with
      ownDue := p.rg.ownDue.filter fun m => !isOwnChunk sop1 m, tx := if now then none else p.rg.tx,
      phase := if now then .idle else p.rg.phase } }.setRx sop1 none).stop (chunkTimer sop1)

/-- The receive side of a chunked exchange on a SOP type ends with PD_CHUNK_ABORT (R86). -/
def chunkAbortRx (sop1 : Bool) (p : Port) : Port := (p.dropRx sop1).post .pdChunkAbort 0#36

/-- A Soft_Reset is sent, by the ladder or the core: MessageIDs of that SOP type clear, SR_CNT advances on SOP, the AMS
and a receive exchange end, and the Soft_Reset goes with MessageID 0 (R86, Table 3.10). -/
def softReset (m : TxMsg) (p : Port) : Port :=
  let p := if p.rxExchange m.sop1 then p.chunkAbortRx m.sop1 else p
  let p := p.amsEnd
  let p := if m.sop1 then { p with rg := { p.rg with txId1 := 0#3, rxId1 := none } }
           else { p with rg := { p.rg with txId := 0#3, rxId := none },
                         pdstat := { p.pdstat with srCnt := satInc p.pdstat.srCnt } }
  { p with rg := { p.rg with meas := false } }.beginTx m

/-- Take the next message in hand; a Soft_Reset takes the step of Table 3.10. -/
def takeTx (m : TxMsg) (p : Port) : Port := if isCtrl m.header tSoftReset then p.softReset m else p.beginTx m

/-- Nothing is in hand; a message of the region that waits goes next, else a held command (R79). -/
def nextTx (p : Port) : Port :=
  let p := { p with rg := { p.rg with tx := none, phase := .idle }, pdstat := { p.pdstat with txPending := false } }
    |>.stopAll [.crcReceive, .sinkTx, .chunkRequest]
  match p.rg.ownDue with
  | m :: ms => { p with rg := { p.rg with ownDue := ms } }.takeTx m
  | [] =>
    match p.rg.held with
    | some h => { p with rg := { p.rg with held := none } }.takeTx h
    | none => p

/-- Where nothing is in hand, what waits goes next. -/
def goOn (p : Port) : Port := if p.rg.tx.isNone && (!p.rg.ownDue.isEmpty || p.rg.held.isSome) then p.nextTx else p

/-- The same Soft_Reset of the region, on one SOP type. -/
def sameSoft (a b : TxMsg) : Bool :=
  a.own && isCtrl a.header tSoftReset && isCtrl b.header tSoftReset && a.sop1 = b.sop1

/-- The region sends a message of its own: behind a message that is under way or is its own, and before a command that has
not started, which is then held; a Soft_Reset takes the place of its own that has not started (R75, R79, R85, log entry
165). -/
def sendOwn (m : TxMsg) (p : Port) : Port :=
  match p.rg.tx with
  | some old =>
    if p.busy ∨ (old.own ∧ !sameSoft old m) then { p with rg := { p.rg with ownDue := p.rg.ownDue ++ [m] } }
    else
      let p := { p with rg := { p.rg with tx := none, phase := .idle, held := if old.own then p.rg.held else some old },
                        pdstat := { p.pdstat with txPending := false } }.stop .sinkTx
      p.takeTx m
  | none => p.takeTx m

/-- The held command is discarded (R79). -/
def dropHeld (p : Port) : Port :=
  match p.rg.held with
  | some h => { p with rg := { p.rg with held := none } }.discarded h
  | none => p

/-- Every command of the core that has not started is discarded with PD_TX_DISCARDED (R79). -/
def dropPending (p : Port) : Port :=
  let p := p.dropHeld
  match p.rg.tx with
  | some m =>
    if p.busy ∨ m.own then p
    else
      ({ p with rg := { p.rg with tx := none, phase := .idle }, pdstat := { p.pdstat with txPending := false } }.stop
        .sinkTx).discarded m
  | none => p

/-- A message arrives on `sop1`: a command of that SOP type that has not started is discarded (R79). -/
def discardPending (sop1 : Bool) (p : Port) : Port :=
  let p := match p.rg.held with
    | some h => if h.sop1 = sop1 then p.dropHeld else p
    | none => p
  match p.rg.tx with
  | some m =>
    if m.sop1 = sop1 ∧ !p.busy ∧ !m.own then
      ({ p with rg := { p.rg with tx := none, phase := .idle }, pdstat := { p.pdstat with txPending := false } }.stop
        .sinkTx).discarded m |>.nextTx
    else p
  | none => p

/-- The outcome of a command's message is kept for a repeat (R76). -/
def setOutcome (m : TxMsg) (ok : Bool) (p : Port) : Port :=
  if m.own then p
  else if m.sop1 then { p with rg := { p.rg with lastOk1 := some ok } }
  else { p with rg := { p.rg with lastOk := some ok } }

/-- A message of SOP′ is given up when SOP′ ends: PD_TX_FAIL, also for a command that had not started (R84, log entry
167), whose outcome is not that of the last message transmitted (R76). A message of the region that had not started writes
nothing. -/
def cutSop1 (started : Bool) (m : TxMsg) (p : Port) : Port :=
  (if started then p.setOutcome m false else p).post .pdTxFail (txPay m)

/-- SOP′ ends when the device stops being VCONN source: its transmissions are cut with PD_TX_FAIL, its waits abandoned
without action, and the SOP′ MessageID state clears (R84). A command on SOP goes on, and one on SOP′ that has not started
is cut too (log entry 167). -/
def endSop1 (p : Port) : Port :=
  let p := if p.rg.soft = some true then { p with rg := { p.rg with soft := none } }.stop .softAccept else p
  let p := match p.rg.waiting with
    | some m => if m.sop1 then { p with rg := { p.rg with waiting := none } }.stop .response else p
    | none => p
  let p := if p.rxExchange true then p.dropRx true else p
  let p := { p with rg := { p.rg with ownDue := p.rg.ownDue.filter fun m => !m.sop1 } }
  let p := match p.rg.held with
    | some m => if m.sop1 then { p with rg := { p.rg with held := none } }.cutSop1 false m else p
    | none => p
  let p := match p.rg.tx with
    | some m =>
      if !m.sop1 then p
      else
        let started := p.busy
        let p := if p.rg.phase = TxPhase.onLine then p.airEnd else p
        (if m.own && !started then p else p.cutSop1 started m).nextTx
    | none => p
  { p with rg := { p.rg with txId1 := 0#3, rxId1 := none, lastSeq1 := none, lastOk1 := none } }.goOn

end Port

end Sys2Proof.Machine
end

