-- ==== Sys2Proof/Machine/TypeC.lean ====
section
/-! DEFINITION. The Type-C connection machine of one port (spec/02_port_attach.md): classification of the lines, the
exits of Table 2.3, VB levels, VCONN, detach and the configuration changes of R64. Every function takes what the port
sees from outside first. -/

namespace Sys2Proof.Machine

/-- Line classes, as CC1_LINE codes them (Table 2.7). -/
def lineOpen : BitVec 3 := 0#3
/-- SRC.Ra. -/
def lineRa : BitVec 3 := 1#3
/-- SRC.Rd. -/
def lineRd : BitVec 3 := 2#3

/-- The Ra/Rd and Rd/Open boundaries in mV for an Rp level (Table 2.2). -/
def rpBounds (lvl : BitVec 2) : Nat × Nat :=
  if lvl = 0#2 then (200, 1600) else if lvl = 1#2 then (400, 1600) else (800, 2600)

/-- Classification of a line on which the device presents Rp (R42). -/
def classRp (lvl : BitVec 2) (mv : Nat) : BitVec 3 :=
  if mv < (rpBounds lvl).1 then lineRa else if mv < (rpBounds lvl).2 then lineRd else lineOpen

/-- Classification of a line on which the device presents Rd (R42). -/
def classRd (mv : Nat) : BitVec 3 :=
  if mv < 200 then lineOpen else if mv < 660 then 3#3 else if mv < 1230 then 4#3 else 5#3

/-- A sink-side class that shows an Rp. -/
def isRp (c : BitVec 3) : Bool := c = 3#3 || c = 4#3 || c = 5#3

/-- What both lines show together, for the exits of Table 2.3. -/
inductive Pattern where
  | one1 | one2 | both | raBoth | raOpen | open | other
deriving DecidableEq, Repr

/-- The pattern of two lines on which the device presents Rp. -/
def srcPattern (a b : BitVec 3) : Pattern :=
  if a = lineRd ∧ b = lineRd then .both
  else if a = lineRd ∧ (b = lineOpen ∨ b = lineRa) then .one1
  else if b = lineRd ∧ (a = lineOpen ∨ a = lineRa) then .one2
  else if a = lineRa ∧ b = lineRa then .raBoth
  else if (a = lineRa ∧ b = lineOpen) ∨ (a = lineOpen ∧ b = lineRa) then .raOpen
  else if a = lineOpen ∧ b = lineOpen then .open
  else .other

/-- The pattern of two lines on which the device presents Rd. -/
def snkPattern (a b : BitVec 3) : Pattern :=
  if isRp a ∧ isRp b then .both
  else if isRp a then .one1
  else if isRp b then .one2
  else if a = lineOpen ∧ b = lineOpen then .open
  else .other

/-- One line alone shows a partner. -/
def Pattern.isOne : Pattern → Bool
  | .one1 | .one2 => true
  | _ => false

namespace Port

/-- The device presents Rp in this state (Table 2.3). -/
def presentsRp (p : Port) : Bool :=
  match p.tc.state with
  | .unattachedSrc | .attachWaitSrc | .attachedSrc | .trySrc | .tryWaitSrc | .audioAccessory | .debugSrc => true
  | _ => false

/-- The device presents Rd in this state (Table 2.3). -/
def presentsRd (p : Port) : Bool :=
  match p.tc.state with
  | .unattachedSnk | .attachWaitSnk | .attachedSnk | .tryWaitSnk | .trySnk | .debugSnk | .start => true
  | _ => false

/-- The Rp level in force: Default in a probe, the collision-avoidance level while that is in force, else RP_LVL
(R47, spec/03_pd_protocol.md R77). -/
def rpLevel (p : Port) : BitVec 2 :=
  if p.tc.state = .unattachedSrc ∧ p.tc.rpProbing then 0#2
  else if p.tc.state = .attachedSrc ∧ p.pdstat.collAv then (if p.pdstat.sinkTxOk then 2#2 else 1#2)
  else p.cc.rpLvl

/-- The class of one line by the termination presented (Table 2.7). A line that carries VCONN, and the open non-active
line of Attached.SRC, keep what they show (R52). `second` names CC2. -/
def classify (second : Bool) (mv : Nat) (p : Port) : BitVec 3 :=
  let shown := if second then p.cc.cc2Line else p.cc.cc1Line
  if (p.cc.vconnOn ∨ p.tc.state = .attachedSrc) ∧ p.cc.polarity ≠ second then shown
  else if p.presentsRp then classRp p.rpLevel mv
  else if p.presentsRd then classRd mv
  else shown

/-- Both lines take their classes; that of an active line under a transmission is kept for its end (Table 2.7). -/
def setLines (v1 v2 : Nat) (p : Port) : Port :=
  let c1 := p.classify false v1
  let c2 := p.classify true v2
  if p.onAir then
    let p := { p with rg := { p.rg with savedLine := if p.cc.polarity then c2 else c1 } }
    p.setLineCode false (if p.cc.polarity then c1 else c2)
  else { p with cc := { p.cc with cc1Line := c1, cc2Line := c2 } }

/-- The pattern the lines show in the present state. -/
def pattern (p : Port) : Pattern :=
  if p.presentsRp then srcPattern p.cc.cc1Line p.cc.cc2Line else snkPattern p.cc.cc1Line p.cc.cc2Line

/-- A cable with nothing at its far end: CABLE_ONLY, and TC_CABLE_ONLY once per insertion (R58). -/
def noteCable (p : Port) : Port :=
  if p.cc.cableOnly then p else { p with cc := { p.cc with cableOnly := true } }.post .tcCableOnly 0#36

/-- The exit of Table 2.3 that the lines ask for in the present state: its debounce, and what must hold for it, as the
line or pattern it names (R44, R57). As long as this does not change the debounce runs on. -/
def exitDue (p : Port) : Option (TimerId × Pattern) :=
  let x := p.pattern
  let one (t : TimerId) : Option (TimerId × Pattern) := if x.isOne then some (t, x) else none
  let opened : Option (TimerId × Pattern) := if x = .open then some (.pdDebounce, .open) else none
  match p.tc.state with
  | .attachWaitSrc =>
    match x with
    | .one1 | .one2 => some (.ccDebounce, x)
    | .both => if p.rg.cfgAcc then some (.ccDebounce, x) else some (.pdDebounce, x)
    | .raBoth => if p.rg.cfgAcc then some (.ccDebounce, x) else some (.pdDebounce, .open)
    | .raOpen | .open | .other => some (.pdDebounce, .open)
  | .attachWaitSnk =>
    match x with
    | .both => if p.rg.cfgAcc then some (.ccDebounce, x) else some (.pdDebounce, x)
    | _ => (one .ccDebounce).or opened
  | .tryWaitSnk => (one .ccDebounce).or opened
  | .trySrc | .tryWaitSrc => one .tryCcDebounce
  | .trySnk =>
    if p.rg.tryWindow then (one .tryCcDebounce).or (if x = .open then some (.tryCcDebounce, x) else none) else none
  | .audioAccessory | .debugSnk => opened
  | .debugSrc =>
    if p.cc.cc1Line = lineOpen ∨ p.cc.cc2Line = lineOpen then some (.pdDebounce, .open) else none
  | _ => none

/-- Start the debounce that the lines ask for in the present state (Table 2.3, R57); AttachWait.SRC notes a cable with
nothing at its far end (R58), and Attached.SRC runs tSRCDisconnect while its active CC is open (R59). -/
def startDebounce (p : Port) : Port :=
  let p := if p.tc.state = .attachWaitSrc ∧ p.pattern = .raOpen then p.noteCable else p
  if p.tc.state = .attachedSrc then
    if p.activeClass = lineOpen then (if p.timerOn .srcDisconnect then p else p.start .srcDisconnect)
    else p.stop .srcDisconnect
  else match p.exitDue with
    | some (t, _) => p.start t
    | none => p

/-- Enter a state whose exits are debounced; the debounces begin at entry. -/
def toDebounced (st : TcState) (p : Port) : Port := (p.toState st).startDebounce

/-- Try.SRC or Try.SNK, with tDRPTry from entry (Table 2.3). -/
def toTry (st : TcState) (p : Port) : Port := ((p.toState st).start .drpTry).startDebounce

/-- TryWait.SRC, with tTryTimeout from entry. -/
def toTryWaitSrc (p : Port) : Port := ((p.toState .tryWaitSrc).start .tryTimeout).startDebounce

/-- An accessory state: nothing is served, TC_ACCESSORY is written (R57). -/
def toAccessory (st : TcState) (p : Port) : Port :=
  let p := (p.toState st).startDebounce
  { p with rg := { p.rg with announced := true } }.post .tcAccessory (pay 0 st.code)

/-- An attach completes: CABLE_ONLY clears (R58) and TC_ATTACH is written, once for each attach (R495, Table 11.4). -/
def announce (p : Port) : Port :=
  { p with cc := { p.cc with cableOnly := false }, rg := { p.rg with announced := true } }.post .tcAttach
    (pay 0 p.tc.state.code ||| payB 5 p.cc.polarity ||| payB 6 p.tc.dbAttach)

/-- Entry to Attached.SNK from an unattached or Try state: POLARITY, ATTACH_CNT, the data role UFP, TC_ATTACH
(R52, R61, R68, R495). -/
def attachSnk (p : Port) : Port :=
  let pol := p.pattern = .one2
  let db := p.rg.dbStart
  let p := p.toState .attachedSnk
  { p with
    attachSeen := true,
    cc := { p.cc with polarity := pol },
    tc := { p.tc with attachCnt := p.tc.attachCnt + 1#8, dbAttach := db },
    pdstat := { p.pdstat with drole := false },
    rg := { p.rg with snkLevel := 3670, dbStart := false } }
  |>.gaugeMark.announce

/-- The non-active CC showed SRC.Ra (R52, R54). -/
def raOther (p : Port) : Bool := p.otherClass = lineRa

/-- VCONN is driven after the source path passes where R54 allows it. -/
def autoVconn (e : Env) (p : Port) : Port :=
  if p.cc.vconnEn ∧ p.raOther ∧ !e.shedHold ∧ p.tc.state = .attachedSrc then p.vcnOn else p

/-- An attach that cannot be powered: TC_VB_STUCK and ErrorRecovery (R46). -/
def vbStuck (p : Port) : Port := (p.post .tcVbStuck 0#36).toErrorRecovery

/-- The source path passes as a cold pass: VSET at duty zero, then the pass; what waits for vSafe5V is kept in `why`
(R144). A refused pass of an attach ends it under R46. -/
def coldPass (e : Env) (why : Rise) (p : Port) : Port :=
  let p := p.vsetZero.pass e .source false
  if p.fe.path = .source then
    let p := { p with rg := { p.rg with rise := why, noFirstPass := false } }
    if why = .attach then (p.start .vbusOn).autoVconn e else p
  else if why = .attach then p.vbStuck
  else p

/-- Entry to Attached.SRC from an unattached or Try state; the source path passes only once VB_SAFE0 is set
(R46, R52, R68). -/
def attachSrc (e : Env) (p : Port) : Port :=
  let pol := p.pattern = .one2
  let p := p.toState .attachedSrc
  let p := { p with
    attachSeen := true,
    cc := { p.cc with polarity := pol },
    tc := { p.tc with attachCnt := p.tc.attachCnt + 1#8, dbAttach := false },
    pdstat := { p.pdstat with drole := true },
    rg := { p.rg with noFirstPass := true } }.gaugeMark
  if p.cc.vbSafe0 then p.coldPass e .attach else p.start .vb0Wait

/-- The exits of an unattached state at a probe or, with probing off, at a line change (Table 2.3, R47, R58). -/
def unattachedExit (p : Port) : Port :=
  match p.tc.state with
  | .unattachedSrc =>
    if p.cc.cc1Line = lineRd ∨ p.cc.cc2Line = lineRd ∨ (p.pattern = .raBoth ∧ p.rg.cfgAcc) then
      p.toDebounced .attachWaitSrc
    else if p.pattern = .raOpen then p.noteCable
    else if p.pattern = .open then { p with cc := { p.cc with cableOnly := false } }
    else p
  | .unattachedSnk => if isRp p.cc.cc1Line ∨ isRp p.cc.cc2Line then p.toDebounced .attachWaitSnk else p
  | _ => p

/-- PROBE: an unattached port with probing in effect classifies both lines for one probe and acts on the result
(R47). A change of RP_PERIOD takes effect at this probe (R64). -/
def probe (v1 v2 : Nat) (p : Port) : Port :=
  if p.tc.rpProbing then
    let p := p.setLines v1 v2
    let p := { p with tc := { p.tc with rpProbing := p.cc.rpPeriod ≠ 0#4 } }
    p.unattachedExit
  else p

/-- DRP_TOGGLE: the half of tDRP elapses and a DRP port changes role (R48). -/
def drpToggle (p : Port) : Port :=
  if p.timerOn .drpHalf then
    match p.tc.state with
    | .unattachedSnk => p.toUnattachedSt .unattachedSrc
    | .unattachedSrc => p.toUnattachedSt .unattachedSnk
    | _ => p
  else p

/-- CC_LINE_CHANGE: filtered classes change; where they ask for another exit than before, its debounce starts afresh
(R42, R44). -/
def lineChange (v1 v2 : Nat) (p : Port) : Port :=
  if p.tc.rpProbing then p
  else
    let old := p.exitDue
    let p := p.setLines v1 v2
    match p.tc.state with
    | .unattachedSrc | .unattachedSnk => p.unattachedExit
    | .attachedSrc => p.startDebounce
    | _ =>
      if p.exitDue = old then (if p.tc.state = .attachWaitSrc ∧ p.pattern = .raOpen then p.noteCable else p)
      else
        let p := p.stopAll [.ccDebounce, .pdDebounce, .tryCcDebounce]
        { p with rg := { p.rg with ccMet := false } }.startDebounce

/-- The sink attach of a state whose debounce is met and whose VBUS is present (Table 2.3). -/
def sinkReady (p : Port) : Port :=
  if p.tc.state = .attachWaitSnk ∧ p.trySrcOn then p.toTry .trySrc else p.attachSnk

/-- CC_DEBOUNCE_EXPIRY: tCCDebounce elapses (Table 2.3). -/
def ccDebounceExpiry (e : Env) (p : Port) : Port :=
  if p.timerOn .ccDebounce then
    let p := p.stop .ccDebounce
    let one := p.pattern = .one1 || p.pattern = .one2
    match p.tc.state with
    | .attachWaitSnk | .tryWaitSnk =>
      if one then
        if p.cc.vbPresent then p.sinkReady else { p with rg := { p.rg with ccMet := true } }
      else if p.pattern = .both ∧ p.tc.state = .attachWaitSnk then p.toAccessory .debugSnk
      else p
    | .attachWaitSrc =>
      if one then (if p.trySnkOn then p.toTry .trySnk else p.attachSrc e)
      else if p.pattern = .both then p.toAccessory .debugSrc
      else if p.pattern = .raBoth then p.toAccessory .audioAccessory
      else p
    | _ => p
  else p

/-- An accessory ends: a detach with cause CC_SLOW, in which no path passed (R57, R495). It clears what every detach clears
(R96, R137, R150, R152). -/
def accessoryEnd (p : Port) : Port :=
  (p.sessionClear.clearPd.roleEnd.ladderClear.ccPathClear.endAttach 1#3).toUnattached

/-- PD_DEBOUNCE_EXPIRY: tPDDebounce elapses (Table 2.3). With ACC_DET = 0 a debug accessory leads to Unattached (R57). -/
def pdDebounceExpiry (p : Port) : Port :=
  if p.timerOn .pdDebounce then
    let p := p.stop .pdDebounce
    match p.tc.state with
    | .attachWaitSnk =>
      if p.pattern = .both then p.toUnattached
      else if p.isDrp then p.toUnattachedSt .unattachedSrc
      else p.toUnattachedSt .unattachedSnk
    | .tryWaitSnk => p.toUnattachedSt .unattachedSnk
    | .attachWaitSrc => p.toUnattached
    | .audioAccessory | .debugSrc | .debugSnk => p.accessoryEnd
    | _ => p
  else p

/-- TRY_CC_DEBOUNCE_EXPIRY: tTryCCDebounce elapses (Table 2.3). -/
def tryCcExpiry (e : Env) (p : Port) : Port :=
  if p.timerOn .tryCcDebounce then
    let p := p.stop .tryCcDebounce
    match p.tc.state with
    | .trySrc | .tryWaitSrc => p.attachSrc e
    | .trySnk =>
      if p.pattern = .open then p.toTryWaitSrc
      else if p.cc.vbPresent then p.attachSnk
      else { p with rg := { p.rg with ccMet := true } }
    | _ => p
  else p

/-- DRP_TRY_EXPIRY: tDRPTry elapses: Try.SRC gives up, Try.SNK begins to watch its exits (Table 2.3). -/
def drpTryExpiry (p : Port) : Port :=
  if p.timerOn .drpTry then
    let p := p.stop .drpTry
    match p.tc.state with
    | .trySrc => p.toDebounced .tryWaitSnk
    | .trySnk => { p with rg := { p.rg with tryWindow := true } }.startDebounce
    | _ => p
  else p

/-- TRY_TIMEOUT_EXPIRY: tTryTimeout elapses in TryWait.SRC (Table 2.3). -/
def tryTimeoutExpiry (p : Port) : Port :=
  if p.timerOn .tryTimeout ∧ p.tc.state = .tryWaitSrc then p.toUnattachedSt .unattachedSnk else p

/-- ErrorRecovery after CC_SHORT is not left before COND = 0 (R155). -/
def shortStands (p : Port) : Bool := p.fe.ccIsolated && !p.fe.cond.isEmpty

/-- ERROR_RECOVERY_EXPIRY: tErrorRecovery elapses and the port returns to Unattached; after CC_SHORT it stays until
COND = 0 (Table 2.3, R155). -/
def errorRecoveryExpiry (p : Port) : Port :=
  if p.tc.state = .errorRecovery ∧ p.timerOn .errorRecovery then
    let p := p.stop .errorRecovery
    if p.shortStands then p else p.toUnattached
  else p

/-- An attach as source whose rise to vSafe5V a Hard Reset took over is announced at the end of that rise (R495). -/
def announceLate (p : Port) : Port := if p.attached && !p.rg.announced then p.announce else p

/-- Hard Reset progress ends: the port is back at its power level (Table 3.9). -/
def hrDone (p : Port) : Port :=
  { p with
    pdstat := { p.pdstat with vbMask := false, hrActive := false },
    rg := { p.rg with hr := .idle, rise := .none } }
  |>.gaugeMark.stop .hrSink |>.post .pdHardResetDone 0#36 |>.announceLate

/-- A power-path command completes; the gauge state follows unless a swap is in progress (Table 4.1, R199). -/
def ppDone (cmd : BitVec 4) (p : Port) : Port :=
  (if p.contract.swap then p else p.gaugeMark).post .ppDone (pay 0 cmd)

/-- What waits for VB_SAFE0 goes on: the attach, SRC_ON, SRC_OFF and the Hard Reset rows; DIS is released (R46, R156,
Tables 3.9 and 4.1). -/
def onSafe0 (e : Env) (p : Port) : Port :=
  let p := p.releaseDis.stop .vb0Wait
  let p := if p.rg.srcOffRun then { p with rg := { p.rg with srcOffRun := false } }.ppDone 9#4 else p
  match p.rg.hr with
  | .srcSafe0 => { p with rg := { p.rg with hr := .srcRecover } }.start .srcRecover
  | .snkSafe0 => { p with rg := { p.rg with hr := .snkPresent } }
  | _ =>
    if p.tc.state = .attachedSrc ∧ p.rg.noFirstPass ∧ p.rg.hr = .idle then p.coldPass e .attach
    else if p.rg.srcOnWait then { p with rg := { p.rg with srcOnWait := false } }.coldPass e .srcOn
    else p

/-- SNK_ON once VB_PRESENT is set: the sink path passes; PP_DONE when it does (Table 4.1). -/
def snkOnNow (e : Env) (p : Port) : Port :=
  let p := { p with rg := { p.rg with snkOnWait := false } }.pass e .sink false
  if p.fe.path = .sink then p.ppDone 12#4 else p

/-- What waits for VB_PRESENT goes on (Tables 2.3, 3.9, 4.1). -/
def onPresent (e : Env) (p : Port) : Port :=
  if p.rg.hr = .snkPresent then
    let p := p.pass e .sink false
    if p.fe.path = .sink then p.hrDone else p
  else if p.rg.ccMet ∧ (p.tc.state = .attachWaitSnk ∨ p.tc.state = .tryWaitSnk) then p.sinkReady
  else if p.rg.ccMet ∧ p.tc.state = .trySnk then p.attachSnk
  else if p.rg.snkOnWait then p.snkOnNow e
  else p

/-- VB_LEVEL_CHANGE: VB_PRESENT sets at 4.0 V and clears below 3.67 V; VB_SAFE0 is set at 0.8 V and below; a foreign
VBUS flag clears below 3.67 V; what waited goes on (R43, R154). -/
def vbLevel (e : Env) (mv : Nat) (p : Port) : Port :=
  let pres := if 4000 ≤ mv then true else if mv < 3670 then false else p.cc.vbPresent
  let safe := mv ≤ 800
  let rosePres := pres && !p.cc.vbPresent
  let roseSafe := safe && !p.cc.vbSafe0
  let p := { p with
    cc := { p.cc with vbPresent := pres, vbSafe0 := safe },
    fe := { p.fe with vb := mv, foreign := p.fe.foreign && 3670 ≤ mv } }
  if e.regionUp then
    let p := if roseSafe then p.onSafe0 e else p
    if rosePres then p.onPresent e else p
  else if roseSafe then p.releaseDis
  else p

/-- VSAFE5V_REACHED: VB first reaches vSafe5V after a cold pass; the attach, the Hard Reset or SRC_ON completes
(R495, Tables 3.9 and 4.1). -/
def vsafe5v (p : Port) : Port :=
  match p.rg.rise with
  | .none => p
  | .attach => ({ p with rg := { p.rg with rise := .none } }.stop .vbusOn).announce
  | .hardReset => p.hrDone
  | .srcOn => { p with rg := { p.rg with rise := .none } }.ppDone 10#4

/-- VB0_WAIT_EXPIRY: VB_SAFE0 is not set within t_vb0_wait: an attach, or a Hard Reset as source, ends in
ErrorRecovery with TC_VB_STUCK (R46, Table 3.9). -/
def vb0WaitExpiry (p : Port) : Port :=
  if p.timerOn .vb0Wait ∧ !p.cc.vbSafe0 then
    let p := p.stop .vb0Wait
    if (p.tc.state = .attachedSrc ∧ p.rg.noFirstPass) ∨ p.rg.hr = .srcSafe0 then p.vbStuck else p
  else p

/-- VBUSON_EXPIRY: VB does not reach vSafe5V within tVBUSON (R46). -/
def vbusOnExpiry (p : Port) : Port :=
  if p.timerOn .vbusOn ∧ p.rg.rise = .attach then p.vbStuck else p

/-- SLOW_DETACH: the active CC showed SRC.Open for tSRCDisconnect (R59). -/
def slowDetach (p : Port) : Port :=
  if p.tc.state = .attachedSrc ∧ p.timerOn .srcDisconnect then p.detach 1#3 else p

/-- A fast-path detach with a transition pending or a swap in progress: hold at once, VSET zero, P_CONTRACT cleared,
DETACH_IN_TRANSITION with the target, then TC_DETACH (spec/04_contracts_swaps.md R126). -/
def detachInTransition (p : Port) : Port :=
  let tgt : BitVec 12 := BitVec.ofNat 12 (p.rg.moving / 20)
  (p.post .detachInTransition (pay 0 tgt)).detach 3#3

/-- The region acts on the fast-detach flag: at once with a transition pending or a swap, else within t_fdet_win
(R59, R126). -/
def fdetAct (p : Port) : Port :=
  if p.tc.state = .attachedSrc then
    let p := { p with fe := { p.fe with fdetLatch := false } }
    if p.contract.transPend ∨ p.contract.swap then p.detachInTransition
    else { p with rg := { p.rg with fdet := true } }.start .fdetWindow
  else p

/-- A latched fast-detach flag: a front end that stands alone holds the pair itself, and a region in service acts on the
flag (R59, Tables 2.5 and 5.6). -/
def fdetSeen (e : Env) (p : Port) : Port :=
  if p.fe.fdetLatch then
    let p := if e.alone then p.hold else p
    if e.regionUp then p.fdetAct else p
  else p

/-- FAST_DETACH_LATCH: the front end latches the flag when the active CC crosses the Rd/Open boundary; while the region
transmits the comparator is blanked, and the crossing is latched at the end (R59, R60). -/
def fastDetachLatch (e : Env) (p : Port) : Port :=
  if p.tc.state = .attachedSrc then
    if p.onAir then { p with fe := { p.fe with fdetBlank := true } }
    else { p with fe := { p.fe with fdetLatch := true } }.fdetSeen e
  else p

/-- FAST_DETACH_CURRENT_FALL: IBUS falls below i_fdet, 50 mA, within the window (R59). -/
def fastDetachFall (ma : Int) (p : Port) : Port :=
  if p.rg.fdet ∧ p.timerOn .fdetWindow ∧ ma.natAbs < 50 then p.detach 2#3 else p

/-- FAST_DETACH_WINDOW_EXPIRY: the fast path is abandoned and the slow path decides (R59). -/
def fastDetachWindow (p : Port) : Port :=
  if p.timerOn .fdetWindow then { p with rg := { p.rg with fdet := false } }.stop .fdetWindow else p

/-- SINK_DETACH: VB stays below the sink disconnect level for 10 µs, and detach on VB is not masked (R61, R62). -/
def sinkDetach (mv : Nat) (p : Port) : Port :=
  if p.tc.state = .attachedSnk ∧ !p.pdstat.vbMask ∧ mv < p.rg.snkLevel then p.detach 4#3 else p

/-- VCONN_LINE_OK: the driven line reaches v_vconn_ok after VCONN_ON (R56). -/
def vconnLineOk (p : Port) : Port :=
  if p.fe.vcnDriven ∧ p.timerOn .vconnLow then (p.stop .vconnLow).post .tcVconnReady 0#36 else p

/-- VCONN removed: VCN to high impedance, the event, and R84 (R55, R56, R64). -/
def vconnRemove (e : Env) (ev : PEvent) (p : Port) : Port := ((p.vcnOff.post ev 0#36).endSop1).fdetSeen e

/-- VCONN_FAULT_TIMEOUT: the driven line stays below 4.5 V for 1 ms (R55). -/
def vconnFault (e : Env) (p : Port) : Port := if p.fe.vcnDriven then p.vconnRemove e .tcVconnFault else p

/-- VCONN_ON (Table of R56): refused without an active CC, with VCONN_EN = 0, and under a shed hold of the class (R54,
log entry 163). -/
def vconnOn (e : Env) (seq : BitVec 8) (p : Port) : Port :=
  if !p.attached then p.post .pdCmdBad (pay 0 seq ||| pay 8 4#4)
  else if !p.cc.vconnEn ∨ e.shedHold then p.post .tcVconnRefused 0#36
  else p.vcnOn.start .vconnLow

/-- VCONN_OFF (Table of R56). -/
def vconnOff (e : Env) (p : Port) : Port := p.vconnRemove e .tcVconnOff

/-- ERR_RECOVERY: a write of 1 enters ErrorRecovery at once; no effect while the port is Disabled, in ErrorRecovery
or parked (Table 2.7). -/
def errRecovery (p : Port) : Port :=
  if p.tc.state = .disabled ∨ p.tc.state = .errorRecovery ∨ p.pfault.oos then p else p.toErrorRecovery

/-- The port leaves Disabled when ENABLE = 1 and no shed stage removes its Rp (Table 2.3, R65). -/
def leaveDisabled (e : Env) (p : Port) : Port :=
  if p.tc.state = .disabled ∧ p.cc.enable ∧ !e.shedHold ∧ !e.shedOff ∧ !p.pfault.oos then p.toUnattached else p

/-- The states in which a change of PORT_TYPE, TRY or ACC_DET takes effect at once (R64). -/
def configNow (p : Port) : Bool :=
  match p.tc.state with
  | .unattachedSnk | .unattachedSrc | .attachWaitSnk | .attachWaitSrc | .trySrc | .trySnk | .tryWaitSnk
  | .tryWaitSrc => true
  | _ => false

/-- VCONN_EN = 0 written while VCN is driven (R64). -/
def vconnEnClear (e : Env) (p : Port) : Port := if p.fe.vcnDriven then p.vconnOff e else p

/-- PORT_DISABLE: ENABLE = 0 takes effect at once in any state (R64). A parked port keeps its park (R261). -/
def disable (cause : BitVec 3) (p : Port) : Port := if p.pfault.oos then p else p.toDisabled cause

/-- A port without a session comes into service: Disabled where ENABLE is 0 or a shed stage removes its Rp, else
Unattached (R64, R65). -/
def comeUp (e : Env) (p : Port) : Port :=
  if !p.cc.enable then p.disable 5#3
  else if e.shedHold ∨ e.shedOff then p.disable 6#3
  else p.toUnattached

/-- A write of P_CC with everything it starts (R64, R67). A change of RP_PERIOD acts at the next probe; where probing was
off, in an unattached state, it begins at once (log entry 164). -/
def writeCc (e : Env) (w : Word) (p : Port) : Port :=
  let old := p.cc
  let p := { p with cc := p.cc.write w }
  let changed := old.portType ≠ p.cc.portType ∨ old.tryPref ≠ p.cc.tryPref ∨ old.accDet ≠ p.cc.accDet
  let p := if old.rpLvl ≠ p.cc.rpLvl ∧ !p.contract.explicit then p.autoSlowIdle else p
  let p := if (p.tc.state = .unattachedSrc ∨ p.tc.state = .unattachedSnk) ∧ p.cc.rpPeriod ≠ 0#4 then
      { p with tc := { p.tc with rpProbing := true } }
    else p
  let p := if !p.cc.vconnEn then p.vconnEnClear e else p
  let p := if !p.cc.enable then p.disable 5#3
           else if p.tc.state = .disabled then p.leaveDisabled e
           else if changed ∧ p.configNow then p.toUnattached
           else p
  if bit w 13 then p.errRecovery else p

/-- Park (R261): both pairs hold, VSET zero, VCN high impedance, CC lines open, DIS until VB_SAFE0; STATE reads
Disabled with cause SW_DISABLE, and P_FAULT.OOS shows the cause. -/
def park (cause : BitVec 2) (p : Port) : Port :=
  let p := (p.disable 5#3).hold.vsetZero.vcnOff.freshRegion
  { p with pfault := { p.pfault with oos := true, oosCause := cause } }

/-- A front-end self-check fails: its bit is set and the port is parked with cause front end (R260). -/
def checkFail (i : Nat) (p : Port) : Port :=
  let p := { p with pfault := { p.pfault with fe := p.pfault.fe ||| (1#4 <<< i) } }
  if p.pfault.oos then p else p.park 1#2

/-- The region of a port starts and leaves state Start (R51). On lines that show no partner tPDDebounce of
AttachWait.SNK runs beside tCCDebounce (Table 2.3). -/
def regionStart (e : Env) (p : Port) : Port :=
  if p.tc.state = .start then
    let p := p.freshRegion
    if !p.cc.enable ∨ e.shedHold ∨ e.shedOff ∨ p.typeOf = 0#2 ∨ !p.cc.vbPresent then p.comeUp e
    else
      let p := (p.toDebounced .attachWaitSnk).start .ccDebounce
      { p with rg := { p.rg with dbStart := true } }
  else p

end Port

end Sys2Proof.Machine
end

