-- ==== Sys2Proof/Machine/Sluice.lean ====
section
/-! DEFINITION. The sluice and front end of one port (spec/05_sluice.md): pass and hold commands, full enhancement,
the breaches, clearing them, foreign VBUS, discharge, the VSET loop, sensing, metering and the SLUICE_CFG
operations. -/

namespace Sys2Proof.Machine

namespace Port

/-- PASS_COMMAND for a pair; the source pair passes cold (R144 to R146). -/
def passCommand (e : Env) (src : Bool) (p : Port) : Port :=
  if src then p.coldPass e p.rg.rise else p.pass e .sink false

/-- HOLD_COMMAND: the region's coded hold pattern holds the pair that passes (R145). -/
def holdCommand (p : Port) : Port := if p.fe.path = .none then p else p.hold

/-- FULL_ENH: V_GS of the passing pair reaches 9 V; a cold pass then ramps VSET to vSafe5V at v_ss_slew (R142, R144). -/
def fullEnh (p : Port) : Port :=
  if p.fe.path = .none then p
  else
    let p := { p with sluice := { p.sluice with fullEnh := true },
                      fe := { p.fe with gateSrc := p.fe.gateSrc && p.fe.path ≠ Path.source,
                                        gateSnk := p.fe.gateSnk && p.fe.path ≠ Path.sink } }
    let p := p.stop .gateLimit
    if p.fe.path = .source ∧ !p.fe.fastPass ∧ p.rg.moving = 0 then p.vsetRamp 5000 true else p

/-- CC_SHORT: a CC line at or above its level, 6.0 V as delivered, for its filter time (Tables 5.3 and 8.8). -/
def ccShort (e : Env) (mv : Nat) (p : Port) : Port := if p.fe.set.ccShort * 10 ≤ mv then p.breach e .ccShort else p

/-- Clamp an integer between two bounds. -/
def clampInt (lo hi x : Int) : Int := max lo (min hi x)

/-- A foreign VBUS is flagged: DIS released, P_TRIP.FOREIGN_VB, SL_FOREIGN_VB once, by the region that serves or the next
one (R154). -/
def flagForeign (e : Env) (p : Port) : Port :=
  if p.fe.foreign then p
  else
    let p := { p with fe := { p.fe with foreign := true, dis := .off }, trip := { p.trip with foreignVb := true } }
    let p := p.hold
    if e.regionUp then p.post .slForeignVb 0#36 else { p with fe := { p.fe with foreignOwed := true } }

/-- FOREIGN_VBUS: VB at or above 4.0 V where the port does not source, or a discharge that does not lower VB (R154).
The port's own discharge of a VBUS it sourced is not a foreign VBUS (log entry 9). -/
def foreignVbus (e : Env) (mv : Nat) (stuck : Bool) (p : Port) : Port :=
  let unsourced := p.fe.path ≠ .source && p.fe.dis = .off &&
    (p.tc.state = .disabled || p.tc.state = .unattachedSrc || p.tc.state = .attachWaitSrc ||
      (p.tc.state = .attachedSrc && p.rg.noFirstPass))
  if (4000 ≤ mv && unsourced) || (stuck && p.fe.dis ≠ .off && p.rg.moving < mv) then p.flagForeign e else p

/-- OVP: VB at or above v_ovp for 5 µs; as source with VSET at zero, where VB still rises, it is a foreign VBUS (Tables 5.3
and 5.7). VB rises when it lies above what the front end sensed last (log entry 205). -/
def ovp (e : Env) (mv : Nat) (p : Port) : Port :=
  if p.vOvp ≤ mv then
    if p.rg.moving = 0 ∧ !p.sinkSide ∧ p.fe.vb < mv then p.flagForeign e else p.breach e .ovp
  else p

/-- The fast threshold in force in mA: max(FAST, SLOW) (Table 5.3). -/
def fastMa (p : Port) : Nat := max p.ilim.fast.toNat p.ilim.slow.toNat * 50

/-- Full scale of the current front end, 62.5 mV in units of 10 nV (R162). -/
def fullScale : Nat := 6250000

/-- The sense voltage that the current front end works with, in 10 nV, for a differential voltage at its inputs: within
full scale; in shunt mode less the offset sample; in on-resistance mode zero before FULL_ENH (R162). -/
def sense (tenNv : Int) (p : Port) : Int :=
  let v := clampInt (-(fullScale : Int)) fullScale tenNv
  if p.onRes then (if p.sluice.fullEnh then v else 0) else v - p.fe.offset

/-- A current in mA, times any factor, from a sense voltage in 10 nV times that factor: through the shunt with its gain, or
through the pair resistance (R163, Table 5.5). -/
def toMa (x : Int) (p : Port) : Int :=
  if p.onRes then (x * 10).tdiv p.fe.rEst
  else (x * 10 * p.fe.cal.gain.toNat).tdiv (32768 * p.fe.cal.shunt.toNat)

/-- IBUS in mA for a differential voltage at the inputs (R162, R163). -/
def ibusOf (tenNv : Int) (p : Port) : Int := p.toMa (p.sense tenNv)

/-- The sense voltage of a trip threshold in mA, in 10 nV; above full scale it acts at full scale (R162). -/
def tripAt (ma : Nat) (p : Port) : Nat :=
  if p.onRes then min fullScale (ma * p.fe.rEst / 10)
  else if p.fe.cal.gain = 0#16 then fullScale
  else min fullScale (ma * p.fe.cal.shunt.toNat * 32768 / (p.fe.cal.gain.toNat * 10))

/-- The sense voltage at which the OC_FAST comparator trips, in 10 nV: in on-resistance mode v_fast of the last update
(R163). -/
def fastAt (p : Port) : Nat := if p.onRes then min fullScale (p.fe.vFast / 10) else p.tripAt p.fastMa

/-- The current front end is connected to its inputs: in on-resistance mode from FULL_ENH (R162). -/
def connected (p : Port) : Bool := !p.onRes || p.sluice.fullEnh

/-- OC_FAST: current at or above the fast threshold, or in on-resistance mode with FULL_ENH a drop above 0.5 V. At full
scale every threshold is met (R162). -/
def ocFast (e : Env) (tenNv : Int) (dropMv : Int) (p : Port) : Port :=
  if p.fastAt ≤ (p.sense tenNv).natAbs ∨ (p.connected ∧ fullScale ≤ tenNv.natAbs) ∨ (p.onRes ∧ p.sluice.fullEnh ∧ 500 < dropMv) then p.breach e .ocFast else p

/-- REV: current against the direction of the passing pair beyond REV_I for 3 µs, which full scale always is (R153, R162). -/
def rev (e : Env) (tenNv : Int) (p : Port) : Port :=
  let lim : Int := p.tripAt (p.ilim.revI.toNat * 50)
  let v := p.sense tenNv
  let full (x : Int) : Bool := p.connected && decide ((fullScale : Int) ≤ x)
  if (p.fe.path = .source ∧ (v ≤ -lim ∨ full (-tenNv))) ∨ (p.fe.path = .sink ∧ (lim ≤ v ∨ full tenNv)) then p.breach e .rev else p

/-- The slow threshold in force in mA: SLOW, or the current that full scale shows where SLOW lies above it (R162). -/
def slowMa (tenNv : Int) (p : Port) : Nat :=
  min (p.ilim.slow.toNat * 50) (p.ibusOf (if tenNv < 0 then -(fullScale : Int) else fullScale)).natAbs

/-- OC_SLOW: `n` periods of 10 µs at a sense voltage advance the slow integral by |IBUS| less SLOW, never below zero; at
Q_SLOW the breach occurs (R149). A mA over 10 µs is 0.01 µC, so the integral is held in units of 10 nC. -/
def ocSlow (e : Env) (tenNv : Int) (n : Nat) (p : Port) : Port :=
  let d : Int := (p.ibusOf tenNv).natAbs - (p.slowMa tenNv : Int)
  let s : Nat := ((p.fe.slowInt : Int) + n * d).toNat
  let lim := p.ilim.qSlow.toNat * 100000
  if p.fe.path = .none then p
  else if lim ≤ s then p.breach e .ocSlow
  else { p with fe := { p.fe with slowInt := s } }

/-- OTP_DIE on one sluice of the polder. -/
def otpDie (e : Env) (p : Port) : Port := p.breach e .otpDie

/-- OTP_NTC on one sluice: class A is not held (Table 5.3). -/
def otpNtc (e : Env) (p : Port) : Port := if e.cls = .a then p else p.breach e .otpNtc

/-- VGD_LOW on one sluice: below 9.0 V the breach, from there to v_gd_pass a hold without a latch, as R145 lets no pair pass
there; at v_gd_pass and above nothing. -/
def vgdLow (e : Env) (mv : Nat) (p : Port) : Port :=
  if mv < 9000 then p.breach e .vgdLow else if mv < 10000 ∧ p.fe.path ≠ .none then p.holdBy else p

/-- GATE: FULL_ENH not reached within t_gate_lim, or lost for 10 µs, while a pair passes (R143). -/
def gate (e : Env) (p : Port) : Port := if p.fe.path = .none then p else p.breach e .gate

/-- A region leaves an ErrorRecovery whose time has elapsed once no short stands any more (Table 2.3, R155). -/
def recoveryOver (p : Port) : Port :=
  if p.tc.state = .errorRecovery ∧ !p.timerOn .errorRecovery ∧ !p.shortStands then p.toUnattached else p

/-- BREACH_CONDITION_END: P_SLUICE.COND falls with the last condition; the region, where one serves, leaves
ErrorRecovery after CC_SHORT (R148, R155). -/
def condEnd (e : Env) (b : Breach) (p : Port) : Port :=
  let p := { p with fe := { p.fe with cond := p.fe.cond.filter (· ≠ b) } }
  if e.regionUp then p.recoveryOver else p

/-- The breach a code of Table 5.3 names. -/
def breachOfCode (c : BitVec 4) : Option Breach :=
  [Breach.ccShort, .ovp, .ocFast, .rev, .ocSlow, .otpDie, .otpNtc, .vgdLow, .gate].find? (·.code = c)

/-- LOCK_CLR clears LOCKOUT (R152). -/
def lockClr (p : Port) : Port := { p with sluice := { p.sluice with lockout := false } }

/-- BREACH_WINDOW_EXPIRY: 60 s without a breach (R150). -/
def breachWindow (p : Port) : Port :=
  if p.timerOn .breachWindow then { p with trip := { p.trip with winCnt := 0#4 } }.stop .breachWindow else p

/-- SENSE_MODE is written only while both pairs hold, and only with 0b00 or 0b01; where it changes the type that the port is
treated as, it acts as a change of PORT_TYPE does (R64, R141). -/
def writeSenseMode (v : BitVec 2) (p : Port) : Port :=
  if p.fe.path = .none ∧ v ≤ 1#2 then
    let q := { p with sluice := { p.sluice with senseMode := v } }
    if q.typeOf ≠ p.typeOf ∧ q.configNow then q.toUnattached else q
  else p

/-- A write of P_SLUICE: SS_CUR, SENSE_MODE under R141, W1C of OTHER_PAIR, LOCK_CLR, and CLEAR from a Cenan OUT only
(R172). -/
def writeSluice (fromCore : Bool) (w : Word) (p : Port) : Port :=
  let p := p.writeSenseMode (fld w 10 2)
  let p := { p with sluice := { p.sluice with ssCur := fld w 12 2, otherPair := p.sluice.otherPair && !bit w 18 } }
  let p := if bit w 9 then p.lockClr else p
  if bit w 8 && fromCore then p.clearBreach else p

/-- DISCHARGE_TIMEOUT: DIS driven for t_vb0_wait without VB_SAFE0, on a ramp as well, is released; SL_DIS_TIMEOUT is
written by the region that serves or the next one (R156). -/
def dischargeTimeout (e : Env) (p : Port) : Port :=
  if p.fe.dis ≠ .off ∧ !p.cc.vbSafe0 then
    let p := { p with fe := { p.fe with dis := .off }, trip := { p.trip with disTimeout := true } }
    if e.regionUp then p.post .slDisTimeout 0#36 else { p with fe := { p.fe with disOwed := true } }
  else p

/-- The feed-forward map of R158, duty counts for a voltage in mV: piecewise linear through the points, the last
segment extended. Between points it is rounded down to whole counts (log entry 219). -/
def ffmap (p : Port) (mv : Nat) : Int :=
  let d5 : Int := p.fe.cal.d5.toNat
  let d20 : Int := p.fe.cal.d20.toNat
  let d48 : Int := p.fe.cal.d48.toNat
  let v : Int := mv
  if v ≤ 5000 then d5 * v / 5000
  else if v ≤ 20000 ∨ p.fe.cal.d48 = 0#12 then d5 + (d20 - d5) * (v - 5000) / 15000
  else d20 + (d48 - d20) * (v - 20000) / 28000

/-- One step of the moving target towards its end (R159). -/
def stepTowards (x goal step : Nat) : Nat := if x < goal then min goal (x + step) else max goal (x - step)

/-- The step of the moving target in 50 µs, in mV: SLEW in 0.5 V/ms, or v_ss_slew of 1 V/ms on a cold pass. -/
def slopeMv (p : Port) : Nat := if p.rg.coldRamp then 50 else p.vset.slew.toNat * 25

/-- VSET_LOOP_UPDATE: every 50 µs the integral, the duty and the moving target move in the order of R159; on a falling
ramp of the source path DIS follows the moving target (R110, R156). In current limit the duty is the limiter's (R160), and
after a loss of heartbeats it is held (Table 5.6). At a moving target of zero duty and integral are zero (log entry 162). -/
def vsetLoop (e : Env) (vbMv : Nat) (p : Port) : Port :=
  if e.hbLost then p
  else
  let integ := if p.vset.loopHold then p.rg.integ
               else clampInt (-205) 205 (p.rg.integ + Config.kiErr ((p.rg.moving : Int) - vbMv))
  let duty : BitVec 12 := if p.rg.moving = 0 ∧ p.rg.target = 0 then 0#12
                          else if p.vset.clActive then p.vset.duty
                          else BitVec.ofInt 12 (clampInt 0 4095 (p.ffmap p.rg.moving + integ))
  let falling := p.rg.target < p.rg.moving || p.fe.dis = .ramp
  let mv := stepTowards p.rg.moving p.rg.target p.slopeMv
  let wantDis := falling && p.isSource && p.fe.path = .source && !p.fe.foreign && mv * 102 < vbMv * 100
  let dis := if p.fe.dis = .toSafe0 then Dis.toSafe0 else if wantDis then Dis.ramp else Dis.off
  { p with
    rg := { p.rg with integ := if mv = 0 then 0 else integ, moving := mv, settling := p.rg.ramping && mv = p.rg.target },
    vset := { p.vset with duty := duty },
    fe := { p.fe with dis := dis, vb := vbMv } }

/-- RON_UPDATE: every 1 ms in on-resistance mode the pair temperature, its resistance and the fast threshold, in the
order of R163. Temperatures in 0.1 °C from −40.0 °C, resistance in µΩ, current in mA, threshold in nV, each rounded down (log
entry 219). -/
def ronUpdate (ntc : Nat) (p : Port) : Port :=
  if p.onRes then
    let i : Int := p.ibus.iAvg.toInt
    let t : Int := ntc + (p.fe.theta.toNat : Int) * i * i * p.fe.rEst / 1000000000000
    let r : Int := p.fe.rCal.toNat
    let rEst := (r + r * (p.fe.alpha.toNat * 25 : Int) * (t - p.fe.tCal.toNat) / 10000000).toNat
    { p with fe := { p.fe with tFet := t, rEst := rEst, vFast := p.fastMa * rEst } }
  else p

/-- A signed value held in a 16-bit register field, at the ends of the field where it lies outside (log entry 10). -/
def sat16 (x : Int) : BitVec 16 := BitVec.ofInt 16 (clampInt (-32768) 32767 x)

/-- The values that SLUICE_CFG has loaded. -/
def loadedCal (f : FrontEnd) : Cal := { d5 := f.d5, d20 := f.d20, d48 := f.d48, shunt := f.shunt, gain := f.gain }

/-- Values loaded while both pairs hold are in force at once, others at the next 1 ms update (R165, Table 5.7). -/
def calNow (p : Port) : Port :=
  if p.fe.path = .none then { p with fe := { p.fe with cal := loadedCal p.fe } } else p

/-- METERING_TICK: on the 1 ms tick P_VBUS and P_IBUS take the block means, I_AVG is the mean of the last 1,000 block
means, P_ENERGY takes the 50 µs products, the accumulator the charge, P_STAT.POWER the product, and loaded values come
into force (R162, R165, R166, Table 18.9). `tenNv` is the mean voltage at the current inputs in 10 nV, `vi` the sum over
the twenty 50 µs samples of VB in 10 mV times that voltage. Fractions of a register unit are cut off (log entry 219). -/
def metering (vbMv vpathMv : Nat) (tenNv : Int) (vi : Int) (p : Port) : Port :=
  let off := p.onRes && !p.sluice.fullEnh
  let i : Int := p.ibusOf tenNv
  let vi : Int := if off then 0 else if p.onRes then vi else vi - p.fe.offset * (2 * vbMv : Nat)
  let means := (i :: p.fe.means).take 1000
  { p with
    vbus := { p.vbus with vb := BitVec.ofNat 13 (vbMv / 10), vpath := BitVec.ofNat 13 (vpathMv / 10) },
    ibus := { p.ibus with ibus := sat16 i, iAvg := sat16 (means.sum.tdiv 1000) },
    power := BitVec.ofInt 9 (((vbMv / 10 : Nat) * i).tdiv 100000),
    fe := { p.fe with
      vb := vbMv,
      means := means,
      energy := p.fe.energy + BitVec.ofInt 64 (p.toMa vi),
      accum := p.fe.accum + p.toMa (p.sense tenNv * 1000),
      cal := loadedCal p.fe } }

/-- P_ENERGY in joules, modulo 2³², from the 64-bit register in units of 0.5 nJ (R166), a fraction cut off (log entry 219). -/
def energyJ (p : Port) : Word := BitVec.ofInt 32 (p.fe.energy.toInt.tdiv 2000000000)

/-- A shunt offset sample is taken; one above 2 mV fails the current-sense check FE_ISENSE (R162, R260). -/
def takeOffset (tenNv : Int) (p : Port) : Port :=
  let p := { p with fe := { p.fe with offset := tenNv } }
  if 200000 < tenNv.natAbs then p.checkFail 2 else p

/-- SHUNT_OFFSET_SAMPLE: both pairs have held for 100 ms with VB_SAFE0 set, in shunt mode (R162). -/
def shuntOffset (tenNv : Int) (p : Port) : Port :=
  if p.fe.path = .none ∧ p.cc.vbSafe0 ∧ !p.onRes then p.takeOffset tenNv else p

/-- A PPS contract is in force (Table 4.2). -/
def ppsContract (p : Port) : Bool := p.contract.explicit && fld p.contract.contract 25 2 = 1#2

/-- Operating current of the contract in mA (Table 4.2). -/
def contractMa (p : Port) : Nat := (fld p.contract.contract 12 9).toNat * 10

/-- CURRENT_LIMIT_ENTRY: in PPS the 1 ms mean reaches CURR + 100 mA (R160). -/
def clEntry (ma : Int) (p : Port) : Port :=
  if p.ppsContract ∧ p.isSource ∧ !p.vset.clActive ∧ (p.contractMa : Int) + 100 ≤ ma then
    ({ p with vset := { p.vset with clActive := true, duty := Config.clDuty p.vset.duty ma } }.start .clFloor).post
      .ppCl (payB 0 true)
  else p

/-- CURRENT_LIMIT_EXIT: VB reaches the requested voltage (R160). -/
def clExit (vbMv : Nat) (p : Port) : Port :=
  if p.vset.clActive ∧ (fld p.contract.contract 0 12).toNat * 20 ≤ vbMv then
    ({ p with vset := { p.vset with clActive := false } }.stop .clFloor).post .ppCl 0#36
  else p

/-- CL_FLOOR_TIMEOUT: VB below the APDO minimum of 3.3 V for 500 ms in current limit (R160, Table 4.3). -/
def clFloor (vbMv : Nat) (p : Port) : Port :=
  if p.vset.clActive ∧ vbMv < 3300 then p.post .ppClFloor 0#36 else p

/-- UNDERVOLTAGE_TIMEOUT: VB below 80 % of the moving target for 10 ms while the source pair passes; not under
CL_ACTIVE, HR_ACTIVE or SWAP (R161). -/
def undervoltage (vbMv : Nat) (p : Port) : Port :=
  if p.fe.path = .source ∧ vbMv * 10 < p.rg.moving * 8 ∧ !p.vset.clActive ∧ !p.pdstat.hrActive ∧ !p.contract.swap then
    { p with trip := { p.trip with uv := true } }.post .slUv 0#36
  else p

/-- PD_CMD_BAD with the TX_SEQ and CMD refused (Table 11.4). -/
def cmdBad (seq : BitVec 8) (cmd : BitVec 4) (p : Port) : Port := p.post .pdCmdBad (pay 0 seq ||| pay 8 cmd)

/-- VCAL: the points of the VSET map; a zero D5 or D20 leaves that point unchanged (Table 5.5). -/
def vcal (w : W36) (p : Port) : Port :=
  { p with
    fe := { p.fe with
      d5 := if fld w 0 12 = 0#12 then p.fe.d5 else fld w 0 12,
      d20 := if fld w 12 12 = 0#12 then p.fe.d20 else fld w 12 12,
      d48 := fld w 24 12 },
    sluice := { p.sluice with vcalOk := true } }
  |>.calNow.ppDone 15#4

/-- RON_CAL: R_cal, T_cal and alpha; R_cal = 0 leaves all three unchanged (Table 5.5). The pair resistance follows at the
1 ms update of R163. -/
def ronCal (w : W36) (p : Port) : Port :=
  (if fld w 0 16 = 0#16 then p
   else { p with
     fe := { p.fe with rCal := fld w 0 16, tCal := fld w 16 12, alpha := fld w 28 8 },
     sluice := { p.sluice with rcalOk := true } }).ppDone 15#4

/-- THETA: the thermal resistance; 0 leaves it unchanged (Table 5.5). -/
def thetaLoad (w : W36) (p : Port) : Port :=
  (if fld w 0 12 = 0#12 then p else { p with fe := { p.fe with theta := fld w 0 12 } }).ppDone 15#4

/-- SHUNT_CAL: shunt value and gain; shunt = 0 leaves both unchanged (Table 5.5). -/
def shuntCal (w : W36) (p : Port) : Port :=
  (if fld w 0 16 = 0#16 then p
   else { p with fe := { p.fe with shunt := fld w 0 16, gain := fld w 16 16 } }.calNow).ppDone 15#4

/-- MEASURE: a 1 s average of the sense voltage starts (Table 5.5). -/
def measure (p : Port) : Port := { p with fe := { p.fe with measuring := true, measureVoid := false } }.start .measure

/-- MEASURE_DONE: SL_CAL_RAW with the signed voltage in 10 nV, t_ntc and VOID (Table 5.5). -/
def measureDone (ntc : Nat) (tenNv : Int) (p : Port) : Port :=
  if p.fe.measuring then
    ({ p with fe := { p.fe with measuring := false } }.stop .measure).post .slCalRaw
      (pay 0 (BitVec.ofInt 24 tenNv) ||| pay 24 (BitVec.ofNat 11 ntc) ||| payB 35 p.fe.measureVoid)
  else p

/-- ZERO: a shunt offset sample now; refused unless both pairs hold and VB_SAFE0 is set (Table 5.5). -/
def zero (seq : BitVec 8) (tenNv : Int) (p : Port) : Port :=
  if p.fe.path = .none ∧ p.cc.vbSafe0 then (p.ppDone 15#4).takeOffset tenNv
  else p.cmdBad seq 15#4

end Port

end Sys2Proof.Machine
end

