-- ==== Sys2Proof/Machine/Pd.lean ====
section
/-! DEFINITION. The PD protocol layer of one port's region (spec/03_pd_protocol.md) and the power-path commands and
swaps that the region carries out (spec/04_contracts_swaps.md): transmission with retries and chunking, reception,
Hard Reset, Soft_Reset and the ladder, transitions, PR_Swap and FRS. -/

namespace Sys2Proof.Machine

/-- A data message must carry the object count of Table 3.6 (R88); an extended message between 1 and 260 bytes, or 0
only where it is defined without data (R89; none of the served ones is). -/
def shapeErr (h ext : BitVec 16) : Bool :=
  if hExt h then (fld ext 0 9).toNat = 0 || 260 < (fld ext 0 9).toNat
  else
    let n := hNdo h
    let t := (hType h).toNat
    if n = 0 then false
    else if t = 1 || t = 3 || t = 4 || t = 15 then false
    else if t = 9 then n ≠ 2
    else if t = 2 || (5 ≤ t && t ≤ 8) || (10 ≤ t && t ≤ 12) then n ≠ 1
    else false

namespace Port

/-- The Hard Reset steps that every role takes at its start (R95): everything aborted but NoResponseTimer, MessageIDs
and REV cleared, collision avoidance ended, VB_MASK and HR_ACTIVE set, the contract dropped, PD_HARD_RESET written; a
role flip in progress is abandoned and the role taken from the termination presented (R120). HR_COUNT and HR_CNT advance
(Tables 3.10 and 4.11). -/
def hrBegin (received : Bool) (p : Port) : Port :=
  let swap := p.contract.swap
  let src := p.isSource
  let txSide := p.txExchange false || p.txExchange true
  let p := if txSide || p.rxExchange false || p.rxExchange true then p.post .pdChunkAbort (payB 0 txSide) else p
  let p := p.partnerHardReset.clearContract.clearPd.stopAll [.vbusOn, .vb0Wait]
  let p := p.roleHardReset
  let p := { p with
    pdstat := { p.pdstat with
      vbMask := true, hrActive := true,
      hrCount := satInc p.pdstat.hrCount, hrCnt := satInc p.pdstat.hrCnt,
      drole := if swap then src else p.pdstat.drole },
    rg := { p.rg with hrSource := src, hrSwap := swap, rise := .none, meas := false } }
  p.gaugeMark.post .pdHardReset (payB 0 received)

/-- Hard Reset sent: CMD 0x2, or a step of the ladder (R95, R96). No effect unless attached. -/
def hardReset (p : Port) : Port :=
  if p.attached ∧ p.rg.hr ≠ .signalling then
    let p := p.hrBegin false
    { p with rg := { p.rg with hr := .signalling } }.airBegin.start .hrComplete
  else p

/-- A source in a Hard Reset waits for VB_SAFE0, or starts tSrcRecover where it is already set (Table 3.9). -/
def hrSrcSafe0 (p : Port) : Port :=
  if p.cc.vbSafe0 then { p with rg := { p.rg with hr := .srcRecover } }.start .srcRecover
  else { p with rg := { p.rg with hr := .srcSafe0 } }.start .vb0Wait

/-- t0 of Table 3.9: NoResponseTimer starts where PD is served (log entry 168); the first row runs for the role, or, in
a swap, both paths hold and VSET goes to zero (R95, R120). -/
def hrT0 (p : Port) : Port :=
  let p := p.airEnd.stop .hrComplete
  let p := if p.rg.latchedPdEn ∧ !p.pdstat.giveup then p.start .noResponse else p
  if p.rg.hrSource then
    if p.rg.hrSwap then p.hold.vsetZero.discharge.hrSrcSafe0
    else { p with rg := { p.rg with hr := .srcHold } }.start .psHardReset
  else
    let p := if p.rg.hrSwap then p.hold.vsetZero else p.hold
    { p with rg := { p.rg with hr := if p.cc.vbSafe0 then .snkPresent else .snkSafe0 } }.start .hrSink

/-- HARD_RESET_DETECTED: a Hard Reset ordered set is recognised, at all times while attached (R71). While the device's
own is being signalled there is one Hard Reset (R95, Table 3.12). -/
def hardResetDetected (e : Env) (p : Port) : Port :=
  if p.attached then
    if p.rg.hr = .signalling then p else ((p.hrBegin true).hrT0).fdetSeen e
  else p

/-- HARD_RESET_SIGNALLING_DONE. -/
def hrSignalled (e : Env) (p : Port) : Port := if p.rg.hr = .signalling then p.hrT0.fdetSeen e else p

/-- HARD_RESET_COMPLETE_TIMEOUT: the signalling is deemed sent (Table 3.8). -/
def hrCompleteTimeout (e : Env) (p : Port) : Port :=
  if p.rg.hr = .signalling ∧ p.timerOn .hrComplete then p.hrT0.fdetSeen e else p

/-- PS_HARD_RESET_EXPIRY: VSET to zero, holding, discharge (Table 3.9). -/
def psHardReset (p : Port) : Port :=
  if p.timerOn .psHardReset ∧ p.rg.hr = .srcHold then
    ((p.stop .psHardReset).vsetZero.hold.discharge).hrSrcSafe0
  else p

/-- SRC_RECOVER_EXPIRY: the source path passes towards vSafe5V (Table 3.9). -/
def srcRecover (e : Env) (p : Port) : Port :=
  if p.timerOn .srcRecover ∧ p.rg.hr = .srcRecover then
    { (p.stop .srcRecover) with rg := { (p.stop .srcRecover).rg with hr := .srcRise } }.coldPass e .hardReset
  else p

/-- HARD_RESET_SINK_TIMEOUT: t_hr_sink elapses and detach is declared with VB_LOSS (Table 3.9). -/
def hrSinkTimeout (p : Port) : Port := if p.timerOn .hrSink then p.detach 4#3 else p

/-- The Soft_Reset that the region sends on its own. -/
def ladderSoft (sop1 : Bool) (p : Port) : Port := p.sendOwn (ownMsg (p.ownHeader tSoftReset) 0#16 sop1)

/-- ON_FAIL or ON_TIMEOUT is carried out: 0b01 Soft_Reset, 0b10 Hard Reset, else nothing (Table 3.3). -/
def ladder (act : BitVec 2) (sop1 : Bool) (p : Port) : Port :=
  if act = 1#2 then p.ladderSoft sop1 else if act = 2#2 then p.hardReset else p

/-- ON_FAIL after a transmission or chunk exchange has ended: a reset discards the held command (R79). -/
def onFail (m : TxMsg) (p : Port) : Port :=
  if m.onFail = 1#2 ∨ m.onFail = 2#2 then p.dropHeld.ladder m.onFail m.sop1 else p.nextTx

/-- An armed power-path command is dropped with the Accept that would have triggered it (R103). -/
def dropArmed (p : Port) : Port :=
  { p with rg := { p.rg with armed := none, srcOffArmed := false, snkOffArmed := false, sinkContract := none },
           contract := { p.contract with transPend := false } }

/-- A chunk wait of the receive side begins: the Chunk Request has gone, or its retries have failed (R85, R86, log
entry 169). -/
def awaitChunk (sop1 : Bool) (p : Port) : Port := if p.rxExchange sop1 then p.start (chunkTimer sop1) else p

/-- A transmission ends without GoodCRC: PD_TX_FAIL, TX_FAIL, and ON_FAIL or the ladder step of a message of the
region itself (R75, R96). -/
def txFail (m : TxMsg) (p : Port) : Port :=
  let p := (p.setOutcome m false).post .pdTxFail (txPay m)
  let p := { p with pdstat := { p.pdstat with txFail := satInc p.pdstat.txFail } }
  let p := if isCtrl m.header tAccept ∧ !m.own then p.dropArmed else p
  let p := { p with rg := { p.rg with tx := none, phase := .idle } }.stopAll [.crcReceive, .chunkRequest]
  if isCtrl m.header tSoftReset then
    let p := p.post .pdSoftResetDone (payB 0 m.sop1 ||| payB 1 true)
    if m.sop1 then p.nextTx else p.dropHeld.hardReset
  else if m.own then (if isCtrl m.header tAccept then p.dropHeld.hardReset else p.nextTx.awaitChunk m.sop1)
  else p.onFail m

/-- t0 of a swap: P1 of Table 4.8, Q1 of Table 4.9, F1 of Table 4.12; with EXPLICIT goes the SLOW of the contract
(Table 5.10), and FRS is disarmed, which needs an explicit contract (R124). -/
def swapBegin (p : Port) : Port :=
  { p with contract := { p.contract with swap := true, explicit := false },
           pdstat := { p.pdstat with vbMask := true } }.disarmFrs.autoSlowIdle

/-- The swap ends: the last row of Tables 4.8, 4.9 and 4.12. -/
def swapEnd (p : Port) : Port :=
  { p with contract := { p.contract with swap := false }, pdstat := { p.pdstat with vbMask := false },
           rg := { p.rg with frsSwap := false } }.gaugeMark

/-- An Accept has its GoodCRC, sent or received: an armed source TRANSITION starts t_src_trans, or completes at once
for a repeat, with its SLOW; a deferred SRC_OFF starts t_src_trans and the swap; a deferred SNK_OFF holds the sink path and
starts the swap, and VSET goes to zero where FRS had preset it (R98, R102, R109, R110, R118, R119, Table 5.10). -/
def onAccept (p : Port) : Port :=
  let p := { p with rg := { p.rg with accepted := true, inTrans := p.rg.inTrans || (p.isSource && p.rg.armed.isSome) } }
  let p := match p.rg.armed with
    | some w =>
      if p.isSource ∧ !p.rg.ramping then
        if p.contract.explicit ∧ p.contract.contract = w then
          ({ p with contract := { p.contract with contract := w, transPend := false },
                    rg := { p.rg with armed := none, ending := true } }.slowFor w).ppDone 8#4
        else ((p.slowRaise w).start .srcTrans).start .ppTimeout
      else p
    | none => p
  let p := if p.rg.srcOffArmed then p.swapBegin.start .srcTrans else p
  if p.rg.snkOffArmed then
    let armed := p.partner.frsArmed
    let p := { p with rg := { p.rg with snkOffArmed := false } }.hold.swapBegin
    ((if armed then p.vsetZero else p).start .psSourceOff).ppDone 11#4
  else p

/-- A PS_RDY with its GoodCRC, sent or received, ends the transition (R98), makes the contract explicit after an Accept
(R110) and returns the ladder counts to zero (R96). -/
def onPsRdy (p : Port) : Port :=
  let p := { p with pdstat := { p.pdstat with hrCount := 0#2, erCount := 0#4 }, rg := { p.rg with ending := false, inTrans := false } }
  if p.rg.accepted ∧ !p.contract.swap then
    { p with contract := { p.contract with explicit := true }, rg := { p.rg with accepted := false } }.startCollAv
  else p

/-- The device's own PS_RDY has its GoodCRC: P5 starts PSSourceOnTimer, Q6 and F7 end the swap (Tables 4.8 to 4.12). -/
def psRdySent (p : Port) : Port :=
  let swap := p.contract.swap
  let p := p.onPsRdy
  if swap then
    let p := { p with rg := { p.rg with accepted := false } }
    if p.isSource then p.swapEnd else p.start .psSourceOn
  else p

/-- Sink disconnect level for a contract word: 80 % of 95 % of VOLT, never below 3.67 V; 3.67 V for PPS (R61). -/
def sinkLevelOf (w : BitVec 29) : Nat :=
  if fld w 25 2 = 1#2 then 3670 else max 3670 ((fld w 0 12).toNat * 20 * 76 / 100)

/-- The partner's PS_RDY: a sink contract is written with its disconnect level, its SLOW and PP_DONE; in a swap P7,
Q2 or F5 (R61, Table 5.10, Tables 4.1 and 4.8 to 4.12). -/
def psRdyReceived (p : Port) : Port :=
  let swap := p.contract.swap
  let p := (p.stop .psTransition).onPsRdy
  if swap then
    let p := { p with rg := { p.rg with accepted := false } }
    if p.timerOn .psSourceOn then (p.stop .psSourceOn).swapEnd
    else if p.timerOn .psSourceOff then
      let p := p.stop .psSourceOff
      if p.cc.vbSafe0 ∨ p.rg.frsSwap then p else p.toErrorRecovery
    else p
  else
    match p.rg.sinkContract with
    | some w =>
      ({ p with
        contract := { p.contract with contract := w, transPend := false },
        rg := { p.rg with sinkContract := none, snkLevel := sinkLevelOf w } }.slowFor w).ppDone 8#4
    | none => p

/-- The message in hand has its last GoodCRC (R74, R75, R77, R79, R85). The Accept that the region itself sends to a Soft_Reset
triggers no armed TRANSITION and no deferred SRC_OFF or SNK_OFF, which is the model's choice (R102, log entry 204). -/
def txDone (m : TxMsg) (p : Port) : Port :=
  let p := p.setOutcome m true
  let p := if m.own then p else p.post .pdTxOk (txPay m)
  let p := if m.amsEnd then p.amsEnd else p
  let p := if m.resp ≠ 0#3 ∧ !m.own then { p with rg := { p.rg with waiting := some m } }.start .response else p
  let p := if isCtrl m.header tSoftReset then { p with rg := { p.rg with soft := some m.sop1 } }.start .softAccept else p
  let ask := !m.own && !m.sop1 && (isData m.header 2#5 || isData m.header 9#5)
  let p := if ask then { p with rg := { p.rg with asked := !p.isSource } } else p
  let p := if m.own ∨ m.sop1 then p
           else if isCtrl m.header tAccept then p.onAccept
           else if isCtrl m.header tPsRdy then p.psRdySent
           else p
  p.nextTx

/-- GOODCRC_RECEIVED on a SOP type: only the matching MessageID counts; a GoodCRC on SOP stops NoResponseTimer
(R75, Table 3.8). -/
def goodCrc (sop1 : Bool) (id : BitVec 3) (p : Port) : Port :=
  let p := if sop1 then p else p.stop .noResponse
  match p.rg.tx with
  | some m =>
    if p.rg.phase = .awaitCrc ∧ m.sop1 = sop1 ∧ (if sop1 then p.rg.txId1 else p.rg.txId) = id then
      let p := p.stop .crcReceive
      let p := if sop1 then { p with rg := { p.rg with txId1 := id + 1#3 } } else { p with rg := { p.rg with txId := id + 1#3 } }
      if hExt m.header ∧ p.rg.chunk.toNat + 1 < chunksOf m.extHeader ∧ !m.own then
        { p with rg := { p.rg with phase := .chunkWait } }.start .chunkRequest
      else if m.own ∧ hExt m.header then p.nextTx.awaitChunk m.sop1
      else p.txDone m
    else p
  | none => p

/-- CRC_RECEIVE_TIMEOUT: a retry, or the end of the transmission (R75). -/
def crcTimeout (p : Port) : Port :=
  match p.rg.tx with
  | some m =>
    if p.rg.phase = .awaitCrc ∧ p.timerOn .crcReceive then
      let p := p.stop .crcReceive
      if p.rg.retries = 0 then p.txFail m
      else { p with rg := { p.rg with retries := p.rg.retries - 1, phase := .retryWait } }
    else p
  | none => p

/-- TRANSMIT_START: the preamble of a pending transmission or of a retry, with the MessageIDCounter of its SOP type in
the header (R72, R73, R75); TX_SEQ is kept with the first attempt (R76). On SOP′ it needs the device to be VCONN source
still, and SOP1_EN (R83). -/
def transmitStart (p : Port) : Port :=
  match p.rg.tx with
  | some m =>
    if p.rg.phase = .ready ∨ p.rg.phase = .retryWait then
      if m.sop1 ∧ (!p.cc.vconnOn ∨ !p.pdcfg.sop1En) then (p.cutSop1 p.busy m).nextTx
      else
        let first := p.rg.phase = .ready && p.rg.chunk = 0#4 && !m.own
        let m := { m with header := withId m.header (if m.sop1 then p.rg.txId1 else p.rg.txId) }
        let p := { p with rg := { p.rg with phase := .onLine, tx := some m, meas := p.rg.meas && m.sop1 } }.airBegin
        if first then
          if m.sop1 then { p with rg := { p.rg with lastSeq1 := some m.seq, lastOk1 := none, last1 := true } }
          else { p with rg := { p.rg with lastSeq := some m.seq, lastOk := none, last1 := false } }
        else p
    else p
  | none => p

/-- TRANSMIT_END: the EOP of an own message starts CRCReceiveTimer (R75), and the fast-detach comparator is no longer
blanked (R60). -/
def transmitEnd (e : Env) (p : Port) : Port :=
  if p.rg.phase = .onLine then
    ({ p with rg := { p.rg with phase := .awaitCrc } }.airEnd.start .crcReceive).fdetSeen e
  else p

/-- SINK_TX_EXPIRY: tSinkTx elapses and the held AMS start is ready for the line (R77). -/
def sinkTxExpiry (p : Port) : Port :=
  if p.rg.phase = .sinkTxWait ∧ p.timerOn .sinkTx then { p with rg := { p.rg with phase := .ready } }.stop .sinkTx else p

/-- SINK_TX_OK_SEEN: a sink reads SinkTxOk and sends its held AMS start (R78). -/
def sinkTxOkSeen (p : Port) : Port :=
  if p.tc.state = .attachedSnk ∧ p.pdstat.collAv then
    let p := { p with pdstat := { p.pdstat with sinkTxOk := true, txPending := false } }
    if p.rg.phase = .heldNg then { p with rg := { p.rg with phase := .ready } } else p
  else p

/-- AMS_IDLE_EXPIRY: 50 ms without a message end the AMS and return a source to SinkTxOk (R77, R101). -/
def amsIdleExpiry (p : Port) : Port := if p.rg.phase = .idle then p.amsEnd else p

/-- CC_LINE_CHANGE with its PD side: a sink in collision avoidance reads SinkTxOk or SinkTxNG from the Rp level
(R77, R78). -/
def ccLineChange (v1 v2 : Nat) (p : Port) : Port :=
  let p := p.lineChange v1 v2
  if p.tc.state = .attachedSnk ∧ p.pdstat.collAv then
    if p.activeClass = 5#3 then p.sinkTxOkSeen else { p with pdstat := { p.pdstat with sinkTxOk := false } }
  else p

/-- The transmit side of a chunked exchange ends: PD_CHUNK_ABORT, then ON_FAIL (R86). -/
def chunkAbortTx (p : Port) : Port :=
  match p.rg.tx with
  | some m =>
    let p := (p.setOutcome m false).post .pdChunkAbort (payB 0 true)
    let p := { p with rg := { p.rg with tx := none, phase := .idle } }.stopAll [.crcReceive, .chunkRequest]
    p.onFail m
  | none => p

/-- The chunk in hand has been transmitted and its exchange goes on: its GoodCRC, or the next attempt, is due, or the
Chunk Request is (R85). -/
def chunkSent (p : Port) : Bool :=
  p.rg.phase = .awaitCrc || p.rg.phase = .retryWait || p.rg.phase = .chunkWait

/-- CHUNK_REQUEST_RECEIVED on a SOP type: an exchange received there ends; the next chunk is sent when it is the one named,
else the exchange sent there ends; without an exchange the request is dropped (R85, R86, log entry 200). The MessageIDCounter
does not advance where the GoodCRC of the chunk before was missed (R75). -/
def chunkRequest (sop1 : Bool) (n : BitVec 4) (p : Port) : Port :=
  let p := if p.rxExchange sop1 then p.chunkAbortRx sop1 else p
  match p.rg.tx with
  | some m =>
    if p.txExchange sop1 then
      if n = p.rg.chunk + 1#4 ∧ n.toNat < chunksOf m.extHeader ∧ p.chunkSent then
        { p with rg := { p.rg with chunk := n, phase := .ready, retries := if p.rev3 then 2 else 3 } }
        |>.stopAll [.chunkRequest, .crcReceive]
      else p.chunkAbortTx
    else p
  | none => p.goOn

/-- CHUNK_TIMEOUT: a request wait (transmit side) or a chunk wait (receive side) expires (R86). -/
def chunkTimeout (txSide : Bool) (p : Port) : Port :=
  if txSide then (if p.rg.phase = .chunkWait ∧ p.timerOn .chunkRequest then p.chunkAbortTx else p)
  else if p.rxExchange false ∧ p.timerOn .chunkResponse then p.chunkAbortRx false
  else if p.rxExchange true ∧ p.timerOn .chunkResponse1 then p.chunkAbortRx true
  else p

/-- What a received Soft_Reset ends on SOP: commands that have not started are discarded, messages of the region that have
not started are not sent, and exchanges end with PD_CHUNK_ABORT; waits end without an event. A message under way goes on
to its end or its retries, and so does SOP′ (R79, R86, R99, log entry 161). -/
def endSop (p : Port) : Port :=
  let p := match p.rg.held with | some h => if h.sop1 then p else p.dropHeld | none => p
  let p := { p with rg := { p.rg with ownDue := p.rg.ownDue.filter fun m => m.sop1 } }
  let p := match p.rg.tx with
    | some m =>
      if m.sop1 ∨ p.busy then p
      else
        ({ p with rg := { p.rg with tx := none, phase := .idle }, pdstat := { p.pdstat with txPending := false } }.stop
          .sinkTx).discarded m
    | none => p
  let p := if p.rxExchange false then p.chunkAbortRx false else p
  let p := match p.rg.waiting with
    | some m => if m.sop1 then p else { p with rg := { p.rg with waiting := none } }.stop .response
    | none => p
  let p := if p.rg.soft = some false then { p with rg := { p.rg with soft := none } }.stop .softAccept else p
  match p.rg.tx with
  | some m =>
    if p.txExchange false then
      let p := (p.airEnd.setOutcome m false).post .pdChunkAbort (payB 0 true)
      { p with rg := { p.rg with tx := none, phase := .idle } }.stopAll [.crcReceive, .chunkRequest]
    else p
  | none => p

/-- The region hears messages: attached, PD served and not given up, and not in BIST (R92, R97, R100, Table 3.4). -/
def hears (p : Port) : Bool := p.attached && p.rg.latchedPdEn && !p.pdstat.giveup && p.rg.bist = .off

/-- SOFT_RESET_RECEIVED on SOP: MessageIDs clear, the AMS ends, SR_CNT advances, PD_SOFT_RESET_RX is written and Accept
is sent; an own Soft_Reset that awaits Accept counts as accepted; ON_FAIL of a chunked message that it ended follows the
Accept (R86, Tables 3.10 and 3.12). -/
def softResetReceived (e : Env) (p : Port) : Port :=
  if p.hears then
    let cut := if p.txExchange false then p.rg.tx else none
    let p := p.endSop.amsEnd
    let p := { p with
      rg := { p.rg with txId := 0#3, rxId := none, accepted := false, asked := false, meas := false },
      pdstat := { p.pdstat with srCnt := satInc p.pdstat.srCnt } }
    let p := p.post .pdSoftResetRx 0#36
    let p := p.sendOwn (ownMsg (p.ownHeader tAccept) 0#16 false)
    let p := match cut with
      | some m => if m.onFail = 1#2 ∨ m.onFail = 2#2 then p.dropHeld.ladder m.onFail false else p
      | none => p
    p.fdetSeen e
  else p

/-- SOFT_RESET_ACCEPT_TIMEOUT: PD_SOFT_RESET_DONE with FAILED, then Hard Reset on SOP (Table 3.10). -/
def softAcceptTimeout (p : Port) : Port :=
  match p.rg.soft with
  | some sop1 =>
    let p := ({ p with rg := { p.rg with soft := none } }.stop .softAccept).post .pdSoftResetDone (payB 0 sop1 ||| payB 1 true)
    if sop1 then p else p.dropHeld.hardReset
  | none => p

/-- VBUS lies at vSafe5V, 4.75 V to 5.5 V (log entry 12). -/
def atVsafe5 (p : Port) : Bool := 4750 ≤ p.fe.vb && p.fe.vb ≤ 5500

/-- Whether the region serves a BIST of this mode itself (R92). Mode codes as in USB PD Revision 3.2. -/
def bistServed (mode : BitVec 4) (p : Port) : Bool :=
  p.pdcfg.bistEn && p.atVsafe5 && p.attached && (mode = 5#4 || mode = 8#4)

/-- BIST_RECEIVED: carrier or test data (R92). -/
def bist (mode : BitVec 4) (p : Port) : Port :=
  if p.bistServed mode then
    if mode = 5#4 then ({ p with rg := { p.rg with bist := .carrier } }.airBegin.start .bistCont).post .pdBist 0#36
    else { p with rg := { p.rg with bist := .testData } }.post .pdBist (payB 0 true)
  else p

/-- BIST_CONT_MODE_EXPIRY: the carrier ends (R92). -/
def bistExpiry (e : Env) (p : Port) : Port :=
  if p.rg.bist = .carrier then ({ p with rg := { p.rg with bist := .off } }.airEnd.stop .bistCont).fdetSeen e else p

/-- CRC_ERR advances, saturating (R80, R101). -/
def crcErr (p : Port) : Port := { p with pdstat := { p.pdstat with crcErr := satInc p.pdstat.crcErr } }

/-- A frame is discarded without GoodCRC by Table 3.4 for a reason other than its CRC or length. -/
def frameIgnored (f : Frame) (p : Port) : Bool :=
  !p.attached || !p.rg.latchedPdEn || p.pdstat.giveup || f.sop = 2#3 || f.sop = 3#3 || f.sop = 4#3 || 4#3 < f.sop ||
    (f.sop = 1#3 && (!p.cc.vconnOn || !p.pdcfg.sop1En || !bit f.header 8))

/-- The entries of a received message (Table 3.5): header with SHAPE_ERR and LAST, then one entry per object or per
four bytes of extended data. -/
def rxGroup (f : Frame) (shape last : Bool) (bytes : Nat) : List (BitVec 6 × W36) :=
  let hd : W36 := pay 0 f.header ||| (if hExt f.header then pay 16 f.extHeader else 0#36) |||
    payB 32 (f.sop = 1#3) ||| payB 34 shape ||| payB 35 last
  let data := f.objs.mapIdx fun i w =>
    let tag : BitVec 4 := if hExt f.header then BitVec.ofNat 4 (min 4 (bytes - 4 * i)) else 0#4
    ((2#6 : BitVec 6), w.setWidth 36 ||| pay 32 tag)
  (1#6, hd) :: data

/-- Negotiate REV on the first message on SOP: the lower of MAX_REV and the partner's revision (R70). -/
def takeRev (h : BitVec 16) (p : Port) : Port :=
  if p.rg.rxFirst then p
  else
    let r : BitVec 2 := if fld h 6 2 = 1#2 then 1#2 else 2#2
    { p with rg := { p.rg with rxFirst := true },
             pdstat := { p.pdstat with rev := if r ≤ p.rg.latchedMaxRev then r else p.rg.latchedMaxRev } }

/-- What a delivered message on SOP makes the region do beside the delivery; `asked`: an own Request or EPR_Request had
no answer yet (R96, R110, R118 to R125, Table 3.8). -/
def rxEffect (h : BitVec 16) (asked : Bool) (p : Port) : Port :=
  if isCtrl h tAccept then
    let frs := p.rg.frsSwap && p.contract.swap
    let p := if asked ∧ !p.isSource then
        (match p.rg.sinkContract with | some w => p.slowRaise w | none => p) |>.start .psTransition
      else p
    let p := { p with rg := { p.rg with inTrans := p.rg.inTrans || (asked && !p.isSource) } }
    let p := if frs then p.start .psSourceOff else p
    p.onAccept
  else if isCtrl h tPsRdy then p.psRdyReceived
  else p

/-- The chunk number that the next chunk on a SOP type must carry (R85). -/
def chunkWanted (sop1 : Bool) (p : Port) : BitVec 4 := match p.rxOf sop1 with | some r => r.next | none => 0#4

/-- A message delivered to the core: the group of R82, with the chunk exchange of an extended one (R85 to R89). -/
def deliver (f : Frame) (p : Port) : Port :=
  let sop1 : Bool := f.sop = 1#3
  let sh := shapeErr f.header f.extHeader
  if hExt f.header then
    let size := (fld f.extHeader 0 9).toNat
    let n := fld f.extHeader 11 4
    if !bit f.extHeader 15 ∧ 26 < size then p.pushGroup (rxGroup { f with objs := [] } true true 0)
    else
      if n ≠ p.chunkWanted sop1 then p.chunkAbortRx sop1
      else
        let left := (match p.rxOf sop1 with | some r => r.left | none => size)
        let now := min 26 left
        let last := left ≤ 26
        let p := p.stop (chunkTimer sop1) |>.pushGroup (rxGroup f sh last now)
        if last then p.setRx sop1 none
        else
          let p := p.setRx sop1 (some { header := f.header, next := n + 1#4, left := left - 26 })
          p.sendOwn (ownMsg (p.ownHeader (hType f.header) ||| 0x9000#16)
            (0x8400#16 ||| ((n + 1#4).setWidth 16 <<< 11)) sop1)
  else p.pushGroup (rxGroup f sh true 0)

/-- Whether USB PD requires a reply to a message within tReceiverResponse (R182); types under log entry 11. -/
def needsReply (sink : Bool) (f : Frame) : Bool :=
  let t := (hType f.header).toNat
  let first := f.objs.headD 0#32
  if hExt f.header then
    t = 3 || t = 4 || t = 6 || (t = 16 && decide (1 ≤ (fld first 0 8).toNat ∧ (fld first 0 8).toNat ≤ 3))
  else if hNdo f.header = 0 then
    t = 7 || t = 8 || t = 9 || t = 10 || t = 11 || t = 17 || t = 18 || (19 ≤ t && t ≤ 24)
  else (t = 1 && sink) || t = 2 || t = 7 || t = 9 || (t = 10 && fld first 24 8 = 1#8) ||
    (t = 15 && bit first 15 && fld first 6 2 = 0#2)

/-- A delivered message on SOP opens a measurement when R182 names it, and drops one that is open. `slack`: the bound
of 3.25 ms of R179 holds for it. -/
def measureOpen (slack : Bool) (f : Frame) (p : Port) : Port :=
  { p with rg := { p.rg with meas := needsReply p.sinkSide f && !p.rxExchange false, measSlack := slack } }

/-- Whether the preamble that is due is a transmission on SOP. -/
def startsSop (p : Port) : Bool :=
  (p.rg.phase = .ready || p.rg.phase = .retryWait) && (match p.rg.tx with | some m => !m.sop1 | none => false)

/-- The message that an exchange on its SOP type goes on with: a chunk of the message being received, by its type. -/
def continues (f : Frame) (p : Port) : Bool :=
  match p.rxOf (f.sop = 1#3) with
  | some r => hExt f.header && hType f.header = hType r.header
  | none => false

/-- A frame is a repeat: its MessageID is the stored one of its SOP type, and it is no Soft_Reset (R81). -/
def isRxRepeat (f : Frame) (p : Port) : Bool :=
  !isCtrl f.header tSoftReset && (if f.sop = 1#3 then p.rg.rxId1 else p.rg.rxId) = some (fld f.header 9 3)

/-- The entries that a frame's group would take in the port event queue (R80): none for a repeat, a revision of 0b00 and a
Chunk Request, one for what the region serves itself, for an unchunked message above 26 bytes and for a chunk out of
order (R85 to R87). -/
def rxEntries (f : Frame) (p : Port) : Nat :=
  let sop1 : Bool := f.sop = 1#3
  if p.isRxRepeat f ∨ (!sop1 ∧ fld f.header 6 2 = 0#2) ∨ (hExt f.header ∧ bit f.extHeader 10) then 0
  else if isCtrl f.header tSoftReset ∧ !sop1 then 1
  else if isCtrl f.header tAccept ∧ p.rg.soft = some sop1 then 1
  else if isData f.header 3#5 ∧ p.bistServed (fld (f.objs.headD 0#32) 28 4) then 1
  else if hExt f.header ∧ ((!bit f.extHeader 15 ∧ 26 < (fld f.extHeader 0 9).toNat) ∨
      fld f.extHeader 11 4 ≠ p.chunkWanted sop1) then 1
  else f.objs.length + 1

/-- A message on a SOP type stops the response timer of that type (R74). -/
def stopResponse (sop1 : Bool) (p : Port) : Port :=
  match p.rg.waiting with
  | some m => if m.sop1 = sop1 then { p with rg := { p.rg with waiting := none } }.stop .response else p
  | none => p

/-- The MessageID of a received message is stored; a Soft_Reset clears it (R81). -/
def storeRxId (f : Frame) (p : Port) : Port :=
  let id : Option (BitVec 3) := if isCtrl f.header tSoftReset then none else some (fld f.header 9 3)
  if f.sop = 1#3 then { p with rg := { p.rg with rxId1 := id } } else { p with rg := { p.rg with rxId := id } }

/-- What a new message that is no Chunk Request ends on its SOP type: an exchange that it is no part of, and the commands
that have not started (R79, R86). -/
def makeWay (f : Frame) (p : Port) : Port :=
  let sop1 : Bool := f.sop = 1#3
  let p := if p.txExchange sop1 then p.chunkAbortTx else p
  let p := if p.rxExchange sop1 ∧ !p.continues f then p.chunkAbortRx sop1 else p
  (p.discardPending sop1).goOn

/-- The port event queue has room for the group of a frame, behind the events that the frame writes before it (R80). -/
def hasRoom (f : Frame) (p : Port) : Bool :=
  let first := if isCtrl f.header tSoftReset ∧ f.sop ≠ 1#3 then p.endSop else p.makeWay f
  p.rxEntries f = 0 || first.q.fits (first.rxEntries f)

/-- A new message that is no Chunk Request is served by the region or delivered (R79, R86 to R92). -/
def takeMessage (slack : Bool) (f : Frame) (p : Port) : Port :=
  let sop1 : Bool := f.sop = 1#3
  let p := p.makeWay f
  if isCtrl f.header tAccept ∧ p.rg.soft = some sop1 then
    ({ p with rg := { p.rg with soft := none } }.stop .softAccept).post .pdSoftResetDone (payB 0 sop1)
  else if isData f.header 3#5 ∧ p.bistServed (fld (f.objs.headD 0#32) 28 4) then
    p.bist (fld (f.objs.headD 0#32) 28 4)
  else
    let asked := p.rg.asked
    let p := p.deliver f
    if sop1 then p else ({ p with rg := { p.rg with asked := false } }.measureOpen slack f).rxEffect f.header asked

/-- FRAME_RECEIVED: the frame is discarded by Table 3.4, or acknowledged; a repeat, a revision of 0b00 and every frame
under BIST test data are acknowledged and discarded; any message stops the response timer of its SOP type, and a new
one is served by the region or delivered (R70, R74, R79 to R92). A repeat and a Chunk Request discard no pending command, which
is the model's choice (R79, log entry 198). A frame with a fault that also meets a row of Table 3.4
that is not counted is counted (log entry 170). -/
def frameReceived (e : Env) (slack : Bool) (f : Frame) (p : Port) : Port :=
  let bad := !f.crcOk || !f.lenOk
  let sop1 : Bool := f.sop = 1#3
  if p.onAir ∨ p.rg.phase = .onLine ∨ p.rg.bist = .carrier then p.crcErr
  else if p.frameIgnored f then (if bad then p.crcErr else p)
  else if bad then p.crcErr
  else if isCtrl f.header tGoodCrc then p.goodCrc sop1 (fld f.header 9 3)
  else if p.rg.bist = .testData then p
  else if !p.hasRoom f then { p with q := { p.q with ovf := true } }
  else
    let p := p.stopResponse sop1
    if p.isRxRepeat f then p
    else if !sop1 ∧ fld f.header 6 2 = 0#2 then p.storeRxId f
    else
      let p := if sop1 then p else p.takeRev f.header
      if isCtrl f.header tSoftReset ∧ !sop1 then p.softResetReceived e
      else
        let p := p.storeRxId f
        if hExt f.header ∧ bit f.extHeader 10 then p.chunkRequest sop1 (fld f.extHeader 11 4) else p.takeMessage slack f

/-- RESPONSE_TIMER_EXPIRY: PD_TIMER with Id 0x0, then ON_TIMEOUT (R74, R77). -/
def responseExpiry (p : Port) : Port :=
  match p.rg.waiting with
  | some m =>
    if p.timerOn .response then
      let p := { p with rg := { p.rg with waiting := none } }.stop .response
      let p := p.post .pdTimer (pay 4 m.seq ||| payB 12 m.sop1)
      p.amsEnd.ladder m.onTimeout m.sop1
    else p
  | none => p

/-- ID_TIMER_EXPIRY: a PD timer with an Id expires and is reported (R93). -/
def idTimerExpiry (id : BitVec 4) (p : Port) : Port :=
  if p.timerOn (.pd id) then (p.stop (.pd id)).post .pdTimer (pay 0 id) else p

/-- PS_TRANSITION_TIMEOUT: Hard Reset (Table 3.10). -/
def psTransitionTimeout (p : Port) : Port := if p.timerOn .psTransition then p.hardReset else p

/-- The port stops PD until the next detach (R97). -/
def giveUp (e : Env) (p : Port) : Port :=
  let p := p.abortTx
  let p := { p with pdstat := { p.pdstat with giveup := true, collAv := false, sinkTxOk := false, amsActive := false } }
  (p.post .pdGiveup 0#36).fdetSeen e

/-- NO_RESPONSE_TIMEOUT: the next Hard Reset, or the end of the ladder (Table 3.10, R97). -/
def noResponseTimeout (e : Env) (p : Port) : Port :=
  if p.timerOn .noResponse then
    let p := p.stop .noResponse
    if p.pdstat.hrCount ≤ 2#2 then p.hardReset
    else if p.pdstat.erCount < p.pdcfg.erLimit ∨ p.pdcfg.erLimit = 15#4 then
      { p with pdstat := { p.pdstat with erCount := satInc p.pdstat.erCount } }.toErrorRecovery
    else p.giveUp e
  else p

/-- TRANSITION_START: t_src_trans after the Accept's GoodCRC the ramp starts; SLOW takes the higher of the old and the
new value (R110, Table 5.10). -/
def transitionStart (p : Port) : Port :=
  match p.rg.armed with
  | some w =>
    if p.timerOn .srcTrans ∧ !p.rg.ramping then
      let volt := (fld w 0 12).toNat * 20
      let prev := if p.contract.explicit then (fld p.contract.contract 0 12).toNat * 20 else 5000
      let p := (p.stop .srcTrans).vsetRamp volt false
      { p with rg := { p.rg with ramping := true, prevVolt := prev, settling := p.rg.moving = volt } }.slowRaise w
    else p
  | none => p

/-- The settle window of Table 4.6: ±3 % for PPS, ±5 % otherwise. -/
def inWindow (w : BitVec 29) (vbMv : Nat) : Bool :=
  let t := (fld w 0 12).toNat * 20
  let k := if fld w 25 2 = 1#2 then 3 else 5
  t * (100 - k) ≤ vbMv * 100 && vbMv * 100 ≤ t * (100 + k)

/-- SETTLE_DONE: VB has stayed in the settle window for t_settle; P_CONTRACT is written, TRANS_PEND clears, PP_DONE
(R110). -/
def settleDone (vbMv : Nat) (p : Port) : Port :=
  match p.rg.armed with
  | some w =>
    if p.rg.ramping ∧ inWindow w vbMv then
      let p := { p with
        contract := { p.contract with contract := w, transPend := false },
        rg := { p.rg with armed := none, ramping := false, settling := false, ending := true } }.slowFor w
      (p.stop .ppTimeout).ppDone 8#4
    else p
  | none => p

/-- T_PP_TIMEOUT_EXPIRY: PP_TIMEOUT, and VSET goes back to the previous contract's target (R110). -/
def ppTimeoutExpiry (p : Port) : Port :=
  if p.timerOn .ppTimeout ∧ p.rg.armed.isSome then
    let p := (p.stopAll [.ppTimeout, .srcTrans])
    let p := { p with
      rg := { p.rg with armed := none, ramping := false, settling := false,
                        target := if p.rg.ramping then p.rg.prevVolt else p.rg.target },
      contract := { p.contract with transPend := false } }
    p.post .ppTimeout 0#36
  else p

/-- SRC_OFF executes: VSET to zero, holding, discharge; PP_DONE at VB_SAFE0 (Table 4.1). -/
def srcOffNow (p : Port) : Port :=
  let p := p.vsetZero.hold.discharge
  if p.cc.vbSafe0 then p.ppDone 9#4 else { p with rg := { p.rg with srcOffRun := true } }

/-- SRC_OFF_DEFERRED: t_src_trans after the Accept's GoodCRC (R102, P2 of Table 4.8). -/
def srcOffDeferred (p : Port) : Port :=
  if p.rg.srcOffArmed ∧ p.timerOn .srcTrans then
    ({ p with rg := { p.rg with srcOffArmed := false } }.stop .srcTrans).srcOffNow
  else p

/-- FRS_DETECTION: an armed port starts the fast role swap: F1 of Table 4.12. -/
def frsDetection (p : Port) : Port :=
  if p.partner.frsArmed ∧ p.tc.state = .attachedSnk then
    let p := p.abortTx.hold.swapBegin
    { p with rg := { p.rg with frsSwap := true, accepted := false }, fe := { p.fe with preBias := true } }
    |>.post .pdFrsDetect 0#36
  else p

/-- FRS_FAST_PASS: at VB below 4.75 V, or 90 µs after detection, the source path passes from its pre-bias: F2 of
Table 4.12. -/
def frsFastPass (e : Env) (vbMv : Nat) (late : Bool) (p : Port) : Port :=
  if p.rg.frsSwap ∧ p.contract.swap ∧ p.fe.path = .none ∧ (vbMv < 4750 ∨ late) then
    let p := p.pass e .source true
    { p with fe := { p.fe with preBias := false } }
  else p

/-- PS_SOURCE_ON_TIMEOUT and PS_SOURCE_OFF_TIMEOUT: ErrorRecovery (R118, R119, R125). -/
def swapTimeout (t : TimerId) (p : Port) : Port := if p.timerOn t then p.toErrorRecovery else p

/-- ROLE_FLIP_DONE: the terminations have changed, the Type-C state follows, with the sink disconnect level of an entry to
Attached.SNK; PP_DONE (R61, Tables 4.8 to 4.12). Whether SinkTxOk stands right after the flip is the model's choice: the
value the port had before (R77, log entry 197). -/
def roleFlipDone (p : Port) : Port :=
  if p.rg.flip then
    let st := if p.tc.state = .attachedSrc then TcState.attachedSnk else .attachedSrc
    let p := (p.stop .roleFlip).toState st
    { p with rg := { p.rg with flip := false, noFirstPass := false,
                               snkLevel := if st = TcState.attachedSnk then 3670 else p.rg.snkLevel } }.ppDone 13#4
  else p

/-- The message a staged command asks for (Tables 3.2 and 3.3). -/
def stagedMsg (words : Nat → W36) : TxMsg :=
  let w0 := words 0
  let h := fld w0 0 16
  let ext := fld (words 1) 8 16
  let n := if hExt h then ((fld ext 0 9).toNat + 3) / 4 else hNdo h
  { header := h, extHeader := if hExt h then ext else 0#16, sop1 := fld w0 16 2 = 1#2, amsStart := bit w0 18,
    amsEnd := bit w0 19, onFail := fld w0 20 2, onTimeout := fld w0 22 2, resp := fld w0 24 3, seq := fld (words 1) 0 8,
    own := false, objs := (List.range n).map fun i => fld (words (2 + i)) 0 32 }

/-- A refused code in SOP or RESP_TIMER, whatever the command (R74). -/
def codeRefused (sop : BitVec 2) (resp : BitVec 3) : Bool := 1#2 < sop || 5#3 < resp

/-- The refusals of R74 for CMD 0x1; a port without a partner, or with an accessory, sends no message either (R57, log
entry 171). -/
def txRefused (m : TxMsg) (p : Port) : Bool :=
  !p.attached || (hExt m.header && p.pdstat.rev = 1#2) || (m.sop1 && (!p.cc.vconnOn || !p.pdcfg.sop1En)) ||
    p.pdstat.giveup || !p.rg.latchedPdEn

/-- A command is a repeat of the last one transmitted on its SOP type (R76). -/
def isRepeat (m : TxMsg) (p : Port) : Bool :=
  (if m.sop1 then p.rg.lastSeq1 else p.rg.lastSeq) = some m.seq &&
    (bit m.seq 7 || fld p.q.rd 0 7 = fld m.seq 0 7)

/-- TRANSMIT_MESSAGE: refused, a repeat answered with the earlier outcome, held behind a message that is under way or
that the region sends itself, or taken in hand in place of a pending one (R74, R76, R79). A Soft_Reset of the core takes
the ladder's Soft_Reset step. -/
def transmit (m : TxMsg) (p : Port) : Port :=
  if p.txRefused m then p.cmdBad m.seq 1#4
  else if p.isRepeat m then
    match (if m.sop1 then p.rg.lastOk1 else p.rg.lastOk) with
    | some true => p.post .pdTxOk (txPay m)
    | some false => p.post .pdTxFail (txPay m)
    | none => p
  else
    let p := p.dropPending
    if p.rg.tx.isSome then { p with rg := { p.rg with held := some m } } else p.takeTx m

/-- CABLE_RESET: refused unless VCONN source and DFP; SOP′ MessageID state clears (R74, R81). Any transmission in
progress is aborted, and a pending command discarded (R79). -/
def cableReset (e : Env) (seq : BitVec 8) (p : Port) : Port :=
  if !p.cc.vconnOn ∨ !p.pdstat.drole then p.cmdBad seq 3#4
  else
    let p := p.dropPending
    let p := if p.busy then
        { p.airEnd with rg := { p.airEnd.rg with lastOk := p.rg.lastOk.or (some false) } }.nextTx.fdetSeen e
      else p
    { p with rg := { p.rg with txId1 := 0#3, rxId1 := none, lastSeq1 := none, lastOk1 := none } }

/-- SET_DATA_ROLE (R122). -/
def setDataRole (dfp : Bool) (p : Port) : Port := { p with pdstat := { p.pdstat with drole := dfp } }

/-- PD_TIMER_COMMAND: start or stop a timer of Table 3.8 by its Id; an Id the table does not list is refused (R74). -/
def pdTimerCommand (seq : BitVec 8) (id : BitVec 4) (on : Bool) (p : Port) : Port :=
  if id = 0#4 ∨ 8#4 < id then p.cmdBad seq 7#4
  else if on then p.start (.pd id) else p.stop (.pd id)

/-- Power-path commands are refused while a Hard Reset that began in a swap runs (R120). -/
def ppBlocked (p : Port) : Bool := p.rg.hr ≠ .idle && p.rg.hrSwap

/-- TRANSITION (Tables 4.1 and 4.2, R103). -/
def transition (seq : BitVec 8) (w : W36) (p : Port) : Port :=
  let c : BitVec 29 := fld w 0 29
  if p.ppBlocked ∨ !p.attached ∨ fld c 25 2 = 3#2 ∨ 2400 < (fld c 0 12).toNat ∨ 500 < (fld c 12 9).toNat ∨
      (p.rg.armed.isSome ∧ p.rg.ramping) then p.cmdBad seq 8#4
  else
    let p := { p with contract := { p.contract with transPend := true } }
    if p.isSource then { p with rg := { p.rg with armed := some c } }
    else { p with rg := { p.rg with sinkContract := some c, sinkVolt := (fld c 0 12).toNat * 20 } }

/-- SRC_OFF (Table 4.1). -/
def srcOff (seq : BitVec 8) (defer : Bool) (p : Port) : Port :=
  if p.ppBlocked ∨ p.tc.state ≠ .attachedSrc then p.cmdBad seq 9#4
  else if defer then { p with rg := { p.rg with srcOffArmed := true } }
  else p.srcOffNow

/-- SRC_ON (Table 4.1). -/
def srcOn (e : Env) (seq : BitVec 8) (p : Port) : Port :=
  if p.ppBlocked ∨ p.tc.state ≠ .attachedSrc then p.cmdBad seq 10#4
  else if p.cc.vbSafe0 then p.coldPass e .srcOn
  else { p with rg := { p.rg with srcOnWait := true } }

/-- SNK_OFF (Table 4.1); refused with on-resistance sensing (R141). -/
def snkOff (seq : BitVec 8) (defer : Bool) (p : Port) : Port :=
  if p.ppBlocked ∨ p.tc.state ≠ .attachedSnk ∨ p.onRes then p.cmdBad seq 11#4
  else if defer then { p with rg := { p.rg with snkOffArmed := true } }
  else p.hold.ppDone 11#4

/-- SNK_ON (Table 4.1); refused with on-resistance sensing (R141). -/
def snkOn (e : Env) (seq : BitVec 8) (p : Port) : Port :=
  if p.ppBlocked ∨ p.tc.state ≠ .attachedSnk ∨ p.onRes then p.cmdBad seq 12#4
  else if p.cc.vbPresent then p.snkOnNow e
  else { p with rg := { p.rg with snkOnWait := true } }

/-- ROLE_FLIP: needs a swap in progress; terminations are in change until ROLE_FLIP_DONE (R103, R120). -/
def roleFlip (seq : BitVec 8) (p : Port) : Port :=
  if p.ppBlocked ∨ !p.contract.swap ∨ !p.attached ∨ p.onRes then p.cmdBad seq 13#4
  else { p with rg := { p.rg with flip := true } }.start .roleFlip

/-- FRS_ARM: needs Attached.SNK with an explicit contract, and shunt sensing (R141); while armed the source gate is pre-biased and VSET is preset
for vSafe5V (R103, R124). -/
def frsArm (seq : BitVec 8) (arm : Bool) (p : Port) : Port :=
  if p.ppBlocked ∨ p.tc.state ≠ .attachedSnk ∨ !p.contract.explicit ∨ p.onRes then p.cmdBad seq 14#4
  else if arm then
    { p with partner := { p.partner with frsArmed := true }, fe := { p.fe with preBias := true },
             rg := { p.rg with target := 5000, moving := 5000 },
             vset := { p.vset with duty := BitVec.ofInt 12 (p.ffmap 5000) } }
  else p.disarmFrs.vsetZero

/-- SLUICE_CFG: the operations of Table 5.5; any other operation code is refused (R165). `tenNv` is the present sense
voltage, for ZERO. -/
def sluiceCfg (seq : BitVec 8) (op : BitVec 4) (w : W36) (tenNv : Int) (p : Port) : Port :=
  if op = 1#4 then p.vcal w
  else if op = 2#4 then p.ronCal w
  else if op = 3#4 then p.thetaLoad w
  else if op = 4#4 then p.shuntCal w
  else if op = 5#4 then p.measure
  else if op = 6#4 then p.zero seq tenNv
  else p.cmdBad seq 15#4

/-- The region's action on a command word and its parameters, at the acknowledge of R23 (Table 3.3). CMD 0x0 has no
effect (R74). -/
def command (e : Env) (words : Nat → W36) (tenNv : Int) (p : Port) : Port :=
  let m := stagedMsg words
  let w2 := words 2
  let cmd := fld (words 0) 28 4
  if cmd = 0#4 then p
  else if codeRefused (fld (words 0) 16 2) m.resp then p.cmdBad m.seq cmd
  else if cmd = 1#4 then p.transmit m
  else if cmd = 2#4 then p.dropPending.hardReset
  else if cmd = 3#4 then p.cableReset e m.seq
  else if cmd = 4#4 then p.vconnOn e m.seq
  else if cmd = 5#4 then p.vconnOff e
  else if cmd = 6#4 then p.setDataRole (bit w2 0)
  else if cmd = 7#4 then p.pdTimerCommand m.seq (fld w2 0 4) (bit w2 4)
  else if cmd = 8#4 then p.transition m.seq w2
  else if cmd = 9#4 then p.srcOff m.seq (bit w2 0)
  else if cmd = 10#4 then p.srcOn e m.seq
  else if cmd = 11#4 then p.snkOff m.seq (bit w2 0)
  else if cmd = 12#4 then p.snkOn e m.seq
  else if cmd = 13#4 then p.roleFlip m.seq
  else if cmd = 14#4 then p.frsArm m.seq (bit w2 0)
  else p.sluiceCfg m.seq (fld w2 0 4) (words 3) tenNv

/-- The staging word at an index (Table 3.2). -/
def stgWord (p : Port) (i : Nat) : W36 := (p.stg.words[i]?).getD 0#36

/-- Write one staging word; no effect while PENDING is 1 (R323). -/
def stage (i : Nat) (w : W36) (p : Port) : Port :=
  if p.stg.pending then p else { p with stg := { p.stg with words := p.stg.words.setIfInBounds i w } }

/-- TX_GO_ACKNOWLEDGE: the region has copied the command, PENDING falls and the command acts (R23, R103). -/
def txGoAck (e : Env) (tenNv : Int) (p : Port) : Port :=
  if p.stg.pending ∧ e.regionUp then
    { p with stg := { p.stg with pending := false } }.command e p.stgWord tenNv
  else p

/-- The core writes the staging area and TX_GO, and the region acknowledges: the command with its words. Without a
region the request stays PENDING; while PENDING is 1 the words are lost and TX_GO has no effect (R23, R323). -/
def txGo (e : Env) (ws : List (Nat × W36)) (tenNv : Int) (p : Port) : Port :=
  if p.stg.pending then p
  else
    let p := ws.foldl (fun p x => p.stage x.1 x.2) p
    ({ p with stg := { p.stg with pending := true } }).txGoAck e tenNv

/-- PD counters clear on P_PDCFG.CNT_CLR (Table 3.14). -/
def writePdcfg (w : Word) (p : Port) : Port :=
  let p := { p with pdcfg := p.pdcfg.write w }
  if bit w 12 then { p with pdstat := { p.pdstat with crcErr := 0#4, txFail := 0#4, srCnt := 0#4, hrCnt := 0#4 } } else p

end Port

end Sys2Proof.Machine
end

