-- ==== Sys2Proof/Machine/Policy.lean ====
section
/-! DEFINITION. What the serving core does for one port (spec/04_contracts_swaps.md, spec/03_pd_protocol.md R90, R91,
spec/05_sluice.md R152): capability sets, request evaluation, swaps, EPR, status messages, breach service, alternate
modes and pack identity. A row of the firmware acts on the head group of the port event queue that belongs to it,
hands its commands to the region through the staging area and commits the group (R22, R23); with another head group it
has no effect. Message layouts that the spec names and does not draw are those of USB PD Revision 3.2 (log
entry 11). -/

namespace Sys2Proof.Machine

/-- A message the core sends, before it becomes staging words. -/
structure Out where
  header : BitVec 16
  ext : BitVec 16 := 0#16
  sop1 : Bool := false
  amsStart : Bool := false
  amsEnd : Bool := false
  onFail : BitVec 2 := 1#2
  onTimeout : BitVec 2 := 0#2
  resp : BitVec 3 := 0#3
  objs : List Word := []
deriving DecidableEq, Repr

/-- The command word of a message (Table 3.3). -/
def Out.word (o : Out) : W36 :=
  pay 0 o.header ||| payB 16 o.sop1 ||| payB 18 o.amsStart ||| payB 19 o.amsEnd ||| pay 20 o.onFail |||
    pay 22 o.onTimeout ||| pay 24 o.resp ||| pay 28 1#4

/-- What a message is to the core until its outcome is served. -/
def Out.kind (o : Out) : OutKind :=
  if isCtrl o.header tAccept then .accept
  else if isCtrl o.header tPsRdy then .psRdy
  else if isCtrl o.header tSoftReset then .other
  else if isData o.header 1#5 ∨ (hExt o.header ∧ hType o.header = 0x11#5) then .set
  else if o.sop1 then .cable
  else if isData o.header 10#5 then .epr
  else if o.resp ≠ 0#3 then .ask
  else .other

/-- The head group of a queue as a received message: its header entry, its data words, and the data bytes that its entries
mark as valid. -/
structure Rx where
  header : BitVec 16
  ext : BitVec 16
  sop1 : Bool
  shape : Bool
  last : Bool
  objs : List Word
  chunk : List Byte := []
deriving DecidableEq, Repr

/-- The message a group carries, if it is one (Table 3.5). -/
def rxOfGroup : List Entry → Option Rx
  | h :: t =>
    if h.typ = 1#6 then
      some { header := fld h.payload 0 16, ext := fld h.payload 16 16, sop1 := bit h.payload 32,
             shape := bit h.payload 34, last := bit h.payload 35, objs := t.map fun x => fld x.payload 0 32,
             chunk := t.flatMap fun x => (leBytes (fld x.payload 0 32)).take (fld x.payload 32 4).toNat }
    else none
  | [] => none

/-- The data bytes of an extended message, as many as its Data Size says. -/
def Rx.bytes (m : Rx) : List Byte := (m.objs.flatMap leBytes).take (fld m.ext 0 9).toNat

/-- An unchunked extended message of more than 26 bytes (R87). -/
def Rx.unchunked (m : Rx) : Bool := hExt m.header && !bit m.ext 15 && 26 < (fld m.ext 0 9).toNat

/-- Bytes as data words of an extended message, lowest byte first (Table 3.5). -/
def extWords : List Byte → List Word
  | a :: b :: c :: d :: rest => (a.setWidth 32 ||| putF 8 b ||| putF 16 c ||| putF 24 d) :: extWords rest
  | [] => []
  | [a] => [a.setWidth 32]
  | [a, b] => [a.setWidth 32 ||| putF 8 b]
  | a :: b :: c :: _ => [a.setWidth 32 ||| putF 8 b ||| putF 16 c]

namespace Port

/-- The bytes of the chunks that came before a chunk of an extended message (Table 3.1, R85). -/
def partsOf (m : Rx) (p : Port) : List Byte :=
  match p.role.parts with
  | some r => if r.sop1 = m.sop1 ∧ hType r.header = hType m.header ∧ fld m.ext 11 4 ≠ 0#4 then r.bytes else []
  | none => []

/-- The message at the head of the queue, with the chunks taken before it (Table 3.1). -/
def headMsg (p : Port) : Option Rx :=
  (rxOfGroup p.q.head).map fun m =>
    if hExt m.header ∧ p.partsOf m ≠ [] then { m with objs := extWords (p.partsOf m ++ m.chunk) } else m

/-- The event at the head of the queue, as type and payload. -/
def headEvent (p : Port) : Option (BitVec 6 × W36) :=
  match p.q.head with
  | x :: _ => if x.typ = 1#6 then none else some (x.typ, x.payload)
  | [] => none

/-- The head is the event `ev`. -/
def headIs (ev : PEvent) (p : Port) : Bool := match p.headEvent with | some (t, _) => t = ev.typ | none => false

/-- The head is PP_DONE of a command. -/
def headPpDone (cmd : BitVec 4) (p : Port) : Bool :=
  match p.headEvent with | some (t, pl) => t = PEvent.ppDone.typ && fld pl 0 4 = cmd | none => false

/-- The head is PD_TIMER with an Id. -/
def headTimer (id : BitVec 4) (p : Port) : Bool :=
  match p.headEvent with | some (t, pl) => t = PEvent.pdTimer.typ && fld pl 0 4 = id | none => false

/-- The head reports the end of a message of the core: its TX_SEQ, and whether it had its GoodCRC (Table 11.4). -/
def headEnd (p : Port) : Option (BitVec 8 × Bool) :=
  match p.headEvent with
  | some (t, pl) =>
    if t = PEvent.pdTxOk.typ ∧ !bit pl 9 then some (fld pl 0 8, true)
    else if ((t = PEvent.pdTxFail.typ ∨ t = PEvent.pdTxDiscarded.typ) ∧ !bit pl 9) ∨
        (t = PEvent.pdCmdBad.typ ∧ fld pl 8 4 = 1#4) then some (fld pl 0 8, false)
    else none
  | none => none

/-- What the message is whose end the head reports. -/
def headKind (p : Port) : Option OutKind :=
  p.headEnd.bind fun x => (p.role.outs.find? (·.seq = x.1)).map (·.kind)

/-- The head reports that a message of one of these kinds had its GoodCRC. -/
def headOk (ks : List OutKind) (p : Port) : Bool :=
  p.headIs .pdTxOk && (match p.headKind with | some k => ks.contains k | none => false)

/-- The head reports that a message of one of these kinds was not sent: refused, discarded or without GoodCRC. -/
def headLost (ks : List OutKind) (p : Port) : Bool :=
  !p.headIs .pdTxOk && (match p.headKind with | some k => ks.contains k | none => false)

/-- The head reports that a request of the core on a SOP type got no answer: it was not sent, its response timer expired, or,
on SOP′, a Soft_Reset of the core has ended (R79, R90, R106). -/
def headNoAnswer (sop1 : Bool) (p : Port) : Bool :=
  match p.headEvent with
  | some (t, pl) =>
    (p.headLost [if sop1 then .cable else .ask]) ||
      (t = PEvent.pdTxFail.typ && !bit pl 9 && bit pl 8 = sop1 && p.headKind = none) ||
      (t = PEvent.pdTimer.typ && fld pl 0 4 = 0#4 && bit pl 12 = sop1) ||
      (sop1 && t = PEvent.pdSoftResetDone.typ && bit pl 0)
  | none => false

/-- What the core keeps of its messages follows the report at the head: an outcome settles its message, and the set that it
carried is the last set sent, or a set is due again (R79, R107); the end of a chunked message, PD_GIVEUP and QUEUE_LOSS settle
what they end. -/
def settle (p : Port) : Port :=
  let due (q : Port) : Port :=
    { q with role := { q.role with pendSet := none, setDue := q.role.setDue || (q.role.pendSet.isSome && q.contract.explicit) } }
  match p.headEnd with
  | some (s, ok) =>
    let q := { p with role := { p.role with outs := p.role.outs.filter (·.seq ≠ s) } }
    match p.role.pendSet with
    | some x =>
      if x.seq ≠ s then q
      else if ok then
        { q with role := { q.role with lastSet := x.set, avsPdp := x.avs, reqDue := p.isSource, pendSet := none } }
      else due q
    | none => q
  | none =>
    match p.headEvent with
    | some (t, pl) =>
      if t = PEvent.pdGiveup.typ ∨ t = PEvent.queueLoss.typ then
        due { p with role := { p.role with outs := [] } }
      else if t = PEvent.pdChunkAbort.typ ∧ bit pl 0 then
        let q := { p with role := { p.role with outs := p.role.outs.drop 1 } }
        if p.role.pendSet.map (·.seq) = p.role.outs.head?.map (·.seq) then due q else q
      else p
    | none => p

/-- The core keeps the chunks of a message whose rest is to come, until the last one or the end of the exchange (Table 3.1,
R86). -/
def keepParts (p : Port) : Port :=
  let set (x : Option RxParts) : Port := { p with role := { p.role with parts := x } }
  match rxOfGroup p.q.head with
  | some m =>
    if !hExt m.header ∨ m.shape then p
    else if m.last then (if p.role.parts.map (·.sop1) = some m.sop1 then set none else p)
    else set (some { header := m.header, sop1 := m.sop1, bytes := p.partsOf m ++ m.chunk })
  | none =>
    match p.headEvent with
    | some (t, pl) => if t = PEvent.pdChunkAbort.typ ∧ !bit pl 0 then set none else p
    | none => p

/-- The head group is committed, with what the core keeps of it (R22). -/
def commit (p : Port) : Port :=
  let q := p.settle.keepParts
  { q with q := q.q.commitHead }

/-- TX_SEQ of a command: from the read count of the group that caused it, or from the role's running count (R76). -/
def nextSeq (caused : Bool) (p : Port) : BitVec 8 × Port :=
  if caused then ((fld p.q.rd 0 7).setWidth 8, p)
  else ((p.role.seqCount.setWidth 8) ||| 0x80#8, { p with role := { p.role with seqCount := p.role.seqCount + 1#7 } })

/-- The core sends a message through the staging area (R23), and keeps its TX_SEQ until the outcome is served. -/
def send (e : Env) (caused : Bool) (o : Out) (p : Port) : Port :=
  let (s, p) := p.nextSeq caused
  let rest := p.role.outs.filter fun x => x.seq ≠ s
  let p := { p with role := { p.role with outs := rest ++ [({ seq := s, kind := o.kind } : OutMsg)] } }
  p.txGo e ((0, o.word) :: (1, pay 0 s ||| pay 8 o.ext) :: o.objs.mapIdx fun i w => (2 + i, w.setWidth 36)) 0

/-- The core hands a command with its parameter to the region (Tables 3.3 and 4.1). -/
def cmdGo (e : Env) (caused : Bool) (cmd : BitVec 4) (w2 : W36) (p : Port) : Port :=
  let (s, p) := p.nextSeq caused
  p.txGo e [(0, pay 28 cmd), (1, pay 0 s), (2, w2)] 0

/-- Header of a control or data message of the core (R70). -/
def hdr (t : BitVec 5) (n : Nat) (p : Port) : BitVec 16 := p.ownHeader t ||| ((BitVec.ofNat 16 n) <<< 12)

/-- Header of an extended message of the core. -/
def hdrExt (t : BitVec 5) (p : Port) : BitVec 16 := p.ownHeader t ||| 0x8000#16

/-- Extended header: chunked, with a Data Size (R85). -/
def extSize (n : Nat) : BitVec 16 := 0x8000#16 ||| BitVec.ofNat 16 n

/-- A control message as a reply, at the "other replies" row of Table 3.11. -/
def reply (e : Env) (t : BitVec 5) (p : Port) : Port := p.send e true { header := p.hdr t 0 }

/-- An AMS start that awaits its answer, at the "other AMS starts" row of Table 3.11. -/
def ask (e : Env) (caused : Bool) (h : BitVec 16) (ext : BitVec 16) (resp : BitVec 3) (objs : List Word) (p : Port) : Port :=
  p.send e caused { header := h, ext := ext, amsStart := true, amsEnd := true, onFail := 1#2, onTimeout := 1#2,
                    resp := resp, objs := objs }

/-- A timer of Table 3.8 with an Id is started, or stopped (CMD 0x7). -/
def idTimer (e : Env) (caused : Bool) (id : BitVec 4) (on : Bool) (p : Port) : Port :=
  p.cmdGo e caused 7#4 (pay 0 id ||| payB 4 on)

/-- The head is a message on SOP. -/
def headSop (p : Port) : Bool := match p.headMsg with | some m => !m.sop1 | none => false

/-- A power transition or swap is in progress: from the GoodCRC of the Accept that starts it to that of the PS_RDY that ends
it, a VCONN_Swap included; so is a Hard Reset (R98, R107). -/
def midChange (p : Port) : Bool :=
  p.rg.inTrans || p.contract.swap || p.pdstat.hrActive ||
    (p.role.swapGo && (p.role.swap = .vconnTake || p.role.swap = .vconnGive))

/-- The core starts nothing new: a transition or swap is in progress, or a swap of its own is asked for or accepted, a
DR_Swap included (R98, R107, Table 4.7). -/
def busyCore (p : Port) : Bool := p.midChange || p.role.swap ≠ .none

/-- The Soft_Reset that lost role state leaves due, once no transition or swap is in progress (Table 9.7). -/
def softAfterLoss (p : Port) : Port :=
  if p.role.softDue ∧ !p.busyCore then { p with role := { p.role with softDue := false } }.ladderSoft false else p

/-- The head is a message on SOP, or reports one that the region served itself: Soft_Reset, the Accept to its own, BIST. -/
def headHeard (p : Port) : Bool :=
  p.headSop ||
    match p.headEvent with
    | some (t, pl) => t = PEvent.pdSoftResetRx.typ || t = PEvent.pdBist.typ ||
        (t = PEvent.pdSoftResetDone.typ && !bit pl 0 && !bit pl 1)
    | none => false

/-- The turn on the head group is done: in EPR mode a message on SOP restarts SourceEPRKeepAliveTimer (R115), and the group
is committed. -/
def done (e : Env) (p : Port) : Port :=
  (if p.role.eprMode ∧ p.headHeard then p.idTimer e true 5#4 true else p).commit.softAfterLoss

/-- What the core awaits on SOP or SOP′. -/
def expect (a : Await) (p : Port) : Port := { p with role := { p.role with await := a } }

/-- The swap in hand. -/
def swapTo (k : SwapKind) (p : Port) : Port := { p with role := { p.role with swap := k, swapGo := false } }

/-! ### Capability sets -/

/-- p_avail in mW: the least of the share, the port cap and the stage cap (R104). -/
def pAvail (e : Env) (p : Port) : Nat :=
  let cap := min 240 p.srccap.pCap.toNat * 1000
  let stg := if (e.cls = .c ∧ 1 ≤ e.stage) ∨ (e.cls = .b ∧ 3 ≤ e.stage) then 15000 else 240000
  min (min (p.role.share.toNat * 500) cap) stg

/-- I_cable in mA (R106). -/
def iCable (p : Port) : Nat := if p.partner.cable5a then 5000 else 3000

/-- A fixed supply PDO, with voltage in mV and current in mA. -/
def fixedPdo (mv ma : Nat) : Word := putF 0 (BitVec.ofNat 10 (ma / 10)) ||| putF 10 (BitVec.ofNat 10 (mv / 50))

/-- The 5 V PDO with its flag bits: Dual-Role Power, Dual-Role Data, EPR Mode Capable (R105). -/
def pdo5 (e : Env) (p : Port) : Word :=
  fixedPdo 5000 (max 500 (min 3000 (p.pAvail e / 5))) ||| putB 29 (p.srccap.drpPwr && p.isDrp) |||
    putB 25 p.srccap.drd ||| putB 23 p.srccap.eprEn

/-- A fixed PDO above 5 V, when its current comes to 0.5 A at least (R105, Table 4.4). -/
def fixedAbove (e : Env) (v : Nat) (p : Port) : Option Word :=
  let ma := p.pAvail e / v
  if 500 ≤ ma then some (fixedPdo (v * 1000) (min p.iCable ma)) else none

/-- The highest SPR fixed voltage in V included in the set (Table 4.3). -/
def topFixed (e : Env) (p : Port) : Nat :=
  (([20, 15, 9].filter fun v => (v = 9 && 1 ≤ p.srccap.set.toNat || v = 15 && 2 ≤ p.srccap.set.toNat ||
    v = 20 && 3 ≤ p.srccap.set.toNat) && (p.fixedAbove e v).isSome).headD 5)

/-- The PPS APDO (Tables 4.3 and 4.4). -/
def ppsPdo (e : Env) (p : Port) : Option Word :=
  let vmax := min 21000 (p.topFixed e * 1000 + 1000)
  let ma := min p.iCable (p.pAvail e * 1000 / vmax) / 50 * 50
  if p.kgSoc.endSt ≠ 1#2 ∧ p.srccap.ppsEn ∧ 1000 ≤ ma then
    some (putF 30 3#2 ||| putF 17 (BitVec.ofNat 8 (vmax / 100)) ||| putF 8 33#8 ||| putF 0 (BitVec.ofNat 7 (ma / 50)))
  else none

/-- The SPR AVS APDO (Tables 4.3 and 4.4). -/
def sprAvsPdo (e : Env) (p : Port) : Option Word :=
  let pdp := min 100 (p.pAvail e / 1000)
  if p.kgSoc.endSt ≠ 1#2 ∧ p.srccap.sprAvsEn ∧ 3 ≤ p.srccap.set.toNat ∧ 15 ≤ pdp then
    some (putF 30 3#2 ||| putF 28 2#2 ||| putF 10 (BitVec.ofNat 10 (min p.iCable (pdp * 1000 / 15) / 10)) |||
      putF 0 (BitVec.ofNat 10 (min p.iCable (pdp * 1000 / 20) / 10)))
  else none

/-- The EPR AVS APDO (Tables 4.3 and 4.4). -/
def eprAvsPdo (e : Env) (p : Port) : Word :=
  let pdp := min 240 (p.pAvail e / 1000)
  if p.kgSoc.endSt ≠ 1#2 ∧ p.srccap.eprAvsEn ∧ p.srccap.set = 4#3 ∧ 15 ≤ pdp then
    putF 30 3#2 ||| putF 28 1#2 ||| putF 17 480#9 ||| putF 8 150#8 ||| putF 0 (BitVec.ofNat 8 pdp)
  else 0#32

/-- The SPR part of the set, in the order of Table 4.3. -/
def sprSet (e : Env) (p : Port) : List Word :=
  let s := p.srccap.set.toNat
  [p.pdo5 e] ++ (if 1 ≤ s then (p.fixedAbove e 9).toList else []) ++ (if 2 ≤ s then (p.fixedAbove e 15).toList else []) ++
    (if 3 ≤ s then (p.fixedAbove e 20).toList else []) ++ (p.ppsPdo e).toList ++ (p.sprAvsPdo e).toList

/-- The EPR part, positions 8 to 11; zero objects where nothing is offered, and all zero on the way out of EPR
(R105, R116). -/
def eprPart (e : Env) (p : Port) : List Word :=
  if p.role.eprExit ∨ p.srccap.set ≠ 4#3 then [0#32, 0#32, 0#32, 0#32]
  else [(p.fixedAbove e 28).getD 0#32, (p.fixedAbove e 36).getD 0#32, (p.fixedAbove e 48).getD 0#32, p.eprAvsPdo e]

/-- The capability set of the port in its present mode (R105). -/
def capSet (e : Env) (p : Port) : List Word :=
  let spr := p.sprSet e
  if p.role.eprMode then spr ++ List.replicate (7 - spr.length) 0#32 ++ p.eprPart e else spr

/-- A capability set is sent: EPR_Source_Capabilities in EPR mode, else Source_Capabilities, with the ladder choices of Table
3.11; it is the set last sent once it has its GoodCRC (R79, R98, R107, Table 4.17). `avs` is the PDP of its SPR AVS
object. -/
def sendThis (e : Env) (caused : Bool) (ams : Bool) (set : List Word) (avs : Nat) (p : Port) : Port :=
  let src := p.isSource
  let onFail : BitVec 2 := if src && !p.contract.explicit then 0#2 else 1#2
  let onTo : BitVec 2 := if src then 2#2 else 0#2
  let resp : BitVec 3 := if src then 1#3 else 0#3
  let p := { p with role := { p.role with
    pendSet := some { seq := (p.nextSeq caused).1, set := set, avs := avs }, setDue := false, offered := true } }
  if p.role.eprMode then
    p.send e caused { header := p.hdrExt 0x11#5, ext := extSize (4 * set.length), amsStart := ams, onFail := onFail,
                      onTimeout := onTo, resp := resp, objs := set }
  else
    p.send e caused { header := p.hdr 1#5 set.length, amsStart := ams, onFail := onFail, onTimeout := onTo, resp := resp,
                      objs := set }

/-- A set built now is sent (R104 to R107). -/
def sendSet (e : Env) (caused : Bool) (ams : Bool) (p : Port) : Port :=
  p.sendThis e caused ams (p.capSet e) (min 100 (p.pAvail e / 1000))

/-- R113 holds. -/
def eprOk (e : Env) (p : Port) : Bool :=
  p.srccap.eprEn && p.srccap.set = 4#3 && p.partner.cableEpr && p.cc.vconnOn && 100000 ≤ p.pAvail e &&
    p.contract.explicit && p.role.eprAsk

/-- EPR mode is to be left: the next set carries no EPR objects (R116). -/
def leaveEpr (e : Env) (p : Port) : Port :=
  if p.role.eprMode ∧ !p.role.eprExit ∧ !p.eprOk e then { p with role := { p.role with eprExit := true } } else p

/-- The set last sent, or the one that is handed over and has no outcome yet (R107). -/
def setOnWay (p : Port) : List Word := match p.role.pendSet with | some x => x.set | none => p.role.lastSet

/-- A new set is sent when the set built now differs from the set last sent, and when EPR mode is to be left; during a
transition or swap, or while a request of the staging area is pending, it is due after it (R107, R116). Before the first
contract a set that was not sent follows on SourceCapabilityTimer (R98). -/
def setIfChanged (e : Env) (caused : Bool) (p : Port) : Port :=
  let out := p.role.eprMode && !p.role.eprExit && !p.eprOk e
  let q := p.leaveEpr e
  if q.isSource ∧ q.role.offered ∧ (q.setOnWay ≠ [] ∨ q.contract.explicit) ∧ (out ∨ q.capSet e ≠ q.setOnWay) then
    if p.busyCore ∨ p.stg.pending then { p with role := { p.role with setDue := true } } else q.sendSet e caused true
  else p

/-- A set that waited for the end of a transition or swap follows it, when it differs; so does one that was not sent
(R79, R107). -/
def sendDue (e : Env) (caused : Bool) (p : Port) : Port :=
  let p := p.settle
  if p.role.setDue ∧ !p.busyCore ∧ !p.stg.pending then { p with role := { p.role with setDue := false } }.setIfChanged e caused else p

/-- FRS may be armed (R124): FRS_EN, a DRP in Attached.SNK with an explicit contract, and a partner whose required current
the port can source at 5 V. -/
def frsOk (e : Env) (p : Port) : Bool :=
  p.srccap.frsEn && p.isDrp && p.tc.state = .attachedSnk && p.contract.explicit && 0 < p.role.frsCurrent &&
    decide (p.role.frsCurrent * 50 ≤ p.pAvail e)

/-- FRS is armed when its conditions hold, and disarmed when they no longer do (R124). -/
def frsCheck (e : Env) (caused : Bool) (p : Port) : Port :=
  if p.frsOk e = p.partner.frsArmed ∨ p.tc.state ≠ .attachedSnk ∨ p.stg.pending then p else p.cmdGo e caused 14#4 (payB 0 (p.frsOk e))

/-- What the core does when the power it may offer, or P_SRCCAP_SEL, has changed (R107, R124). -/
def offerChanged (e : Env) (p : Port) : Port := (p.setIfChanged e false).frsCheck e false

/-- A new p_share for the port (R189). -/
def share (e : Env) (v : BitVec 16) (p : Port) : Port := { p with role := { p.role with share := v } }.offerChanged e

/-! ### Requests and contracts -/

/-- The judgement of Table 4.5: the contract word that a request yields, or Reject, by its last row (`budget`) or another. -/
inductive Verdict where
  | take (w : BitVec 29)
  | reject
  | budget
deriving DecidableEq, Repr

/-- A request for an object of the last set, by the rows of Table 4.5 in order (R108). `epr` says that it is an EPR_Request,
`copy` is its PDO copy. An AVS current above 5 A, which no contract word carries, is rejected with the AVS row (log entry
174). -/
def evalRequest (e : Env) (epr : Bool) (rdo copy : Word) (p : Port) : Verdict :=
  let pos := (fld rdo 28 4).toNat
  let pdo := (p.role.lastSet.drop (pos - 1)).headD 0#32
  let word (mv ma : Nat) (kind : BitVec 2) : BitVec 29 :=
    BitVec.ofNat 29 (mv / 20) ||| (BitVec.ofNat 29 (ma / 10) <<< 12) ||| (BitVec.ofNat 29 pos <<< 21) |||
      (kind.setWidth 29 <<< 25) ||| ((BitVec.ofBool p.role.eprMode).setWidth 29 <<< 27) |||
      ((BitVec.ofBool (bit rdo 26)).setWidth 29 <<< 28)
  let afford (mv ma : Nat) (kind : BitVec 2) : Verdict :=
    if p.pAvail e * 1000 < mv * ma then .budget else .take (word mv ma kind)
  if pos = 0 ∨ pdo = 0#32 then .reject
  else if (!epr ∧ 8 ≤ pos) ∨ epr ≠ p.role.eprMode then .reject
  else if epr ∧ copy ≠ pdo then .reject
  else if fld pdo 30 2 = 0#2 then
    let ma := (fld rdo 10 10).toNat * 10
    let mv := (fld pdo 10 10).toNat * 50
    if (fld pdo 0 10).toNat * 10 < ma then .reject
    else if pos = 1 then .take (word mv ma 0#2)
    else afford mv ma 0#2
  else
    let ma := (fld rdo 0 7).toNat * 50
    if fld pdo 28 2 = 0#2 then
      let mv := (fld rdo 9 12).toNat * 20
      if mv < (fld pdo 8 8).toNat * 100 ∨ (fld pdo 17 8).toNat * 100 < mv then .reject
      else if (fld pdo 0 7).toNat * 50 < ma ∨ ma < 50 then .reject
      else afford mv ma 1#2
    else
      let eprAvs := fld pdo 28 2 = 1#2
      let mv := (fld rdo 9 12).toNat * 25
      let lo := if eprAvs then (fld pdo 8 8).toNat * 100 else 9000
      let hi := if eprAvs then (fld pdo 17 9).toNat * 100 else 20000
      let pdp := if eprAvs then (fld pdo 0 8).toNat else p.role.avsPdp
      if mv < lo ∨ hi < mv ∨ mv % 100 ≠ 0 then .reject
      else if pdp * 1000000 < mv * ma ∨ 5000 < ma then .reject
      else afford mv ma 2#2

/-- Accept that starts a power transition or swap: ON_FAIL Hard Reset (Table 3.11). -/
def acceptStart (e : Env) (p : Port) : Port := p.send e true { header := p.hdr tAccept 0, onFail := 2#2 }

/-- PS_RDY inside a power transition or swap (Table 3.11). -/
def sendPsRdy (e : Env) (p : Port) : Port := p.send e true { header := p.hdr tPsRdy 0, amsEnd := true, onFail := 2#2 }

/-- SourcePPSCommTimer restarts at a Request in PPS, and runs only there (R111, log entry 175). -/
def ppsTimer (e : Env) (kind : BitVec 2) (p : Port) : Port :=
  if kind = 1#2 then p.idTimer e true 7#4 true
  else if p.timerOn (.pd 7#4) then p.idTimer e true 7#4 false
  else p

/-- A Request or EPR_Request is answered (R108, R109, R111): TRANSITION is armed and Accept sent, or Reject; a Reject by the
last row of Table 4.5 makes a new set due. -/
def answerRequest (e : Env) (epr : Bool) (rdo copy : Word) (p : Port) : Port :=
  let p := { p with partner := { p.partner with partnerEpr := bit rdo 22 }, role := { p.role with reqDue := false } }
  match p.evalRequest e epr rdo copy with
  | .take w =>
    let p := { p with role := { p.role with eprAsk := bit rdo 22, capsCount := 0, exitDue := p.role.eprExit } }
    ((p.cmdGo e true 8#4 (w.setWidth 36)).acceptStart e).ppsTimer e (fld w 25 2)
  | .reject => (p.reply e tReject).ppsTimer e (if p.contract.explicit then fld p.contract.contract 25 2 else 0#2)
  | .budget =>
    { (p.reply e tReject).ppsTimer e (if p.contract.explicit then fld p.contract.contract 25 2 else 0#2) with
      role := { p.role with setDue := true } }

/-- The point of the VSET map that a fixed contract at 5 V, 20 V or 48 V settles on, from the duty it settled at: the map
with that point replaced, where it differs by more than 8 counts (R158). -/
def learnedMap (p : Port) : Option W36 :=
  let c := p.contract.contract
  let d := p.vset.duty
  let far (x : BitVec 12) : Bool := x.toNat + 8 < d.toNat || d.toNat + 8 < x.toNat
  let f := p.fe
  if fld c 25 2 ≠ 0#2 then none
  else if fld c 0 12 = 250#12 ∧ far f.d5 then some (pay 0 d ||| pay 12 f.d20 ||| pay 24 f.d48)
  else if fld c 0 12 = 1000#12 ∧ far f.d20 then some (pay 0 f.d5 ||| pay 12 d ||| pay 24 f.d48)
  else if fld c 0 12 = 2400#12 ∧ far f.d48 then some (pay 0 f.d5 ||| pay 12 f.d20 ||| pay 24 d)
  else none

/-- The core loads a learned point with VCAL (R158); the settings record follows by SETTINGS_RECORD_WRITE. -/
def learnVcal (e : Env) (p : Port) : Port :=
  match p.learnedMap with
  | some m =>
    let (s, p) := p.nextSeq true
    p.txGo e [(0, pay 28 15#4), (1, pay 0 s), (2, pay 0 1#4), (3, m)] 0
  | none => p

/-- The cable may be asked: VCONN source, no answer yet, tries left (R83, R106). -/
def cableOpen (p : Port) : Bool :=
  p.cc.vconnOn && p.pdcfg.sop1En && !p.partner.cableKnown && !p.role.cableEnded && p.role.cableTries < 20

/-- A contract of the device as source has been reached: PS_RDY, the VSET map, and the cable attempts that go on during the
explicit contract (R106, R110, R158). -/
def contractReached (e : Env) (p : Port) : Port :=
  let p := (p.sendPsRdy e).learnVcal e
  if p.cableOpen ∧ p.role.await ≠ .cableId then p.idTimer e true 3#4 true else p

/-- The sink's Request: TRANSITION is armed, then the 5 V object is requested at min(offered current, 3 A) (R112). -/
def sinkRequest (e : Env) (p : Port) : Port :=
  let ma := BitVec.ofNat 10 (p.role.sinkMa / 10)
  let p := p.cmdGo e true 8#4 (pay 0 250#12 ||| pay 12 (ma.setWidth 9) ||| pay 21 1#4)
  (p.expect .request).send e true { header := p.hdr 2#5 1, onFail := 1#2, onTimeout := 2#2, resp := 1#3,
                                    objs := [putF 28 1#4 ||| putF 10 ma ||| putF 0 ma] }

/-- FRS required current of a 5 V sink object in 10 mA; the codes are those of USB PD Revision 3.2 (log entry 11), default
USB power counted as 0.5 A (log entry 176). -/
def frsOf (pdo : Word) : Nat :=
  let c := fld pdo 23 2
  if c = 1#2 then 50 else if c = 2#2 then 150 else if c = 3#2 then 300 else 0

/-- The head reports the GoodCRC of a message that another row of the firmware goes on from: of a swap, of EPR entry or of
the way out of EPR. -/
def okElsewhere (p : Port) : Bool :=
  p.role.exitDue || ((p.role.eprStep = 1 || p.role.eprStep = 3) && p.headOk [.epr]) ||
    match p.role.swap with
    | .none => false
    | .prSrc | .prSnk | .frs | .vconnTake => p.headOk [.accept, .psRdy]
    | .dr | .vconnGive => p.headOk [.accept]

/-- The sink's side of REQUEST_EVALUATION: Source_Capabilities are answered with Request, Accept is followed by PS_RDY,
PP_DONE by SNK_ON and by Get_Sink_Cap, whose answer decides on FRS; after Wait the Request is sent
again on SinkRequestTimer (R112, R124, Table 3.8, log entry 177). -/
def sinkTurn (e : Env) (p : Port) : Port :=
  match p.headMsg with
  | some m =>
    let pdo := m.objs.headD 0#32
    if m.sop1 ∨ m.shape then p
    else if isData m.header 1#5 ∧ p.role.swap = .none ∧ p.role.await ≠ .psRdy then
      (({ p with partner := { p.partner with partnerDrp := bit pdo 29 },
                 role := { p.role with sinkMa := min 3000 ((fld pdo 0 10).toNat * 10) } }).sinkRequest e).done e
    else if p.role.await = .request ∧ isCtrl m.header tAccept then (p.expect .psRdy).done e
    else if p.role.await = .request ∧ isCtrl m.header 12#5 then ((p.expect .nothing).idTimer e true 2#4 true).done e
    else if p.role.await = .request ∧ (isCtrl m.header tReject ∨ isCtrl m.header 16#5) then (p.expect .nothing).done e
    else if p.role.await = .psRdy ∧ isCtrl m.header tPsRdy then (p.expect .nothing).done e
    else if p.role.await = .sinkCap ∧ isData m.header 4#5 then
      (({ p with partner := { p.partner with partnerDrp := bit pdo 29 },
                 role := { p.role with frsCurrent := frsOf pdo } }.expect .nothing).frsCheck e true).done e
    else if p.role.await = .sinkCap ∧ isCtrl m.header 16#5 then (p.expect .nothing).done e
    else p
  | none =>
    if p.headPpDone 8#4 then
      let p := (p.cmdGo e true 12#4 0#36).frsCheck e true
      ((p.expect .sinkCap).ask e true (p.hdr 8#5 0) 0#16 1#3 []).done e
    else if p.headIs .pdTxOk ∧ !p.okElsewhere then p.done e
    else if p.headTimer 2#4 ∧ p.role.await = .nothing ∧ p.role.swap = .none then (p.sinkRequest e).done e
    else if p.headNoAnswer false ∧ (p.role.await = .request ∨ p.role.await = .sinkCap) then (p.expect .nothing).done e
    else if p.q.entries.isEmpty then p.frsCheck e false
    else p

/-- REQUEST_EVALUATION: a Request or EPR_Request at the head is evaluated by Table 4.5 (R108, R109); PP_DONE of the
transition is followed by PS_RDY, PP_TIMEOUT by Hard Reset (R110), and a set that waited for the end of a transition
follows the GoodCRC of its PS_RDY, or goes with an empty queue (R107). A sink takes its own side of a contract here. -/
def requestTurn (e : Env) (p : Port) : Port :=
  if p.tc.state = .attachedSnk then p.sinkTurn e
  else
    match p.headMsg with
    | some m =>
      let epr := isData m.header 9#5
      if !m.sop1 ∧ !m.shape ∧ (isData m.header 2#5 ∨ epr) ∧ p.isSource ∧ !p.busyCore then
        (p.answerRequest e epr (m.objs.headD 0#32) ((m.objs.drop 1).headD 0#32)).done e
      else p
    | none =>
      if p.headPpDone 8#4 ∧ p.isSource then (p.contractReached e).done e
      else if p.headIs .ppTimeout ∨ p.headIs .ppClFloor ∨ p.headIs .slUv ∨ p.headTimer 7#4 then
        (p.cmdGo e true 2#4 0#36).done e
      else if p.headIs .pdTxOk ∧ !p.okElsewhere then (p.sendDue e true).done e
      else if p.q.entries.isEmpty then (p.sendDue e false).frsCheck e false
      else p

/-! ### Cable discovery and the first set -/

/-- A Structured VDM header: SVID, version 1, command type and command. -/
def vdmHeader (svid : BitVec 16) (pos : BitVec 3) (ctype : BitVec 2) (cmd : BitVec 5) : Word :=
  putF 16 svid ||| putB 15 true ||| putF 13 1#2 ||| putF 8 pos ||| putF 6 ctype ||| putF 0 cmd

/-- SOP′ Discover Identity (R106): ON_FAIL and ON_TIMEOUT 0b00. -/
def discoverCable (e : Env) (caused : Bool) (p : Port) : Port :=
  let p := { p with role := { p.role with await := .cableId, cableTries := p.role.cableTries + 1 } }
  p.send e caused { header := p.hdr 15#5 1, sop1 := true, amsStart := true, amsEnd := true, onFail := 0#2, onTimeout := 0#2,
                    resp := 2#3, objs := [vdmHeader 0xFF00#16 0#3 0#2 1#5] }

/-- The first capabilities of a session, or one more try of them, up to nCapsCount (R94, R98, R106). -/
def offer (e : Env) (p : Port) : Port :=
  if p.role.capsCount < 50 then
    let p := { p with role := { p.role with capsCount := p.role.capsCount + 1 } }
    (p.sendSet e true true)
  else p

/-- The session is open for offers: source, PD served, not given up. -/
def mayOffer (p : Port) : Bool := p.isSource && p.rg.latchedPdEn && !p.pdstat.giveup

/-- The cable's answer to Discover Identity: ACK gives the rating of a passive or active cable, NAK ends the attempts, anything
else is no answer (R106). The ID header is the second object, product type in [29:27]; the cable VDO is the fifth: [6:5]
current, [10:9] maximum VBUS, [17] EPR capable. -/
def cableAnswer (m : Rx) (p : Port) : Port :=
  let vh := m.objs.headD 0#32
  let kind := fld ((m.objs.drop 1).headD 0#32) 27 3
  let vdo := (m.objs.drop 4).headD 0#32
  let cable : Bool := kind = 3#3 || kind = 4#3
  let p := p.expect .nothing
  if fld vh 6 2 = 1#2 then
    { p with
      partner := { p.partner with cableKnown := true, cable5a := cable && fld vdo 5 2 = 2#2,
                                  cableEpr := cable && bit vdo 17 && fld vdo 9 2 = 3#2 },
      role := { p.role with cableEnded := true } }
  else if fld vh 6 2 = 2#2 then
    { p with partner := { p.partner with cableKnown := true }, role := { p.role with cableEnded := true } }
  else p

/-- An attempt on the cable has ended. Answered, a first offer follows, or a new set where the answer changes it; else the
next attempt follows DiscoverIdentityTimer: one more before the first offer, and from then on during the explicit
contract (R106). -/
def cableNext (e : Env) (p : Port) : Port :=
  if !p.role.offered then
    if p.cableOpen ∧ p.role.cableTries < 2 then p.idTimer e true 3#4 true
    else if p.mayOffer then p.offer e
    else p
  else if p.role.cableEnded then p.setIfChanged e true
  else if p.cableOpen ∧ p.contract.explicit then p.idTimer e true 3#4 true
  else p

/-- A set before the first contract was not sent, and is tried again on SourceCapabilityTimer (R98). -/
def offerLost (p : Port) : Bool :=
  (p.headLost [.set] || (p.headIs .pdTxFail && p.headKind = none && p.role.await ≠ .cableId)) && p.mayOffer &&
    !p.contract.explicit && p.role.offered && decide (p.role.capsCount < 50)

/-- CABLE_DISCOVERY: at TC_ATTACH or after a Hard Reset the core asks the cable, at most twice before the first offer,
then offers; the answer, or its absence, is taken here, and later tries follow DiscoverIdentityTimer during the explicit
contract (R106). The offer itself is repeated on SourceCapabilityTimer (R98). -/
def cableTurn (e : Env) (p : Port) : Port :=
  match p.headMsg with
  | some m =>
    if m.sop1 ∧ isData m.header 15#5 ∧ p.role.await = .cableId ∧ p.role.eprStep ≠ 2 then
      ((p.cableAnswer m).cableNext e).done e
    else p
  | none =>
    if p.headIs .tcAttach ∨ p.headIs .pdHardResetDone then
      let p := if p.mayOffer then (if p.cableOpen ∧ p.role.cableTries < 2 then p.discoverCable e true else p.offer e) else p
      p.done e
    else if p.headNoAnswer true ∧ p.role.await = .cableId ∧ p.role.eprStep ≠ 2 then
      ((p.expect .nothing).cableNext e).done e
    else if p.headTimer 3#4 then
      (if p.cableOpen ∧ p.isSource ∧ (!p.role.offered ∨ p.contract.explicit) then
         (if p.busyCore then p.idTimer e true 3#4 true else p.discoverCable e true)
       else if !p.role.offered ∧ p.mayOffer then p.offer e else p).done e
    else if p.headTimer 1#4 ∨ p.headTimer 8#4 then (if p.mayOffer then p.offer e else p).done e
    else if p.offerLost then (p.idTimer e true 1#4 true).done e
    else p

/-! ### Swaps -/

/-- PR_Swap is accepted under Table 4.7. -/
def prSwapOk (e : Env) (p : Port) : Bool :=
  p.isDrp && !p.onRes && p.srccap.drpPwr && p.contract.explicit && !p.contract.transPend &&
    (p.isSource || 2500 ≤ p.pAvail e)

/-- DR_Swap is accepted under Table 4.7. -/
def drSwapOk (p : Port) : Bool := p.srccap.drd && p.role.dpState = 0#2 && !p.partner.dockMode

/-- VCONN_Swap is accepted under Table 4.7. -/
def vconnSwapOk (p : Port) : Bool := p.srccap.vconnSwapAcc && (p.cc.vconnOn || p.cc.vconnEn)

/-- The device's own PR_Swap, for the lifeline role (R117, R394): a deferred SRC_OFF or SNK_OFF is armed first (R118,
R119). -/
def askPrSwap (e : Env) (caused : Bool) (p : Port) : Port :=
  let src := p.isSource
  let p := p.cmdGo e caused (if src then 9#4 else 11#4) (payB 0 true)
  let p := { p with role := { p.role with swap := if src then .prSrc else .prSnk, await := .swap,
                                          feed := if src then 2 else 0 } }
  p.send e caused { header := p.hdr 10#5 0, amsStart := true, onFail := 1#2, onTimeout := 1#2, resp := 1#3 }

/-- The answer to the device's own swap: Accept goes on with the swap, anything else ends it (R117, R125, R394). -/
def swapRefused (p : Port) : Port :=
  let p := (p.expect .nothing).swapTo .none
  { p with role := { p.role with feed := if p.role.feed = 2 then 3 else p.role.feed } }

/-- A message that the device does not serve: Not_Supported at Revision 3.x, Reject at Revision 2.0 (Table 3.7). -/
def notSupported (e : Env) (p : Port) : Port := (if p.rev3 then p.reply e 16#5 else p.reply e tReject).done e

/-- The Accept of the swap in hand was not sent, and the swap has not begun (R79, R117). -/
def acceptLost (p : Port) : Bool :=
  p.headLost [.accept] && p.role.swap ≠ .none && !p.contract.swap && !p.role.swapGo

/-- PR_SWAP_ANSWER: a swap request at the head is answered by Table 4.7, a deferred SRC_OFF or SNK_OFF being armed before
the Accept; the steps of Tables 4.8, 4.9 and 4.12 that the core takes follow the region's reports (R117 to R119,
R125). A swap whose Accept was not sent ends (R79). The answer to a SOURCE_PERMIT of a pack feed is followed by the device's own PR_Swap (R394). -/
def swapTurn (e : Env) (p : Port) : Port :=
  let src := p.isSource
  match p.headMsg with
  | some m =>
    if m.sop1 ∨ m.shape then p
    else if !p.busyCore ∧ isCtrl m.header 10#5 then
      (if p.prSwapOk e then
        ((p.cmdGo e true (if src then 9#4 else 11#4) (payB 0 true)).swapTo (if src then .prSrc else .prSnk)).acceptStart e
       else p.reply e tReject).done e
    else if !p.busyCore ∧ isCtrl m.header 9#5 then
      (if p.drSwapOk then
        { p with role := { p.role with swap := .dr, newDfp := !p.pdstat.drole } }.acceptStart e
       else p.reply e tReject).done e
    else if !p.busyCore ∧ isCtrl m.header 11#5 then
      (if p.vconnSwapOk then (p.swapTo (if p.cc.vconnOn then .vconnGive else .vconnTake)).acceptStart e
       else p.reply e tReject).done e
    else if !p.busyCore ∧ isCtrl m.header 19#5 then p.notSupported e
    else if p.role.await = .swap ∧ isCtrl m.header tAccept then (p.expect .nothing).done e
    else if p.role.await = .swap ∧ (isCtrl m.header tReject ∨ isCtrl m.header 12#5 ∨ isCtrl m.header 16#5) then
      (p.swapRefused.sendDue e true).done e
    else if isCtrl m.header tPsRdy ∧ p.contract.swap ∧ (p.role.swap = .prSnk ∨ p.role.swap = .frs) then
      (p.cmdGo e true 13#4 0#36).done e
    else if isCtrl m.header tPsRdy ∧ p.role.swap = .prSrc ∧ !src then (p.swapTo .none).done e
    else if p.role.feed = 1 ∧ isData m.header 15#5 ∧ !bit (m.objs.headD 0#32) 15 ∧ fld (m.objs.headD 0#32) 0 8 = 0x83#8 then
      (p.askPrSwap e true).done e
    else p
  | none =>
    if p.role.feed = 1 ∧ p.headNoAnswer false then (p.askPrSwap e true).done e
    else if p.role.await = .swap ∧ p.headNoAnswer false then (p.swapRefused.sendDue e true).done e
    else if p.acceptLost then ((p.swapTo .none).sendDue e true).done e
    else if p.headIs .pdFrsDetect then
      let p := (p.swapTo .frs).expect .swap
      let p := { p with role := { p.role with outs := [], pendSet := none } }
      (p.send e true { header := p.hdr 19#5 0, onFail := 1#2, onTimeout := 1#2, resp := 1#3 }).done e
    else if p.headPpDone 9#4 ∧ p.role.swap = .prSrc then (p.cmdGo e true 13#4 0#36).done e
    else if p.headPpDone 11#4 ∧ p.role.swap = .prSnk then p.done e
    else if p.headPpDone 13#4 ∧ p.role.swap = .prSrc then ((p.cmdGo e true 12#4 0#36).sendPsRdy e).done e
    else if p.headPpDone 13#4 ∧ p.role.swap = .prSnk then (p.cmdGo e true 10#4 0#36).done e
    else if p.headPpDone 13#4 ∧ p.role.swap = .frs then (p.sendPsRdy e).done e
    else if p.headPpDone 10#4 ∧ p.role.swap = .prSnk then (p.sendPsRdy e).done e
    else if p.headOk [.accept, .psRdy] ∧ (p.role.swap = .prSrc ∨ p.role.swap = .prSnk ∨ p.role.swap = .frs) then
      (if p.contract.swap ∨ !src ∨ p.role.await = .swap ∨ p.role.swap = .prSrc then p
       else if p.role.swap = .frs then (p.swapTo .none).offer e
       else (p.swapTo .none).idTimer e true 8#4 true).done e
    else p

/-- DR_SWAP: after the GoodCRC of the Accept the core writes the new data role, and a set that waited follows (R107,
R122). -/
def drTurn (e : Env) (p : Port) : Port :=
  if p.headOk [.accept] ∧ p.role.swap = .dr then
    (((p.swapTo .none).gaugeMark.cmdGo e true 6#4 (payB 0 p.role.newDfp)).sendDue e true).done e
  else p

/-- VCONN_SWAP: after the Accept the core takes VCONN, and sends PS_RDY at TC_VCONN_READY, or gives VCONN up at the
partner's PS_RDY; a fault, a refusal or tVCONNSourceTimeout (`late`) ends in Hard Reset (R123). With the GoodCRC of the
PS_RDY the swap is over, and a set that waited follows (R107). -/
def vconnTurn (e : Env) (late : Bool) (p : Port) : Port :=
  let idle := (p.swapTo .none).gaugeMark
  let go := { p with role := { p.role with swapGo := true } }
  match p.headMsg with
  | some m =>
    if !m.sop1 ∧ isCtrl m.header tPsRdy ∧ p.role.swap = .vconnGive then
      ((idle.cmdGo e true 5#4 0#36).sendDue e true).done e
    else p
  | none =>
    if p.role.swap = .vconnTake then
      if p.headOk [.accept] then (go.cmdGo e true 4#4 0#36).done e
      else if p.headOk [.psRdy] then (idle.sendDue e true).done e
      else if p.headIs .tcVconnReady then (p.sendPsRdy e).done e
      else if p.headIs .tcVconnFault ∨ p.headIs .tcVconnRefused then (idle.cmdGo e true 2#4 0#36).done e
      else p
    else if p.role.swap = .vconnGive then
      if late then idle.cmdGo e false 2#4 0#36
      else if p.headOk [.accept] then go.done e
      else p
    else p

/-! ### EPR -/

/-- The reason of Enter Failed for the first failing condition: cable, VCONN source, EPR capable bit, source unable
(R114). -/
def eprReason (p : Port) : BitVec 8 :=
  if !p.partner.cableEpr then 1#8 else if !p.cc.vconnOn then 2#8 else if !p.role.eprAsk then 3#8 else 4#8

/-- An EPR_Mode message: action and data, at its row of Table 3.11; `ams` starts an AMS with it. -/
def eprMode (e : Env) (ams : Bool) (action data : BitVec 8) (p : Port) : Port :=
  p.send e true { header := p.hdr 10#5 1, amsStart := ams, amsEnd := ams, onFail := 1#2, onTimeout := 1#2,
                  objs := [putF 24 action ||| putF 16 data] }

/-- Enter Succeeded or Enter Failed; in EPR mode SourceEPRKeepAliveTimer runs; a set that the cable's answer has changed is due
after Enter Failed (R106, R107, R114 step 4, R115). -/
def eprDecide (e : Env) (p : Port) : Port :=
  if p.eprOk e then
    ({ p with role := { p.role with eprMode := true, eprExit := false, exitDue := false, eprStep := 3 } }.eprMode e false 3#8
      0#8).idTimer e true 5#4 true
  else
    let p := { p with role := { p.role with eprStep := 0 } }.eprMode e false 4#8 p.eprReason
    { p with role := { p.role with setDue := p.role.setDue || p.capSet e ≠ p.setOnWay } }

/-- EPR mode is over (R115, R116). -/
def eprEnd (e : Env) (p : Port) : Port :=
  { p with role := { p.role with eprMode := false, eprExit := false, exitDue := false } }.idTimer e true 5#4 false

/-- A message of EPR entry was not sent: the entry ends (R79, R114). -/
def eprLost (p : Port) : Bool := p.headLost [.epr] && (p.role.eprStep = 1 || p.role.eprStep = 3)

/-- EPR_ENTRY: Enter is acknowledged, the cable asked once where it is not known, then Enter Succeeded or Failed, then
EPR_Source_Capabilities; when R113 stops holding, a set without EPR objects, and after the transition of the EPR_Request
that answers it Exit, then Source_Capabilities; an Exit of the sink ends EPR mode (R114 to R116). -/
def eprTurn (e : Env) (p : Port) : Port :=
  match p.headMsg with
  | some m =>
    let act := fld (m.objs.headD 0#32) 24 8
    if !m.sop1 ∧ !m.shape ∧ isData m.header 10#5 ∧ p.rev3 ∧ p.isSource ∧ !p.busyCore then
      if act = 1#8 ∧ !p.role.eprMode then ({ p with role := { p.role with eprStep := 1 } }.eprMode e false 2#8 0#8).done e
      else if act = 5#8 ∧ p.role.eprMode then
        ((p.eprEnd e).sendSet e true true).done e
      else p
    else if m.sop1 ∧ isData m.header 15#5 ∧ p.role.eprStep = 2 then ((p.cableAnswer m).eprDecide e).done e
    else p
  | none =>
    if p.role.eprStep = 1 ∧ p.headOk [.epr] then
      (if p.partner.cableKnown ∨ !p.cc.vconnOn then p.eprDecide e
       else { p with role := { p.role with eprStep := 2 } }.discoverCable e true).done e
    else if p.role.eprStep = 2 ∧ p.headNoAnswer true then ((p.expect .nothing).eprDecide e).done e
    else if p.eprLost then
      (if p.role.eprStep = 3 then { p.eprEnd e with role := { (p.eprEnd e).role with eprStep := 0 } }
       else { p with role := { p.role with eprStep := 0 } }).done e
    else if p.role.eprStep = 3 ∧ p.headOk [.epr] then
      ({ p with role := { p.role with eprStep := 0 } }.sendSet e true true).done e
    else if p.role.exitDue ∧ p.headIs .pdTxOk then
      (if p.busyCore then p
       else
         let p := (p.eprEnd e).eprMode e true 5#8 0#8
         { p with role := { p.role with setDue := true } }).done e
    else if p.role.eprStep = 0 ∧ p.role.eprMode ∧ !p.role.eprExit ∧ !p.busyCore then p.setIfChanged e false
    else p

/-- EPR_KEEPALIVE: EPR_KeepAlive is answered with EPR_KeepAlive_Ack, and its message restarts SourceEPRKeepAliveTimer as any
does; the expiry in EPR mode is answered with Hard Reset (R115). -/
def keepAliveTurn (e : Env) (p : Port) : Port :=
  match p.headMsg with
  | some m =>
    if p.role.eprMode ∧ !m.sop1 ∧ hExt m.header ∧ hType m.header = 16#5 ∧ fld (m.objs.headD 0#32) 0 8 = 3#8 then
      (p.send e true { header := p.hdrExt 16#5, ext := extSize 2, onFail := 1#2, objs := [4#32] }).done e
    else p
  | none => if p.role.eprMode ∧ p.headTimer 5#4 then (p.cmdGo e true 2#4 0#36).done e else p

/-! ### Status messages, breaches and errors -/

/-- The Status data block: internal temperature, external DC, the OCP, OTP and OVP event flags (Table 4.17). `t` is a
temperature in 0.1 °C from −40.0 °C, rounded up to whole °C; 1 stands for a value below 2 °C. -/
def statusWords (t : Nat) (flags : BitVec 3) : List Word :=
  let c := (t + 9) / 10
  let b0 : Nat := max 1 (c - 40)
  let ev : BitVec 8 := ((BitVec.ofBool (bit flags 0)).setWidth 8 <<< 1) ||| ((BitVec.ofBool (bit flags 2)).setWidth 8 <<< 2) |||
    ((BitVec.ofBool (bit flags 1)).setWidth 8 <<< 3)
  [putF 0 (BitVec.ofNat 8 b0) ||| putF 8 2#8 ||| putF 24 ev, 0#32]

/-- Sink_Capabilities of a DRP or Sink port: 5 V at 3 A, no Dual-Role bit on a Sink port (Table 4.17). -/
def sinkCaps (p : Port) : Word :=
  fixedPdo 5000 3000 ||| putB 29 p.isDrp ||| putB 25 (p.isDrp && p.srccap.drd)

/-- The Manufacturer_Info that the device answers with: VID, then PID and manufacturer string, which the spec does not give
(log entry 178). -/
def mfgInfo (vid : BitVec 16) : List Byte := [fld vid 0 8, fld vid 8 8] ++ Config.mfgInfo.take 24

/-- A message that Revision 3.x alone defines, of those the device serves: extended messages, Get_Status, FR_Swap,
Get_Source_Info and EPR_Mode; types under log entry 11. -/
def revThree (m : Rx) (_ : Port) : Bool :=
  hExt m.header || isCtrl m.header 18#5 || isCtrl m.header 19#5 || isCtrl m.header 23#5 || isData m.header 10#5

/-- STATUS_MESSAGE_ANSWER: the Get_ messages that Table 4.17 answers, and Get_Manufacturer_Info (Table 0.2). `t` is the
higher of the two die temperatures. What Revision 2.0 does not define is not served there (R74, R91). -/
def statusTurn (e : Env) (t : Nat) (vid : BitVec 16) (p : Port) : Port :=
  match p.headMsg with
  | some m =>
    if m.sop1 ∨ m.shape ∨ !m.last then p
    else if !p.rev3 ∧ p.revThree m then p
    else if hExt m.header ∧ hType m.header = 3#5 then
      (p.send e true { header := p.hdrExt 5#5, ext := extSize 9, objs := [putF 0 vid, 0#32, 1#32] }).done e
    else if hExt m.header ∧ hType m.header = 4#5 then
      (p.send e true { header := p.hdr 5#5 1, objs := [putF 16 0xFFFF#16 ||| putB 8 true] }).done e
    else if hExt m.header ∧ hType m.header = 6#5 then
      (p.send e true { header := p.hdrExt 7#5, ext := extSize (mfgInfo vid).length, objs := extWords (mfgInfo vid) }).done e
    else if isCtrl m.header 18#5 then
      let p := (p.send e true { header := p.hdrExt 2#5, ext := extSize 7, objs := statusWords t p.role.flags }).done e
      { p with role := { p.role with flags := 0#3 } }
    else if isCtrl m.header 23#5 then
      let avail := BitVec.ofNat 8 (min 255 (p.pAvail e / 1000))
      (p.send e true { header := p.hdr 11#5 1,
                       objs := [putF 16 (BitVec.ofNat 8 (min 240 p.srccap.pCap.toNat)) ||| putF 8 avail ||| putF 0 avail] }).done e
    else if isCtrl m.header 8#5 then
      (if p.typeOf = 0#2 then p.reply e 16#5 else p.send e true { header := p.hdr 4#5 1, objs := [p.sinkCaps] }).done e
    else if isCtrl m.header 7#5 then
      (if p.typeOf = 1#2 then p.reply e 16#5
       else if p.role.lastSet = [] then p.sendSet e true false
       else p.sendThis e true false p.role.lastSet p.role.avsPdp).done e
    else p
  | none => p

/-- BATTERY_STATUS_POLL: Get_Battery_Status for battery 0 to a gauged pack that is identified (Table 4.17). -/
def battPoll (e : Env) (gauged : Bool) (p : Port) : Port :=
  if gauged ∧ p.partner.ident ≠ 0#2 ∧ p.contract.explicit ∧ !p.busyCore then
    (p.expect .battStatus).ask e false (p.hdrExt 4#5) (extSize 1) 1#3 [0#32]
  else p

/-- Alert type of a breach: OCP, OTP or OVP; none for the others (Table 5.3). -/
def alertOf (code : BitVec 4) : Option (BitVec 8) :=
  if code = 3#4 ∨ code = 5#4 then some 4#8
  else if code = 6#4 ∨ code = 7#4 then some 8#8
  else if code = 2#4 then some 0x40#8
  else none

/-- t_breach_cool in ms: 1 s, and 10 s for a class-A port whose WIN_CNT has reached 3 (R152). -/
def breachCool (e : Env) (p : Port) : Nat := if e.cls = .a ∧ 3#4 ≤ p.trip.winCnt then 10000 else 1000

/-- BREACH_SERVICE: SL_BREACH at the head is served with Alert; `elapsed` ms after that service, with COND = 0, CLEAR is
written and, except for CC_SHORT, Hard Reset is sent (R152). While LOCKOUT is set CLEAR is not written. -/
def breachTurn (e : Env) (elapsed : Nat) (p : Port) : Port :=
  if p.headIs .slBreach then
    let code := match p.headEvent with | some (_, pl) => fld pl 0 4 | none => 0#4
    let fl : BitVec 3 := (if code = 3#4 ∨ code = 5#4 then 1#3 else 0#3) ||| (if code = 2#4 then 2#3 else 0#3) |||
      (if code = 6#4 ∨ code = 7#4 then 4#3 else 0#3)
    let p := { p with role := { p.role with breach := some code, flags := p.role.flags ||| fl } }
    let p := match alertOf code with
      | some a => if p.isSource ∧ p.rev3 then p.ask e true (p.hdr 6#5 1) 0#16 0#3 [putF 24 a] else p
      | none => p
    p.done e
  else
    match p.role.breach with
    | some code =>
      if p.fe.cond.isEmpty ∧ p.breachCool e ≤ elapsed ∧ !p.sluice.lockout then
        let p := { p with role := { p.role with breach := none } }.clearBreach
        if code = 1#4 then p else p.cmdGo e false 2#4 0#36
      else p
    | none => p

/-- The types of the data messages that the core awaits on SOP (R88): the Request to its set, and the answers to what it has
asked. -/
def awaitedData (p : Port) : List (BitVec 5) :=
  (if p.role.reqDue ∧ p.isSource then [if p.role.eprMode then 9#5 else 2#5] else []) ++
    (if p.role.await = .battStatus then [5#5] else []) ++ (if p.role.await = .sinkCap then [4#5] else []) ++
    (if p.role.dpStep ≠ 0 ∨ p.role.dockStep ≠ 0 ∨ p.role.identStep = 1 ∨ p.role.feed = 1 ∨ p.role.await = .limits ∨
        p.role.await = .temp then [15#5] else [])

/-- The core waits for the answer to a request of its own that may be turned down. -/
def asking (p : Port) : Bool :=
  p.role.await = .request || p.role.await = .swap || p.role.await = .sinkCap || p.role.await = .battStatus ||
    p.role.identStep ≠ 0 || p.role.dpStep ≠ 0 || p.role.dockStep ≠ 0

/-- PS_RDY is the next step of what is under way (Tables 4.8, 4.9, 4.12, R112, R123). -/
def psRdyNext (p : Port) : Bool :=
  p.role.await = .psRdy || p.role.swap = .vconnGive ||
    (p.tc.state = .attachedSnk && (p.role.swap = .prSrc || p.role.swap = .prSnk || p.role.swap = .frs))

/-- A message on SOP that is unexpected where it stands (R88, R90, R117): a control message with the type of an awaited data
message, a request while a transition or swap is in progress or that does not fit the role, and an answer to nothing
asked. -/
def unexpected (m : Rx) (p : Port) : Bool :=
  let t := (hType m.header).toNat
  if hExt m.header then (t = 5 && p.role.identStep ≠ 3) || (t = 7 && p.role.identStep ≠ 2)
  else if hNdo m.header = 0 then
    p.awaitedData.contains (hType m.header) ||
      ((t = 9 || t = 10 || t = 11 || (t = 19 && p.rev3)) && p.busyCore) ||
      (t = 3 && p.role.await ≠ .request && p.role.await ≠ .swap) ||
      ((t = 4 || t = 12) && !p.asking) ||
      (t = 6 && !p.psRdyNext)
  else
    let act := fld (m.objs.headD 0#32) 24 8
    (t = 1 && (p.isSource || p.role.swap ≠ .none || p.role.await = .psRdy)) ||
      ((t = 2 || t = 9) && (!p.isSource || p.busyCore)) ||
      (t = 4 && p.role.await ≠ .sinkCap) || (t = 5 && p.role.await ≠ .battStatus) ||
      (t = 10 && p.rev3 && p.isSource &&
        (p.busyCore || !(act = 1#8 && !p.role.eprMode || act = 5#8 && p.role.eprMode)))

/-- A message on SOP′ that is unexpected where it stands: a control message with the type of the awaited answer to Discover
Identity (R88). -/
def unexpected1 (m : Rx) (p : Port) : Bool := (p.role.await = .cableId || p.role.eprStep = 2) && isCtrl m.header 15#5

/-- PROTOCOL_ERROR_ANSWER: a SHAPE_ERR group other than that of R87, or a message that is unexpected where it stands, is
answered with Soft_Reset inside an explicit contract and outside a transition or swap, else with Hard Reset (R90, R98). The
Soft_Reset goes out on the SOP type of the message (log entry 201), and its ON_FAIL is Hard Reset (log entry 199). -/
def protocolError (e : Env) (p : Port) : Port :=
  match p.headMsg with
  | some m =>
    if !m.unchunked ∧ (m.shape ∨ (if m.sop1 then p.unexpected1 m else p.unexpected m)) then
      (if p.contract.explicit ∧ !p.midChange then
         p.send e true { header := p.hdr tSoftReset 0, sop1 := m.sop1, onFail := if m.sop1 then 0#2 else 2#2 }
       else p.cmdGo e true 2#4 0#36).done e
    else p
  | none => p

/-- A VDM the device serves as responder on SOP: Discover Identity and Discover SVIDs for the SVID 0xFF00, and Discover
Modes for the Helaento SVID (R130). -/
def vdmAnswer (vid : BitVec 16) (vh : Word) : Option (List Word) :=
  let cmd := fld vh 0 5
  if fld vh 6 2 ≠ 0#2 then none
  else if cmd = 1#5 ∧ fld vh 16 16 = 0xFF00#16 then
    some [vdmHeader 0xFF00#16 0#3 1#2 1#5, putF 0 vid ||| putF 23 3#3, 0#32, 0#32]
  else if cmd = 2#5 ∧ fld vh 16 16 = 0xFF00#16 then some [vdmHeader 0xFF00#16 0#3 1#2 2#5, putF 16 vid]
  else if cmd = 3#5 ∧ fld vh 16 16 = vid then some [vdmHeader vid 0#3 1#2 3#5, 1#32]
  else none

/-- A message on SOP that another row of the firmware acts on (Table 0.2): what the device serves, and the answers it awaits.
GotoMin and Ping are not listed there, and are not served. -/
def servedType (m : Rx) (p : Port) : Bool :=
  let t := (hType m.header).toNat
  if !p.rev3 && p.revThree m then false
  else if hExt m.header then
    (3 ≤ t && t ≤ 7) || (t = 16 && p.role.eprMode && fld (m.objs.headD 0#32) 0 8 = 3#8)
  else if hNdo m.header = 0 then
    t = 3 || t = 4 || (6 ≤ t && t ≤ 12) || t = 18 || t = 19 || t = 23 || (t = 16 && p.asking)
  else t = 1 || t = 2 || t = 4 || t = 5 || t = 9 || (t = 10 && p.isSource)

/-- The head reports that what the core awaits got no answer, and a row of the firmware goes on from there. -/
def noAnswerTaken (p : Port) : Bool :=
  (p.headNoAnswer false && (p.asking || p.role.await = .limits || p.role.await = .temp || p.role.feed = 1)) ||
    (p.headNoAnswer true && (p.role.await = .cableId || p.role.eprStep = 2))

/-- The head reports that a message was not sent, and a row of the firmware goes on from there. -/
def lossTaken (p : Port) : Bool := p.noAnswerTaken || p.offerLost || p.acceptLost || p.eprLost

/-- An event at the head on which no row of the firmware acts. -/
def idleEvent (p : Port) : Bool :=
  match p.headEvent with
  | some (t, pl) =>
    let is (l : List PEvent) : Bool := l.any fun x => t = x.typ
    if is [.tcAttach, .pdHardResetDone, .pdTxOk, .pdFrsDetect, .ppTimeout, .ppClFloor, .slUv, .slBreach] then false
    else if t = PEvent.ppDone.typ then
      (fld pl 0 4 = 12#4 || fld pl 0 4 = 15#4 || (fld pl 0 4 ≠ 8#4 && p.role.swap = .none))
    else if t = PEvent.pdTimer.typ then
      (if fld pl 0 4 = 0#4 then !p.noAnswerTaken else fld pl 0 4 = 4#4 || fld pl 0 4 = 6#4 ||
        (fld pl 0 4 = 7#4 && !p.isSource) || (fld pl 0 4 = 5#4 && !p.role.eprMode) || (fld pl 0 4 = 2#4 && p.isSource))
    else if is [.pdTxFail, .pdTxDiscarded, .pdCmdBad] then !p.lossTaken
    else if is [.tcVconnReady, .tcVconnFault, .tcVconnRefused] then p.role.swap ≠ .vconnTake
    else if is [.pdSoftResetRx, .pdSoftResetDone] then p.role.identStep = 0 && !p.noAnswerTaken
    else true
  | none => false

/-- The header of a dock-mode command or answer of Table 4.16, as an Unstructured VDM (R131). -/
def dockVdm (vh : Word) : Bool :=
  let c := (fld vh 0 7).toNat
  fld vh 12 3 = 1#3 && fld vh 8 4 = 0#4 && decide (1 ≤ c ∧ c ≤ 4)

/-- UNSUPPORTED_MESSAGE_ANSWER: a message the device does not serve is answered by Table 3.7; a Structured VDM request is
answered by R130 or with NAK; an unchunked extended message with Not_Supported (R87, R91, R130). An unfinished message, a
message on SOP′, a VDM answer and a Not_Supported that nothing awaits, and an event on which no row acts are let go (R86,
log entry 179). -/
def unsupported (e : Env) (vid : BitVec 16) (p : Port) : Port :=
  match p.headMsg with
  | some m =>
    let no := p.notSupported e
    let quiet := if p.rev3 then no else p.done e
    let vh := m.objs.headD 0#32
    if m.sop1 then
      (if m.unchunked ∨ !(m.shape ∨ p.unexpected1 m ∨ (p.role.await = .cableId ∧ isData m.header 15#5)) then p.done e else p)
    else if m.unchunked then no
    else if m.shape ∨ p.unexpected m then p
    else if !m.last then p.done e
    else if isData m.header 15#5 then
      if bit vh 15 then
        if fld vh 6 2 ≠ 0#2 then (if p.role.dpStep ≠ 0 ∨ p.role.dockStep ≠ 0 then p else p.done e)
        else if fld vh 0 5 = 6#5 ∧ fld vh 16 16 = 0xFF01#16 ∧ p.role.dpState ≠ 0#2 then p
        else
          match vdmAnswer vid vh with
          | some objs => (p.send e true { header := p.hdr 15#5 objs.length, objs := objs }).done e
          | none =>
            (p.send e true { header := p.hdr 15#5 1,
                             objs := [vdmHeader (fld vh 16 16) (fld vh 8 3) 2#2 (fld vh 0 5)] }).done e
      else if fld vh 16 16 = vid ∧ p.partner.dockMode ∧ dockVdm vh then
        (if p.role.identStep = 1 ∨ p.role.feed = 1 ∨ p.role.await = .limits ∨ p.role.await = .temp then p else p.done e)
      else quiet
    else if isData m.header 3#5 then quiet
    else if isCtrl m.header 16#5 ∧ !p.asking then p.done e
    else if p.servedType m then p
    else no
  | none => if p.idleEvent then p.done e else p

/-! ### Alternate modes and pack identity -/

/-- A DisplayPort or dock-mode VDM request of a step of Table 4.14. -/
def vdmStep (e : Env) (caused : Bool) (svid : BitVec 16) (pos : BitVec 3) (cmd : BitVec 5) (resp : BitVec 3)
    (more : List Word) (p : Port) : Port :=
  p.ask e caused (p.hdr 15#5 (1 + more.length)) 0#16 resp (vdmHeader svid pos 0#2 cmd :: more)

/-- DisplayPort entry is allowed (R127): an entry is made once, until a Hard Reset, a detach or a new write of DP_EN (log entry
180). On a dock port it follows dock-mode discovery, whose steps 1 and 2 must have passed (R131). -/
def dpAllowed (p : Port) : Bool :=
  p.alt.dpEn && p.alt.muxAddr ≠ 0#7 && p.contract.explicit && p.pdstat.drole && !p.alt.muxFail && !p.role.dpDone &&
    p.role.dpState = 0#2 && p.role.dpStep = 0 && p.role.dockStep = 0 && !p.busyCore &&
    (!p.srccap.dockEn || (p.role.dockDone && p.role.dpOk))

/-- The DisplayPort mode as the core knows it, shown in P_ALTMODE (R138). -/
def setDp (state pin : BitVec 2) (hpd : Bool) (p : Port) : Port :=
  { p with alt := { p.alt with dpState := state, pinAssign := pin, hpd := hpd },
           role := { p.role with dpState := state, pin := pin, hpd := hpd } }

/-- The mux value byte (Table 4.15). -/
def muxByte (state : BitVec 2) (hpd irq : Bool) (p : Port) : Byte :=
  ((BitVec.ofBool p.cc.polarity).setWidth 8) ||| (state.setWidth 8 <<< 1) ||| ((BitVec.ofBool hpd).setWidth 8 <<< 3) |||
    ((BitVec.ofBool irq).setWidth 8 <<< 4)

/-- The answer at the head to the VDM command `cmd` of a SVID: ACK with its objects (`some`), or not ACK (`none`). -/
def vdmReply (m : Rx) (cmd : BitVec 5) : Option (List Word) :=
  let vh := m.objs.headD 0#32
  if isData m.header 15#5 ∧ bit vh 15 ∧ fld vh 0 5 = cmd ∧ fld vh 6 2 = 1#2 then some m.objs.tail else none

/-- The DisplayPort sequence ends (R127). -/
def dpEnd (p : Port) : Port := { p with role := { p.role with dpStep := 0, dpDone := true } }

/-- The answer at the head turns a step down: NAK or BUSY, or Not_Supported. -/
def turnedDown (m : Rx) : Bool :=
  isCtrl m.header 16#5 || (isData m.header 15#5 && bit (m.objs.headD 0#32) 15 && fld (m.objs.headD 0#32) 6 2 ≠ 0#2 &&
    fld (m.objs.headD 0#32) 6 2 ≠ 1#2)

/-- The mux state of the mode configured (Table 4.15). -/
def muxState (p : Port) : BitVec 2 :=
  if p.role.dpState = 2#2 then (if p.role.pin = 1#2 then 2#2 else 3#2) else p.role.dpState

/-- A SVID is listed in the objects of a Discover SVIDs answer. -/
def listsSvid (svid : BitVec 16) (objs : List Word) : Bool :=
  objs.any fun w => fld w 0 16 = svid || fld w 16 16 = svid

/-- What allows a DisplayPort entry still holds in the middle of it (R127). -/
def dpStill (p : Port) : Bool :=
  p.alt.dpEn && p.alt.muxAddr ≠ 0#7 && p.contract.explicit && p.pdstat.drole && !p.alt.muxFail

/-- DISPLAYPORT_ENTRY: one step of Table 4.14 on each ACK, and the mux writes it posts; a NAK or timeout ends the sequence;
an Attention with an HPD change posts HPD and IRQ_HPD, one with an IRQ_HPD pulse alone posts nothing (R127, R128, log entry
202). Where what allows the entry has ceased the sequence ends, and a mode just entered is left again. Answers the port and the mux value to post; none while
MUX_FAIL stands (R129). -/
def dpTurn (e : Env) (p : Port) : Port × Option Byte :=
  let step (n : Nat) (q : Port) : Port := { q with role := { q.role with dpStep := n } }
  let post (v : Byte) : Option Byte := if p.alt.muxFail then none else some v
  match p.headMsg with
  | some m =>
    let vh := m.objs.headD 0#32
    let w1 := (m.objs.drop 1).headD 0#32
    if m.sop1 then (p, none)
    else if p.role.dpStep ≠ 0 ∧ turnedDown m then (p.dpEnd.done e, none)
    else if !isData m.header 15#5 ∨ !bit vh 15 then (p, none)
    else if fld vh 16 16 = 0xFF01#16 ∧ fld vh 0 5 = 6#5 ∧ fld vh 6 2 = 0#2 ∧ p.role.dpState ≠ 0#2 then
      if bit w1 7 = p.role.hpd then (p.done e, none)
      else ((p.setDp p.role.dpState p.role.pin (bit w1 7)).done e, post (p.muxByte p.muxState (bit w1 7) (bit w1 8)))
    else if p.role.dpStep = 0 ∨ fld vh 6 2 ≠ 1#2 then (p, none)
    else if p.role.dpStep < 4 ∧ !p.dpStill then (p.dpEnd.done e, none)
    else if p.role.dpStep = 4 ∧ fld vh 0 5 = 4#5 ∧ !p.dpStill then
      ((p.dpEnd.vdmStep e true 0xFF01#16 p.role.dpPos 5#5 4#3 []).done e, none)
    else if p.role.dpStep = 1 ∧ fld vh 0 5 = 1#5 then
      (if bit w1 26 then ((step 2 p).vdmStep e true 0xFF00#16 0#3 2#5 2#3 []).done e else p.dpEnd.done e, none)
    else if p.role.dpStep = 2 ∧ fld vh 0 5 = 2#5 then
      (if listsSvid 0xFF01#16 m.objs.tail then ((step 3 p).vdmStep e true 0xFF01#16 0#3 3#5 2#3 []).done e
       else p.dpEnd.done e, none)
    else if p.role.dpStep = 3 ∧ fld vh 0 5 = 3#5 then
      let ok (w : Word) : Bool := bit w 0 && (bit w 10 || bit w 11 || bit w 18 || bit w 19)
      match m.objs.tail.findIdx? ok with
      | some i =>
        let w := (m.objs.tail.drop i).headD 0#32
        let p := { p with role := { p.role with modesC := bit w 10 || bit w 18, dpPos := BitVec.ofNat 3 (i + 1) } }
        (((step 4 p).vdmStep e true 0xFF01#16 p.role.dpPos 4#5 3#3 []).done e, none)
      | none => (p.dpEnd.done e, none)
    else if p.role.dpStep = 4 ∧ fld vh 0 5 = 4#5 then
      let p := p.setDp 1#2 0#2 false
      (((step 5 p).vdmStep e true 0xFF01#16 p.role.dpPos 16#5 2#3 [1#32]).done e, post (p.muxByte 1#2 false false))
    else if p.role.dpStep = 5 ∧ fld vh 0 5 = 16#5 then
      let c := p.alt.dp4lane && p.role.modesC
      let p := { p with role := { p.role with pin := if c then 1#2 else 2#2 } }
      (((step 6 p).vdmStep e true 0xFF01#16 p.role.dpPos 17#5 2#3
          [putF 8 (if c then 4#8 else 8#8) ||| putF 2 1#4 ||| putF 0 2#2]).done e, none)
    else if p.role.dpStep = 6 ∧ fld vh 0 5 = 17#5 then
      let p := p.dpEnd.setDp 2#2 p.role.pin p.role.hpd
      (p.done e, post (p.muxByte p.muxState p.role.hpd false))
    else (p, none)
  | none =>
    if p.role.dpStep ≠ 0 ∧ p.headNoAnswer false then (p.dpEnd.done e, none)
    else if p.dpAllowed then
      if p.srccap.dockEn then ((step 3 p).vdmStep e false 0xFF01#16 0#3 3#5 2#3 [], none)
      else ((step 1 p).vdmStep e false 0xFF00#16 0#3 1#5 2#3 [], none)
    else (p, none)

/-- A write of P_ALTMODE: DP_EN written anew allows an entry (R127, R138, log entry 180). -/
def writeAlt (w : Word) (p : Port) : Port :=
  { p with alt := p.alt.write w, role := { p.role with dpDone := p.role.dpDone && (p.alt.dpEn || !bit w 0) } }

/-- The set last sent no longer offers what the contract takes at its object: a new set that withdraws the port's budget for
the mode (R129, log entry 181). -/
def withdrawn (p : Port) : Bool :=
  let c := p.contract.contract
  let pdo := (p.role.lastSet.drop ((fld c 21 4).toNat - 1)).headD 0#32
  p.isSource && p.role.lastSet ≠ [] &&
    (pdo = 0#32 || (fld c 25 2 = 0#2 && (fld pdo 30 2 ≠ 0#2 || (fld pdo 10 10).toNat * 5 ≠ (fld c 0 12).toNat * 2 ||
      decide ((fld pdo 0 10).toNat < (fld c 12 9).toNat))))

/-- DISPLAYPORT_EXIT: with a message while a contract stands (DP_EN withdrawn, a set that withdraws the budget, or a mux write
not acknowledged, `failed`), without one after a detach, Hard Reset or ErrorRecovery; USB only is written and DP_STATE
clears. A failed write sets MUX_FAIL and is followed by one USB-only attempt, and nothing is written while MUX_FAIL stands
(R129). -/
def dpExit (e : Env) (failed : Bool) (p : Port) : Port × Option Byte :=
  let usb : Option Byte := if p.alt.muxFail then none else some (p.muxByte 0#2 false false)
  let clear (q : Port) : Port :=
    let q := q.setDp 0#2 0#2 false
    { q with alt := { q.alt with muxFail := q.alt.muxFail || failed }, role := { q.role with dpStep := 0 } }
  if p.role.dpState = 0#2 then (if failed then (clear p, usb) else (p, none))
  else if p.attached ∧ p.contract.explicit ∧ !p.pdstat.hrActive then
    if !p.alt.dpEn ∨ failed ∨ p.withdrawn then ((clear p).vdmStep e false 0xFF01#16 p.role.dpPos 5#5 4#3 [], usb)
    else (p, none)
  else (clear p, usb)

/-- The identification of the pack starts its bound after the first explicit contract on a dock port (R132). -/
def boundIdent (p : Port) : Port := if p.partner.identDone ∨ p.timerOn .identBound then p else p.start .identBound

/-- DOCK_MODE_DISCOVERY: steps 1 to 4 of Table 4.14 with the Helaento SVID after the first explicit contract
(R131); what steps 1 and 2 tell of DisplayPort is kept for its entry. -/
def dockTurn (e : Env) (vid : BitVec 16) (p : Port) : Port :=
  let step (n : Nat) (q : Port) : Port := { q with role := { q.role with dockStep := n } }
  let fin (q : Port) : Port := { q with role := { q.role with dockStep := 0, dockDone := true } }
  match p.headMsg with
  | some m =>
    let vh := m.objs.headD 0#32
    if m.sop1 ∨ p.role.dockStep = 0 then p
    else if turnedDown m then (fin p).done e
    else if !isData m.header 15#5 ∨ !bit vh 15 ∨ fld vh 6 2 ≠ 1#2 then p
    else if p.role.dockStep = 1 ∧ fld vh 0 5 = 1#5 then
      (if bit ((m.objs.drop 1).headD 0#32) 26 then (step 2 p).vdmStep e true 0xFF00#16 0#3 2#5 2#3 [] else fin p).done e
    else if p.role.dockStep = 2 ∧ fld vh 0 5 = 2#5 then
      let p := { p with role := { p.role with dpOk := listsSvid 0xFF01#16 m.objs.tail } }
      (if listsSvid vid m.objs.tail then (step 3 p).vdmStep e true vid 0#3 3#5 2#3 [] else fin p).done e
    else if p.role.dockStep = 3 ∧ fld vh 0 5 = 3#5 then
      (if fld ((m.objs.drop 1).headD 0#32) 0 8 = 1#8 then (step 4 p).vdmStep e true vid 1#3 4#5 3#3 [] else fin p).done e
    else if p.role.dockStep = 4 ∧ fld vh 0 5 = 4#5 then
      { (fin p) with partner := { p.partner with dockMode := true } }.done e
    else p
  | none =>
    if p.role.dockStep ≠ 0 ∧ p.headNoAnswer false then (fin p).done e
    else if p.role.dockStep = 0 ∧ !p.role.dockDone ∧ p.srccap.dockEn ∧ p.pdstat.drole ∧ p.contract.explicit ∧
        !p.busyCore then (step 1 p.boundIdent).vdmStep e false 0xFF00#16 0#3 1#5 2#3 []
    else p

/-- The steps of R132 end: IDENT is set from what was answered, IDENT_DONE, and IDENT_TAG to 0 where nothing was. -/
def identEnd (p : Port) : Port :=
  let id : BitVec 2 := if p.role.idSerial ≠ [] then 2#2 else if p.role.idMfg ≠ [] ∨ p.role.idCap ≠ [] then 1#2 else 0#2
  { p with
    partner := { p.partner with ident := id, identDone := true, identTag := if id = 0#2 then 0#16 else p.partner.identTag },
    role := { p.role with identStep := 0, identSoft := false } }
  |>.stop .identBound

/-- A dock-mode command as an Unstructured VDM (R131, Table 4.16). -/
def dockCmd (e : Env) (caused : Bool) (vid : BitVec 16) (cmd : BitVec 8) (more : List Word) (p : Port) : Port :=
  p.send e caused { header := p.hdr 15#5 (1 + more.length), amsStart := true, amsEnd := true, onFail := 1#2,
                    onTimeout := 0#2, resp := 2#3, objs := (putF 16 vid ||| putF 12 1#3 ||| putF 0 cmd) :: more }

/-- The next request of R132 after a step is answered or counts as not answered. -/
def identNext (e : Env) (caused : Bool) (vid : BitVec 16) (n : Nat) (p : Port) : Port :=
  let p := { p with role := { p.role with identStep := n } }
  if n = 1 then p.dockCmd e caused vid 1#8 []
  else if n = 2 then p.ask e caused (p.hdrExt 6#5) (extSize 2) 1#3 [1#32]
  else if n = 3 then p.ask e caused (p.hdrExt 3#5) (extSize 1) 1#3 [0#32]
  else p.identEnd

/-- PACK_IDENTIFICATION: the bound starts with the first explicit contract; once dock-mode discovery has ended, or at once on
a port that is UFP, GET_SERIAL goes out in dock mode, else Get_Manufacturer_Info and Get_Battery_Cap for battery 0; IDENT
and IDENT_DONE follow the answers. A Soft_Reset counts the request under way as not answered, but not a second time where
the Soft_Reset is that of its own failure (R132). -/
def identTurn (e : Env) (vid : BitVec 16) (p : Port) : Port :=
  let n := p.role.identStep
  let soft (b : Bool) (q : Port) : Port := { q with role := { q.role with identSoft := b } }
  if n = 0 then
    if p.srccap.dockEn ∧ p.contract.explicit ∧ !p.partner.identDone ∧ !p.busyCore then
      if p.role.dockDone ∨ !p.pdstat.drole then p.boundIdent.identNext e false vid (if p.partner.dockMode then 1 else 2)
      else p.boundIdent
    else p
  else
    match p.headMsg with
    | some m =>
      if m.sop1 ∨ !m.last then p
      else if n = 1 ∧ isData m.header 15#5 ∧ !bit (m.objs.headD 0#32) 15 ∧ fld (m.objs.headD 0#32) 0 8 = 0x81#8 then
        ({ p with role := { p.role with idSerial := m.objs.tail } }.identEnd).done e
      else if n = 2 ∧ hExt m.header ∧ hType m.header = 7#5 ∧ !m.shape then
        ({ p with role := { p.role with idMfg := m.bytes } }.identNext e true vid 3).done e
      else if n = 3 ∧ hExt m.header ∧ hType m.header = 5#5 ∧ !m.shape then
        ({ p with role := { p.role with idCap := m.bytes } }.identEnd).done e
      else if isCtrl m.header 16#5 ∨ isCtrl m.header tReject then (p.identNext e true vid (n + 1)).done e
      else p
    | none =>
      if p.headNoAnswer false then
        let ladder := p.headIs .pdTxFail || decide (n ≠ 1)
        ((soft ladder p).identNext e true vid (n + 1)).done e
      else if p.headIs .pdSoftResetDone ∧ p.role.identSoft then (soft false p).done e
      else if p.headIs .pdSoftResetRx ∨ p.headIs .pdSoftResetDone then (p.identNext e true vid (n + 1)).done e
      else p

/-- IDENT_BOUND_EXPIRY: the 2 s bound is reached (R132). -/
def identBound (p : Port) : Port := if p.timerOn .identBound then p.identEnd else p

/-- DIGEST_DONE: IDENT_TAG takes the low 16 bits of the digest; without an identity it holds 0 (R132). -/
def setIdentTag (d : Word) (p : Port) : Port :=
  { p with partner := { p.partner with identTag := if p.partner.ident = 0#2 then 0#16 else fld d 0 16 } }

end Port

end Sys2Proof.Machine
end

