-- ==== Sys2Proof/Machine/Place.lean ====
section
/-! DEFINITION. What a port goes through when its region fails, is replaced or is taken away: parking, checkpoints,
epoch fencing and the cut-over (spec/09_quarry_migration.md R260 to R271). -/

namespace Sys2Proof.Machine

/-- A word of a checkpoint copy as shared SRAM and the restore bank show it (R262 to R264). -/
def Ckpt.word (i : Nat) (c : Ckpt) : W36 := c.words.getD i 0#36

/-- The session of a checkpoint with the change `x` of its word `i`: the fields of Table 9.4 that the word holds. -/
def Region.slip (i : Nat) (x : W36) (r : Region) : Region :=
  let id (v : Option (BitVec 3)) (lo : Nat) : Option (BitVec 3) :=
    if v.isSome = bit x lo then none else some (v.getD 0#3 ^^^ fld x (lo + 1) 3)
  let volt (v : Nat) (lo : Nat) : Nat :=
    if fld x lo 12 = 0#12 then v else 20 * (BitVec.ofNat 12 (v / 20) ^^^ fld x lo 12).toNat
  match i with
  | 3 => { r with
      txId := r.txId ^^^ fld x 0 3, rxId := id r.rxId 3, txId1 := r.txId1 ^^^ fld x 7 3, rxId1 := id r.rxId1 10,
      lastSeq := r.lastSeq.map (· ^^^ fld x 14 8), lastSeq1 := r.lastSeq1.map (· ^^^ fld x 22 8) }
  | 5 => { r with armed := r.armed.map (· ^^^ fld x 0 29), sinkContract := r.sinkContract.map (· ^^^ fld x 0 29) }
  | 6 => { r with moving := volt r.moving 0, target := volt r.target 12,
                  integ := if fld x 24 12 = 0#12 then r.integ else (BitVec.ofInt 12 r.integ ^^^ fld x 24 12).toInt }
  | 7 => { r with snkLevel := if fld x 16 16 = 0#16 then r.snkLevel
                              else 10 * (BitVec.ofNat 16 (r.snkLevel / 10) ^^^ fld x 16 16).toNat }
  | _ => if 17 ≤ i ∧ i < 24 then
      { r with tx := r.tx.map fun m => { m with objs := m.objs.modify (i - 17) (· ^^^ fld x 0 32) } } else r

/-- A checkpoint copy whose word `i` holds an error that the code takes for none or for another (R20). -/
def Ckpt.slip (i : Nat) (x : W36) (c : Ckpt) : Ckpt :=
  if x = 0#36 then c
  else
    let c := { c with words := c.words.modify i (· ^^^ x), rg := c.rg.slip i x }
    match i with
    | 0 => { c with epoch := c.epoch ^^^ fld x 0 6, tid := c.tid ^^^ fld x 12 16, seq := c.seq ^^^ fld x 28 8 }
    | 1 => { c with time := c.time ^^^ fld x 0 24 }
    | _ => c

/-- The session that a template rebuilds from words 0 to 23 alone, of a region state `r`: what those words do not carry is as in
a session at rest (R263, log entry 207). -/
def Region.rebuilt (r : Region) : Region :=
  { Region.init with
    timers := r.timers.take 8, announced := r.announced, fdet := r.fdet, srcOffArmed := r.srcOffArmed,
    snkOffArmed := r.snkOffArmed, armed := r.armed, sinkContract := r.sinkContract, snkLevel := r.snkLevel, target := r.target,
    moving := r.moving, integ := r.integ, ramping := r.armed.isSome && r.moving ≠ r.target, inTrans := r.inTrans,
    latchedPdEn := r.latchedPdEn, latchedMaxRev := r.latchedMaxRev, cfgType := r.cfgType, cfgTry := r.cfgTry,
    cfgAcc := r.cfgAcc, txId := r.txId, txId1 := r.txId1, rxId := r.rxId, rxId1 := r.rxId1, lastSeq := r.lastSeq,
    lastSeq1 := r.lastSeq1, lastOk := if r.last1 then r.lastOk.or (some true) else r.lastOk,
    lastOk1 := if r.last1 then r.lastOk1 else r.lastOk1.or (some true), last1 := r.last1, phase := r.phase, tx := r.tx,
    retries := r.retries, rxFirst := true }

namespace Port

/-- SL_FOREIGN_VB and SL_DIS_TIMEOUT that no region has written yet (R154, R156). -/
def writeOwed (p : Port) : Port :=
  let f := p.fe.foreignOwed
  let d := p.fe.disOwed
  let p := { p with fe := { p.fe with foreignOwed := false, disOwed := false } }
  let p := if f then p.post .slForeignVb 0#36 else p
  if d then p.post .slDisTimeout 0#36 else p

/-- SL_BREACH for each breach that no region has written yet (R151), and what else is owed. -/
def writeReports (p : Port) : Port :=
  let p' := p.fe.reports.foldl (fun q b => q.post .slBreach (pay 0 b.code)) p
  { p' with fe := { p'.fe with reports := [] } }.writeOwed

/-- SL_BREACH at a cut-over, when the latch is set: for the breaches that no region has written, or else for FIRST; without
the latch none (R37, R268). -/
def cutOverReports (p : Port) : Port :=
  if !p.sluice.latched then { p with fe := { p.fe with reports := [] } }.writeOwed
  else if p.fe.reports.isEmpty then (p.post .slBreach (pay 0 p.trip.first)).writeOwed
  else p.writeReports

/-- A CC_SHORT befell the port while no region served it, so that the region that serves now enters ErrorRecovery
(R148). -/
def shortDue (p : Port) : Bool :=
  decide (.ccShort ∈ p.fe.reports) && p.tc.state ≠ .errorRecovery && p.tc.state ≠ .disabled

/-- A region serves on that had stopped serving: it writes what is owed, acts on a fast-detach flag, and enters
ErrorRecovery for a CC_SHORT (R59, R148, R151). -/
def serveOn (p : Port) : Port :=
  let short := p.shortDue
  let p := p.writeReports
  let p := if p.fe.fdetLatch then p.fdetAct else p
  if short then p.toErrorRecovery else p

/-- A region comes into service on a port without a session: it writes the reports that are owed, and the port comes up
(R51, R64, R65, R151). -/
def enter (e : Env) (p : Port) : Port := p.freshRegion.writeReports.comeUp e

/-- A park ends: a region is joined and the port comes up, from Unattached or Disabled (R261, R272, Table 18.11). -/
def unpark (e : Env) (p : Port) : Port :=
  { p with pfault := { p.pfault with oos := false, oosCause := 0#2 } }.enter e

/-- GATE: the breach of R143, and the park of FE_GATE when it follows a GATE breach of the same pair with no FULL_ENH
in between (Table 9.3). -/
def gateCheck (e : Env) (p : Port) : Port :=
  let p' := p.gate e
  match p.fe.path with
  | .none => p
  | .source => if p.fe.gateSrc then p'.checkFail 0 else { p' with fe := { p'.fe with gateSrc := true } }
  | .sink => if p.fe.gateSnk then p'.checkFail 0 else { p' with fe := { p'.fe with gateSnk := true } }

/-- The newer good checkpoint copy (R262). -/
def newerCkpt (p : Port) : Option Ckpt :=
  let (n, o) := if p.ckNewer then (p.ck1, p.ck0) else (p.ck0, p.ck1)
  if n.good then some n else if o.good then some o else none

/-- Words 0 to 23 of the checkpoint that the serving region writes (Table 9.4), for a checkpoint of `nw` words. -/
def ckptWords (tid : BitVec 16) (seq : BitVec 8) (time : BitVec 24) (nw : BitVec 6) (idx : BitVec 16) (p : Port) :
    List W36 :=
  let r := p.rg
  let st (x : TcState) := x.code
  let opt (v : Option (BitVec 3)) (lo : Nat) : W36 := payB lo v.isSome ||| pay (lo + 1) (v.getD 0#3)
  let last : BitVec 2 := if r.tx.isSome then 1#2 else
    match (if r.last1 then r.lastOk1 else r.lastOk) with | some true => 2#2 | some false => 3#2 | none => 0#2
  let (armedW, armedC, armedD) : BitVec 29 × BitVec 4 × Bool := match r.armed with
    | some w => (w, 8#4, false)
    | none => match r.sinkContract with
      | some w => (w, 8#4, false)
      | none => if r.srcOffArmed then (0#29, 9#4, true) else if r.snkOffArmed then (0#29, 0xB#4, true) else (0#29, 0#4, false)
  let cmd (m : TxMsg) : W36 := pay 0 m.header ||| payB 16 m.sop1 ||| payB 18 m.amsStart ||| payB 19 m.amsEnd |||
    pay 20 m.onFail ||| pay 22 m.onTimeout ||| pay 24 m.resp ||| pay 28 1#4
  let frame : List W36 := match r.tx with
    | some m => cmd m :: (List.range 7).map fun i => (m.objs.getD i 0#32).setWidth 36
    | none => List.replicate 8 0#36
  [ pay 0 p.place.epoch ||| pay 6 nw ||| pay 12 tid ||| pay 28 seq,
    pay 0 time,
    pay 0 (st p.tc.state) ||| pay 5 (st p.tc.prevState) ||| payB 10 p.cc.polarity ||| payB 11 p.cc.vconnOn |||
      payB 12 p.tc.dbAttach ||| payB 13 r.fdet ||| pay 14 p.pdstat.rev ||| payB 16 p.pdstat.collAv |||
      payB 17 p.pdstat.amsActive ||| payB 18 p.pdstat.drole ||| payB 19 p.pdstat.giveup ||| payB 20 p.pdstat.vbMask |||
      payB 21 p.pdstat.hrActive ||| pay 22 p.pdstat.hrCount ||| pay 24 p.pdstat.erCount |||
      payB 28 (p.fe.path = .source) ||| payB 29 (p.fe.path = .sink),
    pay 0 r.txId ||| opt r.rxId 3 ||| pay 7 r.txId1 ||| opt r.rxId1 10 ||| pay 14 (r.lastSeq.getD 0#8) |||
      pay 22 (r.lastSeq1.getD 0#8) ||| pay 30 last |||
      pay 32 (BitVec.ofNat 2 (if r.tx.isSome then 3 - r.retries else 0)) |||
      payB 34 (match r.tx with | some m => m.sop1 | none => r.last1),
    (p.contract.read).setWidth 36,
    pay 0 armedW ||| pay 29 armedC ||| payB 33 armedD,
    pay 0 (BitVec.ofNat 12 (r.moving / 20)) ||| pay 12 (BitVec.ofNat 12 (r.target / 20)) ||| pay 24 (BitVec.ofInt 12 r.integ),
    pay 0 idx ||| pay 16 (BitVec.ofNat 16 (r.snkLevel / 10)) ] ++
  ((List.range 8).map fun i =>
    if i < r.timers.length then pay 0 (Config.ckptTimer (8 + i) seq) ||| payB 29 true else 0#36) ++ frame

/-- The serving region writes a checkpoint into the copy that does not hold the newer good one; the queue hardware
records the ring position (R262). -/
def checkpoint (tid : BitVec 16) (time : BitVec 24) (nw : BitVec 6) (idx : BitVec 16) (p : Port) : Port :=
  let seq : BitVec 8 := match p.newerCkpt with | some c => c.seq + 1#8 | none => 0#8
  let c : Ckpt := { good := true, epoch := p.place.epoch, tid := tid, seq := seq, time := time, ringPos := p.q.wr,
                    rg := p.rg,
                    words := p.ckptWords tid seq time nw idx ++ (List.range 40).map fun i => Config.ckptOwn (24 + i) tid seq }
  let newerIs1 : Bool := if p.ckNewer then p.ck1.good else !p.ck0.good && p.ck1.good
  if newerIs1 then { p with ck0 := c, ckNewer := false } else { p with ck1 := c, ckNewer := true }

/-- Whether ring position `a` lies before `b`, as free-running counts of 16 bits. -/
def ringBefore (a b : BitVec 16) : Bool := a ≠ b && !(b - a).msb

/-- FENCES shows the number of live records. -/
def setFences (fs : List Fence) (p : Port) : Port :=
  { p with fences := fs, place := { p.place with fences := BitVec.ofNat 3 fs.length } }

/-- A group is dropped whole and counted (R270). -/
def dropGroup (p : Port) : Port :=
  { p with q := p.q.commitHead, place := { p.place with dropped := satInc p.place.dropped } }

/-- Whether the fence lets the head group through (R270). -/
def headPasses (p : Port) : Bool :=
  match p.q.entries.head? with
  | some e => e.epoch = p.place.epoch || p.fences.any fun f => f.epoch = e.epoch && ringBefore p.q.rd f.pos
  | none => true

/-- Records whose position the read count has reached retire (R270). -/
def retire (p : Port) : Port := p.setFences (p.fences.filter fun f => ringBefore p.q.rd f.pos)

/-- The read side of a port event queue: fenced groups at its head are dropped, and records whose position the read
count has reached retire (R270). At most 64 groups stand in the ring. -/
def trim (p : Port) : Port :=
  let rec go : Nat → Port → Port
    | 0, p => p
    | n + 1, p => if p.q.entries.isEmpty ∨ p.headPasses then p else go n p.dropGroup
  (go 64 p).retire

/-- Drop the groups covered only by the oldest of four records, and retire it (R270). -/
def retireOldest (p : Port) : Port :=
  match p.fences with
  | f :: fs =>
    let covered (e : Entry) : Bool := e.epoch = f.epoch && !(fs.any fun g => g.epoch = e.epoch) && e.epoch ≠ p.place.epoch
    let n := (p.q.entries.filter fun e => covered e && e.last).length
    let keep := p.q.entries.filter fun e => !covered e
    let gone := p.q.entries.length - keep.length
    let d := (List.range n).foldl (fun d _ => satInc d) p.place.dropped
    { p with
      q := { p.q with entries := keep, rd := p.q.rd + BitVec.ofNat 16 gone },
      place := { p.place with dropped := d } }.setFences fs
  | [] => p

/-- The fence record is added and the epoch steps (R270). -/
def fence (pos : BitVec 16) (p : Port) : Port :=
  let p := if 4 ≤ p.fences.length then p.retireOldest else p
  let p := p.setFences (p.fences ++ [{ epoch := p.place.epoch, pos := pos }])
  { p with place := { p.place with epoch := p.place.epoch + 1#6 } }

/-- Isolation of the serving region: its transmission is cut; an entry group it had opened and not closed is discarded
and counted (R264, R270). -/
def isolate (openGroup : Bool) (p : Port) : Port :=
  let p := p.airEnd
  let d := if openGroup then satInc p.place.dropped else p.place.dropped
  { p with place := { p.place with migrating := true, prepared := false, dropped := d } }

/-- A frame in flight: the attempt under way ends and the next is due, under the MessageID and attempt count of the
checkpoint (R75, R266, R268). -/
def resumeTx (p : Port) : Port :=
  match p.rg.tx with
  | some m =>
    if p.rg.phase = .onLine ∨ p.rg.phase = .awaitCrc then
      let p := p.airEnd.stop .crcReceive
      if p.rg.retries = 0 then p.txFail m
      else { p with rg := { p.rg with retries := p.rg.retries - 1, phase := .retryWait } }
    else p
  | none => p

/-- A chunked exchange in progress ends under R86. -/
def endChunks (p : Port) : Port :=
  let p := if p.txExchange false ∨ p.txExchange true then p.chunkAbortTx else p
  let p := if p.rxExchange false then (p.chunkAbortRx false).goOn else p
  if p.rxExchange true then (p.chunkAbortRx true).goOn else p

/-- PLACE_CHANGED with the new epoch, the region and the old epoch (Table 11.4). -/
def placeChanged (old : BitVec 6) (p : Port) : Port :=
  p.post .placeChanged (pay 0 p.place.epoch ||| pay 6 p.place.region ||| pay 12 old)

/-- The Type-C state that a checkpoint was written in (word 2, Table 9.4). -/
def ckptState (c : Ckpt) : BitVec 5 := fld (c.words.getD 2 0#36) 0 5

/-- The new region restores the newer good checkpoint, beside the front end's own timers; a session that has ended since
it was written stays ended. A template, of ID `tid`, whose compatible list lacks the writer rebuilds what the common words do
not hold (R263). With no good checkpoint the region takes its Type-C state from the registers and will carry out a Hard
Reset (R264, R269). -/
def restore (tid : BitVec 16) (p : Port) : Port :=
  match p.newerCkpt with
  | some c =>
    if ckptState c = p.tc.state.code then
      let own : Bool := c.tid = tid || Config.ckptCompat tid c.tid
      let rg := if own then c.rg else c.rg.rebuilt
      let p := { p with
        rg := { rg with timers := rg.timers.filter (· ∉ feTimers) ++ p.rg.timers.filter (· ∈ feTimers) },
        bank := c }
      if p.configNow then p.latchCfg else p
    else { p with bank := c }
  | none =>
    let p := p.freshRegion
    { p with rg := { p.rg with announced := p.attached }, pfault := { p.pfault with ckptBad := true } }

/-- The new region acts on a fast-detach flag that stayed latched: it commands hold, and the detach follows (R59, Table
2.5). -/
def fdetCutOver (p : Port) : Port :=
  if (p.fe.fdetLatch ∨ p.fe.fdetBlank) ∧ p.tc.state = .attachedSrc then
    { p with fe := { p.fe with fdetBlank := false } }.hold.fdetAct
  else p

/-- Cut-over to region `r` (R264, R268, R270): fence and epoch, PLACE_CHANGED, the fast-detach flag, SL_BREACH, a
chunked exchange, a frame in flight, an ErrorRecovery or Disabled whose ground has gone; a ramp goes on from the restored target by
itself. Without a good checkpoint the
region carries out a Hard Reset (R269). -/
def cutOver (e : Env) (r : BitVec 6) (tid : BitVec 16) (fault : Bool) (p : Port) : Port :=
  let short := p.shortDue
  let ck := p.newerCkpt
  let p := p.restore tid
  let old := p.place.epoch
  let p := p.fence (match ck with | some c => c.ringPos | none => p.q.wr)
  let p := { p with
    place := { p.place with region := r, migrating := false, prepared := false },
    pfault := if fault then { p.pfault with migCnt := satInc p.pfault.migCnt } else p.pfault }
  let p := p.placeChanged old
  let p := p.fdetCutOver.cutOverReports
  let p := p.endChunks.resumeTx
  let p := if ck.isNone then p.hardReset else p
  if short ∨ (p.tc.state ≠ .errorRecovery ∧ .ccShort ∈ p.fe.cond ∧ p.fe.ccIsolated ∧ p.tc.state ≠ .disabled ∧ e.run) then
    p.toErrorRecovery
  else p.recoveryOver.leaveDisabled e

/-- PREPARE freezes the serving region, which writes its final checkpoint: a frame being received is dropped, and a
transmission in progress is cut short and counts as one attempt (R266). -/
def freeze (tid : BitVec 16) (time : BitVec 24) (nw : BitVec 6) (idx : BitVec 16) (p : Port) : Port :=
  let p := p.resumeTx.checkpoint tid time nw idx
  { p with bank := (match p.newerCkpt with | some c => c | none => p.bank), place := { p.place with prepared := true } }

/-- The freeze ends with the old region serving on (R266, Table 9.11). -/
def unfreeze (p : Port) : Port := { p with place := { p.place with prepared := false } }.serveOn

end Port

end Sys2Proof.Machine
end

