-- ==== Sys2Proof/Machine/Ops.lean ====
section
/-! DEFINITION. The shared operations on the state: reaching a port, a polder, a core or a queue, what a port sees of
the rest of the device, and the three ways a command acts on a port. -/

namespace Sys2Proof.Machine

/-- SYS_ID.VID, the Helaento USB vendor ID (Table 18.5). -/
def sysVid : BitVec 16 := 0x2E5C#16

/-- The polder of a port (R16). -/
def polderOf (n : PortId) : PolderId := ⟨n.val / 48, by have := n.isLt; omega⟩

/-- The position of a port in its polder. -/
def posOf (n : PortId) : PosId := ⟨n.val % 48, by have := n.isLt; omega⟩

/-- The port at a position of a polder. -/
def portAt (q : PolderId) (p : PosId) : PortId := ⟨q.val * 48 + p.val, by have := q.isLt; have := p.isLt; omega⟩

/-- The bench of a port: 16 ports each (R7). -/
def benchOf (n : PortId) : BitVec 5 := BitVec.ofNat 5 (n.val / 16)

/-- The role that serves a port of a class (R7): the lifeline for class A, else the bench. -/
def roleFor (n : PortId) (cl : SvcClass) : BitVec 5 := if cl = .a then 12#5 else benchOf n

/-- The staging words of a command without a message: the command word, TX_SEQ, and its parameters (Tables 3.2, 3.3). -/
def cmdWords (cmd : BitVec 4) (seq : BitVec 8) (w2 w3 : W36) : List (Nat × W36) :=
  [(0, pay 28 cmd), (1, pay 0 seq), (2, w2), (3, w3)]

/-- The staging words of CMD 0x1: the command word with its fields, TX_SEQ with the extended header, and the data
(Tables 3.2, 3.3). -/
def msgWords (word0 word1 : W36) (objs : List Word) : List (Nat × W36) :=
  (0, (word0 &&& ~~~(pay 28 0xF#4)) ||| pay 28 1#4) :: (1, word1) :: (objs.take 65).mapIdx fun i w => (i + 2, w.setWidth 36)

namespace Polder

/-- A region, by number. -/
def region (r : Nat) (p : Polder) : FabRegion := (p.regions[r]?).getD FabRegion.init

/-- A region changed. -/
def onRegion (r : Nat) (f : FabRegion → FabRegion) (p : Polder) : Polder :=
  if h : r < 56 then { p with regions := p.regions.set r (f p.regions[r]) h } else p

/-- The region that a position's culvert connects. -/
def regionAt (pos : PosId) (p : Polder) : FabRegion := p.region p.culv[pos].region.toNat

/-- Whether a region serves the front end at a position: connected, SERVING, not isolated, no switch and no PLD in
progress. -/
def serves (pos : PosId) (p : Polder) : Bool :=
  let r := p.regionAt pos
  r.st = .serving && !r.isolated && !p.culv[pos].switching && !p.pld && p.die

end Polder

namespace State

/-- A polder changed. -/
def onPolder (q : PolderId) (f : Polder → Polder) (s : State) : State :=
  { s with polders := s.polders.set q (f s.polders[q]) }

/-- A core changed. -/
def onCore (k : CoreId) (f : Core → Core) (s : State) : State := { s with cores := s.cores.set k (f s.cores[k]) }

/-- The class of a port, as latched in the polder die (R32). -/
def cls (s : State) (n : PortId) : SvcClass := s.pcfg[n].cls

/-- Whether the control die runs regions and cores: RUN, provisioning-hold, or the island. -/
def controlUp (s : State) : Bool :=
  s.sys.mode = .run || s.sys.mode = .provHold || s.sys.mode = .island

/-- Whether the hold line of a class is raised (R30, Table 14.4). -/
def holdLine (s : State) (cl : SvcClass) : Bool :=
  match cl with
  | .a => s.sh.holdA
  | .b => s.sh.holdB
  | .c => s.sh.holdC

/-- Whether a class's regions are stopped by the stage: class B and C from S4 (R393). -/
def stopped (s : State) (cl : SvcClass) : Bool := cl ≠ .a && s.sh.holdB

/-- Whether the position lies in the lifeline island and the island runs (Table 16.4). -/
def inIsland (s : State) (n : PortId) : Bool := s.sys.mode = .island && decide ((posOf n).val ≤ 5)

/-- Whether a region in service is joined to the front end of a port and runs. -/
def regionUp (s : State) (n : PortId) : Bool :=
  let p := s.ports[n]
  s.controlUp && (s.sys.mode ≠ .island || s.inIsland n) && s.polders[polderOf n].serves (posOf n) &&
    !p.place.migrating && !p.place.prepared && !p.pfault.oos && !s.stopped (s.cls n)

/-- What a port sees of the rest of the device. -/
def env (s : State) (n : PortId) : Env :=
  let P := s.polders[polderOf n]
  let cl := s.cls n
  { cls := cl,
    shedHold := s.holdLine cl,
    shedOff := s.holdLine cl,
    hbLost := P.stat.hbLost,
    alone := P.stat.hbLost || P.pld || s.sys.mode = .bor,
    oscOk := !P.oscBad || P.fallback,
    vgdPass := P.vgdPass,
    run := s.sys.runSeen || (s.inIsland n && cl = .a),
    regionUp := s.regionUp n,
    ntc := P.temp.ntc.toNat,
    stage := s.sh.stat.stage.toNat }

/-- The template ID of the slot a position's region was loaded from (R231). -/
def tidAt (s : State) (n : PortId) : BitVec 16 :=
  s.store.slots[(s.polders[polderOf n].regionAt (posOf n)).slot.toNat].tid

/-- The checkpoint words that the descriptor of a position's template states (Table 8.7), at least 24. -/
def ckptLen (s : State) (n : PortId) : BitVec 6 :=
  let w := (s.store.slots[(s.polders[polderOf n].regionAt (posOf n)).slot.toNat].words).getD 1 0#32
  if fld w 16 16 < 24#16 then 24#6 else fld w 16 6

/-- The serving region of a port writes a checkpoint (R262). -/
def checkpointed (s : State) (n : PortId) (p : Port) : Port :=
  let P := s.polders[polderOf n]
  p.checkpoint (s.tidAt n) P.timeUs (s.ckptLen n) P.sampleIdx[posOf n]

/-- A port changed. -/
def setPort (n : PortId) (p : Port) (s : State) : State := { s with ports := s.ports.set n p }

/-- A command that acts on a port whether or not a region serves it: the front end and the sluice lie in the polder
die (R31). A region that serves writes a checkpoint after it (R262), and the gauge follows the port (R199). -/
def onPort (n : PortId) (f : Env → Port → Port) (s : State) : State :=
  let e := s.env n
  let p := f e s.ports[n]
  (s.setPort n (if e.regionUp then s.checkpointed n p else p)).gaugeFollow n

/-- A command that the serving region carries out: without one it has no effect (R31, R66). -/
def onRegionOf (n : PortId) (f : Env → Port → Port) (s : State) : State :=
  if s.regionUp n then s.onPort n f else s

/-- A command of the front end and sluice of a powered polder die; in the island positions 0 to 5 alone are powered
(Table 16.4). -/
def onFrontEnd (n : PortId) (f : Env → Port → Port) (s : State) : State :=
  if s.polders[polderOf n].die && (s.sys.mode ≠ .island || s.inIsland n) then s.onPort n f else s

/-- Whether a core holds a role, as its own or as its second (R320). -/
def holds (s : State) (k : CoreId) (role : BitVec 5) : Bool :=
  let r := s.cores[k].role
  r.role.setWidth 5 = role || (r.role2.setWidth 5 = role && r.role2 ≠ 15#4)

/-- Whether a core is in service: running or in WAIT (Table 11.9). -/
def inService (s : State) (k : CoreId) : Bool := s.cores[k].stat.state = 1#3 || s.cores[k].stat.state = 2#3

/-- Whether some core in service holds a role; the bench roles are suspended at S5 (R392). -/
def roleRuns (s : State) (role : BitVec 5) : Bool :=
  !(decide (role ≤ 11#5) && decide (5#3 ≤ s.sh.stat.stage)) &&
    (List.finRange 16).any fun k => s.holds k role && s.inService k

/-- A class write that has taken effect rebinds the port's queue once its group is no longer held (R177). -/
def rebind (n : PortId) (s : State) : State :=
  let p := s.ports[n]
  if p.q.held || !p.rebindDue then s
  else s.setPort n { p with rebindDue := false, q := { p.q with role := roleFor n (s.cls n) } }

/-- A stage that removes Rp from the port's class: Disabled with cause SHED, whatever its state (R65). A parked port stays
parked. -/
def shedPort (n : PortId) (s : State) : State :=
  if s.holdLine (s.cls n) && !s.ports[n].pfault.oos then s.onPort n fun _ p => p.toDisabled 6#3 else s

/-- The stage no longer removes Rp from the port's class: a Disabled port with ENABLE = 1 probes again, and its region, which
runs again, writes the reports that are owed (R65, R151). -/
def unshedPort (n : PortId) (s : State) : State :=
  if s.ports[n].tc.state = .disabled ∨ s.ports[n].fe.reports ≠ [] then
    s.onRegionOf n fun e p => p.writeReports.leaveDisabled e
  else s

/-- A sluice that passes holds for want of heartbeats; its region makes a Hard Reset when they resume (Table 5.6). -/
def holdForHb (n : PortId) (s : State) : State :=
  if s.cls n ≠ .a ∧ s.ports[n].fe.path ≠ .none then
    s.onPort n fun _ p => let p := p.holdBy; { p with fe := { p.fe with held := true } }
  else s

/-- A new class acts at once: the port comes under its hold line, or out of that of the old class, and, without
heartbeats, under the hold of class B and C (R30, R32, R177). -/
def classActs (n : PortId) (s : State) : State :=
  let s := if s.holdLine (s.cls n) then s.shedPort n else s.unshedPort n
  if s.polders[polderOf n].stat.hbLost then s.holdForHb n else s

/-- A held class write takes effect once no migration of the port is in progress (R177). -/
def applyClass (n : PortId) (s : State) : State :=
  let p := s.ports[n]
  match p.heldCls with
  | some cl =>
    if p.place.migrating || p.place.prepared then s
    else
      let s : State := { s with pcfg := s.pcfg.set n { s.pcfg[n] with cls := cl } }
      ((s.setPort n { p with heldCls := none, rebindDue := true }).rebind n).classActs n
  | none => s

/-- Whether the delivered firmware can make a turn on a port: the role that serves the port's queue runs, and no request of
the staging area is pending (R22, R23, R323). -/
def turnUp (s : State) (n : PortId) : Bool :=
  s.controlUp && s.roleRuns s.ports[n].q.role && !s.ports[n].stg.pending

/-- What a turn has done, from `s` to `t`: one that would leave its request pending, since no region serves the port, is made
after the cut-over, with its group uncommitted until then (R22, R264, log entry 208). -/
def turned (n : PortId) (s t : State) : State := if t.ports[n].stg.pending then s else t.rebind n

/-- A turn of the delivered firmware on a port, which sees the queue behind the fence (R22, R270, R329). -/
def onTurn (n : PortId) (f : Env → Port → Port) (s : State) : State :=
  if s.turnUp n then s.turned n (s.onPort n fun e p => f e p.trim) else s

/-- The serving role weighs anew what it offers on a port, as far as a pending request or a transition lets it (R107). -/
def onOffer (n : PortId) (s : State) : State :=
  if s.controlUp && s.roleRuns s.ports[n].q.role then (s.onPort n fun e p => p.trim.offerChanged e).rebind n else s

/-- A TX_GO of core `k` for a port: effective only from the core that holds the port's serving role (R464); during a PLD it
waits (Table 18.11, log entry 190). -/
def onTxGo (k : CoreId) (n : PortId) (f : Env → Port → Port) (s : State) : State :=
  if s.controlUp && !s.polders[polderOf n].pld && s.holds k s.ports[n].q.role && s.inService k then s.onPort n f else s

/-- A TX_GO with the words that core `k` stores into the staging area before it. While a request is pending those stores have no
effect, and set STG_LOST of the core (R323). -/
def onStaged (k : CoreId) (n : PortId) (f : Env → Port → Port) (s : State) : State :=
  if s.ports[n].stg.pending then
    (if s.controlUp && !s.polders[polderOf n].pld && s.holds k s.ports[n].q.role && s.inService k then
      s.onCore k fun c => { c with stat := { c.stat with stgLost := true } } else s)
  else s.onTxGo k n f

/-- Whether the P_ registers of a port are served: not in POR, SHELF or OFF, in the island for positions 0 to 5 alone (R463,
Table 16.4), and not during a PLD of its polder, for whose end an access waits (Table 18.11, log entry 190). -/
def pRegUp (s : State) (n : PortId) : Bool :=
  s.controlUp && (s.sys.mode ≠ .island || s.inIsland n) && !s.polders[polderOf n].pld

/-- Whether the PL_ registers of a polder are served: not in the island, and not during its PLD (R463, Table 18.11). -/
def plRegUp (s : State) (q : PolderId) : Bool := s.controlUp && s.sys.mode ≠ .island && !s.polders[q].pld

/-- A write or command that reaches the P_ registers of a port. -/
def onPReg (n : PortId) (f : Env → Port → Port) (s : State) : State := if s.pRegUp n then s.onPort n f else s

/-- System queue 192 + i changed. -/
def onSysq (i : Fin 64) (f : Queue → Queue) (s : State) : State := { s with sysq := s.sysq.set i (f s.sysq[i]) }

/-- A group written into system queue 192 + i, epoch 0 (R325). -/
def pushSys (i : Fin 64) (g : List (BitVec 6 × W36)) (s : State) : State :=
  let n := g.length
  let es := g.mapIdx fun j x => { payload := x.2, typ := x.1, epoch := 0#6, last := j + 1 = n : Entry }
  s.onSysq i (Queue.push es)

/-- An entry of the quarry events queue 243 (Table 11.5). -/
def fabEvent (typ : BitVec 6) (pl : W36) (s : State) : State := s.pushSys 51 [(typ, pl)]

/-- An entry of supervisor queue 240 + i: shed events, monitor samples, heartbeat returns (Table 1.2). The supervisor role
takes it at once (log entry 85). -/
def supNote (i : Fin 3) (s : State) : State :=
  let x : Fin 64 := ⟨48 + i.val, by omega⟩
  if s.controlUp then
    let s := s.pushSys x [Config.supEntry (240 + i.val) s.sysq[x].wr]
    if s.roleRuns 13#5 then s.onSysq x Queue.commitHead else s
  else s

/-- A core whose instruction acts on it alone; C_ registers and cores exist outside the island for core 12 only
(Table 16.4). -/
def coreUp (s : State) (k : CoreId) : Bool :=
  s.sys.mode = .run ||
    ((s.sys.mode = .provHold || s.sys.mode = .island) && k.val = 12)

/-- A mailbox group: MBX_HDR with the sender's role, the kind and the port or slot, then the data (Table 11.5). -/
def mbxGroup (sender : BitVec 4) (kind port : BitVec 8) (data : List W36) : List (BitVec 6 × W36) :=
  (1#6, pay 0 sender ||| pay 4 kind ||| pay 12 port ||| pay 20 (BitVec.ofNat 3 data.length)) ::
    data.map fun d => (2#6, d)

/-- A group pushed into the mailbox of a role, 0 to 15. -/
def post (s : State) (role : Fin 16) (g : List (BitVec 6 × W36)) : State :=
  s.pushSys ⟨role.val, by have := role.isLt; omega⟩ g

/-- A firmware turn that may post a mux record to the supervisor (R128). -/
def onTurnMux (n : PortId) (f : Env → Port → Port × Option Byte) (s : State) : State :=
  if s.turnUp n then
    let out := (f (s.env n) s.ports[n].trim).2
    let t := s.onPort n fun e p => (f e p.trim).1
    s.turned n (match out with
      | some v => t.post 13 (mbxGroup (s.ports[n].q.role.setWidth 4) 2#8 (BitVec.ofNat 8 n.val) [v.setWidth 36])
      | none => t)
  else s

/-- An alert record of core 13 (R373, Table 13.3). It goes through queue 233 to the interface at once; the seventeenth
that waits puts out the oldest of its code, or else the oldest. -/
def alert (code : BitVec 8) (value : Word) (s : State) : State :=
  let t := s.tw
  if !t.hCfg.alertEn || t.hCfg.alertRetry = 0#4 || s.sys.mode = .island || !s.controlUp || !s.roleRuns 13#5 then s
  else
    let a : Alert := { code := code, value := value, seq := t.alertSeq, tries := 0 }
    let s := (s.pushSys 41 [(0x10#6, pay 0 code ||| pay 8 t.alertSeq), (2#6, value.setWidth 36)]).onSysq 41 Queue.commitHead
    let drop := if t.alerts.length < 16 then none else some ((t.alerts.findIdx? fun x => x.code = code).getD 0)
    { s with tw := { t with
        alerts := (match drop with | none => t.alerts | some i => t.alerts.eraseIdx i) ++ [a],
        alertHeld := t.alertHeld && drop ≠ some 0, alertSeq := t.alertSeq + 1#8 } }

/-- A_OOS and the alert of R261 when a class-A port is parked. -/
def parkNote (n : PortId) (s : State) : State :=
  if s.cls n = .a then
    ({ s with qy := { s.qy with stat := { s.qy.stat with aOos := true } } }).alert 2#8
      (putF 0 (BitVec.ofNat 8 n.val) ||| putF 9 s.ports[n].pfault.oosCause)
  else s

/-- A measured reply is reported to the BG_LAT register of its class (R182, Table 6.11); the bound is 3 ms for class A
and 15 ms for the others. OVER leaves out a reply from before the first attach or under the 3.25 ms bound of R179. -/
def latency (n : PortId) (tenUs : Nat) (counted : Bool) (s : State) : State :=
  let upd (bound : Nat) (r : BgLat) : BgLat :=
    let r := if r.max.toNat < tenUs then { r with max := BitVec.ofNat 12 (min 4095 tenUs), port := BitVec.ofNat 8 n.val } else r
    if bound < tenUs ∧ counted then { r with overCnt := satInc r.overCnt } else r
  match s.cls n with
  | .a => { s with bg := { s.bg with latA := upd 300 s.bg.latA } }
  | .b => { s with bg := { s.bg with latB := upd 1500 s.bg.latB } }
  | .c => { s with bg := { s.bg with latC := upd 1500 s.bg.latC } }

/-- Whether the 3.25 ms bound of R179 holds for a message that ends now: the port is of class A, and the spare region that it
is to move to is loaded for it, up to the end of its culvert's switch. Which port a spare that the supervisor loads is
for is free until PREPARE names it (log entry 215). -/
def moving (s : State) (n : PortId) : Bool :=
  let q := polderOf n
  let P := s.polders[q]
  let meant (r : Fin 56) : Bool :=
    decide (48 ≤ r.val) && (P.regions[r].st = .loading || P.regions[r].st = .ready) &&
      Config.spareMeant q r P.regions[r].slot (posOf n)
  s.cls n = .a && ((match P.load with | some j => decide (j.purpose = .planned (posOf n)) | none => false) ||
    s.ports[n].place.prepared || (P.switching.any fun j => decide (j.pos = posOf n)) || (List.finRange 56).any meant)

/-- Class-A ports: those latched, and those whose class-A write is held (R176). -/
def classACount (s : State) : Nat :=
  ((List.finRange 192).filter fun n => decide (s.cls n = .a) || decide (s.ports[n].heldCls = some .a)).length

/-- BG_STAT.A_GUAR: the images in force were built with class-A reserve, and the lifeline role is served and has a
standby (R179, R180). -/
def aGuar (s : State) : Bool :=
  let role (r : BitVec 4) : Bool := (List.finRange 16).any fun k => s.cores[k].role.role = r && s.inService k
  s.fl.reserve && role 12#4 && role 14#4

/-- BG_STAT as a read returns it (Table 6.11). -/
def bgStatWord (s : State) : Word :=
  s.bg.stat.read s.aGuar (BitVec.ofNat 5 ((List.finRange 192).filter fun n => s.cls n = .a).length)

/-- A_GUAR has fallen: A_GUAR_LOST and an alert (R180); `s` is the state before. -/
def noteGuar (s t : State) : State :=
  if s.aGuar && !t.aGuar then
    let t : State := { t with bg := { t.bg with stat := { t.bg.stat with aGuarLost := true } } }
    t.alert 1#8 t.bgStatWord
  else t

/-- Core `k` may have stopped at a double trap, which can end the class-A guarantee (R180, R312); `s` is the state before. -/
def noteStop (k : CoreId) (s t : State) : State :=
  if t.cores[k].stat.state = 3#3 && s.cores[k].stat.state ≠ 3#3 then s.noteGuar t else t

/-- An instruction that acts on its own core alone. -/
def onCoreUp (k : CoreId) (f : Core → Core) (s : State) : State :=
  if s.coreUp k then s.noteStop k (s.onCore k f) else s

/-- Every port changed, in port order. -/
def onAllPorts (f : PortId → State → State) (s : State) : State := (List.finRange 192).foldl (fun s n => f n s) s

/-- The ports of a polder changed, in position order. -/
def onPolderPorts (q : PolderId) (f : PortId → State → State) (s : State) : State :=
  (List.finRange 48).foldl (fun s p => f (portAt q p) s) s

end State

end Sys2Proof.Machine
end

