-- ==== Sys2Proof/Machine/Quarry.lean ====
section
/-! DEFINITION. The quarry: the spoil list and its events, the free spares, parking a port, fault migration, trials,
and the region a parked port is given (spec/09_quarry_migration.md R255 to R272, R279 to R282). -/

namespace Sys2Proof.Machine

/-- A spoil entry: KIND, ID, CAUSE and the check nibble, the exclusive-or of the seven others (Table 9.8). -/
def spoilWord (kind : BitVec 4) (id : BitVec 20) (cause : BitVec 4) : Word :=
  let w : BitVec 28 := cause ++ id ++ kind
  let chk := (List.range 7).foldl (fun (x : BitVec 4) i => x ^^^ fld w (4 * i) 4) 0#4
  chk ++ w

/-- Whether a spoil entry is valid: CHK as stated, and not empty (R279). -/
def spoilValid (w : Word) : Bool :=
  w ≠ 0#32 && w = spoilWord (fld w 0 4) (fld w 4 20) (fld w 24 4)

/-- The ID of a region (Table 9.8). -/
def regionId (q : PolderId) (r : Nat) : BitVec 20 := BitVec.ofNat 20 (q.val + 4 * r)

/-- The ID of a core SRAM row (Table 9.8). -/
def coreRowId (k : CoreId) (data : Bool) (row : Nat) : BitVec 20 := BitVec.ofNat 20 (k.val + 16 * data.toNat + 32 * row)

/-- The ID of a common half (Table 9.8). -/
def halfId (q : PolderId) (halfB : Bool) : BitVec 20 := BitVec.ofNat 20 (q.val + 4 * halfB.toNat)

namespace State

/-- A quarry event: QY_LAST, and an entry of queue 243 (R287, Table 9.15). -/
def quarryEvent (action kind : BitVec 4) (id : BitVec 20) (cause : BitVec 4) (s : State) : State :=
  let l : QyLast := { event := cause ++ id ++ kind, action := action }
  { s with qy := { s.qy with last := l } }.fabEvent 0x10#6 (l.read.setWidth 36)

/-- Whether the spoil list names a resource (R255). -/
def isSpoiled (s : State) (kind : BitVec 4) (id : BitVec 20) : Bool :=
  s.qy.spoiled.any fun w => fld w 0 4 = kind && fld w 4 20 = id

/-- A resource is spoiled: it leaves service at once; its one entry is held until it can be written (R280). -/
def spoil (kind : BitVec 4) (id : BitVec 20) (cause : BitVec 4) (s : State) : State :=
  if s.isSpoiled kind id then s
  else
    let w := spoilWord kind id cause
    { s with qy := { s.qy with spoiled := w :: s.qy.spoiled, held := s.qy.held ++ [w] } }.quarryEvent 5#4 kind id cause

/-- Whether a spare region of a polder is free: not spoiled, not in service, not loading, not on trial, and not the
target of a load, switch or PREPARE (R255, R264). -/
def spareFree (s : State) (q : PolderId) (r : RegionId) : Bool :=
  let P := s.polders[q]
  let R := P.regions[r]
  decide (48 ≤ r.val) && !s.isSpoiled 1#4 (regionId q r.val) && (R.st = .empty || R.st = .ready) && R.trial = .none &&
    !(P.culv.toList.any fun c => c.region.toNat = r.val) &&
    !((P.load.toList ++ P.waiting).any fun j => j.target = some r) &&
    !(P.switching.any fun j => j.region = r) &&
    (match P.prepared with | some (_, t) => t ≠ r | none => true)

/-- Whether the session of a position has left a region that has passed no trial since (R267). -/
def wasLeft (s : State) (q : PolderId) (pos : PosId) (r : RegionId) : Bool :=
  let p := s.ports[portAt q pos]
  p.attached && (s.polders[q].regions[r]).left.any fun x => x.1 = pos && x.2 = p.tc.attachCnt

/-- The first free spare of a polder's spare order that the session of a position has not left (R264, R267). -/
def freeSpareFor (s : State) (q : PolderId) (pos : PosId) : Option RegionId :=
  s.polders[q].order.find? fun r => s.spareFree q r && !s.wasLeft q pos r

/-- The first spare that only an update hop has taken, by a LOAD or UNLOAD or by the PREPARE of another position: a fault
migration goes before it (R37, R248). -/
def hopSpare (s : State) (q : PolderId) (pos : PosId) : Option RegionId :=
  let P := s.polders[q]
  P.order.find? fun r =>
    let jobs := (P.load.toList ++ P.waiting).filter fun j => j.target = some r
    let hop : Bool := match P.prepared with | some (p, t) => t = r && p ≠ pos | none => false
    decide (48 ≤ r.val) && !s.isSpoiled 1#4 (regionId q r.val) && P.regions[r].trial = .none &&
      !(P.culv.toList.any fun c => c.region.toNat = r.val) && !(P.switching.any fun j => j.region = r) &&
      !s.wasLeft q pos r && (hop || !jobs.isEmpty) && jobs.all fun j => j.purpose = .command

/-- The first free spare of a polder's spare order (R264). -/
def freeSpare (s : State) (q : PolderId) : Option RegionId := s.polders[q].order.find? fun r => s.spareFree q r

/-- FREE_Pq: the free spare regions of a polder (Table 9.15). -/
def freeCount (s : State) (q : PolderId) : Nat := (s.polders[q].order.filter fun r => s.spareFree q r).length

/-- A load or unload is started, or waits while one runs: that of a fault migration before the others (R248, R284). Only a
command clears ERR, so that the error of a failed load stands over the load made in its place (R241, Table 9.12). -/
def startLoad (q : PolderId) (j : LoadJob) (s : State) : State :=
  s.onPolder q fun P =>
    if P.load.isSome then
      let n := (P.waiting.takeWhile LoadJob.urgent).length
      { P with waiting := if j.urgent then P.waiting.take n ++ j :: P.waiting.drop n else P.waiting ++ [j] }
    else
      let reg : BitVec 6 := match j.target with | some r => BitVec.ofNat 6 r.val | none => 0x3E#6
      let st := { P.loadStat with busy := true, err := if j.purpose = .command then 0#3 else P.loadStat.err }
      let P := { P with
        load := some j, scrubSkip := false,
        loadStat := if j.unload then st else { st with lastRegion := reg, lastSlot := j.slot } }
      match j.target with
      | some r => P.onRegion r.val fun R => { R with st := .loading, isolated := true }
      | none =>
        if P.commonB then { P with halfA := { P.halfA with st := .loading } }
        else { P with halfB := { P.halfB with st := .loading } }

/-- A culvert switch begins: the front end is connected to neither region until it completes (R17, R243). -/
def startSwitch (q : PolderId) (j : SwitchJob) (s : State) : State :=
  s.onPolder q fun P =>
    { P with
      culv := P.culv.set j.pos { P.culv[j.pos] with switching := true },
      switching := P.switching ++ [j] }

/-- A region on trial: it is unloaded, loaded again from the same slot, and watched for two scrub passes; `idle`: it is not
tried for a session that has just left it (R272). A spoiled region is not tried. -/
def startTrial (q : PolderId) (r : RegionId) (idle : Bool) (s : State) : State :=
  if s.isSpoiled 1#4 (regionId q r.val) then s
  else
    let slot := s.polders[q].regions[r].slot
    let s := s.onPolder q fun P => P.onRegion r.val fun R => { R with trial := .unloading, idleTrial := idle, isolated := true }
    s.startLoad q { target := some r, slot := slot, unload := true, purpose := .trial }

/-- A session has left a region that was reported for REPEAT, which is spoiled (Table 9.2). -/
def repeatLeft (q : PolderId) (r : Nat) (s : State) : State :=
  if (s.polders[q].region r).repeated then s.spoil 1#4 (regionId q r) 2#4 else s

/-- Whether spare physical queue 244 + i is free: it serves no queue and is not spoiled (R255, R287). -/
def queueFree (s : State) (i : Fin 12) : Bool := s.qy.qmap[i].isNone && !s.isSpoiled 3#4 (BitVec.ofNat 20 (244 + i.val))

/-- Whether a parked port has no physical queue: its own has been taken for another queue or is spoiled, and no spare serves
it (R276). -/
def queueless (s : State) (n : PortId) : Bool :=
  !(s.qy.qmap.toList.any fun y => y.any fun x => x.val = n.val) && !(s.qy.taken.any fun y => y.1.val = n.val) &&
    (s.qy.taken.any (fun y => y.2.val = n.val) || s.isSpoiled 3#4 (BitVec.ofNat 20 n.val))

/-- The rank of a class for the choices of R272 and R282: A highest. -/
def classRank (cl : SvcClass) : Nat := match cl with | .a => 2 | .b => 1 | .c => 0

/-- The front end of a parked port goes to its isolated home region, and the region that it leaves becomes READY, or is
spoiled when it was reported for REPEAT (R253, R261, Table 9.2). -/
def parkMove (n : PortId) (s : State) : State :=
  let q := polderOf n
  let pos := posOf n
  let old := s.polders[q].culv[pos].region.toNat
  let s := s.onPolder q fun P =>
    let P := P.onRegion old fun R => { R with st := if R.st = .serving then .ready else R.st, isolated := true }
    let P := P.onRegion pos.val fun R => { R with isolated := true, backDue := false }
    { P with
      culv := P.culv.set pos { region := BitVec.ofNat 6 pos.val, switching := false, slot := (P.region pos.val).slot },
      switching := P.switching.filter fun j => j.pos ≠ pos,
      waiting := P.waiting.filter fun j => match j.purpose with
        | .migrate p _ => p ≠ pos | .planned p => p ≠ pos | .give p => p ≠ pos | _ => true,
      prepared := match P.prepared with | some (p, t) => (if p = pos then none else some (p, t)) | none => none }
  let p := s.ports[n]
  let s := s.setPort n { p with place := { p.place with
      region := BitVec.ofNat 6 pos.val, migrating := false, prepared := false } }
  (s.repeatLeft q old).gaugeFollow n |>.applyClass n |>.parkNote n

/-- A port is parked by the quarry controller (R261, R282). -/
def parkPort (n : PortId) (cause : BitVec 2) (s : State) : State := (s.setPort n (s.ports[n].park cause)).parkMove n

/-- The port that is cannibalised for the failing port of a position: among the ports of the polder served by a spare region
that the failing session can use, of the lowest class below its own, an unattached one first and a higher position first
(R267, R282). -/
def victim (s : State) (q : PolderId) (pos : PosId) : Option PosId :=
  let cands := (List.finRange 48).filter fun p =>
    let n := portAt q p
    let R := s.polders[q].regionAt p
    decide (48 ≤ s.polders[q].culv[p].region.toNat) && R.st = .serving && !R.repeated &&
      !(R.left.any fun x => x.1 = pos && x.2 = s.ports[portAt q pos].tc.attachCnt) &&
      decide (classRank (s.cls n) < classRank (s.cls (portAt q pos))) && !s.ports[n].pfault.oos
  let key (p : PosId) : Nat :=
    let n := portAt q p
    (2 - classRank (s.cls n)) * 1000 + (if s.ports[n].attached then 0 else 100) + p.val
  cands.foldl (fun b p => match b with | none => some p | some x => if key x < key p then some p else b) none

/-- A region is obtained for a position: one that is READY from the same slot is switched to at once, another is
loaded first (R264). -/
def migrateTo (q : PolderId) (pos : PosId) (r : RegionId) (slot : BitVec 4) (cause : BitVec 4) (s : State) : State :=
  let R := s.polders[q].regions[r]
  if R.st = .ready ∧ R.slot = slot then s.startSwitch q { pos := pos, region := r, kind := .fault, cause := cause }
  else s.startLoad q { target := some r, slot := slot, unload := false, purpose := .migrate pos cause }

/-- A prepared migration ends with the old region unfrozen; the target keeps READY (R266). -/
def dropPrepare (q : PolderId) (s : State) : State :=
  match s.polders[q].prepared with
  | some (pos, _) =>
    let n := portAt q pos
    ((s.setPort n s.ports[n].unfreeze).onPolder q fun P => { P with prepared := none }).applyClass n
  | none => s

/-- A port whose region failed is parked with cause NO_REGION, and the region is tried; `idle`: the session has not left it under
R264 (R265, R272, R282). -/
def parkFailing (q : PolderId) (pos : PosId) (cause : BitVec 4) (idle : Bool) (s : State) : State :=
  let old := s.polders[q].culv[pos].region.toNat
  let s := (s.parkPort (portAt q pos) 3#2).quarryEvent 7#4 1#4 (regionId q old) cause
  if h : old < 56 then s.startTrial q ⟨old, h⟩ idle else s

/-- A region is found for the failing session of a position: the first free spare, a spare that an update hop has taken,
or that of a port of lower class, which is parked; with none the failing port is parked (R37, R264, R282). -/
def findRegion (q : PolderId) (pos : PosId) (slot : BitVec 4) (cause : BitVec 4) (s : State) : State :=
  match s.freeSpareFor q pos, s.hopSpare q pos, s.victim q pos with
  | some r, _, _ => s.migrateTo q pos r slot cause
  | none, some r, _ =>
    let s : State := if (s.polders[q].prepared.map (·.2)) = some r then s.dropPrepare q else s
    s.migrateTo q pos r slot cause
  | none, none, some v =>
    let vr := s.polders[q].culv[v].region
    let s := (s.parkPort (portAt q v) 2#2).quarryEvent 8#4 1#4 (regionId q vr.toNat) cause
    if h : vr.toNat < 56 then
      let s := s.onPolder q fun P => P.onRegion vr.toNat fun R => { R with isolated := false }
      s.migrateTo q pos ⟨vr.toNat, h⟩ slot cause
    else s
  | none, none, none => s.parkFailing q pos cause false

/-- A fault migration whose slot is not VALID is refused: after a scrub the port stays on its region, which runs on isolated;
after the watch it is parked (R265). -/
def migRefuse (q : PolderId) (pos : PosId) (cause : BitVec 4) (s : State) : State :=
  let n := portAt q pos
  let p := s.ports[n]
  let s := s.setPort n { p with
    pfault := { p.pfault with migRefused := true }, place := { p.place with migrating := false } }
  let s := s.onPolder q fun P => P.onRegion P.culv[pos].region.toNat fun R => { R with isolated := true, failing := true }
  if cause = 9#4 then s.parkFailing q pos cause true else s

/-- A region fault on the serving region of a position (R264, R265, R282, Table 9.11): `cause` as Table 9.8 codes it,
0x9 the culvert watch, 0x1 the scrub. -/
def regionFault (q : PolderId) (pos : PosId) (cause : BitVec 4) (openGroup : Bool) (s : State) : State :=
  let n := portAt q pos
  let P := s.polders[q]
  let old := P.culv[pos].region.toNat
  let R := P.region old
  if s.ports[n].place.migrating ∨ s.stopped (s.cls n) then s
  else if s.ports[n].pfault.oos ∨ R.st ≠ .serving then
    if h : old < 56 then (if R.st = .ready ∧ R.trial = .none then s.startTrial q ⟨old, h⟩ true else s) else s
  else
    let s : State := if (match P.prepared with | some (p, _) => decide (p = pos) | none => false) then
        s.onPolder q fun P => { P with prepared := none }
      else s
    let s := s.setPort n (s.ports[n].isolate openGroup)
    let slot : BitVec 4 := R.slot
    if s.store.slots[slot.toNat].st ≠ .valid then s.migRefuse q pos cause
    else
      let s := s.onPolder q fun P => P.onRegion old fun R => { R with isolated := true, leaves := R.leaves + 1 }
      s.findRegion q pos slot cause

/-- Whether the culvert watch of a position declares a fault for a cause: it is suspended from the isolation of a region to the end
of its culvert switch, and during a PLD; a missing echo needs a time base, and a missing GoodCRC counts only where the region
owed one and had room for the group (R258). -/
def watches (s : State) (q : PolderId) (pos : PosId) (cause : WatchCause) : Bool :=
  let P := s.polders[q]
  let p := s.ports[portAt q pos]
  let R := P.regionAt pos
  R.st = .serving && !R.isolated && !P.culv[pos].switching && !P.pld && P.die &&
    match cause with
    | .noEcho => (if P.commonB then P.halfB else P.halfA).st = .serving
    | .noGoodCrc entries =>
      p.attached && p.pdcfg.pdEn && !p.pdstat.giveup && !p.onAir && p.q.fits entries
    | .badCrc | .badPattern => true

/-- The region with no session that a fault concerns: unloaded and tried (Table 9.11). -/
def idleRegionFault (q : PolderId) (r : RegionId) (s : State) : State :=
  if s.polders[q].regions[r].trial = .none then s.startTrial q r true else s

/-- A region is given to a parked position: it is connected where it is READY from the slot that MAP names, or READY while
that slot is not VALID, else loaded first (R244, R261, R272). -/
def giveRegion (q : PolderId) (pos : PosId) (r : RegionId) (s : State) : State :=
  let slot := s.polders[q].tplMap[pos]
  let R := s.polders[q].regions[r]
  let valid : Bool := s.store.slots[slot.toNat].st = .valid
  if R.st = .ready ∧ (R.slot = slot ∨ !valid) then s.startSwitch q { pos := pos, region := r, kind := .give, cause := 0#4 }
  else if !valid then s
  else s.startLoad q { target := some r, slot := slot, unload := false, purpose := .give pos }

/-- The parked port that a freed spare goes to: the highest class, the lowest position first (R272). -/
def parkedWaiting (s : State) (q : PolderId) : Option PosId :=
  let cands := (List.finRange 48).filter fun p =>
    let f := s.ports[portAt q p].pfault
    f.oos && decide (2#2 ≤ f.oosCause) && !s.queueless (portAt q p) &&
      s.store.slots[s.polders[q].tplMap[p].toNat].st = .valid &&
      !((s.polders[q].load.toList ++ s.polders[q].waiting).any fun j => j.purpose = .give p) &&
      !(s.polders[q].switching.any fun j => j.pos = p)
  let key (p : PosId) : Nat := classRank (s.cls (portAt q p)) * 100 + (47 - p.val)
  cands.foldl (fun b p => match b with | none => some p | some x => if key x < key p then some p else b) none

/-- The serving position whose region was reported for REPEAT and is still to be left (Table 9.2). -/
def repeatWaiting (s : State) (q : PolderId) : Option PosId :=
  (List.finRange 48).find? fun p =>
    let R := s.polders[q].regionAt p
    R.repeated && R.st = .serving && !R.isolated && !s.ports[portAt q p].place.migrating &&
      !((s.polders[q].load.toList ++ s.polders[q].waiting).any fun j => j.purpose = .planned p)

/-- A planned migration that the quarry controller makes itself: the serving region is frozen, its final checkpoint
taken, and the culvert switches (R266, R272, Table 9.2). -/
def plannedSwitch (q : PolderId) (pos : PosId) (r : RegionId) (kind : SwitchKind) (s : State) : State :=
  let n := portAt q pos
  let P := s.polders[q]
  let p := s.ports[n].freeze (s.tidAt n) P.timeUs (s.ckptLen n) P.sampleIdx[pos]
  (s.setPort n p).startSwitch q { pos := pos, region := r, kind := kind, cause := if kind = .planned then 2#4 else 0#4 }

/-- The session of a region reported for REPEAT moves to a free spare, where there is one (Table 9.2). -/
def leaveRepeat (q : PolderId) (s : State) : State :=
  match s.repeatWaiting q with
  | none => s
  | some p =>
    match s.freeSpareFor q p with
    | none => s
    | some r =>
      let slot := (s.polders[q].regionAt p).slot
      let R := s.polders[q].regions[r]
      if R.st = .ready ∧ R.slot = slot then s.plannedSwitch q p r .planned
      else s.startLoad q { target := some r, slot := slot, unload := false, purpose := .planned p }

/-- A spare has become free: a parked port is given it, else a region reported for REPEAT is left for it (R257,
R272). -/
def spareFreed (q : PolderId) (s : State) : State :=
  match s.parkedWaiting q, s.freeSpare q with
  | some p, some r => s.giveRegion q p r
  | some _, none => s
  | none, _ => s.leaveRepeat q

/-- REPEAT on a SERVING region: a planned migration to a free spare, or as soon as one becomes free (Table 9.2). -/
def repeatFault (q : PolderId) (pos : PosId) (s : State) : State :=
  (s.onPolder q fun P => P.onRegion P.culv[pos].region.toNat fun R => { R with repeated := true }).leaveRepeat q

/-- A home region that has passed its trial takes its session back, once no other move of the port stands in the way (R272). -/
def takeBack (q : PolderId) (pos : PosId) (s : State) : State :=
  let P := s.polders[q]
  let R := P.region pos.val
  if R.backDue && R.st = .ready && !s.isSpoiled 1#4 (regionId q pos.val) && (P.regionAt pos).st = .serving &&
      decide (P.culv[pos].region.toNat ≠ pos.val) && P.prepared.isNone && !s.ports[portAt q pos].place.migrating &&
      !(P.switching.any fun j => j.pos = pos) then
    let s := s.onPolder q fun P => P.onRegion pos.val fun R => { R with backDue := false }
    s.plannedSwitch q pos ⟨pos.val, by have := pos.isLt; omega⟩ .back
  else s

/-- A PREPARE ends without a switch; a spare that it held is free again, and a home region takes its session back (R266,
R272). -/
def unprepare (q : PolderId) (s : State) : State :=
  match s.polders[q].prepared with
  | some (pos, _) => ((s.dropPrepare q).takeBack q pos).spareFreed q
  | none => s

/-- A port that a front-end check has parked by itself, from `s` to `t`: the culvert follows, and the region it leaves may serve
another (R260, R261, log entry 209). -/
def noteParks (s : State) (n : PortId) (t : State) : State :=
  if t.ports[n].pfault.oos && !s.ports[n].pfault.oos then
    let q := polderOf n
    let old := t.polders[q].culv[posOf n].region.toNat
    ((t.parkMove n).quarryEvent 7#4 1#4 (regionId q old) 0#4).spareFreed q
  else t

/-- A command of the front end that may park its port. -/
def onCheckedFe (n : PortId) (f : Env → Port → Port) (s : State) : State := s.noteParks n (s.onFrontEnd n f)

/-- The first core that a fault has doubled: it serves as its second a bench that no core has as its own. A bench that a
stage has doubled still stands in C_ROLE of its parked core (R274, R392). -/
def faultDoubled (s : State) : Option CoreId :=
  (List.finRange 16).find? fun k =>
    let b := s.cores[k].role.role2
    b ≠ 15#4 && !((List.finRange 16).any fun j => s.cores[j].role.role = b)

/-- QY_STAT as a read returns it (Table 9.15). -/
def qyStatWord (s : State) : Word :=
  let bits (f : PolderId → Bool) : BitVec 4 :=
    (List.finRange 4).foldl (fun w q => if f q then w ||| (1#4 <<< q.val) else w) 0#4
  let stby := (List.finRange 16).any fun k => s.cores[k].role.role = 14#4 && s.inService k
  s.qy.stat.read (bits fun q => s.freeCount q = 0)
    s.faultDoubled.isSome (!stby)
    (bits fun q => s.polders[q].fallback)

/-- A polder whose last free spare a command has taken gives an alert (R282, Table 13.3): `s` is the state before. -/
def noted (s t : State) : State :=
  (List.finRange 4).foldl (fun t q =>
    if t.freeCount q = 0 ∧ s.freeCount q ≠ 0 then t.alert 4#8 t.qyStatWord else t) t

end State

end Sys2Proof.Machine
end

