-- ==== Sys2Proof/Machine/Fabric.lean ====
section
/-! DEFINITION. The template store, the loads and unloads of regions and halves, culvert switches, the polder-common
halves and the scrubs (spec/08_polder_fabric.md), with what the quarry controller does when one of them ends
(spec/09_quarry_migration.md R264 to R272). -/

namespace Sys2Proof.Machine

/-- Frame f of a slot's words: after the descriptor of 8 words, 3 words a frame, lowest byte first (Table 8.6, R232). -/
def tplFrame (ws : List Word) (f : Nat) : BitVec 96 :=
  (ws.getD (8 + 3 * f + 2) 0#32) ++ (ws.getD (8 + 3 * f + 1) 0#32) ++ (ws.getD (8 + 3 * f) 0#32)

/-- The words of a slot after row `r` of the store has taken a change (R20): row 0 is that of the descriptor, row f + 1 that of
frame f (R246, log entry 182). -/
def slipRow (r : Nat) (x : BitVec 96) (ws : List Word) : List Word :=
  let b := if r = 0 then 0 else 5 + 3 * r
  if x = 0#96 then ws
  else ws.mapIdx fun i w =>
    if i = b then w ^^^ fld x 0 32 else if i = b + 1 then w ^^^ fld x 32 32
    else if i = b + 2 then w ^^^ fld x 64 32 else w

/-- The configuration of a node (Table 8.1). -/
structure NodeCfg where
  lut : BitVec 16
  reg : Bool
  init : Bool
  ce : Bool
  route : BitVec 5
deriving DecidableEq, Repr

/-- A node's configuration by its 24 bits (Table 8.1). -/
def NodeCfg.of (w : BitVec 24) : NodeCfg :=
  { lut := fld w 0 16, reg := bit w 16, init := bit w 17, ce := bit w 18, route := fld w 19 5 }

/-- What a node outputs for its four inputs and its flip-flop (Table 8.1). -/
def NodeCfg.out (n : NodeCfg) (inputs : BitVec 4) (ff : Bool) : Bool := if n.reg then ff else bit n.lut inputs.toNat

/-- A node's flip-flop after a cycle of CK_PLq; with CE it loads only while input 3 is 1 (Table 8.1). -/
def NodeCfg.clock (n : NodeCfg) (inputs : BitVec 4) (ff : Bool) : Bool :=
  if n.ce && !bit inputs 3 then ff else bit n.lut inputs.toNat

/-- Row and column of node m of a region (R227). -/
def nodePlace (m : Nat) : Nat × Nat := (m / 32, m % 32)

/-- Node m of a list of stored rows: node 4f + j in data bits [24j+23:24j] of frame f (R227). -/
def nodeAt (rows : List (BitVec 112)) (m : Nat) : NodeCfg := NodeCfg.of (fld (rows.getD (m / 4) 0#112) (24 * (m % 4)) 24)

/-- What the flip-flops of a region, nodes 0 to 1,151, take at its release: INIT (R226, R240). -/
def initBits (rows : List (BitVec 112)) : List Bool := (List.range 1152).map fun m => (nodeAt rows m).init

/-- The stored row of a frame: 96 data bits and 16 check bits (R227). -/
def frameRow (d : BitVec 96) : BitVec 112 := rowEncode 24 4 d

/-- The frames that a slot loads, as stored rows (R227, R229). -/
def TplSlot.rows (t : TplSlot) : List (BitVec 112) :=
  (List.range (if t.common then 128 else 288)).map fun f => frameRow (tplFrame t.words f)

/-- Words of the section body of a kind (R232). -/
def bodyWords (common : Bool) : Nat := if common then 392 else 872

/-- The first check of R232 that a slot fails, as ERR codes it; 0 when all hold. `old` is the template ID that the slot
held before, which a BAD slot with REFS keeps (R233). -/
def TplSlot.check (t : TplSlot) : BitVec 4 :=
  let w0 := t.words.getD 0 0#32
  if t.words.length ≠ bodyWords t.common + 8 then 2#4
  else if fld w0 16 16 ≠ (if t.common then 128#16 else 288#16) then 3#4
  else if !t.common && !((List.range 8).all fun f => tplFrame t.words f = Config.boundary f) then 4#4
  else if leWords (sha256 ((t.words.take (bodyWords t.common)).flatMap leBytes)) ≠ t.words.drop (bodyWords t.common) then 5#4
  else if t.refs ≠ 0#8 ∧ fld w0 0 16 ≠ t.tid then 6#4
  else 0#4

/-- The region, 0 to 55, or the half, that a frame address lies in, and the frame within it (Table 8.2). -/
inductive FrameAt where
  | region (r : RegionId) (f : Nat)
  | half (b : Bool) (f : Nat)
deriving DecidableEq, Repr

/-- Where a frame address lies. -/
def FrameAt.of (a : Nat) : FrameAt :=
  if h : a / 288 < 56 then .region ⟨a / 288, h⟩ (a % 288)
  else if a < 16256 then .half false (a - 16128) else .half true (a - 16256)

/-- A row of a list of stored rows; a list that is shorter holds zero codewords. -/
def rowAt (fs : List (BitVec 112)) (f : Nat) : BitVec 112 := fs.getD f 0#112

/-- The list with row f changed; a value that is there already leaves it as it is. -/
def setRow (n : Nat) (fs : List (BitVec 112)) (f : Nat) (v : BitVec 112) : List (BitVec 112) :=
  if rowAt fs f = v then fs else ((fs ++ List.replicate (n - fs.length) 0#112).set f v)

namespace Polder

/-- The active common half. -/
def active (P : Polder) : Half := if P.commonB then P.halfB else P.halfA

/-- The standby common half. -/
def standby (P : Polder) : Half := if P.commonB then P.halfA else P.halfB

/-- The standby half changed. -/
def onStandby (f : Half → Half) (P : Polder) : Polder :=
  if P.commonB then { P with halfA := f P.halfA } else { P with halfB := f P.halfB }

/-- PL_COMMON.SAME: the standby holds the active half's common image (R230). -/
def same (P : Polder) : Bool :=
  P.standby.st = .ready && P.active.st ≠ .empty && P.active.slot = P.standby.slot && P.active.tid = P.standby.tid

/-- The word a read of PL_COMMON returns (Table 8.16). -/
def readCommon (P : Polder) : Word :=
  let st : BitVec 2 := match P.standby.st with | .empty => 0#2 | .loading => 1#2 | _ => 2#2
  putB 0 P.commonB ||| putF 1 st ||| putB 3 P.same ||| putB 5 P.swPend ||| putF 16 P.active.tid

/-- The word a read of PL_RSTATE[i] returns (R252). -/
def readRstate (i : Nat) (P : Polder) : Word :=
  (List.range 16).foldl (fun w j => if 16 * i + j < 56 then w ||| putF (2 * j) (P.region (16 * i + j)).st.code else w) 0#32

/-- Refuse a PL_LOAD command (R239). -/
def refuseLoad (err : BitVec 3) (P : Polder) : Polder :=
  { P with loadStat := { P.loadStat with refused := true, err := err } }

/-- Whether a load or unload that runs names the frame's region or half: the scrub skips it (R245). -/
def loadingAt (a : Nat) (P : Polder) : Bool :=
  match FrameAt.of a with
  | .region r _ => P.regions[r].st = .loading
  | .half b _ => (if b then P.halfB else P.halfA).st = .loading

/-- The first frame after the region or half of a frame address. -/
def frameAfter (a : Nat) : Nat :=
  match FrameAt.of a with
  | .region r _ => 288 * (r.val + 1)
  | .half b _ => if b then 0 else 16256

/-- When a load ends whose target the scrub had skipped, its next read is the first frame of that target, which it
reads through before it goes on (R245). -/
def scrubLoaded (first last : Nat) (P : Polder) : Polder :=
  if P.scrubSkip then
    { P with scrubSkip := false, scrubStack := (last, P.scrubNext) :: P.scrubStack.filter (·.1 ≠ last), scrubNext := first }
  else P

/-- The address of the next scrub read, and the polder after the read: a loading region is skipped, and one that it was
reading through after a load ends that reading (R245). -/
def scrubStep (P : Polder) : Nat × Polder :=
  let skip := P.loadingAt P.scrubNext
  let (a, st) := if !skip then (P.scrubNext, P.scrubStack)
    else match P.scrubStack with
      | (last, back) :: rest => if last + 1 = frameAfter P.scrubNext then (back, rest) else (frameAfter P.scrubNext, P.scrubStack)
      | [] => (frameAfter P.scrubNext, [])
  let (next, st) := match st with
    | (last, back) :: rest => if a = last then (back, rest) else (a + 1, (last, back) :: rest)
    | [] => (a + 1, [])
  (a, { P with
    scrub := { P.scrub with pos := BitVec.ofNat 14 a },
    scrubNext := next % 16384, scrubStack := st, scrubSkip := P.scrubSkip || skip })

end Polder

namespace State

/-- The core whose Cenan OUT a write is, when it holds the supervisor role (Table 18.3). -/
def fromSup (s : State) (src : Src) : Bool :=
  match src with
  | .core k => s.coreUp k && s.holds k 13#5
  | _ => false

/-- A slot changed. -/
def onSlot (t : SlotId) (f : TplSlot → TplSlot) (s : State) : State :=
  { s with store := { s.store with slots := s.store.slots.set t (f s.store.slots[t]) } }

/-- SYS_TPL_STAT.ERR. -/
def tplErr (e : BitVec 4) (s : State) : State :=
  { s with store := { s.store with stat := { s.store.stat with err := e } } }

/-- EMPTY slots. -/
def freeSlots (s : State) : Nat := (s.store.slots.toList.filter fun t => t.st = .empty).length

/-- Whether a load that runs or waits reads a slot (Table 8.12). -/
def slotRead (s : State) (t : SlotId) : Bool :=
  s.polders.toList.any fun P => (P.load.toList ++ P.waiting).any fun j => !j.unload && j.slot.toNat = t.val

/-- A slot is neither written nor checked any more. -/
def slotLeft (t : SlotId) (s : State) : State :=
  { s with store := { s.store with
      writing := s.store.writing.filter (· ≠ t), checking := s.store.checking.filter (· ≠ t) } }

/-- BEGIN: opens an EMPTY or BAD slot (R232, R233). One slot is written at a time. -/
def tplBegin (t : SlotId) (common : Bool) (s : State) : State :=
  let x := s.store.slots[t]
  if (x.st = .empty ∨ x.st = .bad) ∧ s.store.writing.isNone ∧ t ∉ s.store.checking ∧ !s.slotRead t then
    let s := (s.onSlot t fun x => { x with st := .writing, common := common, words := [], srcIdx := 0#4 }).tplErr 0#4
    { s with store := { s.store with writing := some t } }
  else s.tplErr 1#4

/-- SYS_TPL_DATA: the next word of the slot being written. -/
def tplData (w : Word) (s : State) : State :=
  match s.store.writing with
  | some t => s.onSlot t fun x => { x with words := x.words ++ [w] }
  | none => s

/-- END: the check of the written slot starts. -/
def tplEnd (t : SlotId) (s : State) : State :=
  if s.store.writing = some t then
    { s with store := { s.store with writing := none, checking := s.store.checking ++ [t] } }.tplErr 0#4
  else s.tplErr 1#4

/-- FREE: a slot with no references returns to EMPTY, also one that is being written or checked (R233); a slot that a load
reads is not freeable (Table 8.12). -/
def tplFree (t : SlotId) (s : State) : State :=
  let x := s.store.slots[t]
  if x.refs = 0#8 ∧ !s.slotRead t then ((s.onSlot t fun _ => TplSlot.init).slotLeft t).tplErr 0#4 else s.tplErr 1#4

/-- A fault migration that was refused for its slot starts again once the slot is VALID (R265), a trial that waits for it goes
on, and a parked port waits for it no longer (R272). -/
def slotRewritten (t : SlotId) (s : State) : State :=
  (List.finRange 4).foldl (fun (s : State) q =>
    let s := (List.finRange 48).foldl (fun (s : State) p =>
      let R := s.polders[q].regionAt p
      if R.failing ∧ R.isolated ∧ R.st = .serving ∧ R.slot.toNat = t.val ∧ !s.ports[portAt q p].place.migrating then
        s.regionFault q p 1#4 false
      else s) s
    let s := (List.finRange 56).foldl (fun (s : State) (r : Fin 56) =>
      let P : Polder := s.polders[q]
      if P.regions[r].trial = .loading ∧ P.regions[r].slot.toNat = t.val ∧
          !((P.load.toList ++ P.waiting).any fun j => j.target = some r) then
        s.startLoad q { target := some r, slot := P.regions[r].slot, unload := false, purpose := .trial }
      else s) s
    s.spareFreed q) s

/-- TEMPLATE_CHECK_DONE: the first slot whose check runs becomes VALID, or BAD with the first failing check as ERR (R232). -/
def tplChecked (s : State) : State :=
  match s.store.checking with
  | [] => s
  | t :: rest =>
    let x := s.store.slots[t]
    let e := x.check
    let s := { s with store := { s.store with checking := rest } }.tplErr e
    if e = 0#4 then
      let idx := fld (x.words.getD 1 0#32) 0 2
      let set := s.store.sets[idx.toNat]
      (s.onSlot t fun x => { x with st := .valid, tid := fld (x.words.getD 0 0#32) 0 16, set := set }).slotRewritten t
    else s.onSlot t fun x => { x with st := .bad }

/-- REFS one up. -/
def refUp (t : BitVec 4) (s : State) : State :=
  s.onSlot ⟨t.toNat, t.isLt⟩ fun x => { x with refs := x.refs + 1#8 }

/-- REFS one down. -/
def refDown (t : BitVec 4) (s : State) : State :=
  s.onSlot ⟨t.toNat, t.isLt⟩ fun x => { x with refs := x.refs - 1#8 }

/-- A region that a culvert switch is about to join is no target of another command (R239, R243). -/
def joining (s : State) (q : PolderId) (region : BitVec 6) : Bool :=
  s.polders[q].switching.any fun j => j.region.val = region.toNat

/-- Whether a slot holds a template for a region, or a common image, to load from. -/
def slotOk (s : State) (slot : BitVec 4) (common : Bool) : Bool :=
  s.store.slots[slot.toNat].st = .valid && s.store.slots[slot.toNat].common = common

/-- The error of a LOAD command, 0 when it is accepted (Tables 8.9 and 8.15). A spoiled region is never used again
(R255). -/
def loadErr (s : State) (q : PolderId) (region : BitVec 6) (slot : BitVec 4) : BitVec 3 :=
  let P := s.polders[q]
  if region = 0x3E#6 then
    if !s.slotOk slot true then 1#3
    else if s.isSpoiled 7#4 (halfId q !P.commonB) then 2#3
    else if P.load.isSome then 6#3 else 0#3
  else if !s.slotOk slot false then 1#3
  else if 56 ≤ region.toNat then 2#3
  else
    let R := P.region region.toNat
    if s.isSpoiled 1#4 (regionId q region.toNat) || R.st = .serving || s.joining q region then 2#3
    else if P.load.isSome then 6#3
    else if R.st = .loading then 2#3
    else 0#3

/-- The target of a load that names a region number. -/
def loadTarget (region : BitVec 6) : Option RegionId := if h : region.toNat < 56 then some ⟨region.toNat, h⟩ else none

/-- The messages whose replies are being measured ended before the load of a region began (R179, R182). -/
def measOld (q : PolderId) (region : BitVec 6) (s : State) : State :=
  match loadTarget region with
  | none => s
  | some r => s.onPolderPorts q fun n s =>
    let p := s.ports[n]
    if p.rg.meas then s.setPort n { p with rg := { p.rg with measBefore := r :: p.rg.measBefore } } else s

/-- LOAD (R240). -/
def plLoad (q : PolderId) (region : BitVec 6) (slot : BitVec 4) (s : State) : State :=
  let e := s.loadErr q region slot
  if e = 0#3 then
    (s.measOld q region).startLoad q { target := loadTarget region, slot := slot, unload := false, purpose := .command }
  else s.onPolder q (Polder.refuseLoad e)

/-- The error of an UNLOAD command, 0 when it is accepted (Table 8.9). -/
def unloadErr (s : State) (q : PolderId) (region : BitVec 6) : BitVec 3 :=
  let P := s.polders[q]
  let ready : Bool := if region = 0x3E#6 then P.standby.st = .ready else
    decide (region.toNat < 56) && (P.region region.toNat).st = .ready && !s.joining q region
  if P.load.isSome then 6#3 else if ready then 0#3 else 2#3

/-- UNLOAD (Table 8.9). -/
def plUnload (q : PolderId) (region : BitVec 6) (s : State) : State :=
  let e := s.unloadErr q region
  if e = 0#3 then
    s.startLoad q { target := loadTarget region, slot := 0#4, unload := true, purpose := .command }
  else s.onPolder q (Polder.refuseLoad e)

/-- Whether a SWITCH command is accepted: the region is READY, connected to no position and reachable from the
position (R17), and a position with a SERVING region has completed PREPARE for that region (R266). A region on trial, or that
waits for its load, stays unconnected (R272). -/
def switchOk (s : State) (q : PolderId) (pos : PosId) (r : RegionId) : Bool :=
  let P := s.polders[q]
  P.regions[r].st = .ready && P.regions[r].trial = .none &&
    !((P.load.toList ++ P.waiting).any fun j => j.target = some r) && (decide (48 ≤ r.val) || decide (r.val = pos.val)) &&
    !(s.isSpoiled 1#4 (regionId q r.val)) &&
    !((List.finRange 48).any fun p => p ≠ pos && P.culv[p].region.toNat = r.val) &&
    !(P.switching.any fun j => j.region = r || j.pos = pos) &&
    (if (P.regionAt pos).st = .serving then P.prepared = some (pos, r)
     else decide (P.culv[pos].region.toNat ≠ r.val) || !s.ports[portAt q pos].pfault.oos)

/-- SWITCH (R243). -/
def plSwitch (q : PolderId) (pos : BitVec 6) (region : BitVec 6) (s : State) : State :=
  if h : pos.toNat < 48 ∧ region.toNat < 56 then
    let p : PosId := ⟨pos.toNat, h.1⟩
    let r : RegionId := ⟨region.toNat, h.2⟩
    if s.switchOk q p r then
      (s.startSwitch q { pos := p, region := r, kind := .command, cause := 0#4 }).onPolder q fun P =>
        { P with loadStat := { P.loadStat with err := 0#3 } }
    else s.onPolder q (Polder.refuseLoad 5#3)
  else s.onPolder q (Polder.refuseLoad 5#3)

/-- A write of PL_LOAD with GO (Table 8.15). -/
def plLoadWrite (q : PolderId) (w : Word) (s : State) : State :=
  if bit w 18 then
    match fld w 16 2 with
    | 1 => s.plLoad q (fld w 0 6) (fld w 6 4)
    | 2 => s.plSwitch q (fld w 10 6) (fld w 0 6)
    | 3 => s.plUnload q (fld w 0 6)
    | _ => s
  else s

/-- FAB_LOAD_DONE or FAB_LOAD_FAIL, queue 243 (Table 11.5). -/
def loadEvent (q : PolderId) (target : Option RegionId) (slot : BitVec 4) (err : BitVec 3) (s : State) : State :=
  let reg : BitVec 6 := match target with | some r => BitVec.ofNat 6 r.val | none => 0x3E#6
  let pl := pay 0 (BitVec.ofNat 2 q.val) ||| pay 2 reg ||| pay 8 slot
  if err = 0#3 then s.fabEvent 1#6 pl else s.fabEvent 2#6 (pl ||| pay 12 err)

/-- The configuration of a load's target becomes `rows` from `slot`; REFS follow (R231). A region with another template is open to
the sessions that left it, as R453 step 4 needs (log entry 212). -/
def install (q : PolderId) (target : Option RegionId) (slot : BitVec 4) (rows : List (BitVec 112)) (s : State) : State :=
  match target with
  | some r =>
    let R := s.polders[q].regions[r]
    let s := if R.ref then s.refDown R.slot else s
    (s.refUp slot).onPolder q fun P =>
      (P.onRegion r.val fun R => { R with
        st := .ready, slot := slot, frames := rows, ffInit := initBits rows, ref := true, isolated := false, failing := false,
        repeated := false, backDue := false, left := if R.slot = slot then R.left else [] }).scrubLoaded (288 * r.val) (288 * r.val + 287)
  | none =>
    let H := s.polders[q].standby
    let tid := s.store.slots[slot.toNat].tid
    let s := if H.ref then s.refDown H.slot else s
    (s.refUp slot).onPolder q fun P =>
      let first := if P.commonB then 16128 else 16256
      (P.onStandby fun _ => { st := .ready, slot := slot, tid := tid, frames := rows, ref := true }).scrubLoaded
        first (first + 127)

/-- The target of a load or unload holds zero codewords and is EMPTY; the slot of the content it held loses a
reference (R231, R239, R241). -/
def wipe (q : PolderId) (target : Option RegionId) (s : State) : State :=
  match target with
  | some r =>
    let R := s.polders[q].regions[r]
    let s := if R.ref then s.refDown R.slot else s
    s.onPolder q fun P =>
      (P.onRegion r.val fun R => { R with st := .empty, frames := [], ffInit := [], ref := false, failing := false,
                                               backDue := false }).scrubLoaded
        (288 * r.val) (288 * r.val + 287)
  | none =>
    let H := s.polders[q].standby
    let s := if H.ref then s.refDown H.slot else s
    s.onPolder q fun P =>
      let first := if P.commonB then 16128 else 16256
      (P.onStandby fun _ => Half.init).scrubLoaded first (first + 127)

/-- A write of PL_COMMON.SWITCH: accepted only while the standby half is READY (R230). -/
def commonSwitch (q : PolderId) (s : State) : State :=
  s.onPolder q fun P => if P.standby.st = .ready then { P with swPend := true } else P

/-- What a load that is READY is for goes on (R264, R266, R261, R272). -/
def loadedFor (q : PolderId) (r : RegionId) (purpose : Purpose) (s : State) : State :=
  match purpose with
  | .command | .common => s
  | .migrate pos cause =>
    if s.ports[portAt q pos].place.migrating then
      s.startSwitch q { pos := pos, region := r, kind := .fault, cause := cause }
    else s.spareFreed q
  | .planned pos =>
    let R := s.polders[q].regionAt pos
    let free : Bool := s.polders[q].prepared.isNone && !(s.polders[q].switching.any fun j => j.pos = pos)
    if R.repeated ∧ R.st = .serving ∧ !R.isolated ∧ free then s.plannedSwitch q pos r .planned else s.spareFreed q
  | .trial => s.onPolder q fun P => P.onRegion r.val fun R => { R with trial := .watching false }
  | .give pos =>
    if s.ports[portAt q pos].pfault.oos then s.startSwitch q { pos := pos, region := r, kind := .give, cause := 0#4 }
    else s.spareFreed q

/-- A load that a readback failed is made again on the next spare, or for a fault migration on a region found as R282 says
(Table 9.2). -/
def retryLoad (q : PolderId) (j : LoadJob) (s : State) : State :=
  match j.purpose with
  | .migrate pos cause => if s.ports[portAt q pos].place.migrating then s.findRegion q pos j.slot cause else s.spareFreed q
  | .planned _ => s.leaveRepeat q
  | .give _ => s.spareFreed q
  | _ => s

/-- A waiting load that has nothing to load: its target holds the content already, or can be used no more. -/
def loadIdle (q : PolderId) (j : LoadJob) (s : State) : Option State :=
  match j.target with
  | none => none
  | some r =>
    let R := s.polders[q].regions[r]
    if s.isSpoiled 1#4 (regionId q r.val) then some (s.retryLoad q j)
    else if !j.unload && j.purpose ≠ .command && j.purpose ≠ .trial && R.st = .ready && R.slot = j.slot then
      some (s.loadedFor q r j.purpose)
    else none

/-- The next waiting load starts when one ends (R248, R284). -/
def nextLoad (q : PolderId) (s : State) : State :=
  let rec go : Nat → State → State
    | 0, s => s
    | k + 1, s =>
      if s.polders[q].load.isSome then s
      else match s.polders[q].waiting with
        | [] => s
        | j :: js =>
          let s := s.onPolder q fun P => { P with waiting := js }
          match s.loadIdle q j with
          | some s => go k s
          | none => s.startLoad q j
  go 64 s

/-- A row that the store reads for a load: an uncorrectable one ends it, and an error taken for none or for another stands in
the slot's words and in what is loaded (R20, R241). -/
def loadRow (slot : BitVec 4) (x : StoreRow) (s : State) : Bool × State :=
  match foundIn 24 4 0#96 x.upset with
  | .many => (true, s)
  | _ => (false, s.onSlot ⟨slot.toNat, slot.isLt⟩ fun t => { t with words := slipRow x.row (slip 24 4 x.upset) t.words })

/-- A load that a row of the store has ended: the slot is BAD, and what the load was for waits for it, or is refused (R241,
R265, R272). -/
def loadStoreBad (q : PolderId) (j : LoadJob) (s : State) : State :=
  let s := s.onSlot ⟨j.slot.toNat, j.slot.isLt⟩ fun x => { x with st := .bad }
  let s : State := { s with store := { s.store with stat := { s.store.stat with storeUncorr := true } } }
  match j.purpose with
  | .migrate pos cause => s.migRefuse q pos cause
  | _ => s

/-- REGION_LOAD_COMPLETE: the region or half is READY, or the load failed and it is left EMPTY (R240, R241). A row of
the store that is uncorrectable makes the slot BAD; a readback that differs is a region fault: the region is spoiled
and the load made again on the next spare (Table 9.2). -/
def loadComplete (q : PolderId) (store : StoreRow) (readBad : Bool) (tenths : Nat) (s : State) : State :=
  match s.polders[q].load with
  | none => s
  | some j =>
    if j.unload then s
    else
      let (storeBad, s) := s.loadRow j.slot store
      let err : BitVec 3 := if storeBad then 3#3 else if readBad then 4#3 else 0#3
      let s := s.onPolder q fun P =>
        let st := { P.loadStat with busy := false, err := err }
        { P with
          load := none,
          loadStat := if err = 0#3 then
            { st with done := true, loadUs := BitVec.ofNat 8 (min tenths 255) } else st }
      if err = 0#3 then
        let s := (s.install q j.target j.slot (s.store.slots[j.slot.toNat]).rows).loadEvent q j.target j.slot 0#3
        let s := match j.target with
          | some r => s.loadedFor q r j.purpose
          | none => if j.purpose = Purpose.common then s.commonSwitch q else s
        s.nextLoad q
      else
        let s := (s.wipe q j.target).loadEvent q j.target j.slot err
        let s : State :=
          if storeBad then s.loadStoreBad q j
          else match j.target with
            | some r =>
              let cause : BitVec 4 := if j.purpose = .trial then 8#4 else 3#4
              let s := s.onPolder q fun P => P.onRegion r.val fun R => { R with trial := .none }
              (s.spoil 1#4 (regionId q r.val) cause).retryLoad q j
            | none => s.spoil 7#4 (halfId q !s.polders[q].commonB) 3#4
        s.nextLoad q

/-- UNLOAD_COMPLETE: every frame holds the zero codeword and the region is EMPTY; a region on trial is loaded again
from the same slot, after the loads that wait, or once that slot is VALID (Table 8.9, R272, R284). -/
def unloadComplete (q : PolderId) (s : State) : State :=
  match s.polders[q].load with
  | none => s
  | some j =>
    if j.unload then
      let s := s.onPolder q fun P => { P with load := none, loadStat := { P.loadStat with busy := false } }
      let s := s.wipe q j.target
      match j.target, j.purpose with
      | some r, .trial =>
        let valid : Bool := s.store.slots[j.slot.toNat].st = .valid
        let again : List LoadJob :=
          if valid then [{ target := some r, slot := j.slot, unload := false, purpose := .trial }] else []
        (s.onPolder q fun P =>
          { P.onRegion r.val fun R => { R with trial := .loading } with waiting := P.waiting ++ again }).nextLoad q
      | _, _ => s.nextLoad q
    else s

/-- The region that a port starts afresh on: from state Start as R51 says, for a session still shown in P_TCSTATE with the
restore of R269, else as a port without a session comes up (R243, R261). -/
def startOn (n : PortId) (r : BitVec 6) (s : State) : State :=
  let p := s.ports[n]
  let e := { s.env n with regionUp := true }
  let p := if p.attached then p.cutOver e r (s.tidAt n) false
    else
      let p := { p with place := { p.place with region := r, migrating := false, prepared := false } }
      if p.tc.state = .start then (p.regionStart e).writeReports else p.enter e
  s.setPort n (s.checkpointed n p)

/-- A region given to a parked port, which leaves its park (R261). -/
def giveOn (n : PortId) (r : BitVec 6) (s : State) : State :=
  let p := s.ports[n]
  let e := { s.env n with regionUp := true }
  let p := { p with place := { p.place with region := r, migrating := false, prepared := false } }.unpark e
  s.setPort n (s.checkpointed n p)

/-- A culvert switch whose region is READY no more joins nothing (R243): a fault migration takes another region, a parked port
waits for another, and a frozen session goes on where it is. -/
def switchDropped (q : PolderId) (j : SwitchJob) (s : State) : State :=
  let n := portAt q j.pos
  let s := s.onPolder q fun P =>
    { P with
      culv := P.culv.set j.pos { P.culv[j.pos] with switching := false },
      switching := P.switching.filter fun x => x.pos ≠ j.pos }
  match j.kind with
  | .fault => if s.ports[n].place.migrating then s.findRegion q j.pos (s.polders[q].regionAt j.pos).slot j.cause else s
  | .give => s.spareFreed q
  | .command => if s.polders[q].prepared = some (j.pos, j.region) then s.unprepare q else s
  | _ => (if s.ports[n].place.prepared then s.setPort n s.ports[n].unfreeze else s).spareFreed q

/-- What follows from a region being left by a switch: the region of a fault migration is tried, one reported for REPEAT is
spoiled, and a session does not go back to one that it has left by a planned migration (R257, R267, R272). -/
def regionLeft (q : PolderId) (j : SwitchJob) (o : RegionId) (s : State) : State :=
  let p := s.ports[portAt q j.pos]
  let s := match j.kind with
    | .fault => s.quarryEvent 1#4 1#4 (regionId q o.val) j.cause
    | .planned => s.quarryEvent 1#4 1#4 (regionId q o.val) 2#4
    | .back => s.quarryEvent 6#4 1#4 (regionId q j.region.val) 0#4
    | _ => s
  let s := if o = j.region then s else s.repeatLeft q o.val
  let planned : Bool := j.kind = .command || j.kind = .back
  let s := if planned && o ≠ j.region && p.attached then
      s.onPolder q fun P => P.onRegion o.val fun R => { R with
        left := (j.pos, p.tc.attachCnt) :: R.left.filter fun x => x.1 ≠ j.pos }
    else s
  let s := if j.kind = .fault then s.startTrial q o false else s
  (s.takeBack q j.pos).spareFreed q

/-- CULVERT_SWITCH_COMPLETE: the region left becomes READY, the region joined, which must be READY still, SERVING, and the
sluice set that its descriptor names is in force (R238, R243). A migration or hop cuts the session over; a port given a
region leaves its park (R264 to R272). -/
def switchComplete (q : PolderId) (pos : PosId) (s : State) : State :=
  match s.polders[q].switching.find? fun j => j.pos = pos with
  | none => s
  | some j =>
    let n := portAt q pos
    let P := s.polders[q]
    let old := P.culv[pos].region.toNat
    let slot := P.regions[j.region].slot
    let r : BitVec 6 := BitVec.ofNat 6 j.region.val
    if P.regions[j.region].st ≠ .ready then s.switchDropped q j
    else
    let s := s.onPolder q fun P =>
      let P := P.onRegion old fun R => { R with st := if R.st = .serving then .ready else R.st, isolated := false }
      let P := P.onRegion j.region.val fun R => { R with st := .serving, isolated := false }
      { P with
        culv := P.culv.set pos { region := r, switching := false, slot := slot },
        switching := P.switching.filter fun x => x.pos ≠ pos,
        prepared := if P.prepared = some (pos, j.region) then none else P.prepared }
    let p := s.ports[n]
    let s := s.setPort n { p with fe := { p.fe with set := s.store.slots[slot.toNat].set } }
    let p := s.ports[n]
    let s : State :=
      if j.kind = .give then s.giveOn n r
      else if p.pfault.oos then s.setPort n { p with place := { p.place with region := r } }
      else if p.place.migrating ∨ p.place.prepared then
        let e := { s.env n with regionUp := true }
        s.setPort n (s.checkpointed n (p.cutOver e r (s.tidAt n) (j.kind = .fault)))
      else s.startOn n r
    let s := (s.applyClass n).gaugeFollow n
    if h : old < 56 then s.regionLeft q j ⟨old, h⟩ else s

/-- COMMON_SWITCH_TICK: the standby half becomes active with the time base and sample indices of the former one, which
becomes standby and stays loaded (R230). A LOAD or UNLOAD of the standby half while SW_PEND stands is taken, and a switch that
is due while that half is not READY is dropped, which is the model's choice (log entry 221). -/
def commonSwitchTick (q : PolderId) (s : State) : State :=
  s.onPolder q fun P =>
    if P.swPend ∧ P.standby.st = .ready then
      let flip (b : Bool) (H : Half) : Half := { H with st := if b then .serving else .ready }
      { P with
        swPend := false, commonB := !P.commonB,
        halfA := flip P.commonB P.halfA, halfB := flip (!P.commonB) P.halfB }
    else { P with swPend := false }

/-- POLDER_TICK: the 1 ms tick of the time base of the active half, which frames its monitor samples into queue 241 (R229). -/
def polderTick (q : PolderId) (ntc : Option (BitVec 12)) (die : BitVec 12) (s : State) : State :=
  let s := if s.polders[q].active.st = .serving then s.supNote 1 else s
  s.onPolder q fun P =>
    let P : Polder := { P with temp := { P.temp with die := die } }
    let P : Polder := match ntc with
      | some t => { P with temp := { P.temp with ntc := t }, stat := { P.stat with ntcFault := false } }
      | none => P
    if P.active.st = .serving then { P with timeUs := P.timeUs + 1000#24 } else P

/-- A corrected frame (Table 8.11): CORR advances, FAB_SCRUB_CORR is written; `hour`: an earlier correction of the
region lies within the last hour. -/
def scrubCorrected (q : PolderId) (a : Nat) (hour : Bool) (s : State) : State :=
  let s := s.onPolder q fun P => { P with scrub := { P.scrub with corr := satInc P.scrub.corr } }
  let pl := pay 0 (BitVec.ofNat 2 q.val) ||| pay 2 (BitVec.ofNat 14 a)
  match FrameAt.of a with
  | .half _ _ => s.fabEvent 3#6 pl
  | .region r _ =>
    let R := s.polders[q].regions[r]
    let again := R.corrected && hour
    let s := s.fabEvent 3#6 (pl ||| payB 16 again)
    let s := s.onPolder q fun P => P.onRegion r.val fun R => { R with
      corrected := true, trial := match R.trial with | .watching _ => .watching true | t => t }
    if again ∧ R.st = .serving then
      match (List.finRange 48).find? fun p => s.polders[q].culv[p].region.toNat = r.val with
      | some p => if s.ports[portAt q p].pfault.oos then s else s.repeatFault q p
      | none => s
    else s

/-- The slot that the supervisor loads a standby half from: that of the active half, or the first VALID common slot
(log entry 192). -/
def commonSource (s : State) (q : PolderId) : Option (BitVec 4) :=
  let own := s.polders[q].active.slot
  if s.slotOk own true then some own
  else ((List.range 16).map (BitVec.ofNat 4)).find? fun t => s.slotOk t true

/-- The active half has an uncorrectable frame while its standby holds another image or none: the supervisor loads the standby
from the common slot and switches (Table 8.11). -/
def commonRescue (q : PolderId) (s : State) : State :=
  let P := s.polders[q]
  if !s.roleRuns 13#5 || s.isSpoiled 7#4 (halfId q !P.commonB) ||
      (P.load.toList ++ P.waiting).any (fun j => j.purpose = Purpose.common) then s
  else match s.commonSource q with
    | some t => s.startLoad q { target := none, slot := t, unload := false, purpose := .common }
    | none => s

/-- An uncorrectable frame (Table 8.11): UNCORR advances, FAB_SCRUB_UNCORR is written, and a region is reported
failing: a SERVING one is left by a fault migration, another with content is tried (Tables 9.2 and 9.11). The active
half with SAME is switched at the next tick, without it replaced by the supervisor; a standby half is set EMPTY, which does
not change REFS (R231). -/
def scrubUncorrectable (q : PolderId) (a : Nat) (s : State) : State :=
  let s := s.onPolder q fun P => { P with scrub := { P.scrub with uncorr := satInc P.scrub.uncorr } }
  let s := s.fabEvent 4#6 (pay 0 (BitVec.ofNat 2 q.val) ||| pay 2 (BitVec.ofNat 14 a))
  match FrameAt.of a with
  | .half b _ =>
    let P := s.polders[q]
    if b = P.commonB then (if P.same then s.onPolder q fun P => { P with swPend := true } else s.commonRescue q)
    else
      s.onPolder q fun P => P.onStandby fun H => { H with st := .empty, frames := [] }
  | .region r _ =>
    let R := s.polders[q].regions[r]
    let s := s.onPolder q fun P => P.onRegion r.val fun R => { R with
      failing := true, trial := match R.trial with | .watching _ => .watching true | t => t }
    match R.st with
    | .serving =>
      match (List.finRange 48).find? fun p => s.polders[q].culv[p].region.toNat = r.val with
      | some p => s.regionFault q p 1#4 false
      | none => s
    | .ready => if R.trial = .none then s.idleRegionFault q r else s
    | _ => s

/-- FABRIC_SCRUB_READ: the next frame is read, corrected or reported; `upset` is what has changed in the stored frame
since it was written or last read (R20, R245, R247). -/
def fabricScrub (q : PolderId) (upset : BitVec 112) (hour : Bool) (s : State) : State :=
  let (a, P) := s.polders[q].scrubStep
  let s := s.onPolder q fun _ => P
  let put (v : BitVec 112) (P : Polder) : Polder := match FrameAt.of a with
    | .region r f => P.onRegion r.val fun R => { R with frames := setRow 288 R.frames f v }
    | .half b f =>
      if b then { P with halfB := { P.halfB with frames := setRow 128 P.halfB.frames f v } }
      else { P with halfA := { P.halfA with frames := setRow 128 P.halfA.frames f v } }
  let x : BitVec 112 := (match FrameAt.of a with
    | .region r f => rowAt P.regions[r].frames f
    | .half b f => rowAt (if b then P.halfB else P.halfA).frames f) ^^^ upset
  match rowRead 24 4 x with
  | .clean y => s.onPolder q (put y)
  | .corrected y => (s.onPolder q (put y)).scrubCorrected q a hour
  | .bad => (s.onPolder q (put x)).scrubUncorrectable q a

/-- STORE_SCRUB_READ: the next row, 289 a slot; a row with one bad symbol is corrected, one with two makes its slot BAD
(R246, R247); an error taken for none or for another stands in the slot's words (R20). -/
def storeScrub (upset : BitVec 112) (s : State) : State :=
  let row := s.store.scrubRow
  let s := { s with store := { s.store with scrubRow := (row + 1) % 4624 } }
  let t := row / 289
  match foundIn 24 4 0#96 upset with
  | .many =>
    if h : t < 16 then
      let s := (s.onSlot ⟨t, h⟩ fun x => { x with st := .bad }).slotLeft ⟨t, h⟩
      let s := { s with store := { s.store with stat := { s.store.stat with storeUncorr := true } } }
      s.fabEvent 5#6 (pay 0 (BitVec.ofNat 4 t) ||| pay 4 (BitVec.ofNat 9 (row % 289)))
    else s
  | _ => if h : t < 16 then s.onSlot ⟨t, h⟩ fun x => { x with words := slipRow (row % 289) (slip 24 4 upset) x.words } else s

end State

end Sys2Proof.Machine
end

