-- ==== Sys2Proof/Machine/Fuse.lean ====
section
/-! DEFINITION. The fuse array: its layout, sensing and the start-time checks, programming with spare slots, locking,
revocation, the margin scrub and the spoil ledger (spec/15_fuses_secure_start.md R400 to R416,
spec/09_quarry_migration.md R280). -/

namespace Sys2Proof.Machine

/-- First offset of a region in a bank (Table 15.1). -/
def regionBase (r : Nat) : Nat :=
  match r with | 0 => 0x000 | 1 => 0x020 | 2 => 0x028 | 3 => 0x048 | 4 => 0x058 | _ => 0x078

/-- Words of a region (Table 15.1). -/
def regionLen (r : Nat) : Nat :=
  match r with | 0 => 32 | 1 => 8 | 2 => 32 | 3 => 16 | 4 => 32 | _ => 48

/-- The region of a word, by its offset in the bank (Table 15.1). -/
def regionOf (off : Nat) : Option Nat :=
  (List.range 6).find? fun r => decide (regionBase r ≤ off) && decide (off < regionBase r + regionLen r)

/-- Whether a word of the array is a secret word (R404). -/
def isSecret (a : Nat) : Bool := regionOf (a % 256) = some 3

/-- The tag of a spare slot that names a word (R406). -/
def spareTagWord (a : Nat) : Word :=
  let x := BitVec.ofNat 9 a
  x.setWidth 32 ||| (~~~x).setWidth 32 <<< 9

/-- The address of the tag word of a spare slot of a bank; its value word follows (Table 15.1). -/
def slotAddr (bank j : Nat) : Nat := bank * 256 + 0xC4 + 2 * j

/-- The address of a ledger word, 0 to 63 (Table 15.1). -/
def ledgerAddr (i : Nat) : Nat := if i < 32 then 0xE0 + i else 256 + 0xE0 + (i - 32)

/-- What a normal read of a fuse word finds: its value, if correctable, and whether it needed correction (R403). -/
structure FuseRead where
  value : Option Word
  corrected : Bool
  spared : Bool
deriving DecidableEq, Repr

/-- The read of 44 raw bits. -/
def readFuse (row : BitVec 44) : FuseRead :=
  if row = 0#44 then { value := some 0#32, corrected := false, spared := false }
  else match rowRead 8 3 row with
    | .clean r => { value := some (fld r 0 32), corrected := false, spared := false }
    | .corrected r => { value := some (fld r 0 32), corrected := true, spared := false }
    | .bad => { value := none, corrected := false, spared := false }

namespace Fuses

/-- The raw bits of a word as blown. -/
def word (f : Fuses) (a : Nat) : BitVec 44 := Mem.read 0#44 f.raw a

/-- The array as sense amplifiers read it: the words of `up` read with some bits changed. -/
def sensed (f : Fuses) (up : List (Nat × BitVec 44)) (a : Nat) : BitVec 44 :=
  f.word a ^^^ ((up.find? fun x => x.1 = a).map (·.2)).getD 0#44

/-- The words that valid spare slots of a bank name, slot 0 first, each with its slot (R406). -/
def spareMap (rd : Nat → BitVec 44) (bank : Nat) : List (Nat × Nat) :=
  (List.range 12).filterMap fun j =>
    match (readFuse (rd (slotAddr bank j))).value with
    | some t =>
      let a := (fld t 0 9).toNat
      if t ≠ 0#32 ∧ fld t 9 9 = ~~~fld t 0 9 ∧ a / 256 = bank then some (a, j) else none
    | none => none

/-- A word with its spare slot applied; of several slots the highest-numbered wins (R406). -/
def readWith (rd : Nat → BitVec 44) (m : List (Nat × Nat)) (a : Nat) : FuseRead :=
  match (m.filter fun x => x.1 = a).getLast? with
  | some (_, j) => { readFuse (rd (slotAddr (a / 256) j + 1)) with spared := true }
  | none => readFuse (rd a)

/-- The words of the array as fuses stand now. -/
def logical (f : Fuses) (a : Nat) : FuseRead := readWith f.word (spareMap f.word (a / 256)) a

/-- Whether a word has been programmed, by its own fuses or in a spare slot. -/
def programmed (f : Fuses) (a : Nat) : Bool := f.word a ≠ 0#44 || (f.logical a).spared

/-- Whether a copy of a region is locked: any of its digest words is programmed (R408). -/
def lockedNow (f : Fuses) (bank r : Nat) : Bool :=
  (List.range 4).any fun i => f.programmed (bank * 256 + 0xA8 + 4 * r + i)

/-- A shadow (R403). -/
def shadowAt (f : Fuses) (a : Nat) : Word := Mem.read 0#32 f.shadow a

/-- A secret word as only the crypto engine has it (R404, R405). -/
def secret (f : Fuses) (i : Nat) : Word :=
  let v := f.shadowAt (regionBase 3 + i)
  if v = 0#32 then 0#32 else v ^^^ Config.dieMask ((List.range 32).map f.shadowAt) (regionBase 3 + i)

/-- The value that is blown for a value to program: a secret word is scrambled first (R405). -/
def blownValue (f : Fuses) (a : Nat) (v : Word) : Word :=
  if isSecret a then v ^^^ Config.dieMask ((List.range 32).map f.shadowAt) (a % 256) else v

/-- The system link secret as bytes, lowest byte of word 0 first (Table 15.1). -/
def linkSecret (f : Fuses) : List Byte := (List.range 8).flatMap fun i => leBytes (f.secret i)

/-- The flash-record key as bytes (Table 15.1). -/
def flashKey (f : Fuses) : List Byte := (List.range 8).flatMap fun i => leBytes (f.secret (8 + i))

/-- The free spare slots of a bank: nothing blown in either word. -/
def freeSlots (f : Fuses) (bank : Nat) : List Nat :=
  (List.range 12).filter fun j => f.word (slotAddr bank j) = 0#44 && f.word (slotAddr bank j + 1) = 0#44

/-- FZ_SPARE counted afresh. -/
def countSpares (f : Fuses) : Fuses :=
  { f with spare := { f.spare with freeA := BitVec.ofNat 4 (f.freeSlots 0).length,
                                   freeB := BitVec.ofNat 4 (f.freeSlots 1).length } }

/-- FZ_REG (Table 15.7). -/
def readReg (f : Fuses) : Word :=
  (List.range 6).foldl (fun w r => w ||| putF (4 * r) (f.region.toList.getD r 0#4)) 0#32

/-- Whether a word holds the value of a spare slot that stands for a secret word (R404, R406). -/
def spareOfSecret (f : Fuses) (a : Nat) : Bool :=
  let off := a % 256
  decide (0xC4 ≤ off ∧ off ≤ 0xDB ∧ off % 2 = 1) &&
    (spareMap f.word (a / 256)).any fun x => slotAddr (a / 256) x.2 + 1 = a && isSecret x.1

/-- FZ_RDATA: 0 for secret words (R404). -/
def readData (f : Fuses) : Word :=
  let a := f.raddr.toNat
  if isSecret a || f.spareOfSecret a then 0#32 else f.shadowAt a

/-- FZ_RSTAT of a word. -/
def rstatOf (f : Fuses) (a : Nat) : BitVec 5 := Mem.read 0#5 f.rstat a

-- Start (R403, R412, R413)

/-- What the start decides from the fuses (R412, R413). -/
inductive StartOutcome where
  | ok
  | stay (region : Nat)
  | hold
deriving DecidableEq, Repr

/-- Whether the words of a copy all pass correction and its digest matches (R412). -/
def copyGood (rd : Nat → FuseRead) (bank r : Nat) : Bool :=
  let ws := (List.range (regionLen r)).map fun i => (rd (bank * 256 + regionBase r + i)).value
  let dg := (List.range 4).map fun i => (rd (bank * 256 + 0xA8 + 4 * r + i)).value
  ws.all Option.isSome && dg == (regionDigest r (ws.map (·.getD 0#32))).map some

/-- The start-time sensing and the checks of regions 0 to 5 (R403, R406, R412): shadows, FZ_RSTAT, FZ_REG, FZ_STAT,
and the outcome. -/
def start (up : List (Nat × BitVec 44)) (f : Fuses) : Fuses × StartOutcome :=
  let raw := f.sensed up
  let m0 := spareMap raw 0
  let m1 := spareMap raw 1
  let rd (a : Nat) : FuseRead := readWith raw (if a < 256 then m0 else m1) a
  let lockedIn (bank r : Nat) : Bool := (List.range 4).any fun i =>
    let a := bank * 256 + 0xA8 + 4 * r + i
    raw a ≠ 0#44 || (rd a).spared
  let info := (List.range 6).map fun r =>
    let la := lockedIn 0 r
    let lb := lockedIn 1 r
    let pa := la && copyGood rd 0 r
    let pb := lb && copyGood rd 1 r
    (la, lb, pa, pb)
  let useOf (r : Nat) : Bool × Bool × Bool × Bool := info.getD r (false, false, false, false)
  let copyB (r : Nat) : Bool := !(useOf r).2.2.1 && (useOf r).2.2.2
  let unlocked (r : Nat) : Bool := !(useOf r).1 && !(useOf r).2.1
  let val (a : Nat) : Word :=
    match regionOf (a % 256) with
    | some r =>
      let a' := a % 256
      if unlocked r then
        (match (rd a').value with | some v => v | none => (rd (256 + a')).value.getD 0#32)
      else if copyB r then (rd (256 + a')).value.getD 0#32
      else (rd a').value.getD 0#32
    | none => (rd a).value.getD 0#32
  let shadow : Mem 32 := (List.range 512).filterMap fun a => let v := val a; if v = 0#32 then none else some (a, v)
  let rstat : Mem 5 := (List.range 512).filterMap fun a =>
    let x := rd a
    let w : BitVec 5 := (if x.corrected then 4#5 else 0#5) ||| (if x.spared then 8#5 else 0#5) |||
      (if x.value.isNone then 16#5 else 0#5)
    if w = 0#5 then none else some (a, w)
  let f := { f with shadow := shadow, rstat := rstat, scrubNext := 0, job := none }
  let present (k : Nat) : Bool := (List.range 8).any fun i => f.shadowAt (0x28 + 8 * k + i) ≠ 0#32
  let revoked (k : Nat) : Bool :=
    raw (0xC0 + k) ≠ 0#44 || raw (256 + 0xC0 + k) ≠ 0#44 || (rd (0xC0 + k)).spared || (rd (256 + 0xC0 + k)).spared
  let mask (p : Nat → Bool) : BitVec 4 :=
    (List.range 4).foldl (fun w k => if p k then w ||| (1#4 <<< k) else w) 0#4
  let live := (List.range 4).any fun k => present k && !revoked k
  let sparse (r : Nat) : Bool := (useOf r).1 && (useOf r).2.1 &&
    (List.range (regionLen r)).any fun i => val (regionBase r + i) = 0#32
  let bad := (List.range 6).find? fun r =>
    if unlocked r then decide (r = 0 ∨ r = 1 ∨ r = 5) else !(useOf r).2.2.1 && !(useOf r).2.2.2
  let hold := unlocked 2 || !live
  let stat : FzStat := { FzStat.reset with
    provHold := hold && bad.isNone,
    scrap := bad.isNone && !unlocked 2 && !live,
    copyBUsed := (List.range 6).any copyB,
    cfgUnlocked := unlocked 4,
    secretsAbsent := unlocked 3,
    keysPresent := mask present,
    keysRevoked := mask revoked }
  let region : Vector (BitVec 4) 6 := Vector.ofFn fun r : Fin 6 =>
    let b (i : Nat) (x : Bool) : BitVec 4 := if x then 1#4 <<< i else 0#4
    b 0 (useOf r.val).1 ||| b 1 (useOf r.val).2.1 ||| b 2 (copyB r.val) ||| b 3 (sparse r.val)
  let f := { f with stat := stat, region := region, cmdStat := FzCmdStat.reset, wdata := 0#32, rawData := 0#32,
                    raddr := 0#9, scrub := FzScrub.reset, failed := bad }.countSpares
  (f, match bad with | some r => .stay r | none => if hold then .hold else .ok)

/-- The live key slots: present and not revoked at the start (R410). An unlocked region leaves the device in
provisioning-hold, where no key is used (R411, R413). -/
def liveSlots (f : Fuses) : List Nat :=
  (List.range 4).filter fun k => bit f.stat.keysPresent k && !bit f.stat.keysRevoked k

/-- The digest of a key slot as bytes, first hash byte in [7:0] of the first word (Table 15.1). -/
def keyDigest (f : Fuses) (k : Nat) : List Byte :=
  (List.range 8).flatMap fun i => leBytes (f.shadowAt (0x28 + 8 * k + i))

-- Commands

/-- A command refused (Table 15.7). -/
def refuse (err : BitVec 4) (f : Fuses) : Fuses := { f with cmdStat := { f.cmdStat with refused := true, err := err } }

/-- A command completed. -/
def done (f : Fuses) : Fuses := { f with cmdStat := { f.cmdStat with busy := false, done := true, err := 0#4 } }

/-- The steps of a command start, or it completes at once. -/
def begin (steps : List FzStep) (f : Fuses) : Fuses :=
  match steps with
  | [] => f.done
  | x :: rest => { f with job := some { now := x, next := rest, command := true },
                          cmdStat := { f.cmdStat with busy := true } }

/-- The address of the word that a step programs. -/
def stepAddr : FzStep → Nat
  | .word a _ => a
  | .spareVal j a _ => slotAddr (a / 256) j + 1
  | .spareTag j a _ => slotAddr (a / 256) j
  | .ledger a _ => a

/-- The value that a step programs. -/
def stepValue : FzStep → Word
  | .word _ v => v
  | .spareVal _ _ v => v
  | .spareTag _ a _ => spareTagWord a
  | .ledger _ v => v

/-- The value of a word goes to the first free slot after those tried; without one the command ends with ERR 5
(R406). -/
def toSpare (a : Nat) (v : Word) (tried : Nat) (j : FzJob) (f : Fuses) : Fuses :=
  match (f.freeSlots (a / 256)).find? fun k => tried ≤ k with
  | some k => { f with job := some { j with now := .spareVal k a v } }
  | none =>
    { f with job := none,
             stat := { f.stat with sparesOut := true },
             cmdStat := { f.cmdStat with busy := false, refused := true, err := 5#4 } }

/-- The next step of a job, or its end. -/
def advance (j : FzJob) (f : Fuses) : Fuses :=
  match j.next with
  | x :: rest => { f with job := some { j with now := x, next := rest } }
  | [] => if j.command then { f with job := none }.done else { f with job := none }

/-- READ: the raw word, 0 for secret words (R404, R416). -/
def readRaw (a : Nat) (row : BitVec 44) (f : Fuses) : Fuses :=
  let row := if isSecret a || f.spareOfSecret a then 0#44 else row
  { f with rawData := fld row 0 32, cmdStat := { f.cmdStat with rawChk := fld row 32 12 } }.done

/-- One scrub read, with the bits in which the two raw reads differ from the word as blown (R414). -/
def scrubRead (normal strict : BitVec 44) (f : Fuses) : Fuses :=
  let a := f.scrubNext
  let f := { f with scrubNext := if a = 511 then 0 else a + 1 }
  if (match f.job with | some j => decide (stepAddr j.now = a) | none => false) then f
  else
    let n := f.word a ^^^ normal
    let t := f.word a ^^^ strict
    let rn := readFuse n
    let rt := readFuse t
    let f := { f with scrub := { f.scrub with pos := BitVec.ofNat 9 a } }
    let needs (r : FuseRead) : Bool := r.corrected || r.value.isNone
    if n ≠ t || needs rn || needs rt then
      let sh := some (f.shadowAt a)
      let old := f.rstatOf a
      if rn.value = sh ∧ rt.value = sh then
        { f with rstat := Mem.write 0#5 a ((old &&& 0x1C#5) ||| 1#5) f.rstat,
                 stat := { f.stat with weakCorrected := true },
                 scrub := { f.scrub with wcorrCnt := satInc f.scrub.wcorrCnt } }
      else
        { f with rstat := Mem.write 0#5 a ((old &&& 0x1C#5) ||| 2#5) f.rstat,
                 stat := { f.stat with weak := true },
                 scrub := { f.scrub with weakCnt := satInc f.scrub.weakCnt } }
    else f

end Fuses

namespace State

/-- The fuse block changed. -/
def onFuses (f : Fuses → Fuses) (s : State) : State := { s with fz := f s.fz }

/-- Whether the control die serves the FZ_ registers: not in the island, in which they read 0 (R463). -/
def fusesUp (s : State) : Bool := s.sys.mode = .run || s.sys.mode = .provHold

/-- A source that Table 15.3 names for a command: TW_H where it may, as which a remote access acts (R360), and the supervisor
role. -/
def fuseSource (s : State) (src : Src) (host : Bool) : Bool :=
  match src with
  | .host | .remote => host
  | .core _ => s.fromSup src

/-- The junction temperature lies between −20 °C and +85 °C, as SYS_TEMP reports it (R407). -/
def fuseTempOk (s : State) : Bool := decide (200 ≤ s.sys.temp.die.toNat) && decide (s.sys.temp.die.toNat ≤ 1250)

/-- Why programming is not accepted, in the order of R407; 0 where it is. -/
def fuseErr (s : State) (sourceOk : Bool) : BitVec 4 :=
  if 3#3 < s.sh.stat.stage then 3#4
  else if !s.fuseTempOk then 4#4
  else if s.fz.job.isSome then 9#4
  else if !sourceOk then 1#4
  else 0#4

/-- PROGRAM: a word of regions 2, 3 and 4 while both copies are unlocked, copy A, then copy B (R405, R407). -/
def fuseProgram (src : Src) (addr : BitVec 9) (s : State) : State :=
  if !s.fusesUp then s
  else
    let f := s.fz
    let off := addr.toNat % 256
    let r := (regionOf off).getD 0
    let target := decide (2 ≤ r ∧ r ≤ 4) && !f.lockedNow 0 r && !f.lockedNow 1 r
    let err := s.fuseErr (s.fuseSource src true && target)
    if err ≠ 0#4 then s.onFuses (·.refuse err)
    else if f.wdata = 0#32 then s.onFuses (·.done)
    else
      let v := f.blownValue off f.wdata
      let todo (a : Nat) : Option (List FzStep) :=
        if !f.programmed a then some [.word a v]
        else if (f.logical a).value = some v then some []
        else none
      match todo off, todo (256 + off) with
      | some xs, some ys => s.onFuses (·.begin (xs ++ ys))
      | _, _ => s.onFuses (·.refuse 2#4)

/-- LOCK: both copies are compared and the digests programmed; `up` is what the sense amplifiers read wrong
(R409). -/
def fuseLock (src : Src) (region : BitVec 9) (up : List (Nat × BitVec 44)) (s : State) : State :=
  if !s.fusesUp then s
  else
    let f := s.fz
    let r := region.toNat
    let err := s.fuseErr (s.fuseSource src true && decide (r ≤ 5))
    if err ≠ 0#4 then s.onFuses (·.refuse err)
    else if f.lockedNow 0 r && f.lockedNow 1 r then s.onFuses (·.refuse 8#4)
    else
      let raw := f.sensed up
      let rd (a : Nat) : Option Word := (Fuses.readWith raw (Fuses.spareMap raw (a / 256)) a).value
      let copy (bank : Nat) : List (Option Word) := (List.range (regionLen r)).map fun i => rd (bank * 256 + regionBase r + i)
      let a := copy 0
      if !(a.all Option.isSome) || a ≠ copy 1 then s.onFuses (·.refuse 6#4)
      else
        let dg := regionDigest r (a.map (·.getD 0#32))
        let steps (bank : Nat) : List FzStep :=
          if f.lockedNow bank r then []
          else (dg.mapIdx fun i w => FzStep.word (bank * 256 + 0xA8 + 4 * r + i) w).filter fun x => Fuses.stepValue x ≠ 0#32
        s.onFuses (·.begin (steps 0 ++ steps 1))

/-- REVOKE, from the supervisor role; the last slot that would remain live is refused (R411). -/
def fuseRevoke (src : Src) (slot : BitVec 9) (s : State) : State :=
  if !s.fusesUp then s
  else
    let f := s.fz
    let k := slot.toNat
    let err := s.fuseErr (s.fuseSource src false && decide (k < 4))
    if err ≠ 0#4 then s.onFuses (·.refuse err)
    else
      let pend (i : Nat) : Bool := f.programmed (0xC0 + i) || f.programmed (256 + 0xC0 + i)
      let remain := f.liveSlots.filter fun i => !pend i
      if remain = [k] then s.onFuses (·.refuse 7#4)
      else
        let todo (a : Nat) : List FzStep := if f.programmed a then [] else [.word a 0xFFFFFFFF#32]
        s.onFuses fun f => { f with stat := { f.stat with revokePend := true } }.begin (todo (0xC0 + k) ++ todo (256 + 0xC0 + k))

/-- READ at either margin; `upset` is in which bits the read differs from the word as blown (R416). -/
def fuseRead (src : Src) (addr : BitVec 9) (upset : BitVec 44) (s : State) : State :=
  if !s.fusesUp then s
  else if !s.fuseSource src true then s.onFuses (·.refuse 1#4)
  else if s.fz.job.isSome then s.onFuses (·.refuse 9#4)
  else s.onFuses (·.readRaw addr.toNat (s.fz.word addr.toNat ^^^ upset))

/-- A ledger word has been tried: a good one ends the entry; a bad one counts, and the entry goes on to the next empty word
(R280). -/
def ledgerTried (ok : Bool) (s : State) : State :=
  let q := s.qy
  let next := (List.range 64).find? fun i => decide (q.ledgerAt < i) && decide (s.fz.word (ledgerAddr i) = 0#44)
  { s with qy := { q with
    ledgerAt := next.getD 64,
    held := if ok then q.held.drop 1 else q.held,
    spoil := { q.spoil with ledgerUsed := if q.spoil.ledgerUsed < 64#7 then q.spoil.ledgerUsed + 1#7 else q.spoil.ledgerUsed,
                            badWords := if ok then q.spoil.badWords else satInc q.spoil.badWords } } }

/-- FUSE_PROGRAM_DONE: the word program in hand ends and the strict read returns `got`, which must be the codeword
exactly (R405, R406). The word keeps those bits. -/
def fuseProgramDone (got : BitVec 44) (s : State) : State :=
  match s.fz.job with
  | none => s
  | some j =>
    let a := Fuses.stepAddr j.now
    let ok := decide (got = fuseRow (Fuses.stepValue j.now))
    let s := s.onFuses fun f => { f with raw := Mem.write 0#44 a got f.raw }.countSpares
    let s := match j.now with
      | .word a v => if ok then s.onFuses (·.advance j) else s.onFuses (·.toSpare a v 0 j)
      | .spareVal k a v =>
        if ok then s.onFuses fun f => { f with job := some { j with now := .spareTag k a v } }
        else s.onFuses (·.toSpare a v (k + 1) j)
      | .spareTag k a v =>
        if ok then s.onFuses fun f => { f with cmdStat := { f.cmdStat with spared := true } }.advance j
        else s.onFuses (·.toSpare a v (k + 1) j)
      | .ledger _ _ => (s.onFuses fun f => { f with job := none }).ledgerTried ok
    s.onFuses (·.countSpares)

/-- A held spoil entry starts its ledger write (R280). -/
def ledgerWrite (v : Word) (s : State) : State :=
  s.onFuses fun f =>
    { f with job := some { now := .ledger (ledgerAddr s.qy.ledgerAt) v, next := [], command := false } }

end State

end Sys2Proof.Machine
end

