-- ==== Sys2Proof/Machine/FlashOps.lean ====
section
/-! DEFINITION. The flash: the controller and its queues 236 to 239, bytes and erases, two-slot records, the bank
record, the spoil records and the log (spec/17_flash_update.md R439 to R446, spec/09_quarry_migration.md R280). -/

namespace Sys2Proof.Machine

/-- A little-endian number of bytes. -/
def leNat : List Byte → Nat
  | [] => 0
  | b :: rest => b.toNat + 256 * leNat rest

/-- A number as `n` bytes, lowest first. -/
def natBytes (n v : Nat) : List Byte := (List.range n).map fun i => BitVec.ofNat 8 (v / 256 ^ i)

/-- Bytes from `a` on, `n` of them; bytes past the end are missing. -/
def cut (a n : Nat) (bs : List Byte) : List Byte := (bs.drop a).take n

/-- A number in a list of bytes. -/
def numAt (a n : Nat) (bs : List Byte) : Nat := leNat (cut a n bs)

/-- A payload of four bytes, first in [7:0] (Table 17.1). -/
def dataWord (bs : List Byte) : W36 := (leWord bs).setWidth 36

/-- Bytes as queue payloads of four bytes each. -/
def dataWords : List Byte → List W36
  | a :: b :: c :: d :: rest => dataWord [a, b, c, d] :: dataWords rest
  | [] => []
  | rest => [dataWord rest]

/-- A flash command as it stands in queue 236 (Table 17.1). -/
def flCmdWord (op : BitVec 3) (addr : BitVec 24) (n : BitVec 9) : W36 := pay 0 op ||| pay 3 addr ||| pay 27 n

/-- The entry of queue 239 that ends a command (Table 17.1). -/
def flStatusWord (op : BitVec 3) (done refused verify cutOff : Bool) : W36 :=
  pay 0 op ||| payB 3 done ||| payB 4 refused ||| payB 5 verify ||| payB 6 cutOff

namespace Flash

/-- Bytes of the flash. -/
def bytes (a n : Nat) (f : Flash) : List Byte := Mem.readList 0xFF#8 a n f.mem

/-- A program only clears bits of a NOR flash. -/
def put (a : Nat) (bs : List Byte) (f : Flash) : Flash :=
  { f with mem := Mem.writeList 0xFF#8 a ((f.bytes a bs.length).zipWith (· &&& ·) bs) f.mem }

/-- An erase. -/
def erase (a n : Nat) (f : Flash) : Flash := { f with mem := Mem.clear a n f.mem }

/-- Whether a range is blank. -/
def blank (a n : Nat) (f : Flash) : Bool := !(f.mem.any fun x => decide (a ≤ x.1) && decide (x.1 < a + n))

/-- What a cut command leaves in its range (log entry 24). -/
def spoilRange (k a n : Nat) (f : Flash) : Flash :=
  { f with mem := Mem.writeList 0xFF#8 a ((List.range n).map fun i => Config.cutByte k (a + i)) f.mem }

-- Two-slot records (R442)

/-- The kind of a two-slot record: positions a slot, their size, and the sequence of a good position. -/
structure RecKind where
  count : Nat
  size : Nat
  seqOf : List Byte → Option Nat

/-- Whether sequence x comes after y, in serial arithmetic modulo 2^32 (R219). -/
def after (x y : Nat) : Bool := decide (0 < (x + 2 ^ 32 - y % 2 ^ 32) % 2 ^ 32 ∧ (x + 2 ^ 32 - y % 2 ^ 32) % 2 ^ 32 < 2 ^ 31)

/-- The good position of a slot with the highest sequence: its sequence and its bytes (R442). -/
def slotContent (k : RecKind) (base : Nat) (f : Flash) : Option (Nat × List Byte) :=
  if f.blank base 4096 then none
  else (List.range k.count).foldl (fun best i =>
    let bs := f.bytes (base + i * k.size) k.size
    match k.seqOf bs, best with
    | some q, some (b, x) => if after q b then some (q, bs) else some (b, x)
    | some q, none => some (q, bs)
    | none, best => best) none

/-- The value of a record: the newer of the contents of its slots, and whether that is slot B (R219, R442). -/
def recordAt (k : RecKind) (base : Nat) (f : Flash) : Option (Nat × List Byte × Bool) :=
  match f.slotContent k base, f.slotContent k (base + 0x1000) with
  | some (x, a), some (y, b) => if after y x then some (y, b, true) else some (x, a, false)
  | some (x, a), none => some (x, a, false)
  | none, some (y, b) => some (y, b, true)
  | none, none => none

/-- The next blank position of a slot. -/
def nextBlank (k : RecKind) (base : Nat) (f : Flash) : Option Nat :=
  (List.range k.count).find? fun i => f.blank (base + i * k.size) (4096 / k.count)

/-- A record is written to the next blank position of the older slot; the other slot is erased at once when it has no
blank position left (R442). -/
def writeRecord (k : RecKind) (base : Nat) (bs : List Byte) (f : Flash) : Flash :=
  let toB := match f.recordAt k base with | some (_, _, isB) => !isB | none => false
  let slot := if toB then base + 0x1000 else base
  let other := if toB then base else base + 0x1000
  let f := if (f.nextBlank k slot).isNone then f.erase slot 4096 else f
  let f := f.put (slot + (f.nextBlank k slot).getD 0 * k.size) bs
  if (f.nextBlank k other).isNone then f.erase other 4096 else f

/-- The next sequence number of a record. -/
def nextSeq (k : RecKind) (base : Nat) (f : Flash) : Nat := match f.recordAt k base with | some (q, _, _) => (q + 1) % 2 ^ 32 | none => 1

/-- A record with a marker, a sequence at byte 2 and a CRC-32 over the bytes before byte `n`. -/
def crcSeq (marker : List Byte) (n : Nat) (bs : List Byte) : Option Nat :=
  if cut 0 2 bs = marker ∧ cut n 4 bs = leBytes (crc32 (cut 0 n bs)) then some (numAt 2 4 bs) else none

/-- The bank record (R445): marker 0x424B as the bytes of a little-endian number. -/
def bankKind : RecKind where
  count := 16
  size := 256
  seqOf := crcSeq (natBytes 2 0x424B) 28

/-- The states of a bank (R445). -/
abbrev bankEmpty : BitVec 2 := 0#2
/-- STAGED. -/
abbrev bankStaged : BitVec 2 := 1#2
/-- ACTIVE. -/
abbrev bankActive : BitVec 2 := 2#2
/-- OLD. -/
abbrev bankOld : BitVec 2 := 3#2

/-- What a bank record says: states, versions, lengths, update identifier (R445). -/
structure BankRec where
  stateA : BitVec 2
  stateB : BitVec 2
  verA : Word
  verB : Word
  lenA : Nat
  lenB : Nat
  upd : BitVec 8
deriving DecidableEq, Repr

/-- The bank record in force. -/
def bankRec (f : Flash) : BankRec :=
  match f.recordAt bankKind 0 with
  | some (_, bs, _) =>
    { stateA := BitVec.ofNat 2 (numAt 6 1 bs), stateB := BitVec.ofNat 2 (numAt 7 1 bs),
      verA := BitVec.ofNat 32 (numAt 8 4 bs), verB := BitVec.ofNat 32 (numAt 12 4 bs),
      lenA := numAt 16 4 bs, lenB := numAt 20 4 bs, upd := BitVec.ofNat 8 (numAt 24 1 bs) }
  | none => { stateA := 0#2, stateB := 0#2, verA := 0#32, verB := 0#32, lenA := 0, lenB := 0, upd := 0#8 }

/-- The bytes of a bank record, CRC included. -/
def bankBytes (seq : Nat) (r : BankRec) : List Byte :=
  let b := natBytes 2 0x424B ++ natBytes 4 seq ++ [r.stateA.setWidth 8, r.stateB.setWidth 8] ++ leBytes r.verA ++
    leBytes r.verB ++ natBytes 4 r.lenA ++ natBytes 4 r.lenB ++ [r.upd, 0#8, 0#8, 0#8]
  b ++ leBytes (crc32 b)

/-- The bank record written; FL_STAT and the versions follow it. -/
def writeBank (r : BankRec) (f : Flash) : Flash :=
  let f := f.writeRecord bankKind 0 (bankBytes (f.nextSeq bankKind 0) r)
  { f with
    stat := { f.stat with stateA := r.stateA, stateB := r.stateB },
    verOther :=
      if f.stat.bootBank ^^ f.job.onNew then (if r.stateA = bankEmpty then 0#32 else r.verA)
      else (if r.stateB = bankEmpty then 0#32 else r.verB) }

/-- The start of an image bank (Table 17.2). -/
def bankBase (b : Bool) : Nat := if b then 0x50000 else 0x10000

/-- The start of a settings half (Table 17.2). -/
def halfBase (b : Bool) : Nat := if b then 0xF0000 else 0xD0000

/-- The settings half in use: that of the running images (R446, R453). -/
def half (f : Flash) : Bool := f.stat.bootBank ^^ f.job.onNew

end Flash

namespace State

/-- The flash block changed. -/
def onFlash (f : Flash → Flash) (s : State) : State := { s with fl := f s.fl }

/-- Whether the flash controller stands: powered, outside the island, VDDIO good (R383, Table 16.4). -/
def flashUp (s : State) : Bool := s.fusesUp && s.sh.vddioOk

/-- Whether a PROGRAM or ERASE may start (R440). -/
def flashCan (s : State) : Bool :=
  s.flashUp && s.fl.stat.present && decide (s.sh.stat.stage ≤ 3#3) && !s.sh.sup.vddioLost

/-- A status entry in queue 239, with FL_STAT's flags (R440, Table 17.1). -/
def flashStatus (op : BitVec 3) (done refused verify cutOff : Bool) (s : State) : State :=
  let s := s.onFlash fun f =>
    { f with stat := { f.stat with refused := f.stat.refused || refused, verifyFail := f.stat.verifyFail || verify,
                                   cut := f.stat.cut || cutOff } }
  s.pushSys 47 [(1#6, flStatusWord op done refused verify cutOff)]

/-- The controller takes the command at the head of queue 236, with the data of a PROGRAM from queue 238, or refuses
it (R440). A PROGRAM whose data does not stand in queue 238 yet waits. -/
def flashPump (s : State) : State :=
  if !s.flashUp || s.fl.run.isSome then s
  else
    match (s.sysq[(44 : Fin 64)]).entries.head? with
    | none => s
    | some e =>
      let op := fld e.payload 0 3
      let addr := (fld e.payload 3 24).toNat
      let n := (fld e.payload 27 9).toNat
      let words := if op = 2#3 then (n + 3) / 4 else 0
      let data := (s.sysq[(46 : Fin 64)]).entries.take words
      if data.length < words then s
      else
        let s := (s.onSysq 44 Queue.commitHead).onSysq 46 (Queue.drop words)
        let write := op = 2#3 || op = 3#3 || op = 4#3
        let bad := write && (decide (4#3 ≤ s.sh.stat.stage) || s.sh.sup.vddioLost)
        let page := op = 2#3 && (decide (256 < n) || decide (256 < addr % 256 + n))
        if bad || page then s.flashStatus op false true false false
        else
          let bs := (data.flatMap fun e => leBytes (fld e.payload 0 32)).take n
          s.onFlash fun f => { f with run := some { op := op, addr := addr, n := n, data := bs } }

/-- FLASH_READ, FLASH_PROGRAM, ERASE_4K, ERASE_64K and READ_ID: core 13 puts the command into queue 236, and the data
of a PROGRAM into queue 238, when both have room; the controller takes it when it is free (R440). -/
def flashCommand (op : BitVec 3) (addr : BitVec 24) (n : BitVec 9) (data : List Byte) (s : State) : State :=
  if !s.flashUp || !s.roleRuns 13#5 then s
  else
    let ws := if op = 2#3 then dataWords (data.take n.toNat ++ List.replicate (n.toNat - data.length) 0#8) else []
    if !(s.sysq[(44 : Fin 64)]).fits 1 || !(s.sysq[(46 : Fin 64)]).fits ws.length then s
    else
      let s := ws.foldl (fun s w => s.pushSys 46 [(2#6, w)]) s
      (s.pushSys 44 [(1#6, flCmdWord op addr n)]).flashPump

/-- FLASH_COMMAND_DONE: the command that the controller carries out takes its effect and its status is written; the
next one starts (R440). -/
def flashDone (s : State) : State :=
  let s := s.flashPump
  if !s.flashUp then s
  else match s.fl.run with
  | none => s
  | some x =>
    let s := s.onFlash fun f => { f with run := none }
    let read (bs : List Byte) (s : State) : State := (dataWords bs).foldl (fun s w => s.pushSys 45 [(2#6, w)]) s
    let s :=
      if x.op = 1#3 then (read (s.fl.bytes x.addr x.n) s).flashStatus x.op true false false false
      else if x.op = 2#3 then
        let s := s.onFlash (·.put x.addr x.data)
        let bad := s.fl.bytes x.addr x.data.length ≠ x.data
        s.flashStatus x.op true false bad false
      else if x.op = 3#3 then
        (s.onFlash (·.erase (x.addr / 4096 * 4096) 4096)).flashStatus x.op true false false false
      else if x.op = 4#3 then
        (s.onFlash (·.erase (x.addr / 65536 * 65536) 65536)).flashStatus x.op true false false false
      else if x.op = 5#3 then
        (read (natBytes 3 s.fl.id.toNat) s).flashStatus x.op true false false false
      else s.flashStatus x.op false true false false
    s.flashPump

/-- A flash command is cut off: what its range holds is open (R440, log entry 24). -/
def flashCut (s : State) : State :=
  match s.fl.run with
  | none => s
  | some x =>
    let k := s.fresh
    let range (f : Flash) : Flash :=
      if x.op = 2#3 then f.spoilRange k x.addr x.n
      else if x.op = 3#3 then f.spoilRange k (x.addr / 4096 * 4096) 4096
      else if x.op = 4#3 then f.spoilRange k (x.addr / 65536 * 65536) 65536
      else f
    ({ s with fresh := k + 1 }.onFlash fun f => range { f with run := none }).flashStatus x.op false false false true

-- Spoil records (R280)

/-- A spoil record of Table 9.9. -/
def spoilRecord (seq : Nat) (w : Word) (secs : Nat) : List Byte :=
  let b := natBytes 2 0x5350 ++ natBytes 2 seq ++ leBytes w ++ natBytes 4 secs
  b ++ leBytes (crc32 b)

/-- The spoil entries of a copy of the spoil area with a good CRC (R281). -/
def spoilCopy (f : Flash) (base : Nat) : List Word :=
  if f.blank base 0x7000 then []
  else (List.range 1792).filterMap fun i =>
    let bs := f.bytes (base + 16 * i) 16
    if cut 0 2 bs = natBytes 2 0x5350 ∧ cut 12 4 bs = leBytes (crc32 (cut 0 12 bs)) then some (leWord (cut 4 4 bs)) else none

/-- The next blank position of a copy of the spoil area. -/
def spoilNext (base : Nat) (f : Flash) : Option Nat := (List.range 1792).find? fun i => f.blank (base + 16 * i) 16

/-- A record is written to the next blank position of a copy; `none` without one. -/
def spoilPut (base : Nat) (bs : List Byte) (f : Flash) : Option Flash :=
  (spoilNext base f).map fun i => f.put (base + 16 * i) bs

/-- The oldest held spoil entry goes to both copies of the spoil area, with the sequence that counts the records before it (R280,
log entry 214). -/
def spoilFlash (w : Word) (s : State) : State :=
  let seq := max ((spoilNext 0x2000 s.fl).getD 0) ((spoilNext 0x9000 s.fl).getD 0)
  let bs := spoilRecord seq w (s.lk.clock.toNat / 200000000)
  match spoilPut 0x2000 bs s.fl, spoilPut 0x9000 bs s.fl with
  | none, none => { s with qy := { s.qy with spoil := { s.qy.spoil with flashFull := true } } }
  | a, b =>
    let f := match a with | some f => f | none => s.fl
    let f := match b with | some _ => (spoilPut 0x9000 bs f).getD f | none => f
    { s with fl := f,
             qy := { s.qy with held := s.qy.held.drop 1,
                               spoil := { s.qy.spoil with flashUsed := satInc s.qy.spoil.flashUsed } } }

/-- SPOIL_ENTRY_WRITE: the oldest held entry, at stage S3 or lower, into the fuse ledger while it has room, else into
flash (R280). -/
def spoilEntryWrite (s : State) : State :=
  match s.qy.held with
  | [] => s
  | w :: _ =>
    if !s.fusesUp || 3#3 < s.sh.stat.stage then s
    else if s.qy.ledgerAt < 64 then
      if s.fz.job.isSome || !s.fuseTempOk then s else s.ledgerWrite w
    else if s.flashCan then s.spoilFlash w
    else s

-- Log (R444)

/-- A log record. -/
def logRecord (seq : Nat) (us : Nat) (code : Byte) (value : List Byte) : List Byte :=
  let b := natBytes 2 0x4C47 ++ natBytes 4 seq ++ natBytes 6 us ++ [code] ++
    ((value ++ List.replicate 15 0#8).take 15)
  b ++ leBytes (crc32 b)

/-- The records of the log ring: 6,208 KiB of 32 bytes (Table 17.2). -/
def logCount : Nat := 0x610000 / 32

/-- A log record goes to its place in the ring, and the sector after the one being filled is erased beforehand
(R444). -/
def logPut (bs : List Byte) (f : Flash) : Flash :=
  let i := f.logSeq.toNat % logCount
  let f := if i % 128 = 0 then f.erase (0x1F0000 + (i / 128 + 1) % (logCount / 128) * 4096) 4096 else f
  { f.put (0x1F0000 + 32 * i) bs with logSeq := f.logSeq + 1#32 }

end State

end Sys2Proof.Machine
end

