-- ==== Sys2Proof/Machine/Bundle.lean ====
section
/-! DEFINITION. The Thoelm bundle and the Thoelm image in it: their layout, their checks, and writing an image into the
template store (spec/17_flash_update.md R447, R448, spec/08_polder_fabric.md R234 to R238). -/

namespace Sys2Proof.Machine

/-- An entry of a section table or of a manifest: its type, index, flags and where its body lies. -/
structure Part where
  typ : Nat
  idx : Nat
  optional : Bool
  off : Nat
  len : Nat
  digest : List Byte
deriving DecidableEq, Repr

/-- The body of a part. -/
def Part.body (bs : List Byte) (p : Part) : List Byte := cut p.off p.len bs

/-- The digest of a part matches its body, which lies within `lo` and `hi` (R235, R448). -/
def Part.good (lo hi : Nat) (bs : List Byte) (p : Part) : Bool :=
  decide (lo ≤ p.off ∧ p.off + p.len ≤ hi) && sha256 (p.body bs) == p.digest

/-- The sections of a Thoelm image that are present (R234, R236). -/
def thoelmSections (bs : List Byte) : List Part :=
  ((List.range (min 32 (numAt 20 2 bs))).map fun i =>
    let a := 64 + 48 * i
    { typ := numAt a 2 bs, idx := numAt (a + 2) 1 bs, optional := bit (BitVec.ofNat 8 (numAt (a + 3) 1 bs)) 0,
      off := numAt (a + 4) 4 bs, len := numAt (a + 8) 4 bs, digest := cut (a + 16) 32 bs : Part }).filter
    fun p => p.len ≠ 0

/-- The section of a type and index. -/
def thoelmBody (bs : List Byte) (typ idx : Nat) : Option (List Byte) :=
  ((thoelmSections bs).find? fun p => p.typ = typ ∧ p.idx = idx).map (·.body bs)

/-- A sluice parameter set of Table 8.8. -/
def sluiceSetOf (bs : List Byte) : SluiceSet :=
  let at_ (i : Nat) : Nat := numAt (2 * i) 2 bs
  { ccShort := at_ 0, ccFilt := at_ 1, ovpFactor := at_ 2, ovpOffset := at_ 3, ovpCap := at_ 4, ovpFilt := at_ 5,
    revFilt := at_ 6, ocFilt := at_ 7, otpDie := at_ 8, otpFilt := at_ 9, tCcFilt := at_ 10 }

/-- Bytes that no table assigns are zero (R234). -/
def zeroAt (lo n : Nat) (bs : List Byte) : Bool := (cut lo n bs).all fun b => b = 0#8

/-- The limits of Table 8.8 for the values. -/
def sluiceSetOk (x : SluiceSet) : Bool :=
  let within (lo hi v : Nat) : Bool := decide (lo ≤ v ∧ v ≤ hi)
  within 500 600 x.ccShort && within 5 10 x.ccFilt && within 1050 1100 x.ovpFactor && within 20 50 x.ovpOffset &&
  within 5000 5500 x.ovpCap && within 20 50 x.ovpFilt && within 10 30 x.revFilt && within 20 50 x.ocFilt &&
  within 1100 1250 x.otpDie && within 20 100 x.otpFilt && within 10 20 x.tCcFilt

/-- The limits of Table 8.8, its reserved bytes among them (R238). -/
def sluiceBytesOk (bs : List Byte) : Bool := sluiceSetOk (sluiceSetOf bs) && zeroAt 22 42 bs

/-- The length that a section type has (Table 8.6). -/
def sectionLen (typ : Nat) : Option Nat :=
  match typ with | 1 => some 3488 | 2 => some 1568 | 3 => some 224 | 4 => some 64 | _ => none

/-- The indices that a section type takes (Table 8.6). -/
def sectionIdx (typ : Nat) : Nat := match typ with | 1 => 7 | 4 => 4 | _ => 1

/-- The device code of SYS_ID (Table 18.5). -/
def deviceCode : Nat := 0x0192

/-- A descriptor leaves zero what Table 8.7 does not assign; `common`: that of a common image (R234). -/
def descriptorZeros (common : Bool) (b : List Byte) : Bool :=
  zeroAt 11 21 b && (if common then zeroAt 4 1 b && zeroAt 6 2 b else true) && (cut 5 1 b).all fun x => decide (x ≤ 1#8)

/-- The layout of a Thoelm image: every body starts at a multiple of 64 and is filled up with zeros to the next, and the bytes and
flag bits that no table assigns are zero, those between the parts too (R234, log entry 213). -/
def thoelmLaid (bs : List Byte) : Bool :=
  let n := numAt 20 2 bs
  let secs := thoelmSections bs
  let inBody (a : Nat) : Bool := secs.any fun p => decide (p.off ≤ a ∧ a < p.off + p.len)
  decide (numAt 6 2 bs ≤ 1) && zeroAt 22 2 bs && zeroAt 28 4 bs &&
  (List.range n).all (fun i => (cut (64 + 48 * i + 3) 1 bs).all (fun x => decide (x ≤ 1#8)) && zeroAt (64 + 48 * i + 12) 4 bs) &&
  secs.all (fun p => p.off % 64 == 0 && decide (p.off + (p.len + 63) / 64 * 64 ≤ bs.length)) &&
  (List.range bs.length).all fun a => decide (a < 64 + 48 * n) || inBody a || bs.getD a 0#8 = 0#8

/-- The validity of a Thoelm image (R235). -/
def thoelmOk (srev : Nat) (bs : List Byte) : Bool :=
  let secs := thoelmSections bs
  let known := secs.filter fun p => (sectionLen p.typ).isSome
  let tpls := known.filter fun p => p.typ = 1
  let present (i : Nat) : Bool := tpls.any fun p => p.idx = i
  let map := (thoelmBody bs 3 0).getD []
  let n := numAt 20 2 bs
  cut 0 4 bs == [0x54#8, 0x48#8, 0x49#8, 0x4D#8] && numAt 4 2 bs == 1 && numAt 16 2 bs == deviceCode &&
  decide (numAt 18 2 bs ≤ srev) && thoelmLaid bs && decide (1 ≤ n ∧ n ≤ 32) && numAt 24 4 bs == bs.length &&
  sha256 (bs.drop 64) == cut 32 32 bs &&
  secs.all (fun p => ((sectionLen p.typ).isSome || p.optional) && p.good 0 bs.length bs) &&
  known.all (fun p => sectionLen p.typ = some p.len && decide (p.idx < sectionIdx p.typ)) &&
  ((known.map fun p => (p.typ, p.idx)).dedup.length == known.length) &&
  decide (1 ≤ tpls.length ∧ tpls.length ≤ 7) &&
  (known.filter fun p => p.typ = 2).length == 1 && (known.filter fun p => p.typ = 3).length == 1 &&
  tpls.all (fun p =>
    let b := p.body bs
    let ck := numAt 6 2 b
    let set := thoelmBody bs 4 (numAt 4 1 b)
    numAt 2 2 b == 288 && decide (24 ≤ ck ∧ ck ≤ 64) &&
    (match set with | some x => sluiceBytesOk x | none => false) && descriptorZeros false b &&
    (!bit (BitVec.ofNat 8 (numAt 6 1 bs)) 0 || bit (BitVec.ofNat 8 (numAt 5 1 b)) 0)) &&
  ((thoelmBody bs 2 0).map fun b => numAt 2 2 b) == some 128 &&
  ((thoelmBody bs 2 0).map (descriptorZeros true)) == some true &&
  (map.take 192).all (fun b => present b.toNat) &&
  (List.range 4).all fun q =>
    let o := (cut (192 + 8 * q) 8 map).map (·.toNat)
    o.all (fun r => decide (48 ≤ r ∧ r ≤ 55)) && o.dedup.length == 8

-- The bundle

/-- The manifest of a bundle (Tables 17.4 and 17.5). -/
def bundleParts (bs : List Byte) : List Part :=
  (List.range (min 16 (numAt 20 2 bs))).map fun i =>
    let a := 96 + 48 * i
    { typ := numAt a 1 bs, idx := 0, optional := bit (BitVec.ofNat 8 (numAt (a + 1) 1 bs)) 0,
      off := numAt (a + 8) 4 bs, len := numAt (a + 12) 4 bs, digest := cut (a + 16) 32 bs }

/-- A part of a bundle by its type. -/
def bundleBody (bs : List Byte) (typ : Nat) : List Byte :=
  (((bundleParts bs).find? fun p => p.typ = typ).map (·.body bs)).getD []

/-- The class-A reserve flag of a bundle (R179, Table 17.4). -/
def bundleReserve (bs : List Byte) : Bool := bit (BitVec.ofNat 8 (numAt 6 1 bs)) 0

/-- The revision statement of a bundle (R4, Table 17.4). -/
def bundleRevs (bs : List Byte) : Revisions := { typeC := bs.getD 24 0#8, pdRev := bs.getD 25 0#8, pdVer := bs.getD 26 0#8 }

/-- The version of a bundle (Table 17.4). -/
def bundleVersion (bs : List Byte) : Word := leWord (cut 8 4 bs)

/-- The length that a part type takes (Table 17.5). -/
def partLenOk (p : Part) : Bool :=
  match p.typ with
  | 1 | 2 | 3 => decide (2 ≤ p.len ∧ p.len ≤ 32768 ∧ p.len % 2 = 0)
  | 5 => decide (p.len % 44 = 0 ∧ 44 ≤ p.len ∧ p.len ≤ 352)
  | 6 => p.len == 8
  | _ => true

/-- The layout of a bundle: flag bits without a meaning are zero, the parts start at multiples of 64, and the bytes between
them are zero (R447, log entry 230). -/
def bundleLaid (bs : List Byte) : Bool :=
  let parts := bundleParts bs
  let inPart (a : Nat) : Bool := parts.any fun p => decide (p.off ≤ a ∧ a < p.off + p.len)
  decide (numAt 6 2 bs ≤ 1) && parts.all (fun p => p.off % 64 == 0) &&
  (List.range bs.length).all fun a =>
    decide (a < 96 + 48 * numAt 20 2 bs) || decide (bs.length < a + 65) || inPart a || bs.getD a 0#8 = 0#8

/-- The result of the checks of a bundle of `len` bytes, in the order of Table 17.8: 0 when it is valid (R448). -/
def bundleCheck (srev : Nat) (f : Fuses) (len : Nat) (bs : List Byte) : BitVec 5 :=
  let parts := bundleParts bs
  let n := numAt 20 2 bs
  let hi := len - 64
  let th := bundleBody bs 4
  let tpls := (thoelmSections th).filter fun p => p.typ = 1
  let key := cut 32 64 bs
  if !(cut 0 4 bs == [0x54#8, 0x42#8, 0x4E#8, 0x44#8] && numAt 4 2 bs == 1 && numAt 16 4 bs == len &&
      bs.length == len && len % 64 == 0 && decide (160 ≤ len ∧ len ≤ 262144)) || !bundleLaid bs then 1#5
  else if !(numAt 12 2 bs == deviceCode && decide (numAt 14 2 bs ≤ srev)) then 2#5
  else if n = 0 || 16 < n || !((List.range 6).all fun i => (parts.filter fun p => p.typ = i + 1).length == 1) ||
      !(parts.all fun p => decide (1 ≤ p.typ ∧ p.typ ≤ 6) || p.optional) then 3#5
  else if !(parts.all fun p => partLenOk p && p.good (96 + 48 * n) hi bs) then 4#5
  else if !(thoelmOk srev th && bit (BitVec.ofNat 8 (numAt 6 1 th)) 0 == bundleReserve bs &&
      tpls.all fun p => cut 8 3 (p.body th) == cut 24 3 bs) then 5#5
  else if !(f.liveSlots.any fun k => f.keyDigest k == sha256 key) then 6#5
  else if !Config.ecdsaOk key (sha256 (bs.take hi)) (cut hi 64 bs) then 7#5
  else 0#5

/-- The gauge tables of a bundle: nominal voltage and 21 points each, in mV (Table 17.5). -/
def gaugeTables (bs : List Byte) : List OcvTable :=
  let b := bundleBody bs 5
  (List.range (b.length / 44)).map fun t =>
    { nominal := numAt (44 * t) 2 b, ocv := (List.range 21).map fun i => numAt (44 * t + 2 + 2 * i) 2 b }

/-- The templates of a Thoelm image in index order, then its common image: kind, TEMPLATE index and section body. -/
def imageBodies (th : List Byte) : List (Bool × Nat × List Byte) :=
  ((List.range 7).filterMap fun i => (thoelmBody th 1 i).map fun b => (false, i, b)) ++
    [(true, 0, (thoelmBody th 2 0).getD [])]

/-- The slots that a Thoelm image needs (R236). -/
def slotsNeeded (th : List Byte) : Nat := (imageBodies th).length

/-- A slot with a section written to it and checked under R232: VALID, or BAD when a check fails. -/
def slotOf (th : List Byte) (x : Bool × Nat × List Byte) : TplSlot :=
  let ws := leWords x.2.2 ++ leWords (sha256 x.2.2)
  let set := (thoelmBody th 4 (numAt 4 1 x.2.2)).map sluiceSetOf
  let t : TplSlot := { TplSlot.init with
    st := .valid, common := x.1, srcIdx := BitVec.ofNat 4 x.2.1, tid := BitVec.ofNat 16 (numAt 0 2 x.2.2), words := ws,
    set := set.getD TplSlot.init.set }
  if t.check = 0#4 then t else { t with st := .bad }

/-- The EMPTY slots of the store, in order. -/
def emptySlots (st : TplStore) : List (Fin 16) := (List.finRange 16).filter fun t => st.slots[t].st = .empty

/-- A Thoelm image written into the first EMPTY slots (R232, R236); the slots used, templates first. -/
def writeImage (th : List Byte) (st : TplStore) : TplStore × List (Fin 16) :=
  let used := (emptySlots st).zip (imageBodies th)
  (used.foldl (fun (st : TplStore) x => { st with slots := st.slots.set x.1 (slotOf th x.2) }) st, used.map (·.1))

/-- The slot that MAP names for a port, among the slots an image was written to (Table 8.6). -/
def mapSlot (th : List Byte) (slots : List (Fin 16)) (n : PortId) : Option (Fin 16) :=
  let idx := numAt n.val 1 ((thoelmBody th 3 0).getD [])
  let order := (imageBodies th).map fun x => (x.1, x.2.1)
  ((order.zip slots).find? fun x => x.1 = (false, idx)).map (·.2)

/-- The slot of the common image. -/
def commonSlot (th : List Byte) (slots : List (Fin 16)) : Option (Fin 16) := slots[(imageBodies th).length - 1]?

/-- The spare order of a polder (Table 8.6). -/
def spareOrder (th : List Byte) (q : PolderId) : List (Fin 56) :=
  (cut (192 + 8 * q.val) 8 ((thoelmBody th 3 0).getD [])).filterMap fun b =>
    if h : b.toNat < 56 then some ⟨b.toNat, h⟩ else none

namespace State

/-- The silicon revision (Table 18.5). -/
def srevNat (s : State) : Nat := s.sys.rev.srev.toNat

/-- The bytes of an image bank, as long as the bank record says (R445). -/
def bankImage (s : State) (b : Bool) : List Byte :=
  let r := s.fl.bankRec
  s.fl.bytes (Flash.bankBase b) (min 262144 (if b then r.lenB else r.lenA))

/-- The result of checking an image bank (R446, R448). -/
def bankCheck (s : State) (b : Bool) : BitVec 5 :=
  let bs := s.bankImage b
  bundleCheck s.srevNat s.fz bs.length bs

/-- The bank whose images run (R446, R453). -/
def runBank (s : State) : Bool := s.fl.stat.bootBank ^^ s.fl.job.onNew

/-- Instruction a of the role image of a part type, 1 lifeline, 2 supervisor, 3 policy, in the running bank; 0 beyond its end
(Table 17.5). -/
def imageInstr (s : State) (typ a : Nat) : BitVec 14 :=
  if s.fl.revs.isNone then 0#14 else BitVec.ofNat 14 (numAt (2 * a) 2 (bundleBody (s.bankImage s.runBank) typ))

/-- A code row of a role image: four instructions, slot 0 lowest (R290). -/
def imageRow (s : State) (typ row : Nat) : BitVec 56 :=
  s.imageInstr typ (4 * row + 3) ++ s.imageInstr typ (4 * row + 2) ++ s.imageInstr typ (4 * row + 1) ++ s.imageInstr typ (4 * row)

/-- The word that was written at an address 0x6000 to 0xBFFF of the image cache: two instructions of the lifeline, supervisor
or policy image (R321, Table 11.2). -/
def cacheWord (s : State) (a : Nat) : W36 :=
  let typ := (a - 0x6000) / 0x2000 + 1
  let i := (a - 0x6000) % 0x2000
  0#8 ++ s.imageInstr typ (2 * i + 1) ++ s.imageInstr typ (2 * i)

/-- What has changed in the image cache since it was written, as code rows of a part type: a core that takes its image from
the cache takes it too (R294, R321). -/
def cacheCode (s : State) (typ : Nat) : Mem 56 :=
  let base := 0x4000 + 0x2000 * typ
  if typ = 0 then [] else (s.shared.filter fun x => decide (base ≤ x.1) && decide (x.1 < base + 0x2000)).foldl (fun m x =>
    let i := x.1 - base
    let v : BitVec 56 := (fld x.2 0 28).setWidth 56 <<< (28 * (i % 2))
    Mem.write 0#56 (i / 2) (Mem.read 0#56 m (i / 2) ||| v) m) []

/-- The image cache is written whole from the running bank (R422, R425, R453). -/
def cacheFill (s : State) : State := { s with shared := Mem.clear 0x6000 0x6000 s.shared }

/-- The Thoelm part of the running bank. -/
def runThoelm (s : State) : List Byte := bundleBody (s.bankImage s.runBank) 4

/-- The sluice parameter sets of a Thoelm image, which the slots written from now on take theirs from (R238). -/
def takeSets (th : List Byte) (s : State) : State :=
  { s with store := { s.store with
      sets := Vector.ofFn fun j : Fin 4 => ((thoelmBody th 4 j.val).map sluiceSetOf).getD SluiceSet.delivered } }

/-- A slot is rewritten from the section of the running image that has its kind and template ID, and its check starts (R233,
R247). -/
def rewriteSlot (t : SlotId) (s : State) : State :=
  let x := s.store.slots[t]
  match (imageBodies s.runThoelm).find? fun b => b.1 = x.common && BitVec.ofNat 16 (numAt 0 2 b.2.2) = x.tid with
  | none => s
  | some b =>
    let s := s.onSlot t fun x => { x with
      st := .writing, srcIdx := BitVec.ofNat 4 b.2.1, words := leWords b.2.2 ++ leWords (sha256 b.2.2) }
    { s with store := { s.store with checking := s.store.checking ++ [t] } }

/-- The supervisor rewrites from flash each slot that a command has found uncorrectable (Table 8.11); `s` is the state before
the command. -/
def noteBad (s t : State) : State :=
  if t.roleRuns 13#5 then
    (List.finRange 16).foldl (fun t i =>
      if s.store.slots[i].st = .valid ∧ t.store.slots[i].st = .bad then t.rewriteSlot i else t) t
  else t

end State

end Sys2Proof.Machine
end

