-- ==== Sys2Proof/Machine/Link.lean ====
section
/-! DEFINITION. The Ndomund link: cells and control cells, training, the reliable hop, routing, and the messages that
the cores put into and take from the link queues (spec/12_ndomund_link.md R339 to R353, R355). -/

namespace Sys2Proof.Machine

-- Cells (R345)

/-- The 24 payload bytes of a cell, bytes 4 to 27 of Table 12.2. -/
def Cell.payload (c : Cell) : List Byte :=
  [c.typ, c.frag.setWidth 8 ||| (if c.last then 0x80#8 else 0#8)] ++ (c.body ++ List.replicate 22 0#8).take 22

/-- The 32 bytes of a cell on a link, with its SEQ (Table 12.2). -/
def Cell.bytes (seq : BitVec 12) (c : Cell) : List Byte :=
  let h : List Byte := [
    c.dest.setWidth 8 ||| (if c.bulk then 0#8 else 0x40#8),
    c.src.setWidth 8 ||| (if c.bcast then 0x80#8 else 0#8), fld seq 0 8, (fld seq 8 4).setWidth 8] ++ c.payload
  h ++ leBytes (crc32 h)

/-- A cell with the header and the payload bytes given. -/
def Cell.ofBytes (bulk : Bool) (dest : BitVec 6) (bcast : Bool) (src : BitVec 6) (pl : List Byte) : Cell :=
  { bulk := bulk, dest := dest, bcast := bcast, src := src, typ := pl.getD 0 0#8, frag := fld (pl.getD 1 0#8) 0 7,
    last := bit (pl.getD 1 0#8) 7, body := cut 2 22 pl }

/-- The group of 7 entries that carries a received cell, with the port it came by (R350). -/
def Cell.rxGroup (i : LinkId) (c : Cell) : List (BitVec 6 × W36) :=
  let life := bit c.typ 5
  let d : BitVec 6 := if life then 0x21#6 else 1#6
  (d, pay 0 c.src ||| payB 6 c.bcast ||| pay 7 (BitVec.ofNat 2 i.val)) ::
    (dataWords c.payload).map fun w => ((if life then 0x22#6 else 2#6), w)

/-- The group of 7 entries that carries a cell to send (R350). -/
def Cell.txGroup (c : Cell) : List (BitVec 6 × W36) :=
  let life := bit c.typ 5
  ((if life then 0x21#6 else 1#6), pay 0 c.dest ||| payB 6 c.bcast) ::
    (dataWords c.payload).map fun w => ((if life then 0x22#6 else 2#6), w)

/-- The payload bytes in the data entries of a group. -/
def groupBytes (g : List Entry) : List Byte := (g.drop 1).flatMap fun e => leBytes (fld e.payload 0 32)

/-- The fragments of a message (R349). -/
def fragments (bulk : Bool) (dest : BitVec 6) (bcast : Bool) (src : BitVec 6) (typ : Byte) (bs : List Byte) : List Cell :=
  let n := max 1 ((bs.length + 21) / 22)
  (List.range n).map fun k =>
    { bulk := bulk, dest := dest, bcast := bcast, src := src, typ := typ, frag := BitVec.ofNat 7 k,
      last := k + 1 = n, body := (cut (22 * k) 22 bs ++ List.replicate 22 0#8).take 22 }

namespace Hop

/-- How far SEQ x lies after SEQ y, modulo 4,096. -/
def ahead (x y : BitVec 12) : Nat := (x - y).toNat

/-- An ACK of a class: the covered cells leave, and the credit is taken (R348). -/
def ack (seq : BitVec 12) (credit : Nat) (h : Hop) : Hop :=
  let covered := (h.unacked.filter fun x => ahead seq x.1 < 2048).length
  { h with unacked := h.unacked.drop covered, sent := h.sent - covered, credit := credit }

/-- Whether the oldest unacknowledged cell has been sent 16 times (R344). -/
def worn (h : Hop) : Bool := match h.unacked with | (_, k, _) :: _ => decide (16 ≤ k) | [] => false

/-- Resend from the oldest unacknowledged cell. -/
def rewind (h : Hop) : Hop := { h with sent := 0 }

/-- A new cell takes the next SEQ and is sent for the first time. -/
def takeIn (c : Cell) (h : Hop) : Hop :=
  { h with unacked := h.unacked ++ [(h.txSeq, 1, c)], txSeq := h.txSeq + 1#12, sent := h.sent + 1 }

/-- The next cell of a retransmission round, if one is due, and the hop after it. -/
def resend (h : Hop) : Option (BitVec 12 × Cell × Hop) :=
  match h.unacked[h.sent]? with
  | some (q, k, c) => some (q, c, { h with sent := h.sent + 1, unacked := h.unacked.set h.sent (q, k + 1, c) })
  | none => none

/-- Free buffers, as the credit of an ACK reports them (R348). -/
def free (h : Hop) : Nat := 16 - h.buffer.length

/-- The hop at a new entry to UP: SEQ starts at 0; the cells that were not acknowledged are sent as new ones, before what the
port's own queue holds from its read count `rd` on (R347). -/
def again (rd : BitVec 16) (h : Hop) : Hop :=
  { Hop.init with fwd := (h.unacked.map fun x => (x.2.2, rd)) ++ h.fwd, outbox := h.outbox, buffer := h.buffer }

end Hop

namespace LinkPort

/-- A control cell waits; a waiting ACK is replaced by a newer one. -/
def queueCtl (c : Ctl) (p : LinkPort) : LinkPort :=
  let keep := match c with
    | .ack .. => p.ctl.filter fun x => match x with | .ack .. => false | _ => true
    | _ => p.ctl
  { p with ctl := keep ++ [c] }

/-- A training state entered (Table 12.1). -/
def enter (st : BitVec 3) (p : LinkPort) : LinkPort := { p with stat := { p.stat with state := st } }

/-- DOWN, from UP with DOWN_CNT (R344). -/
def down (p : LinkPort) : LinkPort :=
  let err := if p.stat.state = 7#3 then { p.err with downCnt := satInc p.err.downCnt } else p.err
  { p.enter 0#3 with err := err, ctl := [], ctlJust := false, beacon := none, peerNonce := none, authOk := false,
                     eqViol := [], only40 := false }

/-- A failed authentication (R343). -/
def authFail (p : LinkPort) : LinkPort :=
  let p := { p with stat := { p.stat with authFail := true }, err := { p.err with authCnt := satInc p.err.authCnt },
                    authRun := p.authRun + 1 }
  p.down

/-- One class of the port. -/
def hop (bulk : Bool) (p : LinkPort) : Hop := if bulk then p.hopB else p.hopA

/-- One class of the port changed. -/
def onHop (bulk : Bool) (f : Hop → Hop) (p : LinkPort) : LinkPort :=
  if bulk then { p with hopB := f p.hopB } else { p with hopA := f p.hopA }

/-- The ACK of what has been accepted in both classes (R348). -/
def ackNow (p : LinkPort) : LinkPort :=
  p.queueCtl (.ack (p.hopA.rxNext - 1#12) (p.hopB.rxNext - 1#12) p.hopA.free p.hopB.free)

/-- A discard of a class is answered with NAK once for a gap (R348). -/
def nakNow (bulk : Bool) (p : LinkPort) : LinkPort :=
  if (p.hop bulk).naked then p
  else (p.onHop bulk fun h => { h with naked := true }).queueCtl (.nak bulk (p.hop bulk).rxNext)

/-- UP: SEQ restarts at 0 in both classes (R348); `rd` is the read count of the own queue of each. -/
def up (rd : Bool → BitVec 16) (p : LinkPort) : LinkPort :=
  { p.enter 7#3 with hopA := p.hopA.again (rd false), hopB := p.hopB.again (rd true) }

/-- The middle of the longest run of settings without a violation; of equal runs the lower one, of an even run the
lower of its two middles (R342). -/
def eqPick (v : List Nat) : Option Nat :=
  let runs := (List.range 8).flatMap fun a => (List.range 8).filterMap fun n =>
    if a + n < 8 ∧ (List.range (n + 1)).all (fun k => v.getD (a + k) 1 = 0) then some (a, n + 1) else none
  (runs.foldl (fun (b : Option (Nat × Nat)) x => match b with
    | none => some x
    | some y => if y.2 < x.2 then some x else some y) none).map fun x => x.1 + (x.2 - 1) / 2

end LinkPort

namespace State

/-- A link port changed. -/
def onLink (i : LinkId) (f : LinkPort → LinkPort) (s : State) : State :=
  { s with lk := { s.lk with ports := s.lk.ports.set i (f s.lk.ports[i]) } }

/-- Whether the links run: from RUN on, on a device that is not standalone, and not in the island (R339, Tables 16.3
and 16.4). -/
def linksUp (s : State) : Bool := s.sys.mode = .run && s.sys.stat.role ≠ 0#2

/-- The serial of the device (R343). -/
def serial (s : State) : BitVec 64 := s.sys.serialHi ++ s.sys.serialLo

/-- A serial as 8 bytes, lowest first. -/
def serialBytes (x : BitVec 64) : List Byte := natBytes 8 x.toNat

/-- Whether a port is labelled upstream (Table 1.9). -/
def upLabel (s : State) (i : LinkId) : Bool := bit s.sys.stat.role 1 && decide (i.val ≤ 1)

/-- The root port, if there is one. -/
def rootLink (s : State) : Option LinkId :=
  let r := s.lk.tree.rootPort
  if h : r.toNat < 4 then some ⟨r.toNat, h⟩ else none

/-- The own address in SRC and DEST (R351). -/
def ownAddr (s : State) : BitVec 6 := s.lk.tree.addr

/-- Tree time in µs (R355). -/
def treeUs (s : State) : Nat := s.lk.clock.toNat / 200

/-- The port on which a cell for an address leaves (R353). -/
def routeOf (s : State) (dest : BitVec 6) : Option LinkId :=
  let up (i : LinkId) : Bool := s.lk.ports[i].stat.state = 7#3
  match (List.finRange 4).find? fun i => up i && some i ≠ s.rootLink && s.lk.ports[i].subtree.contains dest with
  | some i => some i
  | none => match s.rootLink with
    | some i => if up i then some i else none
    | none => none

/-- The queue index of the transmit queue of a port and class (Table 1.2). -/
def txQueue (i : LinkId) (bulk : Bool) : Fin 64 := ⟨16 + 2 * i.val + bulk.toNat, by have := i.isLt; cases bulk <;> simp <;> omega⟩

/-- The queue index of the receive queue of a port and class (Table 1.2). -/
def rxQueue (i : LinkId) (bulk : Bool) : Fin 64 := ⟨24 + 2 * i.val + bulk.toNat, by have := i.isLt; cases bulk <;> simp <;> omega⟩

/-- Fragments that wait go into the transmit queue while it has room. -/
def pumpTx : Nat → LinkId → Bool → State → State
  | 0, _, _, s => s
  | n + 1, i, bulk, s =>
    match (s.lk.ports[i].hop bulk).outbox with
    | [] => s
    | c :: cs =>
      if (s.sysq[txQueue i bulk]).fits 7 then
        pumpTx n i bulk ((s.pushSys (txQueue i bulk) c.txGroup).onLink i (·.onHop bulk fun h => { h with outbox := cs }))
      else s

/-- A message is sent as fragments on one port (R349, R350). -/
def sendOn (i : LinkId) (bulk : Bool) (dest : BitVec 6) (bcast : Bool) (typ : Byte) (bs : List Byte) (s : State) : State :=
  let cs := fragments bulk dest bcast s.ownAddr typ bs
  pumpTx 9 i bulk (s.onLink i (·.onHop bulk fun h => { h with outbox := h.outbox ++ cs }))

/-- A message to one address, by its route; without one it is not sent. -/
def sendTo (bulk : Bool) (dest : BitVec 6) (typ : Byte) (bs : List Byte) (s : State) : State :=
  if !s.linksUp then s
  else match s.routeOf dest with
    | some i => s.sendOn i bulk dest false typ bs
    | none => s

/-- A broadcast of the acting manager, on every UP port (R345); the DEST of a broadcast that names no device is 0 (log entry
193). -/
def broadcast (bulk : Bool) (dest : BitVec 6) (typ : Byte) (bs : List Byte) (s : State) : State :=
  if !s.linksUp || !s.lk.tree.actingMgr then s
  else (List.finRange 4).foldl (fun s i =>
    if s.lk.ports[i].stat.state = 7#3 then s.sendOn i bulk dest true typ bs else s) s

/-- A log record of the device to the acting manager (R444). -/
def sendLog (bs : List Byte) (s : State) : State := if s.lk.tree.actingMgr then s else s.sendTo true 0#6 0x13#8 bs

/-- TOPO on the root port: serial, requested address with the DEPUTY strap in bit 7, root port, and the addresses below
(Table 12.3, log entry 30). -/
def sendTopo (s : State) : State :=
  match s.rootLink with
  | none => s
  | some r =>
    let below := ((List.finRange 4).filter fun i => i ≠ r ∧ s.lk.ports[i].stat.state = 7#3).flatMap fun i => s.lk.ports[i].subtree
    let b8 : Byte := s.lk.reqAddr.setWidth 8 ||| (if s.sys.stat.deputy then 0x80#8 else 0#8)
    let bs := serialBytes s.serial ++ [b8, BitVec.ofNat 8 r.val, BitVec.ofNat 8 below.length] ++ below.map (·.setWidth 8)
    if s.linksUp && !s.lk.tree.actingMgr then s.sendOn r false 0#6 false 2#8 bs else s

-- Training (R341 to R344)

/-- A command of a port in one training state, with the links running and the port enabled. -/
def inTraining (i : LinkId) (st : BitVec 3) (f : LinkPort → LinkPort) (s : State) : State :=
  let p := s.lk.ports[i]
  if s.linksUp && p.ctrl.en && p.stat.state = st then s.onLink i f else s

/-- A port goes DOWN; a root port that goes DOWN leaves the device without a root until another is chosen (R354). -/
def linkDown (i : LinkId) (s : State) : State := s.onLink i (·.down)

/-- RATE entered: 160 Mbit/s first, unless RATE_MAX or the fall-back leaves 40 Mbit/s only (R341, R342). -/
def enterRate (p : LinkPort) : LinkPort :=
  { p.enter 3#3 with stat := { (p.enter 3#3).stat with rate := p.ctrl.rateMax || p.only40 } }

/-- POLARITY_FOUND. -/
def polarityFound (inverted : Bool) (p : LinkPort) : LinkPort :=
  let p := { p with only40 := false }
  let p := enterRate p
  { p with stat := { p.stat with inverted := inverted } }

/-- RATE_TRIAL_TIMEOUT: the next rate, or DOWN. -/
def rateTimeout (p : LinkPort) : LinkPort :=
  if p.stat.rate then p.down else { p with stat := { p.stat with rate := true } }

/-- Both ends enter AUTH: AUTH1 with the own label, serial and a fresh nonce (R343). -/
def startAuth (i : LinkId) (s : State) : State :=
  let nonce := Config.linkNonce s.fresh
  let up := s.upLabel i
  let serial := s.serial
  { s with fresh := s.fresh + 1 }.onLink i fun p =>
    { p.enter 5#3 with nonce := nonce, peerNonce := none, authOk := false, ctl := [.auth1 up serial nonce] }

/-- EQ_STEP: a trial of one setting ends with a count of violations; the eighth selects (R342). -/
def eqStep (i : LinkId) (viol : Nat) (s : State) : State :=
  let p := s.lk.ports[i]
  if !(s.linksUp && p.ctrl.en && p.stat.state = 4#3) then s
  else
    let v := p.eqViol ++ [viol]
    if v.length < 8 then s.onLink i fun p => { p with eqViol := v }
    else
      match LinkPort.eqPick v with
      | some k => (s.onLink i fun p => { p with eqViol := [], stat := { p.stat with eq := BitVec.ofNat 3 k } }).startAuth i
      | none =>
        if p.stat.rate then s.linkDown i
        else s.onLink i fun p => enterRate { p with eqViol := [], only40 := true }

/-- The link key, as bytes (R343). -/
def linkKey (s : State) : List Byte := hmacSha256 s.fz.linkSecret ("NDOMUND-LINK".toList.map fun c => BitVec.ofNat 8 c.toNat)

/-- The content of AUTH2: the sender's label, its nonce, the peer's nonce, its serial and the peer's serial (R343). -/
def authMac (s : State) (up : Bool) (nonce peer : BitVec 128) (serial peerSerial : BitVec 64) : List Byte :=
  (hmacSha256 s.linkKey ([if up then 1#8 else 0#8] ++ natBytes 16 nonce.toNat ++ natBytes 16 peer.toNat ++
    serialBytes serial ++ serialBytes peerSerial)).take 16

/-- AUTH1: a label that breaks R339 ends the authentication; else AUTH2 answers. -/
def auth1 (i : LinkId) (up : Bool) (serial : BitVec 64) (nonce : BitVec 128) (s : State) : State :=
  let own := s.upLabel i
  if own = up then
    s.inTraining i 5#3 fun p => { p with stat := { p.stat with roleMismatch := true } }.authFail
  else
    let mac := s.authMac own s.lk.ports[i].nonce nonce s.serial serial
    s.inTraining i 5#3 fun p => { p with peerNonce := some nonce, peerSerial := serial }.queueCtl (.auth2 mac)

/-- AUTH2: checked against the own computation; a match takes the port to SYNC (R343). -/
def auth2 (i : LinkId) (mac : BitVec 128) (s : State) : State :=
  let p := s.lk.ports[i]
  let good : Bool := match p.peerNonce with
    | some n => natBytes 16 mac.toNat == s.authMac (!s.upLabel i) n p.nonce p.peerSerial s.serial
    | none => false
  s.inTraining i 5#3 fun p =>
    if good then { p.enter 6#3 with authOk := true, authRun := 0, syncLeft := 4 } else p.authFail

/-- A time exchange in SYNC has ended; the fourth takes the port UP (Table 12.1). -/
def syncDone (i : LinkId) (s : State) : State :=
  s.onLink i fun p =>
    if p.stat.state = 6#3 then
      (if p.syncLeft ≤ 1 then { p with syncLeft := 0 }.up fun bulk => (s.sysq[txQueue i bulk]).rd
       else { p with syncLeft := p.syncLeft - 1 })
    else p

-- The receiver (R346, R348, R353)

/-- A received cell that is to be delivered waits in its buffer until its queue has room. -/
def drainRx : Nat → LinkId → Bool → State → State
  | 0, _, _, s => s
  | n + 1, i, bulk, s =>
    match (s.lk.ports[i].hop bulk).buffer with
    | [] => s
    | c :: cs =>
      if (s.sysq[rxQueue i bulk]).fits 7 then
        drainRx n i bulk ((s.pushSys (rxQueue i bulk) (c.rxGroup i)).onLink i (·.onHop bulk fun h => { h with buffer := cs }))
      else s

/-- The routes that a TOPO shows as it passes: its source and the addresses below it lie behind the arriving port
(R353, R354). A change of the own subtree is told by a TOPO of the own (Table 12.3). -/
def learn (i : LinkId) (c : Cell) (s : State) : State :=
  if c.typ ≠ 2#8 then s
  else
    let listed := if c.frag = 0#7 then (c.body.drop 11).take (c.body.getD 10 0#8).toNat else c.body
    let addrs := ((if c.src = 0#6 then [] else [c.src]) ++ listed.map (fun b => fld b 0 6)).filter (· ≠ 0#6)
    let t : State := { s with lk := { s.lk with ports := Vector.ofFn fun j : LinkId =>
        let p := s.lk.ports[j]
        let rest := p.subtree.filter fun a => !addrs.contains a
        { p with subtree := if j = i then (p.subtree ++ addrs).dedup else rest } } }
    if (List.finRange 4).all fun j => decide (t.lk.ports[j].subtree = s.lk.ports[j].subtree) then s else t.sendTopo

/-- A BEACON that is forwarded: the own address is appended and the hop count advanced (R353). -/
def forwardBody (own : BitVec 6) (c : Cell) : Cell :=
  if c.typ = 1#8 then
    let h := (c.body.getD 15 0#8).toNat
    { c with body := (c.body.set 15 (BitVec.ofNat 8 (h + 1))).set (16 + h) (own.setWidth 8) }
  else c

/-- A cell to forward joins the class order of a port, behind what the port's own queue holds (R347). -/
def forwardOn (j : LinkId) (c : Cell) (s : State) : State :=
  let wr := (s.sysq[txQueue j c.bulk]).wr
  let c := forwardBody s.ownAddr c
  s.onLink j (·.onHop c.bulk fun h => { h with fwd := h.fwd ++ [(c, wr)] })

/-- Local delivery. -/
def deliver (i : LinkId) (c : Cell) (s : State) : State :=
  drainRx 16 i c.bulk (s.onLink i (·.onHop c.bulk fun h => { h with buffer := h.buffer ++ [c] }))

/-- Delivery or forwarding of an accepted cell (R353); address 0 is the acting manager's alone (R351). -/
def routeCell (i : LinkId) (c : Cell) (s : State) : State :=
  let s := s.learn i c
  let up (j : LinkId) : Bool := s.lk.ports[j].stat.state = 7#3
  if (c.dest = s.ownAddr ∧ s.lk.tree.addrOk ∧ c.dest ≠ 0#6) ∨ (c.dest = 0#6 ∧ s.lk.tree.actingMgr) then s.deliver i c
  else if c.bcast then
    (List.finRange 4).foldl (fun s j =>
      if up j && some j ≠ s.rootLink && j ≠ i then s.forwardOn j c else s) (s.deliver i c)
  else
    match s.routeOf c.dest with
    | some j => s.forwardOn j c
    | none => s

/-- A damaged cell is discarded and answered with NAK (R346); a header that names no class asks for both. -/
def damaged (i : LinkId) (cls : BitVec 2) (s : State) : State :=
  s.onLink i fun p =>
    let p := { p with err := { p.err with crcErr := satInc p.err.crcErr } }
    if cls = 0#2 then p.nakNow true else if cls = 1#2 then p.nakNow false else (p.nakNow false).nakNow true

/-- CELL_RECEIVED: the 32 bytes between K27.7 and K29.7, first byte in [7:0]; `bad`: a code violation or a delimiter is
missing (R346, R348). In AUTH and SYNC, where training control cells pass, a damaged cell is counted; no SEQ runs yet that
a NAK could name (log entry 217). -/
def cellReceived (i : LinkId) (raw : BitVec 256) (bad : Bool) (s : State) : State :=
  let bs := natBytes 32 raw.toNat
  let b0 := bs.getD 0 0#8
  let cls := fld b0 6 2
  let p := s.lk.ports[i]
  let broken := bad || cls = 3#2 || cut 28 4 bs ≠ leBytes (crc32 (cut 0 28 bs))
  if !s.linksUp || p.stat.state < 5#3 then s
  else if broken && p.stat.state = 7#3 then s.damaged i cls
  else if broken then s.onLink i fun p => { p with err := { p.err with crcErr := satInc p.err.crcErr } }
  else if cls = 2#2 then
    s.onLink i fun p => { p with stat := { p.stat with peerAddr := fld (bs.getD 1 0#8) 0 6, peerOk := true } }
  else if p.stat.state ≠ 7#3 then s
  else
    let bulk : Bool := cls = 0#2
    let seq : BitVec 12 := BitVec.ofNat 12 (numAt 2 2 bs)
    let h := p.hop bulk
    if seq = h.rxNext ∧ 0 < h.free then
      let c := Cell.ofBytes bulk (fld b0 0 6) (bit (bs.getD 1 0#8) 7) (fld (bs.getD 1 0#8) 0 6) (cut 4 24 bs)
      let s := s.onLink i (·.onHop bulk fun h => { h with rxNext := h.rxNext + 1#12, naked := false })
      (s.routeCell i c).onLink i (·.ackNow)
    else if seq ≠ h.rxNext ∧ Hop.ahead seq h.rxNext ≥ 2048 then s.onLink i (·.ackNow)
    else s.onLink i (·.nakNow bulk)

-- The transmitter (R347, R348)

/-- The cell of the head group of a transmit queue; `none` where the group is no cell, or is a broadcast of a device
that is not acting manager (R350). -/
def queuedCell (s : State) (i : LinkId) (bulk : Bool) : Option Cell :=
  let g := (s.sysq[txQueue i bulk]).head
  match g with
  | d :: _ =>
    if g.length = 7 ∧ (!bit d.payload 6 ∨ s.lk.tree.actingMgr) then
      some (Cell.ofBytes bulk (fld d.payload 0 6) (bit d.payload 6) s.ownAddr (groupBytes g))
    else none
  | [] => none

/-- A new cell of a class: forwarded cells and own cells share one order (R347). -/
def nextNew (i : LinkId) (bulk : Bool) (s : State) : Option (Cell × State) :=
  let h := s.lk.ports[i].hop bulk
  let q := s.sysq[txQueue i bulk]
  let own : Bool := !q.entries.isEmpty && (match h.fwd with | [] => true | (_, pos) :: _ => Port.ringBefore q.rd pos)
  if own then
    let t := s.onSysq (txQueue i bulk) Queue.commitHead
    (s.queuedCell i bulk).map fun c => (c, pumpTx 1 i bulk t)
  else
    match h.fwd with
    | [] => none
    | (c, _) :: rest => some (c, s.onLink i (·.onHop bulk fun h => { h with fwd := rest }))

/-- A head group that is no cell to send is discarded (R350). -/
def discardBad (i : LinkId) (bulk : Bool) (s : State) : State :=
  if !(s.sysq[txQueue i bulk]).entries.isEmpty && (s.queuedCell i bulk).isNone then
    s.onSysq (txQueue i bulk) Queue.commitHead
  else s

/-- The cell that a class sends in a slot: a retransmission, or a new cell while credit and the 16 places allow. -/
def classSlot (i : LinkId) (bulk : Bool) (s : State) : Option State :=
  let h := s.lk.ports[i].hop bulk
  let out (q : BitVec 12) (c : Cell) (p : LinkPort) : LinkPort := { p with last := some (.cell (c.bytes q)), ctlJust := false }
  if h.credit = 0 then none
  else match h.resend with
    | some (q, c, h') => some (s.onLink i fun p => out q c (p.onHop bulk fun _ => h'))
    | none =>
      if 16 ≤ h.unacked.length then none
      else match s.nextNew i bulk with
        | some (c, s') => some (s'.onLink i fun p => out h.txSeq c (p.onHop bulk (·.takeIn c)))
        | none => none

/-- A control cell as it leaves: bytes 0 to 3 with the class, the addresses of the far and the near end and SEQ 0 (Table
12.2), and a SYNC with the tree time of its K27.7 (R355). -/
def ctlOut (i : LinkId) (c : Ctl) (s : State) : TxCell :=
  .ctl [0x80#8 ||| s.lk.ports[i].stat.peerAddr.setWidth 8, s.ownAddr.setWidth 8, 0#8, 0#8]
    (match c with
     | .sync _ => .sync s.lk.clock
     | c => c)

/-- CELL_TRANSMIT: the choice at a cell boundary (R347). Before UP only the control cells of training go. -/
def cellTransmit (i : LinkId) (s : State) : State :=
  let p := s.lk.ports[i]
  if !s.linksUp || (p.stat.state ≠ 5#3 && p.stat.state ≠ 6#3 && p.stat.state ≠ 7#3) then s
  else
    let s := if p.stat.state = 7#3 then
        (pumpTx 9 i true (pumpTx 9 i false (drainRx 16 i true (drainRx 16 i false s)))).discardBad i false |>.discardBad i true
      else s
    let data : Option State := if p.stat.state ≠ 7#3 then none
      else match s.classSlot i false with
        | some t => some t
        | none => s.classSlot i true
    match p.ctl, data with
    | c :: cs, none => s.onLink i fun p => { p with ctl := cs, ctlJust := true, last := some (s.ctlOut i c) }
    | c :: cs, some t =>
      if p.ctlJust then t else s.onLink i fun p => { p with ctl := cs, ctlJust := true, last := some (s.ctlOut i c) }
    | [], some t => t
    | [], none => s.onLink i fun p => { p with ctlJust := false, last := none }

/-- ACK (R348). -/
def ackCell (i : LinkId) (a b : BitVec 12) (creditA creditB : Nat) (s : State) : State :=
  s.inTraining i 7#3 fun p => { p with hopA := p.hopA.ack a creditA, hopB := p.hopB.ack b creditB }

/-- A retransmission round: RETX, or DOWN when a cell has been sent 16 times (R344, R348). -/
def resendRound (i : LinkId) (bulk : Bool) (s : State) : State :=
  let p := s.lk.ports[i]
  if !s.linksUp || p.stat.state ≠ 7#3 || (p.hop bulk).unacked.isEmpty then s
  else if (p.hop bulk).worn then s.linkDown i
  else s.onLink i fun p => { p.onHop bulk (·.rewind) with err := { p.err with retx := satInc p.err.retx } }

-- Receiving a message (R349)

/-- The head cell of a receive queue: its source and its bytes 4 to 27. -/
def headCell (s : State) (i : LinkId) (bulk : Bool) : Option Cell :=
  match (s.sysq[rxQueue i bulk]).head with
  | d :: rest => some (Cell.ofBytes bulk 0#6 (bit d.payload 6) (fld d.payload 0 6) (groupBytes (d :: rest)))
  | [] => none

/-- Whether Table 12.3 lists a message type (R349). -/
def listedType (t : Byte) : Bool := [1, 2, 3, 4, 5, 6, 7, 0x10, 0x11, 0x12, 0x13, 0x21].contains t.toNat

/-- Cells of unlisted types at the head of a receive queue are ignored: their role takes them without effect (R349). -/
def skipUnlisted : Nat → LinkId → Bool → State → State
  | 0, _, _, s => s
  | n + 1, i, bulk, s =>
    match s.headCell i bulk with
    | none => s
    | some c =>
      if listedType c.typ || !s.roleRuns (if bit c.typ 5 then 12#5 else 13#5) then s
      else skipUnlisted n i bulk (drainRx 16 i bulk (s.onSysq (rxQueue i bulk) Queue.commitHead))

/-- A group of type `typ` at the head of a receive queue is taken by its role: the whole message when it carries LAST,
else it joins what has come (R349). `none`: the head is of another type, or nobody serves it. REM_REQ (0x10) is served by
the link hardware, which needs no role (R360). -/
def takeMsg (i : LinkId) (bulk : Bool) (typ : Byte) (s : State) : Option (BitVec 6 × Option (List Byte) × State) :=
  match s.headCell i bulk with
  | none => none
  | some c =>
    let role : BitVec 5 := if bit typ 5 then 12#5 else 13#5
    if c.typ ≠ typ || !(s.roleRuns role || typ = 0x10#8) then none
    else
      let s := drainRx 16 i bulk (s.onSysq (rxQueue i bulk) Queue.commitHead)
      let mine (x : Partial) : Bool := x.src = c.src && x.bulk = bulk
      let old := s.lk.parts.find? mine
      let rest := s.lk.parts.filter fun x => !mine x
      let sofar : Option (List Byte) :=
        if c.frag = 0#7 then some c.body
        else match old with
          | some x => if x.next = c.frag.toNat ∧ x.typ = typ then some (x.bytes ++ c.body) else none
          | none => none
      match sofar with
      | none => some (c.src, none, { s with lk := { s.lk with parts := rest } })
      | some bs =>
        if c.last then some (c.src, some bs, { s with lk := { s.lk with parts := rest } })
        else
          let x : Partial := { src := c.src, bulk := bulk, port := i, typ := typ, next := c.frag.toNat + 1, bytes := bs }
          some (c.src, none, { s with lk := { s.lk with parts := x :: rest } })

/-- A command that takes a message: `f` acts on a whole one. -/
def onMsg (i : LinkId) (bulk : Bool) (typ : Byte) (f : BitVec 6 → List Byte → State → State) (s : State) : State :=
  if !s.linksUp then s
  else
    let s := s.skipUnlisted 64 i bulk
    match s.takeMsg i bulk typ with
    | some (src, some bs, s') => f src bs s'
    | some (_, none, s') => s'
    | none => s

-- Time (R355)

/-- Whether the device is the time master on a port: the end nearer the acting manager, or in training the end labelled
downstream. The depth of the far end is known from the beacons it sends; between equal depths the end labelled downstream
is master (log entry 187). -/
def timeMaster (s : State) (i : LinkId) : Bool :=
  let p := s.lk.ports[i]
  if p.stat.state = 6#3 then !s.upLabel i
  else if s.lk.tree.actingMgr then true
  else if s.rootLink.isNone || s.rootLink = some i then false
  else match p.beacon with
    | none => true
    | some b =>
      let own := s.lk.tree.depth.toNat
      if b.depth - 1 = own then !s.upLabel i else decide (own < b.depth - 1)

/-- DELAY_RSP: the offset of the exchange, applied where the device is a time child of the port. The first exchange of a
worker steps (R355). -/
def applyOffset (i : LinkId) (t3 t4 : BitVec 64) (s : State) : State :=
  let p := s.lk.ports[i]
  let d : Int := ((p.t2 - p.t1).toInt - (t4 - t3).toInt) / 2
  if !s.lk.tree.actingMgr && (s.rootLink = some i || s.rootLink.isNone) then
    let step := (s.lk.firstSync && bit s.sys.stat.role 1) || decide (10000 < d.natAbs)
    { s with lk := { s.lk with
        clock := s.lk.clock - BitVec.ofInt 64 d, firstSync := false,
        time := { s.lk.time with stepped := s.lk.time.stepped || step, lastCorr := BitVec.ofInt 16 (-d) } } }
  else s

end State

end Sys2Proof.Machine
end

