-- ==== Sys2Proof/Machine/BudgetOps.lean ====
section
/-! DEFINITION. Classes and the power budget: class writes, demand, the allocator's run, leases, the island budget and
the division among the ports (spec/06_classes_budget.md R175 to R193). -/

namespace Sys2Proof.Machine

/-- A class by its code (Table 6.9). -/
def SvcClass.ofCode (v : BitVec 2) : Option SvcClass :=
  match v with | 1 => some .a | 2 => some .b | 3 => some .c | _ => none

/-- A share of R188: 1 where b is 0, else a / b kept within 0 and 1. -/
def shareOf (a b : Rat) : Rat := if b = 0 then 1 else max 0 (min 1 (a / b))

/-- The water level of R189: the least x with the sum of min(d, x) equal to `r`, over gaps sorted upwards; the largest
gap where the sum of all is smaller. -/
def waterLevel : Rat → List Rat → Rat
  | _, [] => 0
  | r, d :: ds =>
    let m : Rat := ((ds.length + 1 : Nat) : Rat)
    if d * m ≤ r then (if ds = [] then d else waterLevel (r - d) ds) else r / m

/-- The state of the allocator's passes: the ship's room, the feeders' rooms and the grants so far by worker, feeder and
class, in 10 W units. -/
structure AllocAcc where
  ship : Rat
  room : List Rat
  grants : List (BitVec 6 × Nat × Nat × Rat)

/-- What a worker's report says of a feeder and class: fl and want (R187). -/
def demandOf (ds : List Demand) (f k : Nat) : Rat × Rat :=
  let xs := ds.filter fun d => d.feeder.toNat = f ∧ d.cls.toNat = k
  (((xs.map (·.fl)).sum : Nat), ((xs.map (·.want)).sum : Nat))

/-- One pass of one class over every feeder (R188). -/
def allocClass (floors : Bool) (k : Nat) (ds : List (BitVec 6 × List Demand)) (x : AllocAcc) : AllocAcc :=
  let amt (f : Nat) (d : List Demand) : Rat :=
    let (fl, want) := demandOf d f k
    if floors then fl else want - fl
  let need (f : Nat) : Rat := (ds.map fun w => amt f w.2).sum
  let forced := floors && k = 1
  let cand (f : Nat) : Rat := if forced then need f else min (max (x.room.getD f 0) 0) (need f)
  let s : Rat := if forced then 1 else shareOf x.ship (((List.range 32).map cand).sum)
  let part (f : Nat) : Rat := shareOf (cand f * s) (need f)
  { ship := x.ship - ((List.range 32).map fun f => need f * part f).sum,
    room := (List.range 32).map fun f => x.room.getD f 0 - need f * part f,
    grants := x.grants ++ (List.range 32).flatMap fun f => ds.filterMap fun w =>
      if amt f w.2 = 0 then none else some (w.1, f, k, amt f w.2 * part f) }

/-- The grants of a run (R188). -/
def allocate (ship : Rat) (room : List Rat) (ds : List (BitVec 6 × List Demand)) : AllocAcc :=
  [(true, 1), (true, 2), (true, 3), (false, 1), (false, 2), (false, 3)].foldl (fun x p => allocClass p.1 p.2 ds x)
    { ship := ship, room := room, grants := [] }

/-- A limit in 10 W units; all ones is no limit (Table 6.11). -/
def limitOf (v : BitVec 20) : Rat := if v = 0xFFFFF#20 then 1000000000000 else ((v.toNat : Nat) : Rat)

/-- The sum of the grants of a worker, feeder and class. -/
def AllocAcc.total (x : AllocAcc) (w : BitVec 6) (f k : Nat) : Rat :=
  ((x.grants.filter fun g => g.1 = w ∧ g.2.1 = f ∧ g.2.2.1 = k).map (·.2.2.2)).sum

/-- The bytes of a number of 10 W units that is rounded up and kept within 16 bits. -/
def up10 (mw : Nat) : Nat := (mw + 9999) / 10000

namespace Port

/-- The power of the contract in mW (Table 4.2). -/
def contractMw (p : Port) : Nat := (fld p.contract.contract 0 12).toNat * 20 * ((fld p.contract.contract 12 9).toNat * 10) / 1000

/-- The want of a port in mW (R187), its floor at least; `stage` is the shed stage. -/
def wantMw (cl : SvcClass) (stage : Nat) (floor : Nat) (p : Port) : Nat :=
  let cap := 1000 * min 240 p.srccap.pCap.toNat
  let stg := if (cl = .c ∧ 1 ≤ stage) ∨ (cl = .b ∧ 3 ≤ stage) then 15000 else 1000000
  let w :=
    if !p.contract.explicit then 0
    else if bit p.contract.contract 28 ∨ p.role.share.toNat * 500 * 9 ≤ p.contractMw * 10 then min cap stg
    else min (min (max floor (p.contractMw * 11 / 10)) cap) stg
  max floor w

end Port

/-- floor_k in mW (R187). -/
def BgFloor.mw (r : BgFloor) (cl : SvcClass) : Nat :=
  2500 + 500 * (match cl with | .a => r.floorA | .b => r.floorB | .c => r.floorC).toNat

/-- A report as the allocator takes it: fl by the manager's floors, want at least fl (Table 6.5, R187; log entry 184). -/
def Demand.floored (r : BgFloor) (d : Demand) : Demand :=
  let cl := (SvcClass.ofCode d.cls).getD .c
  let fl := up10 (d.n * r.mw cl)
  { d with fl := fl, want := max d.want fl }

/-- The minimum offers of a feeder's attached ports in 10 W units (R190). -/
def minOffers (f : Nat) (ds : List (BitVec 6 × List Demand)) : Rat :=
  (((ds.flatMap (·.2)).filter fun d => d.feeder.toNat = f).map fun d => ((d.n : Nat) : Rat) / 4).sum

namespace State

/-- Whether the allocator registers stand open: on a standalone device, a strapped manager and an acting one (R196). -/
def allocRegs (s : State) : Bool := s.sys.stat.role = 0#2 || s.sys.stat.role = 1#2 || s.lk.tree.actingMgr

/-- floor_k in mW, by the floors of the last tick; a worker's BG_FLOOR reads its reset value (R187, R196). -/
def floorMw (s : State) (cl : SvcClass) : Nat := (if s.allocRegs then s.bg.floorNow else BgFloor.reset).mw cl

/-- Whether the island budget is in use: on a worker without a lease, and on every device in provisioning-hold (R192,
R413; log entry 183). -/
def onIsland (s : State) : Bool := s.bg.stat.island || s.sys.mode = .provHold

/-- Whether a budget agent runs: the supervisor role, or in provisioning-hold the emergency image (R413). -/
def agentRuns (s : State) : Bool := s.roleRuns 13#5 || (s.sys.mode = .provHold && s.roleRuns 12#5)

/-- The want of a port in mW. -/
def wantOf (s : State) (n : PortId) : Nat :=
  s.ports[n].wantMw (s.cls n) s.sh.stat.stage.toNat (s.floorMw (s.cls n))

/-- The attached ports of a class, of one feeder or of all. -/
def attachedOf (s : State) (feeder : Option (BitVec 5)) (cl : SvcClass) : List PortId :=
  (List.finRange 192).filter fun n =>
    s.ports[n].attached && decide (s.cls n = cl) && (match feeder with | some f => s.pcfg[n].feeder = f | none => true)

/-- The demand report of this device (R187). -/
def ownDemand (s : State) : List Demand :=
  (List.range 32).flatMap fun f => [SvcClass.a, .b, .c].filterMap fun cl =>
    let ports := s.attachedOf (some (BitVec.ofNat 5 f)) cl
    if ports.isEmpty then none
    else some { feeder := BitVec.ofNat 5 f, cls := cl.code, n := ports.length, fl := up10 (ports.length * s.floorMw cl),
                want := up10 ((ports.map s.wantOf).sum) }

/-- Whether this device runs the allocator: acting manager or standalone (R188). -/
def allocates (s : State) : Bool := s.sys.stat.role = 0#2 || s.lk.tree.actingMgr

/-- A p_share other than that of the last division is posted to the mailbox of the role that serves the port (R189). -/
def postShare (n : PortId) (halfW : Nat) (s : State) : State :=
  let v := BitVec.ofNat 16 (min 65535 halfW)
  if s.ports[n].role.divided = v then s
  else
    let s := s.setPort n { s.ports[n] with role := { s.ports[n].role with divided := v } }
    let role : Fin 16 := ⟨s.ports[n].q.role.toNat % 16, Nat.mod_lt _ (by decide)⟩
    s.post role (mbxGroup 13#4 1#8 (BitVec.ofNat 8 n.val) [v.setWidth 36])

/-- A grant in mW divided among ports of one class (R189). -/
def divideGroup (g : Rat) (cl : SvcClass) (ports : List PortId) (s : State) : State :=
  let floor : Rat := ((s.floorMw cl : Nat) : Rat)
  let n : Rat := ((ports.length : Nat) : Rat)
  let gap (p : PortId) : Rat := max 0 (((s.wantOf p : Nat) : Rat) - floor)
  let x := waterLevel (g - n * floor) ((ports.map gap).insertionSort (· ≤ ·))
  let share (p : PortId) : Rat := if g < n * floor then g / n else floor + min (gap p) x
  ports.foldl (fun t p => t.postShare p (max 5 (share p / 500).floor.toNat)) s

/-- The grants of the island budget, one for each class, in mW (R192). -/
def islandGrants (s : State) : AllocAcc :=
  let d : List Demand := [SvcClass.a, .b, .c].map fun cl =>
    let ports := s.attachedOf none cl
    { feeder := 0#5, cls := cl.code, n := ports.length, fl := ports.length * s.floorMw cl, want := (ports.map s.wantOf).sum }
  let w : Rat := ((s.bg.islandW.toNat * 10000 : Nat) : Rat)
  allocate w [w] [(0#6, d)]

/-- FLOOR_OVER, with an alert when it is newly set (R188, R190, Table 13.3). -/
def floorOver (low : Bool) (s : State) : State :=
  if low && !s.bg.stat.floorOver then
    let s : State := { s with bg := { s.bg with stat := { s.bg.stat with floorOver := true } } }
    s.alert 8#8 s.bgStatWord
  else s

/-- The budget agent divides what is in force: the island budget, or the grants of the lease or of the own run
(R189, R192). -/
def divide (s : State) : State :=
  if !s.agentRuns then s
  else if s.onIsland then
    let x := s.islandGrants
    let n := ((List.finRange 192).filter fun n => s.ports[n].attached).length
    let s := s.floorOver (x.ship < 0 || x.room.any (· < 0) || decide (s.bg.islandW.toNat * 10000 < n * 2500))
    [SvcClass.a, .b, .c].foldl (fun t cl =>
      let ports := t.attachedOf none cl
      if ports.isEmpty then t else t.divideGroup (x.total 0#6 0 cl.code.toNat) cl ports) s
  else
    (List.range 32).foldl (fun t f => [SvcClass.a, .b, .c].foldl (fun t cl =>
      let ports := t.attachedOf (some (BitVec.ofNat 5 f)) cl
      if ports.isEmpty then t
      else
        let g := ((t.bg.grants.filter fun g => g.feeder.toNat = f ∧ g.cls = cl.code).map fun g => g.g.toNat).sum
        t.divideGroup ((g * 10000 : Nat) : Rat) cl ports) t) s

/-- The island budget is entered or left, with its alert (R192, Table 13.3). -/
def setIsland (on : Bool) (s : State) : State :=
  if s.bg.stat.island = on then s
  else ({ s with bg := { s.bg with stat := { s.bg.stat with island := on } } }).alert 5#8 (if on then 1#32 else 0#32)

/-- Whether this device works on leases: a worker, an acting deputy apart (R191, R192). -/
def isWorker (s : State) : Bool := bit s.sys.stat.role 1 && !s.lk.tree.actingMgr

/-- A device without a lease: a worker goes to its island budget, and the budget in use is divided (R192). -/
def leaseless (s : State) : State :=
  (if s.isWorker then
    ({ s with bg := { s.bg with
      grants := [], lease := BgLease.reset, stat := { s.bg.stat with leaseValid := false } } }).setIsland true
  else s).divide

-- Classes (R175 to R177)

/-- A write of P_CFG.CLASS (R176, R177, Table 6.9). -/
def classWrite (n : PortId) (v : BitVec 2) (s : State) : State :=
  match SvcClass.ofCode v with
  | none => s
  | some cl =>
    let p := s.ports[n]
    if p.heldCls.getD (s.cls n) = cl then s
    else if cl = .a ∧ s.cls n ≠ .a ∧ 24 ≤ s.classACount then
      { s with pcfg := s.pcfg.set n { s.pcfg[n] with classRef := true } }
    else
      (s.setPort n { p with heldCls := some cl }).applyClass n

-- The allocator (R186 to R188)

/-- The numbers of the allocator's state that a STATE_COPY carries (Table 12.3, log entry 29). -/
def copyNumbers (x : AllocIn) (leases : List (BitVec 6 × List Grant)) (s : State) : List Nat :=
  [x.ship.toNat] ++ x.lim.toList.map (·.toNat) ++ x.cap.toList.map (·.toNat) ++
    [x.floor.read.toNat, x.tLease.toNat, s.lk.tree.term.toNat] ++
    (x.demand.flatMap fun d => d.1.toNat :: d.2.flatMap fun e => [e.feeder.toNat, e.cls.toNat, e.n, e.fl, e.want]) ++
    s.lk.table.flatMap (fun e => [e.1.toNat, e.2.toNat]) ++
    leases.flatMap (fun l => l.1.toNat :: l.2.flatMap fun g => [g.feeder.toNat, g.cls.toNat, g.g.toNat])

/-- ALLOCATOR_TICK: a run starts on the inputs of Table 6.5; one that still runs is abandoned (R188). -/
def allocatorTick (s : State) : State :=
  if !s.allocates || !s.roleRuns 13#5 || s.sys.mode ≠ .run then s
  else
    let b := s.bg
    let x : AllocIn := { ship := b.shipLim, lim := b.feedLim, cap := b.feedCap, floor := b.floor, demand := b.demand,
                         tLease := b.cfg.tLease, time := BitVec.ofNat 48 s.treeUs }
    { s with bg := { b with run := some x, floorNow := b.floor, stat := { b.stat with allocOverrun := b.stat.allocOverrun || b.run.isSome } } }

/-- The body of a LEASE (Table 12.3). -/
def leaseBody (x : AllocIn) (gs : List Grant) : List Byte :=
  let gs := gs.take 96
  natBytes 6 x.time.toNat ++ natBytes 2 x.tLease.toNat ++ [BitVec.ofNat 8 gs.length] ++
    gs.flatMap fun g => leBytes (putF 0 g.feeder ||| putF 5 g.cls ||| putF 7 g.g)

/-- The deputy that STATE_COPY goes to: the worker of lowest address that reported the DEPUTY strap (R357). -/
def deputyAddr (s : State) : Option (BitVec 6) :=
  (s.lk.workers.filter (·.2)).foldl (fun b w => match b with
    | none => some w.1
    | some x => if w.1 < x then some w.1 else b) none

/-- ALLOCATOR_RUN_END: the grants of the run; the own grants are applied, STATE_COPY goes to the deputy, and the leases are
queued (R188, R192, R357). A grant is carried in whole 10 W units, rounded down (log entry 32). -/
def allocatorEnd (s : State) : State :=
  match s.bg.run with
  | none => s
  | some x =>
    if !s.roleRuns 13#5 then s
    else
      let room := (List.range 32).map fun f => min (limitOf (x.lim.toList.getD f 0#20)) (limitOf (x.cap.toList.getD f 0#20))
      let ds := x.demand.map fun d => (d.1, d.2.map (Demand.floored x.floor))
      let a := allocate (limitOf x.ship) room ds
      let grantsOf (w : BitVec 6) : List Grant := (List.range 32).flatMap fun f => [1, 2, 3].filterMap fun k =>
        let g := (a.total w f k).floor.toNat
        if g = 0 then none else some { feeder := BitVec.ofNat 5 f, cls := BitVec.ofNat 2 k, g := BitVec.ofNat 20 (min 0xFFFFF g) }
      let known := x.demand.map (·.1)
      let per := (known ++ (s.lk.workers.map (·.1)).filter (· ∉ known)).map fun w => (w, grantsOf w)
      let sum (f : Nat) : Nat := (per.map fun w => ((w.2.filter fun g => g.feeder.toNat = f).map fun g => g.g.toNat).sum).sum
      let own := grantsOf s.ownAddr
      let s : State := { s with bg := { s.bg with
        run := none, grants := own, lease := BgLease.reset,
        stat := { s.bg.stat with leaseValid := false },
        feedGrant := Vector.ofFn fun f : Fin 32 => BitVec.ofNat 20 (min 0xFFFFF (sum f.val)) } }
      let s := (s.setIsland false).floorOver (a.ship < 0 || a.room.any (· < 0) ||
        (List.range 32).any fun f => decide (room.getD f 0 < minOffers f ds))
      let s := match s.deputyAddr with
        | some d => s.sendTo false d 6#8 (Config.stateCopyBody (s.copyNumbers x (per.filter fun w => w.1 ≠ s.ownAddr)))
        | none => s
      (per.foldl (fun t w => if w.1 = t.ownAddr then t else t.sendTo false w.1 4#8 (leaseBody x w.2)) s).divide

/-- The body of a DEMAND (Table 12.3). -/
def demandBody (ds : List Demand) : List Byte :=
  BitVec.ofNat 8 ds.length :: ds.flatMap fun d =>
    [d.feeder.setWidth 8, d.cls.setWidth 8, BitVec.ofNat 8 d.n] ++ natBytes 2 (min 65535 d.fl) ++ natBytes 2 (min 65535 d.want)

/-- A demand report is stored by its sender's address. -/
def storeDemand (a : BitVec 6) (ds : List Demand) (s : State) : State :=
  { s with bg := { s.bg with demand := (a, ds) :: s.bg.demand.filter fun x => x.1 ≠ a } }

/-- DEMAND_REPORT: to the allocator of the tree, or to the own one (R187). -/
def demandReport (s : State) : State :=
  if !s.roleRuns 13#5 || s.sys.mode ≠ .run then s
  else if s.allocates then s.storeDemand s.ownAddr s.ownDemand
  else s.sendTo false 0#6 5#8 (demandBody s.ownDemand)

/-- DEMAND: the acting manager stores a report (R187). -/
def demandTaken (src : BitVec 6) (bs : List Byte) (s : State) : State :=
  if !s.lk.tree.actingMgr then s
  else
    let n := (bs.getD 0 0#8).toNat
    s.storeDemand src ((List.range n).map fun i =>
      let b := bs.drop (1 + 7 * i)
      { feeder := fld (b.getD 0 0#8) 0 5, cls := fld (b.getD 1 0#8) 0 2, n := (b.getD 2 0#8).toNat, fl := numAt 3 2 b,
        want := numAt 5 2 b })

/-- A worker strapped DEPUTY that a tick's LEASE reaches without a STATE_COPY since the one before is not the designated deputy:
DEPUTY_EXTRA, and the copy it may have had as deputy before is no longer one (R357; log entry 188). -/
def noteExtra (s : State) : State :=
  let s' : State :=
    if s.sys.stat.deputy && !s.lk.copyFresh then
      { s with lk := { s.lk with copy := none, tree := { s.lk.tree with deputyExtra := true, deputy := false } } }
    else s
  { s' with lk := { s'.lk with copyFresh := false } }

/-- LEASE: a worker applies a received lease at its last cell, or finds it expired; one older than the lease in force
does nothing (R191). -/
def leaseTaken (bs : List Byte) (s : State) : State :=
  if !s.isWorker then s
  else
    let s := s.noteExtra
    let issue := numAt 0 6 bs
    let len := numAt 6 2 bs
    let n := min 96 (bs.getD 8 0#8).toNat
    let gs : List Grant := (List.range n).map fun i =>
      let w := leWord (cut (9 + 4 * i) 4 bs)
      { feeder := fld w 0 5, cls := fld w 5 2, g := fld w 7 20 }
    let age := (s.treeUs % 2 ^ 48 + 2 ^ 48 - issue) % 2 ^ 48
    let left : Nat := if age < 2 ^ 47 then len * 1000 - age else len * 1000 + (2 ^ 48 - age)
    let late := (s.bg.leaseTime.toNat + 2 ^ 48 - issue) % 2 ^ 48
    if s.bg.stat.leaseValid ∧ 0 < late ∧ late < 2 ^ 47 then s
    else if len = 0 ∨ left = 0 then s.leaseless
    else
      let s : State := { s with bg := { s.bg with
        grants := gs, leaseTime := BitVec.ofNat 48 issue, stat := { s.bg.stat with leaseValid := true },
        lease := { leaseW := BitVec.ofNat 20 (min 0xFFFFF ((gs.map fun g => g.g.toNat).sum)),
                   remain := BitVec.ofNat 12 (min 4095 ((left + 999) / 1000)) } } }
      (s.setIsland false).divide

/-- LEASE_EXPIRY: the lease in force ends and the worker goes to its island budget (R191, R192). -/
def leaseExpiry (s : State) : State :=
  if s.bg.stat.leaseValid ∧ s.isWorker then s.leaseless else s

/-- The head group of the mailbox of a role: its kind, its port or slot, and its data (Tables 11.5 and 11.6). -/
def mailHead (s : State) (role : Fin 16) : Option (BitVec 8 × BitVec 8 × List W36) :=
  match (s.sysq[(⟨role.val, by have := role.isLt; omega⟩ : Fin 64)]).head with
  | h :: rest => if h.typ = 1#6 then some (fld h.payload 4 8, fld h.payload 12 8, rest.map (·.payload)) else none
  | [] => none

/-- The head group of a mailbox is committed. -/
def mailDone (role : Fin 16) (s : State) : State :=
  s.onSysq ⟨role.val, by have := role.isLt; omega⟩ Queue.commitHead

/-- A port takes its new p_share; one that has detached since the division has none (R107, R189). -/
def takeShare (port : BitVec 8) (v : BitVec 16) (s : State) : State :=
  if h : port.toNat < 192 then s.onPort ⟨port.toNat, h⟩ fun e p => if p.attached then p.share e v else p else s

/-- The demands of the workers that a link port reached are dropped with it, where no other port reaches them (R187; log
entry 184). -/
def dropDemand (i : LinkId) (s : State) : State :=
  if s.lk.tree.actingMgr then
    let gone := s.lk.ports[i].subtree.filter fun w => !(List.finRange 4).any fun j => j ≠ i && s.lk.ports[j].subtree.contains w
    { s with bg := { s.bg with demand := s.bg.demand.filter fun d => d.1 = s.ownAddr || !gone.contains d.1 } }
  else s

/-- A write of BG_LAT_x.MAX_CLR (Table 6.11). -/
def latClear (cl : SvcClass) (s : State) : State :=
  match cl with
  | .a => { s with bg := { s.bg with latA := BgLat.reset } }
  | .b => { s with bg := { s.bg with latB := BgLat.reset } }
  | .c => { s with bg := { s.bg with latC := BgLat.reset } }

end State

end Sys2Proof.Machine
end

