-- ==== Sys2Proof/Machine/Tree.lean ====
section
/-! DEFINITION. The device tree: beacons, roots, addresses, the manager role and its deputy, LIFE, and the remote window
(spec/12_ndomund_link.md R351 to R360). -/

namespace Sys2Proof.Machine

namespace State

/-- The manager role of this device has changed: an alert (Table 13.3). -/
def lkTreeWord (s : State) : Word :=
  let reach : List (BitVec 6) := (List.finRange 4).flatMap fun i =>
    if s.lk.ports[i].stat.state = 7#3 then s.lk.ports[i].subtree else []
  let n := (s.lk.workers.filter fun w => reach.contains w.1).length
  s.lk.tree.read (if s.lk.tree.actingMgr then BitVec.ofNat 6 n else 0#6)

/-- A tree field changed. -/
def onTree (f : LkTree → LkTree) (s : State) : State := { s with lk := { s.lk with tree := f s.lk.tree } }

/-- Whether term x comes after term y, modulo 256 (R359). -/
def termAfter (x y : BitVec 8) : Bool := x ≠ y && decide ((x - y).toNat < 128)

/-- No root port: the device is acting manager, or has none (R354, R358). -/
def clearRoot (s : State) : State :=
  let ps := s.lk.ports.map fun (p : LinkPort) => { p with stat := { p.stat with active := false } }
  ({ s with lk := { s.lk with ports := ps } }).onTree fun t => { t with rootPort := 7#3, depth := 0#3 }

/-- The cells that the old root port had not had acknowledged, and those it still had to forward, go to the new one
(R354), behind what stands there (R347). -/
def moveCells (a b : LinkId) (s : State) : State :=
  let take (bulk : Bool) (s : State) : State :=
    let h := s.lk.ports[a].hop bulk
    let wr := (s.sysq[txQueue b bulk]).wr
    let cs := (h.unacked.map fun x => x.2.2) ++ h.fwd.map (·.1)
    let s := s.onLink a (·.onHop bulk fun h => { h with unacked := [], sent := 0, fwd := [], outbox := [] })
    s.onLink b (·.onHop bulk fun k => { k with fwd := k.fwd ++ cs.map (fun c => (c, wr)), outbox := k.outbox ++ h.outbox })
  take true (take false s)

/-- A root port chosen: ACTIVE, depth, the term followed, and TOPO on it (R354). What a root port that had gone DOWN before
left unacknowledged is sent here too. -/
def setRoot (i : LinkId) (s : State) : State :=
  let old := s.rootLink
  let s := match old.or s.lk.lostRoot with | some a => if a = i then s else s.moveCells a i | none => s
  let s : State := { s with lk := { s.lk with lostRoot := none } }
  let d := match s.lk.ports[i].beacon with | some b => b.depth | none => 0
  let s := (s.clearRoot.onLink i fun p => { p with stat := { p.stat with active := true } }).onTree
    fun t => { t with rootPort := BitVec.ofNat 3 i.val, depth := BitVec.ofNat 3 d }
  if old = some i then s else s.sendTopo

/-- Whether a port may be root: UP, its beacon of the term and serial followed, depth at most 5, no loop (R352). -/
def rootable (s : State) (i : LinkId) : Bool :=
  let p := s.lk.ports[i]
  p.stat.state = 7#3 && (match p.beacon with
    | some b => b.term = s.lk.tree.term && b.serial = s.lk.mgrSerial && decide (b.depth ≤ 5) && !b.loop
    | none => false)

/-- The depth that the last beacon of a port gives this device (R352). -/
def beaconDepth (s : State) (i : LinkId) : Nat :=
  match s.lk.ports[i].beacon with
  | some b => b.depth
  | none => 0

/-- The best root port: the lowest depth, then the port order (R354). -/
def bestRoot (s : State) : Option LinkId :=
  ((List.finRange 4).filter s.rootable).foldl (fun (b : Option LinkId) (i : LinkId) => match b with
    | none => some i
    | some j => if s.beaconDepth i < s.beaconDepth j then some i else some j) none

/-- The root port is kept while it may be root; else the best one is taken (R354). -/
def chooseRoot (s : State) : State :=
  match s.rootLink with
  | some r => if s.rootable r then s.setRoot r else (match s.bestRoot with | some i => s.setRoot i | none => s)
  | none => match s.bestRoot with
    | some i => s.setRoot i
    | none => s

/-- A device that was acting manager follows another one: the strapped manager is DEPOSED, a deputy returns to DEPUTY
and, without a lease, to its island budget (R192, R359); the strapped manager keeps the grants of its last run (log entry
185). -/
def deposed (s : State) : State :=
  if s.lk.tree.actingMgr then
    let strapped := s.sys.stat.role = 1#2
    let s := s.onTree fun t => { t with actingMgr := false, deposed := strapped }
    let s : State := { s with bg := { s.bg with
      run := none, floorNow := if strapped then s.bg.floorNow else BgFloor.reset,
      stat := { s.bg.stat with limInherited := false } } }
    (if strapped then s else s.leaseless).alert 6#8 s.lkTreeWord
  else s

/-- BEACON: the term, the manager and the root port are followed (R352, R354, R359); a device that follows none yet follows the
first that it sees. -/
def beaconTaken (i : LinkId) (bs : List Byte) (s : State) : State :=
  let term := bs.getD 0 0#8
  let serial : BitVec 64 := BitVec.ofNat 64 (numAt 1 8 bs)
  let h := (bs.getD 15 0#8).toNat
  let path := (cut 16 h bs).map fun b => fld b 0 6
  let loop := s.lk.tree.addrOk && path.contains s.ownAddr
  let depth := h + 1
  let s := s.onLink i fun p => { p with
    beacon := some { term := term, serial := serial, depth := depth, loop := loop, time := BitVec.ofNat 48 (numAt 9 6 bs) },
    stat := { p.stat with depthRef := p.stat.depthRef || decide (5 < depth), loopSeen := p.stat.loopSeen || loop } }
  let t := s.lk.tree
  let first := !t.actingMgr && s.lk.mgrSerial = 0#64
  let s : State := if first || termAfter term s.lk.highTerm then { s with lk := { s.lk with highTerm := term } } else s
  let own := t.actingMgr && serial = s.serial
  let newer := first || termAfter term t.term ||
    (term = t.term && (if t.actingMgr then serial < s.serial else serial ≤ s.lk.mgrSerial))
  if own || !newer then s
  else
    let s := s.deposed
    let change := term ≠ s.lk.tree.term || serial ≠ s.lk.mgrSerial
    let s : State := ({ s with lk := { s.lk with mgrSerial := serial } }).onTree fun t => { t with term := term }
    if change then (match s.bestRoot with | some j => s.setRoot j | none => s) else s.chooseRoot

/-- BEACON_LOSS: three beacons missing on the root port while another port has them (R354). -/
def beaconLoss (s : State) : State :=
  match s.rootLink with
  | none => s
  | some r =>
    let t := s.onLink r fun p => { p with beacon := none }
    match t.bestRoot with
    | some i => if s.linksUp then t.setRoot i else s
    | none => s

/-- ROOT_REVERT_TIMER: upstream A has carried beacons for 60 s while another port is root (R354). -/
def rootRevert (s : State) : State :=
  if s.linksUp && s.lk.cfg.revert && s.upLabel 0 && s.rootLink ≠ some 0 && s.rootLink.isSome && s.rootable 0 then s.setRoot 0
  else s

/-- The ports on which beacons no longer arrive when the root port goes DOWN have none (R354, log entry 218). -/
def beaconsAged (s : State) : State :=
  let k := s.fresh
  { s with fresh := k + 1, lk := { s.lk with ports := Vector.ofFn fun j : LinkId =>
      let p := s.lk.ports[j]
      { p with beacon := if Config.beaconArrives k j.val then p.beacon else none } } }

/-- A link port that goes DOWN: a root port gives way to another on which beacons arrive (R344, R354); what lay below another
port is told as gone (Table 12.3). -/
def portDown (i : LinkId) (s : State) : State :=
  let root := s.rootLink = some i
  let told : Bool := s.lk.ports[i].subtree ≠ []
  let s := (s.linkDown i).dropDemand i
  let s := s.onLink i fun p => { p with stat := { p.stat with active := false, peerOk := false }, subtree := [] }
  if root then
    let s := s.beaconsAged
    match s.bestRoot with
    | some j => s.setRoot j
    | none => { s.clearRoot with lk := { s.clearRoot.lk with lostRoot := some i } }
  else if told then s.sendTopo else s

/-- A command that takes an UP port DOWN (R344). -/
def fromUp (i : LinkId) (s : State) : State :=
  if s.linksUp && s.lk.ports[i].stat.state = 7#3 then s.portDown i else s

/-- A retransmission round; a cell sent 16 times takes the port DOWN (R344, R348). -/
def resendOr (i : LinkId) (bulk : Bool) (s : State) : State :=
  let p := s.lk.ports[i]
  if s.linksUp && p.stat.state = 7#3 && (p.hop bulk).worn then s.portDown i else s.resendRound i bulk

/-- BEACON_TIMER: the acting manager broadcasts BEACON (R357, Table 12.3). -/
def beaconSend (s : State) : State :=
  s.broadcast false 0#6 1#8 ([s.lk.tree.term] ++ serialBytes s.serial ++ natBytes 6 s.treeUs ++ [0#8])

/-- Whether the registers that lie outside the island can be reached (R463, Table 16.4). -/
def regsUp (s : State) : Bool := s.controlUp && s.sys.mode ≠ .island

/-- A write of LK_CTRL.RETRAIN (R344). -/
def retrain (i : LinkId) (s : State) : State := if s.sys.stat.role = 0#2 then s else s.portDown i

/-- A write of LK_CTRL.EN = 0 (R344); none on a standalone device (R339, Table 12.7). -/
def linkDisable (i : LinkId) (s : State) : State :=
  if s.sys.stat.role = 0#2 then s
  else (s.onLink i fun p => { p with ctrl := { p.ctrl with en := false } }).portDown i

-- Addresses (R351)

/-- The address that the manager grants to a serial: that requested, else the lowest that no other serial holds; 0 for none. -/
def grantAddr (s : State) (serial : BitVec 64) (want : BitVec 6) : BitVec 6 :=
  let held (a : BitVec 6) : Bool := s.lk.table.any fun e => e.2 = a && e.1 ≠ serial
  if want ≠ 0#6 ∧ !held want then want
  else match (List.range 63).find? fun k => !held (BitVec.ofNat 6 (k + 1)) with
    | some k => BitVec.ofNat 6 (k + 1)
    | none => 0#6

/-- TOPO: the manager grants an address and answers with ADDR, which goes to every device because the worker may hold no
address yet (R351, log entry 33). -/
def topoTaken (bs : List Byte) (s : State) : State :=
  if !s.lk.tree.actingMgr then s
  else
    let serial : BitVec 64 := BitVec.ofNat 64 (numAt 0 8 bs)
    let b8 := bs.getD 8 0#8
    let a := s.grantAddr serial (fld b8 0 6)
    let s : State := if a = 0#6 then s else { s with lk := { s.lk with
      table := (serial, a) :: s.lk.table.filter fun e => e.1 ≠ serial,
      workers := (a, bit b8 7) :: s.lk.workers.filter fun w => w.1 ≠ a } }
    s.broadcast false a 3#8 (serialBytes serial ++ [a.setWidth 8])

/-- ADDR: a worker takes its address; without one it goes to its island budget (R351). -/
def addrTaken (bs : List Byte) (s : State) : State :=
  let serial : BitVec 64 := BitVec.ofNat 64 (numAt 0 8 bs)
  let a := fld (bs.getD 8 0#8) 0 6
  if s.lk.tree.actingMgr || !bit s.sys.stat.role 1 || serial ≠ s.serial then s
  else if a = 0#6 then (s.onTree fun t => { t with addrOk := false }).leaseless
  else if s.lk.tree.addrOk ∧ s.ownAddr = a then s
  else (({ s with lk := { s.lk with reqAddr := a } }).onTree fun t => { t with addr := a, addrOk := true }).sendTopo

-- The manager role (R357 to R359)

/-- STATE_COPY: the designated deputy holds the copy; another worker strapped DEPUTY that is not sent one stays plain
(R357). -/
def copyTaken (c : StateCopy) (s : State) : State :=
  if s.sys.stat.deputy && bit s.sys.stat.role 1 && !s.lk.tree.actingMgr then
    ({ s with lk := { s.lk with copy := some c, copyFresh := true } }).onTree fun t => { t with deputy := true }
  else s

/-- The device becomes acting manager with a term: no root port, time master everywhere, and a beacon at once. -/
def takeManager (term : BitVec 8) (s : State) : State :=
  let s := (s.clearRoot).onTree fun t => { t with actingMgr := true, deposed := false, term := term }
  let s : State := { s with lk := { s.lk with mgrSerial := s.serial, highTerm := term, lostRoot := none } }
  (s.alert 6#8 s.lkTreeWord).beaconSend

/-- MANAGER_LOSS: the deputy takes over with the copied state (R358, R193). -/
def managerLoss (s : State) : State :=
  match s.lk.copy with
  | some c =>
    if s.lk.tree.deputy && !s.lk.tree.actingMgr && s.sys.mode = .run then
      let f := c.floor
      let s : State := { s with
        bg := { s.bg with
          shipLim := c.ship, feedLim := c.lim, feedCap := c.cap, cfg := { tLease := c.tLease }, demand := c.demand,
          floor := { floorA := fld f 0 8, floorB := fld f 8 8, floorC := fld f 16 8 },
          stat := { s.bg.stat with limInherited := true } },
        lk := { s.lk with table := c.table, workers := c.table.map fun e => (e.2, false) } }
      s.takeManager (s.lk.tree.term + 1#8)
    else s
  | none => s

/-- RECLAIM: acted on only while DEPOSED and SYNCED (R359). -/
def reclaim (s : State) : State :=
  if s.lk.tree.deposed && s.lk.time.synced then s.takeManager (s.lk.highTerm + 1#8) else s

-- Time (R355)

/-- TIME_SYNC_TIMER: the time master sends SYNC on each link, in SYNC and UP; its stamp is taken as it leaves. -/
def timeSync (s : State) : State :=
  if !s.linksUp then s
  else (List.finRange 4).foldl (fun s i =>
    let st := s.lk.ports[i].stat.state
    if (st = 6#3 || st = 7#3) && s.timeMaster i then s.onLink i (·.queueCtl (.sync 0#64)) else s) s

/-- SYNC: the child stamps the arrival and sends DELAY_REQ. -/
def syncTaken (i : LinkId) (t1 t2 : BitVec 64) (s : State) : State :=
  let st := s.lk.ports[i].stat.state
  if s.linksUp && (st = 6#3 || st = 7#3) && !s.timeMaster i then
    s.onLink i fun p => { p with t1 := t1, t2 := t2 }.queueCtl .delayReq
  else s

/-- DELAY_REQ: the master returns DELAY_RSP with its tree time at the arrival; in SYNC an exchange ends for it. -/
def delayReq (i : LinkId) (s : State) : State :=
  let st := s.lk.ports[i].stat.state
  if s.linksUp && (st = 6#3 || st = 7#3) && s.timeMaster i then
    (s.onLink i (·.queueCtl (.delayRsp s.lk.clock))).syncDone i
  else s

/-- DELAY_RSP: the child takes the offset; in SYNC an exchange ends for it. -/
def delayRsp (i : LinkId) (t3 t4 : BitVec 64) (s : State) : State :=
  let st := s.lk.ports[i].stat.state
  if s.linksUp && (st = 6#3 || st = 7#3) && !s.timeMaster i then (s.applyOffset i t3 t4).syncDone i else s

/-- LIFE_TIMER: core 12 sends the states of its class-A ports to the acting manager (R349, Table 12.3). -/
def lifeSend (s : State) : State :=
  if !s.roleRuns 12#5 || s.sys.mode ≠ .run || s.lk.tree.actingMgr then s
  else
    let ports := (List.finRange 192).filter fun n => s.cls n = .a
    let one (n : PortId) : List Byte :=
      let p := s.ports[n]
      let b1 : Byte := (fld p.tc.read 0 5).setWidth 8 ||| (if p.fe.path ≠ .none then 0x20#8 else 0#8) ||| (if p.pfault.oos then 0x40#8 else 0#8) |||
        (if p.sluice.latched then 0x80#8 else 0#8)
      let soc : Byte := if p.kgSoc.socSrc = 0#2 then 0xFF#8 else BitVec.ofNat 8 (p.kgSoc.soc.toNat / 10)
      [BitVec.ofNat 8 n.val, b1, soc]
    s.sendTo false 0#6 0x21#8 (BitVec.ofNat 8 ports.length :: ports.flatMap one)

-- The remote window (R360)

/-- A GO of the remote window (R360). On a device that is no acting manager the REM_ registers stay as they are written, and a
GO is refused (log entry 191). -/
def remGo (s : State) : State :=
  let l := s.lk
  let set (f : RemStat → RemStat) (s : State) : State := { s with lk := { s.lk with remStat := f s.lk.remStat } }
  let target := l.remSel.target
  if !l.tree.actingMgr || l.remStat.busy || target = 0#6 || target = s.ownAddr then set (fun r => { r with refused := true }) s
  else if (s.routeOf target).isNone then set (fun r => { r with noroute := true }) s
  else
    let tag := l.remTag + 1#8
    let bs := natBytes 2 l.remAddr.addr.toNat ++ [if l.remAddr.wr then 1#8 else 0#8] ++ leBytes l.remData ++ [tag]
    set (fun r => { r with busy := true }) (({ s with lk := { l with remTag := tag, remWr := l.remAddr.wr } }).sendTo true target 0x10#8 bs)

/-- A write of REM_ADDR (Table 12.9). -/
def remAddrWrite (w : Word) (s : State) : State :=
  let s : State := if !(bit w 17 && s.lk.remStat.busy) then
      { s with lk := { s.lk with remAddr := s.lk.remAddr.write w } }
    else s
  if bit w 17 then s.remGo else s

/-- REM_RSP: an answer with the tag of the access in progress ends it; any other is discarded (R360). -/
def remRsp (bs : List Byte) (s : State) : State :=
  let l := s.lk
  if l.remStat.busy && l.tree.actingMgr && bs.getD 0 0#8 = l.remTag then
    let bad := bs.getD 1 0#8 = 1#8
    { s with lk := { l with
      remStat := { l.remStat with busy := false, done := true, refused := l.remStat.refused || bad },
      remData := if l.remWr || bad then l.remData else leWord (cut 2 4 bs) } }
  else s

/-- REM_TIMEOUT (R360). -/
def remTimeout (s : State) : State :=
  let l := s.lk
  if l.remStat.busy then { s with lk := { l with remStat := { l.remStat with busy := false, timeout := true } } } else s

end State

end Sys2Proof.Machine
end

