-- ==== Sys2Proof/Machine/Settings.lean ====
section
/-! DEFINITION. The settings records of the flash: their bodies, writing them, restoring their values at a start and
filling an empty half (spec/17_flash_update.md R443, R446, R458, spec/16_startup_resets.md R438); and the log records
(R444). -/

namespace Sys2Proof.Machine

/-- A settings record position and its MAC under the flash-record key (R442, R443, Table 17.3). -/
def settingsKind (key : List Byte) : Flash.RecKind where
  count := 4
  size := 1024
  seqOf bs :=
    let n := numAt 6 2 bs
    if cut 0 2 bs = natBytes 2 0x5354 ∧ 1 ≤ n ∧ n ≤ 976 ∧ cut (16 + n) 16 bs = (hmacSha256 key (bs.take (16 + n))).take 16 then
      some (numAt 8 4 bs)
    else none

/-- A settings record position (Table 17.3). -/
def settingsPos (key : List Byte) (kind bench schema seq : Nat) (body : List Byte) : List Byte :=
  let b := natBytes 2 0x5354 ++ natBytes 1 kind ++ natBytes 1 bench ++ natBytes 2 schema ++ natBytes 2 body.length ++
    natBytes 4 seq ++ natBytes 4 0 ++ body
  b ++ (hmacSha256 key b).take 16

/-- What a settings record holds: its schema version and its body. -/
structure SettingsRec where
  schema : Nat
  body : List Byte
deriving DecidableEq, Repr

namespace FrontEnd

/-- The VCAL word of the values in force (Table 5.5). -/
def vcalWord (f : FrontEnd) : W36 := pay 0 f.d5 ||| pay 12 f.d20 ||| pay 24 f.d48

/-- The RON_CAL word of the values in force. -/
def ronWord (f : FrontEnd) : W36 := pay 0 f.rCal ||| pay 16 f.tCal ||| pay 28 f.alpha

end FrontEnd

/-- The 16 bytes that a PORTS record holds of a port (R443). -/
def Port.calBytes (p : Port) : List Byte :=
  natBytes 5 p.fe.vcalWord.toNat ++ natBytes 5 p.fe.ronWord.toNat ++ natBytes 2 p.fe.theta.toNat ++
    natBytes 2 p.fe.shunt.toNat ++ natBytes 2 p.fe.gain.toNat

/-- Those 16 bytes taken back: the values of Table 5.5 without an event. VCAL_OK and RCAL_OK follow words that differ
from the defaults (log entry 35). -/
def Port.calRestore (bs : List Byte) (p : Port) : Port :=
  let v := BitVec.ofNat 36 (numAt 0 5 bs)
  let r := BitVec.ofNat 36 (numAt 5 5 bs)
  let th := BitVec.ofNat 12 (numAt 10 2 bs)
  let f := p.fe
  let f : FrontEnd := if v = FrontEnd.init.vcalWord then f else
    { f with d5 := if fld v 0 12 = 0#12 then f.d5 else fld v 0 12,
             d20 := if fld v 12 12 = 0#12 then f.d20 else fld v 12 12, d48 := fld v 24 12 }
  let ron := r ≠ FrontEnd.init.ronWord && fld r 0 16 ≠ 0#16
  let f : FrontEnd := if ron then
    { f with rCal := fld r 0 16, tCal := fld r 16 12, alpha := fld r 28 8 } else f
  let f : FrontEnd := if th = 0#12 then f else { f with theta := th }
  let f : FrontEnd := if numAt 12 2 bs = 0 then f else
    { f with shunt := BitVec.ofNat 16 (numAt 12 2 bs), gain := BitVec.ofNat 16 (numAt 14 2 bs) }
  { p with fe := f, sluice := { p.sluice with vcalOk := p.sluice.vcalOk || v ≠ FrontEnd.init.vcalWord,
                                              rcalOk := p.sluice.rcalOk || ron } }.calNow

/-- The calibration of a port at its defaults (R158, R163, Table 5.5). -/
def Port.calDefault (p : Port) : Port :=
  let f := FrontEnd.init
  { p with
    fe := { p.fe with d5 := f.d5, d20 := f.d20, d48 := f.d48, rCal := f.rCal, tCal := f.tCal, alpha := f.alpha, theta := f.theta,
                      shunt := f.shunt, gain := f.gain },
    sluice := { p.sluice with vcalOk := false, rcalOk := false } }

namespace State

/-- The settings records are neither read nor written while the secrets are absent (R443). -/
def settingsOk (s : State) : Bool := s.fl.stat.present && !s.fz.stat.secretsAbsent

/-- The kind byte and bench byte of settings record j (R441, Table 17.3). -/
def settingsId (j : Nat) : Nat × Nat := if j = 0 then (1, 0) else if j = 13 then (3, 0) else (2, j - 1)

/-- The body of settings record j in schema 0x0001, from the values in force (R443). -/
def settingsBody (s : State) (j : Nat) : List Byte :=
  if j = 0 then
    leBytes s.sh.nom.read ++ leBytes ({ s.sh.berm with vBerm := 0#10 }).read ++ leBytes s.kg.cur.read ++ leBytes s.kg.time.read ++
      leBytes s.kg.learn.read ++ (s.bg.feedCap.toList.flatMap fun v => leBytes (v.setWidth 32)) ++
      (s.kg.cfg.toList.flatMap fun c => leBytes c.read) ++ [s.lk.reqAddr.setWidth 8]
  else if j = 13 then
    natBytes 1 s.lk.table.length ++ s.lk.table.flatMap fun x => natBytes 8 x.1.toNat ++ [x.2.setWidth 8]
  else (List.range 16).flatMap fun i => (((s.ports[16 * (j - 1) + i]?).map Port.calBytes).getD [])

/-- The slots of settings record j in a half. -/
def settingsBase (half : Bool) (j : Nat) : Nat := Flash.halfBase half + 0x2000 * j

/-- Settings record j of a half, when it is good (R442, R443). -/
def settingsRec (s : State) (half : Bool) (j : Nat) : Option SettingsRec :=
  if !s.settingsOk then none
  else (s.fl.recordAt (settingsKind s.fz.flashKey) (settingsBase half j)).map fun x =>
    { schema := numAt 4 2 x.2.1, body := cut 16 (numAt 6 2 x.2.1) x.2.1 }

/-- A settings record written into a half (R442, R443). -/
def settingsPut (half : Bool) (j schema : Nat) (body : List Byte) (s : State) : State :=
  let k := settingsKind s.fz.flashKey
  let base := settingsBase half j
  let (kind, bench) := settingsId j
  s.onFlash fun f => f.writeRecord k base (settingsPos s.fz.flashKey kind bench schema (f.nextSeq k base) body)

/-- The settings schema of the running bundle, and the oldest that its supervisor image converts (Table 17.5). -/
def schemaOf (bundle : List Byte) : Nat × Nat :=
  let b := bundleBody bundle 6
  (numAt 0 2 b, numAt 2 2 b)

/-- The settings schema that the running images write. -/
def runSchema (s : State) : Nat × Nat := schemaOf (s.bankImage s.runBank)

/-- A body between schema 0x0001, whose layout the spec gives, and another version (log entry 34). -/
def recode (v w j : Nat) (body : List Byte) : List Byte := if v = w then body else Config.convert v w j body

/-- Whether a value of settings record j differs from what its record says: from the record in force, else from the
reset values (R443). The TREE record is the acting manager's. -/
def settingsDue (s : State) (j : Nat) : Bool :=
  (j ≠ 13 || s.lk.tree.actingMgr) &&
    (match s.settingsRec s.fl.half j with
     | some r => recode 1 s.runSchema.1 j (s.settingsBody j) ≠ r.body
     | none => s.settingsBody j ≠ State.reset.settingsBody j)

/-- SETTINGS_RECORD_WRITE: core 13 writes settings record j when a value that it carries has changed, within the stage
rule of R440 (R443); in an activation once the half has been filled (R458). -/
def settingsWrite (j : Nat) (s : State) : State :=
  if j ≤ 13 && s.settingsOk && s.flashCan && s.roleRuns 13#5 && (!s.fl.job.onNew || s.fl.job.migrated) && s.settingsDue j then
    s.settingsPut s.fl.half j s.runSchema.1 (recode 1 s.runSchema.1 j (s.settingsBody j))
  else s

/-- The values of a DEVICE body in force; slots of the gauge that name one port raise SLOT_CONFLICT (R197). -/
def deviceValues (b : List Byte) (s : State) : State :=
  let w (i : Nat) : Word := leWord (cut (4 * i) 4 b)
  let s : State := { s with
    sh := { s.sh with nom := s.sh.nom.write (w 0), berm := s.sh.berm.write (w 1) },
    kg := { s.kg with cur := s.kg.cur.write (w 2), time := s.kg.time.write (w 3), learn := s.kg.learn.write (w 4),
                      cfg := Vector.ofFn fun i : Fin 48 => s.kg.cfg[i].write (w (37 + i.val)) },
    bg := { s.bg with feedCap := Vector.ofFn fun f : Fin 32 => (w (5 + f.val)).setWidth 20 },
    lk := { s.lk with reqAddr := BitVec.ofNat 6 (numAt 340 1 b) } }
  s.onAllPorts fun n s => s.markConflict n

/-- The DEVICE record restored (R438). -/
def restoreDevice (s : State) : State :=
  match s.settingsRec s.fl.half 0 with
  | none => s
  | some r => s.deviceValues (recode r.schema 1 0 r.body)

/-- The PORTS records restored, after the starts that lose the values (R438). -/
def restorePorts (s : State) : State :=
  (List.range 12).foldl (fun (s : State) b =>
    match s.settingsRec s.fl.half (b + 1) with
    | none => s
    | some r =>
      let bs := recode r.schema 1 (b + 1) r.body
      s.onAllPorts fun n s =>
        if n.val / 16 = b then s.setPort n (s.ports[n].calRestore (cut (16 * (n.val % 16)) 16 bs)) else s) s

/-- The TREE record restored on a strapped manager: the addresses held (R351, R443). -/
def restoreTree (s : State) : State :=
  match s.settingsRec s.fl.half 13 with
  | some r =>
    let b := recode r.schema 1 13 r.body
    if s.sys.stat.role ≠ 1#2 then s
    else { s with lk := { s.lk with table := (List.range (numAt 0 1 b)).map fun i =>
      (BitVec.ofNat 64 (numAt (1 + 9 * i) 8 b), BitVec.ofNat 6 (numAt (9 + 9 * i) 1 b)) } }
  | none => s

/-- SETTINGS_RESTORE: the values of R438; those of the ports only after a start that lost them. -/
def settingsRestore (ports : Bool) (s : State) : State :=
  let s := s.restoreDevice.restoreTree
  if ports then s.restorePorts else s

/-- The values written since the half in use was left are dropped: those of its records are in force again, and the reset
values where it holds no record (R456). -/
def settingsDrop (s : State) : State :=
  if !s.settingsOk then s
  else
    let s := if (s.settingsRec s.fl.half 0).isNone then s.deviceValues (State.reset.settingsBody 0) else s
    (s.onAllPorts fun n s => s.setPort n s.ports[n].calDefault).settingsRestore true

/-- Whether a settings half holds no good record of any kind (R446). -/
def halfEmpty (s : State) (half : Bool) : Bool := (List.range 14).all fun j => (s.settingsRec half j).isNone

/-- SETTINGS_MIGRATION into a half from the other one, for a bundle's schema: records of the same version are copied,
those of an older version no older than its oldest are converted, and SETTINGS_RESET is set for any other (R458). -/
def settingsMigrate (half : Bool) (schema : Nat × Nat) (s : State) : State :=
  if !s.settingsOk then s
  else
    (List.range 14).foldl (fun (s : State) j =>
      match s.settingsRec (!half) j with
      | none => s
      | some r =>
        if schema.2 ≤ r.schema ∧ r.schema ≤ schema.1 then
          s.settingsPut half j schema.1 (recode r.schema schema.1 j r.body)
        else s.onFlash fun f => { f with stat := { f.stat with settingsReset := true } }) s

-- Log (R444)

/-- A log record to the ring, and on a worker to the acting manager; dropped when the flash cannot take it (R444). -/
def log (code : Byte) (value : List Byte) (s : State) : State :=
  let bs := logRecord s.fl.logSeq.toNat s.treeUs code value
  let s := if s.flashCan then s.onFlash (logPut bs) else s
  s.sendLog bs

/-- LOG_RECORD_WRITE: the supervisor role writes a log record. The value is QY_LAST for a quarry event and
SYS_RST_CAUSE for a start; for an alert and for a breach it is the operand (R444). -/
def logWrite (code : Byte) (value : BitVec 120) (s : State) : State :=
  if !s.regsUp || !s.roleRuns 13#5 then s
  else if code = 0x10#8 then s.log code (leBytes s.qy.last.read)
  else if code = 0x11#8 then s.log code (leBytes s.sys.rstCause.read)
  else if code = 0x12#8 || (1#8 ≤ code && code ≤ 8#8) then s.log code (natBytes 15 value.toNat)
  else s

end State

end Sys2Proof.Machine
end

