-- ==== Sys2Proof/Machine/Gauge.lean ====
section
/-! DEFINITION. The commands of the gauge: samples, the ends of charge and discharge, the polls of a pack, the identity
digest and the journal (spec/07_knaser_gauge.md R197 to R225, spec/04_contracts_swaps.md R132, R133,
spec/14_supplies_shedding.md R394). -/

namespace Sys2Proof.Machine

namespace State

/-- Whether core 13 runs the gauge. -/
def gaugeUp (s : State) : Bool := s.regsUp && s.roleRuns 13#5

-- Samples

/-- The gauge sample queue of a position (R200), from queue 192. -/
def sampleQueue (q : PolderId) (pos : PosId) : Fin 64 :=
  ⟨32 + 2 * q.val + (if 24 ≤ pos.val then 1 else 0), by have := q.isLt; split <;> omega⟩

/-- GAUGE_SAMPLE: the front end of a gauged port writes a group, or drops it whole; the sample index advances either way
(R200, Table 7.2). `quiet`: the mean has stayed below i_quiet for 1 s; a mean at or above i_quiet ends the reduced rate
(R203). -/
def gaugeSample (n : PortId) (quiet : Bool) (s : State) : State :=
  let q := polderOf n
  let pos := posOf n
  if !s.regsUp || !s.polders[q].die || (s.slotOf n).isNone then s
  else
    let p := s.ports[n]
    let idx := s.polders[q].sampleIdx[pos]
    let quiet := quiet && decide (p.ibus.ibus.toInt.natAbs < s.kg.curNow.iQuiet.toNat)
    let s := s.onPolder q fun P => { P with sampleIdx := P.sampleIdx.set pos (idx + 1#16) }
    let k := sampleQueue q pos
    if s.sysq[k].fits 3 then
      s.pushSys k [(1#6, pay 0 (BitVec.ofNat 6 pos.val) ||| pay 6 idx ||| payB 22 quiet), (2#6, accWord p),
        (3#6, pay 0 p.vbus.vb ||| pay 13 (p.ibus.ibus.signExtend 17))]
    else
      let s := s.onSysq k fun x => { x with ovf := true }
      { s with kg := { s.kg with stat := { s.kg.stat with smpLost := true } } }

/-- GAUGE_GROUP_PROCESS: core 13 takes the head group of a gauge sample queue (R201 to R206, R214, R215). -/
def gaugeProcess (q : PolderId) (upper : Bool) (s : State) : State :=
  let k := sampleQueue q (if upper then 24 else 0)
  if !s.gaugeUp then s
  else match s.sysq[k].head with
  | a :: b :: c :: _ =>
    let s := s.onSysq k Queue.commitHead
    let s : State := { s with kg := { s.kg with curNow := s.kg.cur, timeNow := s.kg.time, learnNow := s.kg.learn } }
    let pos := (fld a.payload 0 6).toNat
    if h : pos < 48 then
      match s.slotOf (portAt q ⟨pos, h⟩) with
      | some i => s.gaugeGroup i (fld a.payload 6 16) b.payload (bit a.payload 22) (fld c.payload 0 13).toNat (fld c.payload 13 17).toInt
      | none => s
    else s
  | _ => s.onSysq k Queue.commitHead

-- Ends of charge and discharge (R212, R213)

/-- The gauge posts END to the serving core (R212). -/
def postEnd (i : Fin 48) (s : State) : State :=
  match s.kg.slots[i].port with
  | some n =>
    let role : Fin 16 := ⟨s.ports[n].q.role.toNat % 16, Nat.mod_lt _ (by decide)⟩
    s.post role (mbxGroup 13#4 5#8 (BitVec.ofNat 8 n.val) [s.kg.slots[i].full.setWidth 36])
  | none => s

/-- Whether the last group stands within the taper currents (R212, R213). -/
def inTaper (s : State) (i : Fin 48) (ma : Int) : Bool :=
  let l := s.packLimits i
  decide ((l.taperLo : Int) ≤ ma ∧ ma ≤ (l.taperHi : Int))

/-- The cycle rule at an end of charge (R216). -/
def cycleAtEnd (i : Fin 48) (s : State) : State :=
  let cap := s.capOf i
  s.onGaugeRec i fun r =>
    if cap = 0 ∨ cap / 2 ≤ r.since then { r with since := 0, cycles := satInc r.cycles } else r

/-- END_OF_CHARGE: the conditions have held for t_taper in DIRECT (R212). -/
def endOfCharge (i : Fin 48) (s : State) : State :=
  let x := s.kg.slots[i]
  match x.last8 with
  | (vb, ma) :: _ =>
    let near := decide (((s.packLimits i).vFull : Int) * 99 ≤ vb * 1000)
    if s.gaugeUp && x.state = 2#2 && x.full ≠ 1#2 && near && s.inTaper i ma then
      let s := (s.onSlotG i fun x => { x with full := 1#2, endIdx := x.lastIdx }).anchorAt i 1
      (((s.cycleAtEnd i).commitDue i).showSlot i).postEnd i
    else s
  | [] => s

/-- TOPUP_EXPIRY: t_topup after END = FULL it clears, and the APDOs return (R212). -/
def topupExpiry (i : Fin 48) (s : State) : State :=
  if s.gaugeUp && s.kg.slots[i].full = 1#2 then ((s.onSlotG i fun x => { x with full := 0#2 }).showSlot i).postEnd i else s

/-- A pack that fed the lifeline supply is dropped at END = EMPTY: SOURCE_PERMIT with the permit bit clear, and SNK_OFF
(R394). -/
def packDrop (n : PortId) (s : State) : State :=
  if s.ports[n].role.feed = 2 ∧ s.cls n = .a ∧ s.roleRuns 12#5 then
    s.onPort n fun e p =>
      ({ p with role := { p.role with feed := 4 } }.dockCmd e false sysVid 3#8 [0#32]).cmdGo e false 11#4 0#36
  else s

/-- END_OF_DISCHARGE: the fold-back has held for t_taper in SOURCING (R213, R394). -/
def endOfDischarge (i : Fin 48) (s : State) : State :=
  let x := s.kg.slots[i]
  match x.last8 with
  | (vb, ma) :: _ =>
    let low := decide (vb * 10 ≤ ((s.vFold : Nat) : Int))
    if s.gaugeUp && x.state = 3#2 && x.full ≠ 2#2 && low && s.inTaper i (ma.natAbs : Int) then
      let s := (s.onSlotG i fun x => { x with full := 2#2 }).anchorAt i 0
      let s := (s.showSlot i).postEnd i
      match x.port with
      | some n => s.packDrop n
      | none => s
    else s
  | [] => s

-- The packs (R132, R133, R207, R208, R211)

/-- A GET_LIMITS answer is used for the whole attach, or discarded with LIMITS_BAD (R208). -/
def takeLimits (i : Fin 48) (a b : Word) (s : State) : State :=
  let l : PackLimits := { vFull := 10 * (fld a 0 16).toNat, vMin := 10 * (fld a 16 16).toNat, taperLo := (fld b 0 16).toNat,
                          taperHi := (fld b 16 16).toNat }
  if l.vFull ≠ 0 ∧ l.vMin ≠ 0 ∧ l.vMin < l.vFull ∧ l.taperLo < l.taperHi then s.onSlotG i fun x => { x with limits := some l }
  else { s with kg := { s.kg with stat := { s.kg.stat with limitsBad := true } } }

/-- A turn of the delivered firmware on a port that serves the gauge. -/
def gaugeTurn (n : PortId) (f : Env → Port → Port) (s : State) : State :=
  if s.gaugeUp && s.turnUp n then s.turned n (s.onPort n fun e p => f e p.trim) else s

/-- A GET_TEMP that the pack does not answer: the band comes from the polder NTC (R207). -/
def noTemp (i : Fin 48) (asked : Bool) (s : State) : State :=
  if asked then (s.onSlotG i fun x => { x with tempPack := none }).showSlot i else s

/-- GET_TEMP_POLL: GET_LIMITS once in an attach, then GET_TEMP, in dock mode; an answer at the head of the queue is taken
first (R207, R208). The answer is in 0.1 K; 273.15 K is 0 °C. -/
def tempPoll (n : PortId) (s : State) : State :=
  match s.slotOf n with
  | none => s
  | some i =>
    let p := s.ports[n].trim
    if !s.gaugeUp || !s.turnUp n then s
    else match p.headMsg with
    | some m =>
      let vh := m.objs.headD 0#32
      if (p.role.await = .limits || p.role.await = .temp) && !m.sop1 && (isCtrl m.header 16#5 || isCtrl m.header tReject) then
        (s.gaugeTurn n fun e p => (p.expect .nothing).done e).noTemp i (p.role.await = .temp)
      else if m.sop1 || !isData m.header 15#5 || bit vh 15 then s
      else if fld vh 0 8 = 0x82#8 && p.role.await = .limits then
        (s.gaugeTurn n fun e p => (p.expect .nothing).done e).takeLimits i (m.objs.getD 1 0#32) (m.objs.getD 2 0#32)
      else if fld vh 0 8 = 0x84#8 && p.role.await = .temp then
        let t : Int := ((fld (m.objs.getD 1 0#32) 0 16).toNat : Int) - 2732
        ((s.gaugeTurn n fun e p => (p.expect .nothing).done e).onSlotG i fun x => { x with tempPack := some t }).showSlot i
      else s
    | none =>
      if (p.role.await = .limits || p.role.await = .temp) && p.headNoAnswer false then
        (s.gaugeTurn n fun e p => (p.expect .nothing).done e).noTemp i (p.role.await = .temp)
      else if p.partner.dockMode && p.contract.explicit && !p.busyCore && s.regionUp n then
        let first := !s.kg.slots[i].limitsAsked
        let s := s.onSlotG i fun x => { x with limitsAsked := true }
        s.gaugeTurn n fun e p =>
          (p.expect (if first then .limits else .temp)).dockCmd e false sysVid
            (if first then 2#8 else 4#8) []
      else s

/-- BATTERY_STATUS_POLL: Get_Battery_Status to a gauged pack that is identified; a Battery_Status at the head gives the
first anchor (R133, R205). -/
def batteryPoll (n : PortId) (s : State) : State :=
  let p := s.ports[n].trim
  if !s.gaugeUp || !s.turnUp n then s
  else match p.headMsg with
  | some m =>
    if !m.sop1 && isData m.header 5#5 && p.role.await = .battStatus then
      let b := m.objs.headD 0#32
      let s := s.gaugeTurn n fun e p => (p.expect .nothing).done e
      match s.slotOf n with
      | some i =>
        if !bit b 8 && fld b 16 16 ≠ 0xFFFF#16 && p.partner.ident ≠ 0#2 then s.batteryAnchor i (fld b 16 16).toNat else s
      | none => s
    else if p.role.await = .battStatus ∧ (isCtrl m.header 16#5 ∨ isCtrl m.header tReject) then
      s.gaugeTurn n fun e p => (p.expect .nothing).done e
    else s
  | none =>
    s.gaugeTurn n fun e p =>
      if p.role.await = .battStatus ∧ p.headNoAnswer false then (p.expect .nothing).done e
      else p.battPoll e (s.slotOf n).isSome

/-- After the steps of R132 an identified pack's digest is asked of core 13; `s` is the state before. -/
def askDigest (n : PortId) (s t : State) : State :=
  let p := t.ports[n]
  if p.partner.identDone && !s.ports[n].partner.identDone && p.partner.ident ≠ 0#2 then
    t.post 13 (mbxGroup (p.q.role.setWidth 4) 3#8 (BitVec.ofNat 8 n.val) ((dataWords p.identAnswers).take 7))
  else t

/-- DIGEST_REQ: core 13 computes the digest, answers DIGEST_DONE, and the pack's record becomes the owner (R132, R217). -/
def digestReq (s : State) : State :=
  if !s.gaugeUp then s
  else match s.mailHead 13 with
  | some (k, port, _) =>
    if h : k = 3#8 ∧ port.toNat < 192 then
      let n : PortId := ⟨port.toNat, h.2⟩
      let s := s.mailDone 13
      let role : Fin 16 := ⟨s.ports[n].q.role.toNat % 16, Nat.mod_lt _ (by decide)⟩
      let s := s.post role (mbxGroup 13#4 4#8 port [s.ports[n].packDigest.setWidth 36])
      match s.slotOf n with
      | some i => if s.kg.slots[i].identified || !s.ports[n].partner.identDone then s else (s.takeOwner i).showSlot i
      | none => s
    else s
  | none => s

/-- A mailbox group is served by its role: SHARE, DIGEST_DONE, GAUGE_END or STAGE; a new set is due when the built set
differs (R107, R132, R189, R190, R212). Any other group, a HOST_WORD among them, is committed unread. -/
def serveMail (role : Fin 16) (s : State) : State :=
  if !s.controlUp || !s.roleRuns (BitVec.ofNat 5 role.val) then s
  else match s.mailHead role with
  | some (k, port, data) =>
    let v := data.headD 0#36
    let t := s.mailDone role
    let onP (f : Env → Port → Port) (t : State) : State := if h : port.toNat < 192 then t.onPort ⟨port.toNat, h⟩ f else t
    if data.isEmpty then (if k = 2#8 || k = 3#8 then s else t)
    else if k = 1#8 then t.takeShare port (fld v 0 16)
    else if k = 4#8 then onP (fun _ p => p.setIdentTag (fld v 0 32)) t
    else if k = 5#8 then onP (fun e p => p.offerChanged e) t
    else if k = 6#8 then
      t.onAllPorts fun n t => if t.ports[n].q.role.toNat = role.val then t.onPort n fun e p => p.offerChanged e else t
    else if k = 2#8 || k = 3#8 then s
    else t
  | none => if (s.sysq[(⟨role.val, by have := role.isLt; omega⟩ : Fin 64)]).entries.isEmpty then s else s.mailDone role

-- The journal (R219 to R221)

/-- A journal record slot (Table 7.5). The schema version is 1 (log entry 38). -/
def journalBytes (kind : Nat) (owner : List Byte) (seq : Nat) (r : GaugeRec) : List Byte :=
  let flags : Byte := (if r.learned then 1#8 else 0#8) ||| (if r.suspect then 2#8 else 0#8) ||| (if r.stale then 4#8 else 0#8)
  let b := natBytes 2 0x4B47 ++ natBytes 1 kind ++ [1#8] ++ natBytes 4 seq ++ owner ++ natBytes 2 r.cap.toNat ++ [flags, 0#8] ++
    natBytes 2 r.cycles.toNat ++ natBytes 4 (r.since * 10).floor.toNat ++ leBytes r.spanTime ++ natBytes 6 0 ++
    (r.imp.toList.flatMap fun e => natBytes 2 e.toNat) ++ natBytes 28 0
  b ++ leBytes (crc32 b)

/-- A journal record: 16 positions of 256 bytes a slot (R442). -/
def journalKind : Flash.RecKind where
  count := 16
  size := 256
  seqOf bs := if cut 0 2 bs = natBytes 2 0x4B47 ∧ cut 188 4 bs = leBytes (crc32 (cut 0 188 bs)) then some (numAt 4 4 bs) else none

/-- Slot A of journal record i (Table 17.2). -/
def journalBase (i : Nat) : Nat := 0x110000 + 0x2000 * i

/-- A record read back from its slot. -/
def journalRec (bs : List Byte) : GaugeRec :=
  let flags : Byte := BitVec.ofNat 8 (numAt 14 1 bs)
  { GaugeRec.init with
    used := true, digest := leWord (cut 8 4 bs), cap := BitVec.ofNat 16 (numAt 12 2 bs), learned := bit flags 0,
    suspect := bit flags 1, stale := bit flags 2, cycles := BitVec.ofNat 16 (numAt 16 2 bs), since := (numAt 18 4 bs : Rat) / 10,
    spanTime := leWord (cut 22 4 bs), imp := Vector.ofFn fun k : Fin 64 => BitVec.ofNat 16 (numAt (32 + 2 * k.val) 2 bs) }

/-- The records taken from the journal at a start (R219); a record with no good slot starts from its design values, and
CRC_FAILS advances. -/
def journalLoad (s : State) : State :=
  let at_ (i : Nat) : Option GaugeRec := (s.fl.recordAt journalKind (journalBase i)).map fun x => journalRec x.2.1
  let fails := ((List.range 112).filter fun i => (at_ i).isNone).length
  { s with kg := { s.kg with
    dock := Vector.ofFn fun i : Fin 48 => { (at_ i.val).getD GaugeRec.init with used := true },
    packs := Vector.ofFn fun k : Fin 64 => (at_ (48 + k.val)).getD GaugeRec.init,
    jstat := { s.kg.jstat with crcFails := BitVec.ofNat 8 (min 255 (s.kg.jstat.crcFails.toNat + fails)) } } }

/-- A record as the journal numbers it: dock records 0 to 47, then pack records (Table 17.2). -/
def recOf (s : State) (i : Fin 112) : GaugeRec :=
  if h : i.val < 48 then s.kg.dock[i.val]'h else s.kg.packs[i.val - 48]'(by have := i.isLt; omega)

/-- A record changed, by its journal number. -/
def onRec (i : Fin 112) (f : GaugeRec → GaugeRec) (s : State) : State :=
  if h : i.val < 48 then { s with kg := { s.kg with dock := s.kg.dock.set i.val (f (s.kg.dock[i.val]'h)) h } }
  else
    have h2 : i.val - 48 < 64 := by have := i.isLt; omega
    { s with kg := { s.kg with packs := s.kg.packs.set (i.val - 48) (f (s.kg.packs[i.val - 48]'h2)) h2 } }

/-- The order of commits: dock records of class-A ports, the other dock records, then pack records (R221). -/
def commitOrder (s : State) : List (Fin 112) :=
  let docks := (List.finRange 112).filter fun i => decide (i.val < 48)
  let a (i : Fin 112) : Bool :=
    let p := ((s.kg.cfg[i.val]?).map fun c => c.port.toNat).getD 255
    if h : p < 192 then s.cls ⟨p, h⟩ = .a else false
  docks.filter a ++ (docks.filter fun i => !a i) ++ (List.finRange 112).filter fun i => decide (48 ≤ i.val)

/-- Records that await a commit (KG_JSTAT.PENDING). -/
def journalPending (s : State) : Nat := ((List.finRange 112).filter fun i => (s.recOf i).due).length

/-- The journal number of the record that owns a slot; the dock record where no attach has an owner (log entry 39). -/
def owningRec (s : State) (i : Fin 48) : Fin 112 :=
  match s.kg.slots[i].owner with
  | some (true, k) => ⟨48 + k.val, by have := k.isLt; omega⟩
  | _ => ⟨i.val, by have := i.isLt; omega⟩

/-- CAP of a record in mAh: that learned, else the design capacity of the slot it owns (R211, Table 7.5); of a pack that is
gone, the one that it had when it left. -/
def recCap (s : State) (i : Fin 112) : BitVec 16 :=
  let r := s.recOf i
  if r.learned then r.cap
  else match (List.finRange 48).find? fun k => decide (s.owningRec k = i) with
    | some k => mah16 (s.designCap k)
    | none => if h : i.val < 48 then (s.kg.cfg[i.val]'h).designMah else r.cap

/-- One record written to the journal (R219, R220). -/
def journalWrite (i : Fin 112) (s : State) : State :=
  let r := { s.recOf i with cap := s.recCap i }
  let base := journalBase i.val
  let owner := if i.val < 48 then natBytes 1 i.val ++ natBytes 3 0 else leBytes r.digest
  let s := s.onFlash fun f =>
    f.writeRecord journalKind base (journalBytes (if i.val < 48 then 1 else 2) owner (f.nextSeq journalKind base) r)
  s.onRec i fun r => { r with changed := false, due := false }

/-- A due record starts its commit when the stage and the berm allow it; else it is held (R221). -/
def commitRec (i : Fin 112) (s : State) : State :=
  if !(s.recOf i).due then s
  else if 3#3 < s.sh.stat.stage then { s with kg := { s.kg with jstat := { s.kg.jstat with heldStage := true } } }
  else if !s.sh.stat.commitOk then { s with kg := { s.kg with jstat := { s.kg.jstat with heldStage := false, heldBerm := true } } }
  else if !s.flashCan then s
  else
    let s := s.journalWrite i
    { s with kg := { s.kg with jstat := { s.kg.jstat with heldStage := false, heldBerm := false } } }

/-- JOURNAL_COMMIT: the first due record in the order of R221. -/
def journalCommit (s : State) : State :=
  if !s.gaugeUp then s
  else match s.commitOrder.find? fun i => (s.recOf i).due with
  | some i => s.commitRec i
  | none => { s with kg := { s.kg with jstat := { s.kg.jstat with heldStage := false, heldBerm := false } } }

/-- Every changed record becomes due (R220, R221). -/
def allDue (s : State) : State :=
  heldAtStage { s with kg := { s.kg with
    dock := Vector.ofFn fun i : Fin 48 => { s.kg.dock[i] with due := s.kg.dock[i].due || s.kg.dock[i].changed },
    packs := Vector.ofFn fun k : Fin 64 => { s.kg.packs[k] with due := s.kg.packs[k].due || s.kg.packs[k].changed } } }

/-- Every due record in the order of R221, until the stage or the berm forbids it. -/
def commitAll (s : State) : State := if s.gaugeUp then s.commitOrder.foldl (fun s i => s.commitRec i) s else s

/-- The final commit at the entry to S3 (R221). -/
def finalCommit (s : State) : State := if s.gaugeUp then s.allDue.commitAll else s

-- Registers of the gauge

/-- KG_CMD OP 0b001: the owning record is committed now, under R221. -/
def kgCommit (slot : BitVec 6) (s : State) : State :=
  if h : slot.toNat < 48 then
    if !s.gaugeUp then s
    else
      let r := s.owningRec ⟨slot.toNat, h⟩
      (s.onRec r fun x => { x with due := true }).commitRec r
  else s

/-- KG_CMD OP 0b010: the owning record returns to design values; the cycle count is kept (Table 7.11). -/
def kgReset (slot : BitVec 6) (s : State) : State :=
  if h : slot.toNat < 48 then
    if !s.gaugeUp then s
    else
      let i : Fin 48 := ⟨slot.toNat, h⟩
      let old := s.recOf (s.owningRec i)
      let s := s.onRec (s.owningRec i) fun r =>
        { GaugeRec.init with used := r.used, digest := r.digest, cycles := r.cycles, since := r.since, age := r.age,
                             changed := true, due := r.due || old.suspect || old.stale }
      s.heldAtStage.showSlot i
  else s

/-- A write of KG_SLOT[i] (R198): EN = 0 turns the slot OFF at once and commits its changed record; the fields of a slot
that serves a port are latched until its detach; a slot that names a port with another raises SLOT_CONFLICT (R197). -/
def kgSlotWrite (i : Fin 48) (w : Word) (s : State) : State :=
  let c := s.kg.cfg[i].write w
  let old := s.kg.slots[i].port
  let s : State := { s with kg := { s.kg with cfg := s.kg.cfg.set i c } }
  let s := if c.en then s else s.slotOff i
  let s := match old with | some n => s.gaugeFollow n | none => s
  if h : c.port.toNat < 192 then (s.markConflict ⟨c.port.toNat, h⟩).gaugeFollow ⟨c.port.toNat, h⟩ else s

end State

end Sys2Proof.Machine
end

