-- ==== Sys2Proof/Machine/ExecBudget.lean ====
section
/-! DEFINITION. The meanings of the commands of classes and the power budget (spec/06_classes_budget.md). -/

namespace Sys2Proof.Machine

/-- SHARE (R189): the role `role` serves the group at the head of its mailbox: for SHARE the port has a new p_share,
and a new set is due when it changes it (R107, R189). DIGEST_DONE, GAUGE_END and STAGE, which have no row of
their own, are served so too (R132, R212, R190). -/
def execShare (role : Fin 16) (s : State) : Host.Outcome State Fault Refusal :=
  .next (s.serveMail role)

/-- CLASS_WRITE (R177): P_CFG.CLASS of port `n` is written with `v`: 0b00 leaves it, a 25th class A is refused with
CLASS_REF, any other class is latched, rebinds the queue after commit and keeps the session. -/
def execClassWrite (n : PortId) (v : BitVec 2) (s : State) : Host.Outcome State Fault Refusal :=
  .next (if s.pRegUp n then s.classWrite n v else s)

/-- ALLOCATOR_TICK (R188): At every 10 ms tick the allocator starts a run, abandoning one still running. -/
def execAllocatorTick (s : State) : Host.Outcome State Fault Refusal :=
  .next (s.allocatorTick)

/-- ALLOCATOR_RUN_END (R188): A run ends and its leases are queued on the class-A link queues. -/
def execAllocatorRunEnd (s : State) : Host.Outcome State Fault Refusal :=
  .next (s.allocatorEnd)

/-- DEMAND_REPORT (R187): Every 10 ms the budget agent sends its demand to the allocator. -/
def execDemandReport (s : State) : Host.Outcome State Fault Refusal :=
  .next (s.demandReport)

/-- BUDGET_AGENT_TICK (R189): At its own tick the budget agent divides its grants among the attached ports. -/
def execBudgetAgentTick (s : State) : Host.Outcome State Fault Refusal :=
  .next (if s.sys.mode = .run ∨ s.sys.mode = .provHold then s.divide else s)

/-- LEASE_EXPIRY (R191): The lease in force expires and the worker switches to its island budget. -/
def execLeaseExpiry (s : State) : Host.Outcome State Fault Refusal :=
  .next (s.leaseExpiry)

/-- MAX_CLR (R182): BG_LAT of class `v` (0b01 A, 0b10 B, 0b11 C) is written with MAX_CLR: MAX, PORT and OVER are
cleared. -/
def execMaxClr (v : BitVec 2) (s : State) : Host.Outcome State Fault Refusal :=
  .next (match SvcClass.ofCode v with
    | some cl => if s.controlUp && s.sys.mode ≠ .island then s.latClear cl else s
    | none => s)

end Sys2Proof.Machine
end

