-- ==== Sys2Proof/Machine/ExecFabric.lean ====
section
/-! DEFINITION. The meanings of the commands of the fabric, the template store and the culverts
(spec/08_polder_fabric.md). -/

namespace Sys2Proof.Machine

/-- LOAD (R240): PL_LOAD OP LOAD from the core that holds the supervisor role; another source has no effect (Table
18.3). -/
def execPlLoad (src : Src) (q : PolderId) (region : BitVec 6) (slot : BitVec 4)
    (s : State) : Host.Outcome State Fault Refusal :=
  .next (s.noted (if s.fromSup src && s.plRegUp q then s.plLoad q region slot else s))

/-- REGION_LOAD_COMPLETE (R240): the load that runs in polder `q` ends `tenths` tenths of a µs after GO; a
row of the store was read as `store` says, and the supervisor rewrites a slot that it finds uncorrectable; with `readBad` a
readback differed. -/
def execRegionLoadComplete (q : PolderId) (store : StoreRow) (readBad : Bool) (tenths : Nat)
    (s : State) : Host.Outcome State Fault Refusal :=
  .next (s.noteBad (s.noted (if s.polders[q].die then s.loadComplete q store readBad tenths else s)))

/-- SWITCH (R243): PL_LOAD OP SWITCH from the core that holds the supervisor role; another source has no effect
(Table 18.3). -/
def execPlSwitch (src : Src) (q : PolderId) (pos : BitVec 6) (region : BitVec 6)
    (s : State) : Host.Outcome State Fault Refusal :=
  .next (s.noted (if s.fromSup src && s.plRegUp q then s.plSwitch q pos region else s))

/-- CULVERT_SWITCH_COMPLETE (R243): The culvert switch completes and the joined region becomes SERVING. -/
def execCulvertSwitchComplete (q : PolderId) (pos : PosId) (s : State) : Host.Outcome State Fault Refusal :=
  .next (s.noted (if s.polders[q].die then s.switchComplete q pos else s))

/-- UNLOAD (R239): PL_LOAD OP UNLOAD from the core that holds the supervisor role; another source has no effect
(Table 18.3). -/
def execPlUnload (src : Src) (q : PolderId) (region : BitVec 6) (s : State) : Host.Outcome State Fault Refusal :=
  .next (s.noted (if s.fromSup src && s.plRegUp q then s.plUnload q region else s))

/-- UNLOAD_COMPLETE (R239): An unload ends and the region is EMPTY. -/
def execUnloadComplete (q : PolderId) (s : State) : Host.Outcome State Fault Refusal :=
  .next (s.noted (if s.polders[q].die then s.unloadComplete q else s))

/-- COMMON_SWITCH (R230): A write of PL_COMMON.SWITCH with the standby half READY arms a switch at the next tick. -/
def execCommonSwitch (q : PolderId) (s : State) : Host.Outcome State Fault Refusal :=
  .next (if s.plRegUp q then s.commonSwitch q else s)

/-- COMMON_SWITCH_TICK (R230): At the 1 ms tick the standby common half becomes active after copying time base and
sample indices. -/
def execCommonSwitchTick (q : PolderId) (s : State) : Host.Outcome State Fault Refusal :=
  .next (if s.polders[q].die then s.commonSwitchTick q else s)

/-- POLDER_TICK (R229): the active common half of polder `q` issues the 1 ms tick; PL_TEMP takes the readings `ntc`,
where it lies in its range, and `die` (log entry 31). -/
def execPolderTick (q : PolderId) (ntc : Option (BitVec 12)) (die : BitVec 12)
    (s : State) : Host.Outcome State Fault Refusal :=
  .next (if s.polders[q].die then s.polderTick q ntc die else s)

/-- BEGIN (R232): SYS_TPL_CMD OP BEGIN opens a template slot for writing. -/
def execTplBegin (src : Src) (t : SlotId) (common : Bool) (s : State) : Host.Outcome State Fault Refusal :=
  .next (if s.fromSup src then s.tplBegin t common else s)

/-- TPL_DATA_WRITE (R232): A write of SYS_TPL_DATA appends the next word to the slot being written. -/
def execTplDataWrite (src : Src) (w : Word) (s : State) : Host.Outcome State Fault Refusal :=
  .next (if s.fromSup src then s.tplData w else s)

/-- END (R232): SYS_TPL_CMD OP END starts the check of the written slot. -/
def execTplEnd (src : Src) (t : SlotId) (s : State) : Host.Outcome State Fault Refusal :=
  .next (if s.fromSup src then s.tplEnd t else s)

/-- TEMPLATE_CHECK_DONE (R232): The slot check ends and the slot becomes VALID or BAD. -/
def execTemplateCheckDone (s : State) : Host.Outcome State Fault Refusal :=
  .next s.tplChecked

/-- FREE (R233): SYS_TPL_CMD OP FREE returns an unreferenced slot to EMPTY. -/
def execTplFree (src : Src) (t : SlotId) (s : State) : Host.Outcome State Fault Refusal :=
  .next (if s.fromSup src then s.tplFree t else s)

/-- FABRIC_SCRUB_READ (R245): the next frame of polder `q` is read; `upset` is what changed in the stored row,
`hour` whether an earlier correction of the region lies within the hour. -/
def execFabricScrubRead (q : PolderId) (upset : BitVec 112) (hour : Bool)
    (s : State) : Host.Outcome State Fault Refusal :=
  .next (s.noted (if s.polders[q].die then s.fabricScrub q upset hour else s))

/-- STORE_SCRUB_READ (R246): every 10 µs the template store scrub reads one row; an uncorrectable slot is rewritten from
flash (R247). -/
def execStoreScrubRead (upset : BitVec 112) (s : State) : Host.Outcome State Fault Refusal :=
  .next (s.noteBad (s.storeScrub upset))

/-- PL_SCRUB_CNT_CLR (R251): A write of PL_SCRUB.CNT_CLR clears CORR and UNCORR. -/
def execPlScrubCntClr (q : PolderId) (s : State) : Host.Outcome State Fault Refusal :=
  .next (if s.plRegUp q then s.onPolder q fun P => { P with scrub := { P.scrub with corr := 0#8, uncorr := 0#4 } }
    else s)

end Sys2Proof.Machine
end

