-- ==== Sys2Proof/Machine/Hop.lean ====
section
/-! DEFINITION. QY_MIG: planned migrations, trials and hops; core takeovers; and what the quarry does about queues,
SRAM rows and oscillators (spec/09_quarry_migration.md R257, R261, R266, R272 to R278). -/

namespace Sys2Proof.Machine

namespace State

/-- A QY_MIG command ends: DONE, or REFUSED with its ERR (Table 9.15). -/
def migEnd (port : BitVec 8) (err : BitVec 4) (s : State) : State :=
  let m := s.qy.mig
  { s with qy := { s.qy with mig := if err = 0#4 then { m with done := true, err := 0#4, lastPort := port }
                                    else { m with refused := true, err := err, lastPort := port } } }

/-- The error of a PREPARE, 0 when it is accepted (R266, R267, Table 9.15): the target must be READY from the slot that
the port is served from or that MAP names for it, and no region that its session has left untried. -/
def prepareErr (s : State) (n : PortId) (t : BitVec 6) : BitVec 4 :=
  let q := polderOf n
  let pos := posOf n
  let P := s.polders[q]
  let R := P.region t.toNat
  if (P.regionAt pos).st ≠ .serving ∨ s.ports[n].pfault.oos ∨ s.ports[n].place.migrating then 2#4
  else if 56 ≤ t.toNat ∨ R.st = .empty ∨ R.st = .loading then 1#4
  else if R.st = .serving ∨ s.isSpoiled 1#4 (regionId q t.toNat) ∨ R.trial ≠ .none ∨
      (t.toNat < 48 ∧ t.toNat ≠ pos.val) ∨ s.joining q t ∨ (if h : t.toNat < 56 then s.wasLeft q pos ⟨t.toNat, h⟩ else false) ∨
      ((P.load.toList ++ P.waiting).any fun j => j.target = loadTarget t) then 3#4
  else if R.slot ≠ P.culv[pos].slot ∧ R.slot ≠ P.tplMap[pos] then 1#4
  else if P.prepared.isSome then 4#4
  else 0#4

/-- PREPARE (R266): the serving region is frozen and its final checkpoint restored into the target. A reply of a class-A port
whose message came after the load of the target began is under the 3.25 ms bound (R179). -/
def prepare (port : BitVec 8) (t : BitVec 6) (s : State) : State :=
  if h : port.toNat < 192 ∧ t.toNat < 56 then
    let n : PortId := ⟨port.toNat, h.1⟩
    let e := s.prepareErr n t
    if e = 0#4 then
      let q := polderOf n
      let pos := posOf n
      let P := s.polders[q]
      let p := s.ports[n]
      let slack := s.cls n = .a && p.rg.meas && !(p.rg.measBefore.any fun r => r.val = t.toNat)
      let p := if slack then { p with rg := { p.rg with measSlack := true } } else p
      let p := p.freeze (s.tidAt n) P.timeUs (s.ckptLen n) P.sampleIdx[pos]
      ((s.setPort n p).onPolder q fun P => { P with prepared := some (pos, ⟨t.toNat, h.2⟩) }).migEnd port 0#4
    else s.migEnd port e
  else s.migEnd port (if port.toNat < 192 then 1#4 else 2#4)

/-- PREPARE_LAPSE: no SWITCH within 100 µs (R266). -/
def prepareLapse (q : PolderId) (s : State) : State :=
  match s.polders[q].prepared with
  | some (pos, _) =>
    if s.polders[q].switching.any fun j => j.pos = pos then s
    else
      let s := s.unprepare q
      { s with qy := { s.qy with mig := { s.qy.mig with lapsed := true } } }
  | none => s

/-- ABANDON: the prepared migration of a port is abandoned (R287). -/
def abandon (port : BitVec 8) (s : State) : State :=
  if h : port.toNat < 192 then
    let n : PortId := ⟨port.toNat, h⟩
    let P := s.polders[polderOf n]
    let mine : Bool := match P.prepared with | some (pos, _) => decide (pos = posOf n) | none => false
    if mine && !(P.switching.any fun j => j.pos = posOf n) then (s.unprepare (polderOf n)).migEnd port 0#4
    else s.migEnd port 2#4
  else s.migEnd port 2#4

/-- TRIAL of a region that is READY and serves no session, in the polder of PORT (R272). -/
def tryRegion (port : BitVec 8) (t : BitVec 6) (s : State) : State :=
  if h : port.toNat < 192 ∧ t.toNat < 56 then
    let q := polderOf ⟨port.toNat, h.1⟩
    let r : RegionId := ⟨t.toNat, h.2⟩
    let R := s.polders[q].regions[r]
    if R.st = .serving ∨ s.isSpoiled 1#4 (regionId q t.toNat) then s.migEnd port 3#4
    else if R.st = .ready ∧ R.trial = .none then (s.startTrial q r true).migEnd port 0#4
    else s.migEnd port 1#4
  else s.migEnd port 1#4

/-- REGION_TRIAL_END: two scrub passes have gone by (R272). `within`: the region left a SERVING session under R264 in the
24 h before, beside the one that it may be tried for. A home region that passes takes its session back, or is given to
its parked port; a spare becomes free. -/
def trialEnd (q : PolderId) (r : RegionId) (within : Bool) (s : State) : State :=
  let R := s.polders[q].regions[r]
  match R.trial with
  | .watching bad =>
    let again := within && decide ((if R.idleTrial then 1 else 2) ≤ R.leaves)
    let s := s.onPolder q fun P => P.onRegion r.val fun R => { R with trial := .none, idleTrial := false }
    if bad then s.spoil 1#4 (regionId q r.val) 8#4
    else if again then s.spoil 1#4 (regionId q r.val) 0xA#4
    else
      let s := s.onPolder q fun P => P.onRegion r.val fun R => { R with left := [] }
      if h : r.val < 48 then
        let pos : PosId := ⟨r.val, h⟩
        let n := portAt q pos
        let f := s.ports[n].pfault
        if f.oos then
          let s := s.quarryEvent 6#4 1#4 (regionId q r.val) 0#4
          if 2#2 ≤ f.oosCause ∧ !s.queueless n then s.giveRegion q pos r else s
        else if s.polders[q].culv[pos].region.toNat = r.val then s.quarryEvent 6#4 1#4 (regionId q r.val) 0#4
        else (s.onPolder q fun P => P.onRegion r.val fun R => { R with backDue := true }).takeBack q pos
      else (s.quarryEvent 6#4 1#4 (regionId q r.val) 0#4).spareFreed q
  | _ => s

/-- A front-end park ends or goes on: the region that its port is connected to as at start, its home region when the spoil list
does not name it, else the first free spare; none when it can be neither connected nor loaded, or the port has no queue
(R244, R261). -/
def retryRegion (s : State) (n : PortId) : Option RegionId :=
  let q := polderOf n
  let pos := posOf n
  let P := s.polders[q]
  let home : RegionId := ⟨pos.val, by have := pos.isLt; omega⟩
  let ok (r : RegionId) : Bool :=
    P.regions[r].trial = .none && (P.regions[r].st = .ready || s.store.slots[P.tplMap[pos].toNat].st = .valid)
  if s.queueless n then none
  else if !s.isSpoiled 1#4 (regionId q pos.val) then (if ok home then some home else none)
  else (s.freeSpare q).filter ok

/-- A write of P_FAULT.RETRY: FE clears; a front-end park ends with the front end connected as at start, or goes on with cause
NO_REGION (R261). -/
def retryPark (n : PortId) (s : State) : State :=
  let p := s.ports[n]
  let s := s.setPort n { p with pfault := { p.pfault with fe := 0#4 } }
  if p.pfault.oos ∧ p.pfault.oosCause = 1#2 then
    match s.retryRegion n with
    | some r => s.giveRegion (polderOf n) (posOf n) r
    | none =>
      let p := s.ports[n]
      s.setPort n { p with pfault := { p.pfault with oosCause := 3#2 } }
  else s

-- Cores (R273 to R275)

/-- The ID of a core, or of an oscillator or queue (Table 9.8). -/
def coreId (k : CoreId) : BitVec 20 := BitVec.ofNat 20 k.val

/-- The image of a role (Table 11.1). -/
def imageOf (role : BitVec 4) : CoreImage :=
  if role = 12#4 ∨ role = 14#4 then .lifeline else if role = 13#4 then .supervisor else .policy

/-- The part of a bundle that holds an image, 0 where the image cache does not hold it (Table 17.5, Table 11.2). -/
def imagePart : CoreImage → Nat
  | .lifeline => 1
  | .supervisor => 2
  | .policy => 3
  | .none | .emergency => 0

/-- The held group of a core is offered again; a class write that waited for it rebinds the queue (R329, R336). -/
def clearHeld (k : CoreId) (s : State) : State :=
  match s.cores[k].held with
  | none => s
  | some q =>
    let s := s.onCore k fun x => { x with held := none }
    if h : q.val < 192 then
      let n : PortId := ⟨q.val, h⟩
      let p := s.ports[n]
      (s.setPort n { p with q := { p.q with held := false } }).rebind n
    else s.onSysq ⟨q.val - 192, by omega⟩ fun x => { x with held := false }

/-- A core starts at the entry of a role, which alone it holds, with the C_CFG of the core that left the role (R273,
R317). -/
def seat (k : CoreId) (role : BitVec 4) (cfg : CCfg) (s : State) : State :=
  (s.clearHeld k).onCore k fun x =>
    { x.resetState with
      image := imageOf role, code := s.cacheCode (imagePart (imageOf role)), cfg := cfg, trap := CTrap.reset, role := { role := role, role2 := 15#4 },
      stat := { x.stat with state := 1#3, wdLeft := watchdogOf role } }

/-- A bench is doubled onto a core (R274). -/
def seat2 (k : CoreId) (role : BitVec 4) (s : State) : State :=
  s.onCore k fun x => { x with role := { x.role with role2 := role } }

/-- The first core in service for which `f` holds. -/
def findCore (s : State) (f : CoreId → Bool) : Option CoreId :=
  (List.finRange 16).find? fun k => s.inService k && f k

/-- A free spare core, the highest first: core 15 before others (Table 9.6). -/
def freeCore (s : State) : Option CoreId :=
  (List.finRange 16).reverse.find? fun k => s.inService k && s.cores[k].role.role = 15#4

/-- Whether a core serves a single bench. -/
def singleBench (s : State) (k : CoreId) : Bool :=
  decide (s.cores[k].role.role ≤ 11#4) && s.cores[k].role.role2 = 15#4

/-- QY_CORE follows the map from role to core (R320). -/
def coreMap (s : State) : State :=
  let holder (role : BitVec 4) (d : BitVec 4) : BitVec 4 :=
    match (List.finRange 16).find? fun k => s.cores[k].role.role = role && s.inService k with
    | some k => BitVec.ofNat 4 k.val
    | none => d
  let c15 := s.cores[15].role.role
  let dbl := s.faultDoubled
  { s with qy := { s.qy with core := {
      supCore := holder 13#4 s.qy.core.supCore, lifeCore := holder 12#4 s.qy.core.lifeCore, stbyCore := holder 14#4 15#4,
      c15Bench := if c15 ≤ 11#4 ∧ s.inService 15 then c15 else 15#4,
      dblBench := match dbl with | some k => s.cores[k].role.role2 | none => 15#4,
      dblCore := match dbl with | some k => BitVec.ofNat 4 k.val | none => 0#4 } } }

/-- A bench without a core: a free spare takes it, else it is doubled onto core (k XOR 1), else onto the lowest policy
core that serves a single bench (R273, R274). -/
def seatBench (b : BitVec 4) (cfg : CCfg) (s : State) : State :=
  match s.freeCore with
  | some k => s.seat k b cfg
  | none =>
    let x : CoreId := ⟨(b ^^^ 1#4).toNat, (b ^^^ 1#4).isLt⟩
    if s.inService x && s.singleBench x then s.seat2 x b
    else
      match s.findCore s.singleBench with
      | some k => s.seat2 k b
      | none => s

/-- The benches that a core serves. -/
def benches (s : State) (k : CoreId) : List (BitVec 4) :=
  [s.cores[k].role.role, s.cores[k].role.role2].filter fun r => r ≤ 11#4

/-- The supervisor role without a core (R274). -/
def seatSup (cfg : CCfg) (s : State) : State :=
  let take (k : CoreId) : State := (s.benches k).foldl (fun x b => x.seatBench b s.cores[k].cfg) (s.seat k 13#4 cfg)
  match s.freeCore with
  | some k => s.seat k 13#4 cfg
  | none =>
    if s.inService 15 && decide (s.cores[15].role.role ≤ 11#4) then take 15
    else
      match s.findCore s.singleBench with
      | some k => take k
      | none => s

/-- A free spare becomes the lifeline standby where there is none (Table 9.6); `cfg` is the C_CFG of a standby that failed,
which it takes (R317), none where no core has failed in that role. -/
def seatStandby (cfg : Option CCfg) (s : State) : State :=
  if (s.findCore fun k => s.cores[k].role.role = 14#4).isSome then s
  else
    match s.freeCore with
    | some k => s.seat k 14#4 (cfg.getD s.cores[k].cfg)
    | none => s

/-- The lifeline role without a core: the standby, else a free spare, else core 15 from what it serves (R274). -/
def seatLife (cfg : CCfg) (s : State) : State :=
  match s.findCore fun k => s.cores[k].role.role = 14#4 with
  | some k => (s.seat k 12#4 cfg).seatStandby none
  | none =>
    match s.freeCore with
    | some k => s.seat k 12#4 cfg
    | none =>
      if s.inService 15 then
        let sup : Bool := s.cores[15].role.role = 13#4
        let bs := s.benches 15
        let c15 := s.cores[15].cfg
        let s := s.seat 15 12#4 cfg
        let s := if sup then s.seatSup c15 else s
        bs.foldl (fun s b => s.seatBench b c15) s
      else s

/-- A core takeover (R273, R274): the core is held in reset with the state that `st` codes, its roles go to other
cores in class order, and the quarry event is written. -/
def takeover (k : CoreId) (st : BitVec 3) (cause : BitVec 4) (s : State) : State :=
  let role := s.cores[k].role.role
  let bs := s.benches k
  let cfg := s.cores[k].cfg
  let s₀ := s
  let s := (s.clearHeld k).onCore k fun x =>
    { x.resetState with
      trap := if st = 4#3 then CTrap.reset else x.trap,
      role := { role := 15#4, role2 := 15#4 }, stat := { x.stat with state := st, wdLeft := watchdogOf 15#4 } }
  let s := if role = 12#4 then s.seatLife cfg else if role = 13#4 then s.seatSup cfg else if role = 14#4 then s.seatStandby (some cfg) else s
  let s := bs.foldl (fun s b => s.seatBench b cfg) s
  s₀.noteGuar ((s.quarryEvent 2#4 2#4 (coreId k) cause).coreMap)

/-- WATCHDOG_EXPIRY: WD_EXP and the takeover; the core is tried, or spoiled at a second expiry of it within 24 h
(`within`) (R275, R334). -/
def watchdogExpiry (k : CoreId) (within : Bool) (s : State) : State :=
  if s.cores[k].stat.state = 1#3 ∨ s.cores[k].stat.state = 3#3 then
    let again := s.cores[k].expired24 && within
    let s := s.onCore k fun x => { x with expired24 := true, stat := { x.stat with wdExp := true } }
    let s : State := if s.fl.upd.phase = 4#3 then { s with fl := { s.fl with job := { s.fl.job with watchBad := true } } } else s
    if again then (s.takeover k 5#3 4#4).spoil 2#4 (coreId k) 0xA#4 else s.takeover k 4#3 4#4
  else s

/-- CORE_TRIAL_DONE: a core that passes becomes a free spare, and the standby where there is none; one that fails is
spoiled (R275). -/
def coreTrialDone (k : CoreId) (pass : Bool) (s : State) : State :=
  if s.cores[k].stat.state = 4#3 then
    if pass then (((s.seat k 15#4 s.cores[k].cfg).seatStandby none).coreMap).quarryEvent 6#4 2#4 (coreId k) 0#4
    else (s.onCore k fun x => { x with stat := { x.stat with state := 5#3 } }).spoil 2#4 (coreId k) 8#4
  else s

/-- A hop of a role to another core by the steps of R273: bench 0 to 11, lifeline or supervisor, to a core that is a
free spare, or the standby for the lifeline role; the core that leaves the role becomes a free spare (R275). -/
def coreHop (role : BitVec 8) (target : CoreId) (s : State) : State :=
  let r : BitVec 4 := role.setWidth 4
  let t := s.cores[target]
  if 14#8 ≤ role then s.migEnd role 2#4
  else
    match s.findCore fun k => s.cores[k].role.role = r || (r ≠ 15#4 && s.cores[k].role.role2 = r) with
    | none => s.migEnd role 2#4
    | some k =>
      let ok := s.inService target && (t.role.role = 15#4 || (r = 12#4 && t.role.role = 14#4))
      if !ok then s.migEnd role 3#4
      else
        let cfg := s.cores[k].cfg
        let s := s.seat target r cfg
        let x := s.cores[k].role
        let s := if x.role = r then
            (if x.role2 = 15#4 then s.seat k 15#4 cfg else (s.clearHeld k).onCore k fun c =>
              { c with role := { role := x.role2, role2 := 15#4 } })
          else s.onCore k fun c => { c with role := { c.role with role2 := 15#4 } }
        (s.seatStandby none).coreMap.migEnd role 0#4

/-- A write of QY_MIG with GO (Table 9.15). -/
def qyMigWrite (w : Word) (s : State) : State :=
  let port := fld w 0 8
  let t := fld w 8 6
  if bit w 17 then
    if bit w 16 then (if fld w 14 2 = 0#2 then s else s.coreHop port ⟨(fld w 8 4).toNat, (fld w 8 4).isLt⟩)
    else
      match fld w 14 2 with
      | 1 => s.prepare port t
      | 2 => s.abandon port
      | 3 => s.tryRegion port t
      | _ => s
  else s

-- SRAM rows (R277, R294, R335)

/-- A core row is remapped: a spare row taken, the spoil entry, for an uncorrectable data row content zero, and an uncorrectable
code row filled again from the image cache; false when no spare row is left (R277, R294). -/
def coreRow (k : CoreId) (data : Bool) (row : Nat) (lost : Bool) (cause : BitVec 4) (s : State) : Bool × State :=
  let e := s.cores[k].ecc
  let left := if data then e.dataSpare else e.codeSpare
  if left = 0#4 then (false, s)
  else
    let s := s.onCore k fun x => { x with
      ecc := if data then { x.ecc with dataSpare := x.ecc.dataSpare - 1#4 }
             else { x.ecc with codeSpare := x.ecc.codeSpare - 1#4 },
      data := if data && lost then Mem.write 0#36 row 0#36 x.data else x.data,
      code := if !data && lost then Mem.write 0#56 row (Mem.read 0#56 (s.cacheCode (imagePart x.image)) row) x.code else x.code }
    (true, s.spoil 4#4 (coreRowId k data row) cause)

/-- An uncorrectable row of a core: C_ECC shows it; with no spare row the core is taken over and spoiled (R257, R275,
R294). -/
def coreRowLost (k : CoreId) (data : Bool) (row : Nat) (s : State) : Bool × State :=
  let s := s.onCore k fun x => { x with
    ecc := if data then { x.ecc with dataUncorr := true } else { x.ecc with codeUncorr := true } }
  let (ok, s) := s.coreRow k data row true 5#4
  if ok then (true, s)
  else if s.cores[k].stat.state = 5#3 then (false, s)
  else (false, (s.takeover k 5#3 5#4).spoil 2#4 (coreId k) 5#4)

/-- A correctable row of a core is remapped; with no spare row the core is taken over and tried (R257, R277, log entry 210). -/
def coreRowWorn (k : CoreId) (data : Bool) (row : Nat) (s : State) : State :=
  let (ok, s) := s.coreRow k data row false 2#4
  if ok || decide (4#3 ≤ s.cores[k].stat.state) then s else s.takeover k 4#3 2#4

/-- The use of a shared word whose row has lost its content (Table 9.7): a checkpoint copy is not used again until it
is overwritten; a word of the image cache is rewritten from the running bundle, so that its difference from that is 0; another
word reads 0 until its user rebuilds it. -/
def sharedLost (row : Nat) (s : State) : State :=
  let s := { s with shared := Mem.write 0#36 row 0#36 s.shared }
  if h : row < 0x6000 then
    let n : PortId := ⟨row / 128, by omega⟩
    let p := s.ports[n]
    if row % 128 < 64 then s.setPort n { p with ck0 := { p.ck0 with good := false } }
    else s.setPort n { p with ck1 := { p.ck1 with good := false } }
  else s

/-- A shared word whose row holds an error that the code has taken for none or for another: it stands in the row, also in one
of a checkpoint copy (R20). -/
def sharedSlip (row : Nat) (x : W36) (s : State) : State :=
  if x = 0#36 then s
  else if h : row < 0x6000 then
    let n : PortId := ⟨row / 128, by omega⟩
    let p := s.ports[n]
    if row % 128 < 64 then s.setPort n { p with ck0 := p.ck0.slip (row % 64) x }
    else s.setPort n { p with ck1 := p.ck1.slip (row % 64) x }
  else { s with shared := Mem.write 0#36 row (Mem.read 0#36 s.shared row ^^^ x) s.shared }

/-- A port whose role state is lost: the serving core rebuilds it from the port's registers, and sends Soft_Reset once no
transition or swap is in progress (Table 9.7). -/
def roleStateLost (row : Nat) (s : State) : State :=
  if h : 0xC000 ≤ row ∧ row < 0xCC00 then
    let n : PortId := ⟨(row - 0xC000) / 16, by omega⟩
    s.onRegionOf n fun _ p =>
      if p.attached ∧ p.rg.latchedPdEn then p.roleRebuilt.softAfterLoss else p
  else s

/-- A learned-data record is taken again from its valid journal slot, or starts from its design values (R219, Table 9.7, log entry 194). -/
def recReload (j : Fin 112) (s : State) : State :=
  let x := s.fl.recordAt journalKind (journalBase j.val)
  let s := s.onRec j fun r => match x with
    | some (_, bs, _) => { journalRec bs with age := r.age }
    | none => { GaugeRec.init with used := decide (j.val < 48) }
  if x.isSome then s else { s with kg := { s.kg with jstat := { s.kg.jstat with crcFails := satInc s.kg.jstat.crcFails } } }

/-- A gauge slot that serves a port starts again as at attach (R205, Table 9.7). -/
def slotRestart (i : Fin 48) (s : State) : State :=
  match s.kg.slots[i].port with
  | none => s
  | some n =>
    let p := s.ports[n]
    ((s.slotAttach i n).onSlotG i fun x => { x with state := p.gs }).slotShow i p.partner.identDone

/-- The journal record that a gauge slot counts for. -/
def slotRec (s : State) (i : Fin 48) : Option Nat :=
  s.kg.slots[i].owner.map fun o => if o.1 then 48 + o.2.val else i.val

/-- A shared row of the gauge that has lost its content: learned data come from the journal, and a slot that uses them starts
again (Table 9.7). -/
def gaugeStateLost (row : Nat) (s : State) : State :=
  if h : 0xD000 ≤ row ∧ row < 0xD300 then
    let i : Fin 48 := ⟨(row - 0xD000) / 16, by omega⟩
    let s : State := match s.slotRec i with
      | some j => if hj : j < 112 then s.recReload ⟨j, hj⟩ else s
      | none => s
    s.slotRestart i
  else if h : 0xD300 ≤ row ∧ row < 0xE800 then
    let j : Fin 112 := ⟨(row - 0xD300) / 48, by omega⟩
    let uses := (List.finRange 48).filter fun i => s.slotRec i = some j.val
    uses.foldl (fun s i => s.slotRestart i) (s.recReload j)
  else s

/-- A shared SRAM row is remapped to a spare row; with none left it stays in use and SRAM_NOSPARE is set (R277). -/
def sharedRow (row : Nat) (lost : Bool) (cause : BitVec 4) (s : State) : State :=
  let s := if lost then ((s.sharedLost row).roleStateLost row).gaugeStateLost row else s
  if s.qy.freeRows = 0#7 then { s with qy := { s.qy with stat := { s.qy.stat with sramNospare := true } } }
  else
    let s := { s with qy := { s.qy with freeRows := s.qy.freeRows - 1#7 } }
    s.spoil 5#4 (BitVec.ofNat 20 row) cause

/-- What the scrub of a shared row does with what it finds: a row corrected on two successive passes, or uncorrectable, is
remapped (R257, R277); `x` is what the code takes for none or for another. -/
def sharedFound (row : Nat) (x : W36) (s : State) : Found → State
  | .clean => s.sharedSlip row x
  | .one =>
    let s := s.sharedSlip row x
    let s : State := { s with qy := { s.qy with corrCur := row :: s.qy.corrCur } }
    if row ∈ s.qy.corrPrev then s.sharedRow row false 2#4 else s
  | .many => s.sharedRow row true 5#4

/-- SHARED_SRAM_SCRUB_READ: the next row (R335). -/
def sharedScrub (upset : BitVec 48) (s : State) : State :=
  let row := s.qy.sharedPos
  let s := s.sharedFound row (slip 9 3 upset) (foundIn 9 3 0#36 upset)
  let next := (row + 1) % 65536
  let q := s.qy
  { s with qy := if next = 0 then { q with sharedPos := 0, corrPrev := q.corrCur, corrCur := [] }
                 else { q with sharedPos := next } }

/-- A row of a core that holds an error taken for none or for another: a data word changes, and a code row differs from its image
by it (R20, R290). -/
def coreSlip (k : CoreId) (data : Bool) (row : Nat) (upset : BitVec 72) (s : State) : State :=
  if data then
    let x := slip 9 3 (upset.setWidth 48)
    if x = 0#36 then s else s.onCore k fun c => { c with data := Mem.write 0#36 row (Mem.read 0#36 c.data row ^^^ x) c.data }
  else
    let x := slip 14 4 upset
    if x = 0#56 then s else s.onCore k fun c => { c with code := Mem.write 0#56 row (Mem.read 0#56 c.code row ^^^ x) c.code }

/-- CORE_SCRUB_READ: the next of 4,096 code rows and 8,192 data rows; C_ECC counts corrections (R335). Which of the two
formats of Table 1.10 the row has decides what the upset means. -/
def coreScrub (k : CoreId) (upset : BitVec 72) (s : State) : State :=
  let x := s.cores[k]
  let pos := x.scrubPos
  let data := decide (4096 ≤ pos)
  let row := if data then pos - 4096 else pos
  let f := if data then foundIn 9 3 0#36 (upset.setWidth 48) else foundIn 14 4 0#56 upset
  let s : State := match f with
    | .clean => s.coreSlip k data row upset
    | .one =>
      let s := s.coreSlip k data row upset
      let s := s.onCore k fun x => { x with
        corrCur := pos :: x.corrCur,
        ecc := if data then { x.ecc with dataCorr := satInc x.ecc.dataCorr }
               else { x.ecc with codeCorr := satInc x.ecc.codeCorr } }
      if pos ∈ x.corrPrev then s.coreRowWorn k data row else s
    | .many => (s.coreRowLost k data row).2
  let next := (pos + 1) % 12288
  s.onCore k fun x =>
    if next = 0 then { x with scrubPos := 0, corrPrev := x.corrCur, corrCur := [] } else { x with scrubPos := next }

/-- SRAM_ROW_FAULT: a row fault of the shared SRAM (`k` none) or of a core's array (R277). -/
def rowFault (k : Option CoreId) (data : Bool) (row : Nat) (lost : Bool) (s : State) : State :=
  match k with
  | none => if row < 65536 then s.sharedRow row lost (if lost then 5#4 else 2#4) else s
  | some k =>
    if row < (if data then 8192 else 4096) then
      if lost then (s.coreRowLost k data row).2 else s.coreRowWorn k data row
    else s

-- Oscillators (R278)

/-- The polder runs on the fallback clock and its oscillator is spoiled (R278). -/
def toFallback (q : PolderId) (s : State) : State :=
  if s.polders[q].fallback then s
  else
    let id : BitVec 20 := BitVec.ofNat 20 q.val
    ((s.onPolder q fun P => { P with fallback := true }).quarryEvent 4#4 6#4 id 7#4).spoil 6#4 id 7#4

/-- OSC_WINDOW_CHECK: the count over 2.5 µs must lie in 54 to 66, or fail twice in a row; the count over 1 ms (`ms`) in
23,520 to 24,480 (Table 9.2). -/
def oscCheck (q : PolderId) (edges : Nat) (ms : Bool) (s : State) : State :=
  if ms then
    let s := s.onPolder q fun P => { P with osc := { P.osc with count := BitVec.ofNat 16 edges } }
    if edges < 23520 ∨ 24480 < edges then s.toFallback q else s
  else
    let bad := decide (edges < 54) || decide (66 < edges)
    let twice := bad && s.polders[q].oscBad
    let s := s.onPolder q fun P => { P with oscBad := bad }
    if twice then s.toFallback q else s

-- Queues (R276)

/-- The entries of a queue with the group of entry `pos` replaced by one QUEUE_LOSS entry; the read count follows what
has left (R276, log entry 19). -/
def loseGroup (pos : Nat) (epoch : BitVec 6) (q : Queue) : Queue :=
  let starts := (List.range (pos + 1)).foldl (fun b i =>
    if i = 0 then 0 else match q.entries[i - 1]? with | some e => if e.last then i else b | none => b) 0
  let before := q.entries.take starts
  let g := (q.entries.drop starts).take (groupLen (q.entries.drop starts))
  let after := q.entries.drop (starts + g.length)
  if g.isEmpty then q
  else
    let loss : Entry := { payload := pay 0 (BitVec.ofNat 7 g.length), typ := 0x31#6, epoch := epoch, last := true }
    { q with entries := before ++ loss :: after, rd := q.rd + BitVec.ofNat 16 (g.length - 1) }

/-- The first free spare physical queue, 244 + i (R276). -/
def freeQueue (s : State) : Option (Fin 12) := (List.finRange 12).find? s.queueFree

/-- The port whose physical queue is taken for queue `x`: for a system queue the lowest class of the device, highest
number first; for a port event queue a lower class of its own polder, chosen as in R282. A parked port may still have one. -/
def queueVictim (s : State) (x : QueueId) : Option PortId :=
  let cands := (List.finRange 192).filter fun n =>
    !s.queueless n && decide (n.val ≠ x.val) &&
      (if h : x.val < 192 then polderOf n = polderOf ⟨x.val, h⟩ && decide (classRank (s.cls n) < classRank (s.cls ⟨x.val, h⟩))
       else true)
  let key (n : PortId) : Nat :=
    (2 - classRank (s.cls n)) * 1000 + (if x.val < 192 ∧ !s.ports[n].attached then 500 else 0) + n.val
  cands.foldl (fun b n => match b with | none => some n | some y => if key y < key n then some n else b) none

/-- The physical queue that serves logical queue `x`. -/
def physOf (s : State) (x : QueueId) : Nat :=
  match (List.finRange 12).find? fun i => s.qy.qmap[i] = some x with
  | some i => 244 + i.val
  | none => match s.qy.taken.find? fun y => y.1 = x with
    | some y => y.2.val
    | none => x.val

/-- Logical queue `x` is served by no other physical queue than its own. -/
def queueUnmap (x : QueueId) (s : State) : State :=
  { s with qy := { s.qy with
    qmap := s.qy.qmap.map fun y => if y = some x then none else y, taken := s.qy.taken.filter fun y => y.1 ≠ x } }

/-- Logical queue `x` is served by the physical queue of port `v` (R276), which has none from now on (log entry 194). -/
def queueTake (x : QueueId) (v : PortId) (s : State) : State :=
  let w : QueueId := ⟨v.val, by have := v.isLt; omega⟩
  let s := s.queueUnmap x
  if s.qy.qmap.toList.any (· = some w) then
    { s with qy := { s.qy with qmap := s.qy.qmap.map fun y => if y = some w then some x else y } }
  else
    let phys : QueueId := match s.qy.taken.find? fun y => y.1 = w with | some y => y.2 | none => w
    { s with qy := { s.qy with taken := (x, phys) :: s.qy.taken.filter fun y => y.1 ≠ w } }

/-- A queue changed, by its logical number, with the epoch of its port. -/
def onAnyQueue (x : QueueId) (f : BitVec 6 → Queue → Queue) (s : State) : State :=
  if h : x.val < 192 then
    let n : PortId := ⟨x.val, h⟩
    let p := s.ports[n]
    s.setPort n { p with q := f p.place.epoch p.q }
  else s.onSysq ⟨x.val - 192, by omega⟩ (f 0#6)

/-- An entry of a queue whose row holds an error taken for none or for another: payload, type and epoch change (R20, R325). -/
def slipEntry (pos : Nat) (v : BitVec 48) (q : Queue) : Queue :=
  { q with entries := q.entries.modify pos fun x =>
      { x with payload := x.payload ^^^ fld v 0 36, typ := x.typ ^^^ fld v 36 6, epoch := x.epoch ^^^ fld v 42 6 } }

/-- Logical queue `x`, whose physical queue has left service, is served by a free spare, by the queue of a port that is parked,
or, a port event queue, by none, its port parked (R276). -/
def queueSeat (x : QueueId) (id : BitVec 20) (cause : BitVec 4) (s : State) : State :=
  match s.freeQueue with
  | some i =>
    let s := s.queueUnmap x
    { s with qy := { s.qy with qmap := s.qy.qmap.set i (some x) } }
  | none =>
    let s := { s with qy := { s.qy with stat := { s.qy.stat with queueNospare := true } } }
    match s.queueVictim x with
    | some v =>
      let s := s.queueTake x v
      if s.ports[v].pfault.oos then s
      else ((s.parkPort v 2#2).quarryEvent 8#4 3#4 id cause).spareFreed (polderOf v)
    | none =>
      if h : x.val < 192 then
        let n : PortId := ⟨x.val, h⟩
        (((s.queueUnmap x).parkPort n 3#2).quarryEvent 7#4 3#4 id cause).spareFreed (polderOf n)
      else s

/-- QUEUE_FAULT: at a bad pointer (`pointer`), or an entry at place `pos` whose row, changed by `upset`, is uncorrectable, the
queue is remapped to a spare one or to that of a port that is parked, and the entry's group is lost (R276). A row with one bad symbol is corrected (R20). -/
def queueFault (x : QueueId) (pointer : Bool) (pos : Nat) (upset : BitVec 64) (s : State) : State :=
  if 244 ≤ x.val then s
  else if !pointer && foundIn 12 4 0#48 upset ≠ .many then s.onAnyQueue x fun _ => slipEntry pos (slip 12 4 upset)
  else
    let phys := s.physOf x
    let cause : BitVec 4 := if pointer then 6#4 else 5#4
    let id : BitVec 20 := BitVec.ofNat 20 phys
    let s : State := if pointer then s else s.onAnyQueue x (loseGroup pos)
    ((s.quarryEvent 3#4 3#4 id cause).spoil 3#4 id cause).queueSeat x id cause

end State

end Sys2Proof.Machine
end

