-- ==== Sys2Proof/Machine/Update.lean ====
section
/-! DEFINITION. The tree-wide update: staging, arming, activation, health, confirm and fallback
(spec/17_flash_update.md R449 to R459). -/

namespace Sys2Proof.Machine

/-- The phases of an update (Table 17.6). -/
abbrev phIdle : BitVec 3 := 0#3
/-- STAGING. -/
abbrev phStaging : BitVec 3 := 1#3
/-- STAGED. -/
abbrev phStaged : BitVec 3 := 2#3
/-- ARMED. -/
abbrev phArmed : BitVec 3 := 3#3
/-- ACTIVATING. -/
abbrev phActivating : BitVec 3 := 4#3
/-- TRIAL. -/
abbrev phTrial : BitVec 3 := 5#3
/-- CONFIRMED. -/
abbrev phConfirmed : BitVec 3 := 6#3
/-- REVERTING. -/
abbrev phReverting : BitVec 3 := 7#3

namespace Flash

/-- A bank record with one bank in a new state. -/
def BankRec.set (b : Bool) (st : BitVec 2) (r : BankRec) : BankRec := if b then { r with stateB := st } else { r with stateA := st }

/-- The state of a bank in a record. -/
def BankRec.get (b : Bool) (r : BankRec) : BitVec 2 := if b then r.stateB else r.stateA

end Flash

namespace State

/-- What the device holds of an update changed. -/
def onJob (f : Update → Update) (s : State) : State := s.onFlash fun x => { x with job := f x.job }

/-- FL_UPD_STAT changed. -/
def onUpd (f : FlUpdStat → FlUpdStat) (s : State) : State := s.onFlash fun x => { x with upd := f x.upd }

/-- The phase changes, with its alert (Table 13.3). -/
def setPhase (p : BitVec 3) (s : State) : State :=
  if s.fl.upd.phase = p then s
  else
    let s := s.onUpd fun u => { u with phase := p }
    s.alert 7#8 (s.fl.upd.read &&& 0xFFFF#32)

/-- FL_UPD_STAT.RESULT. -/
def setResult (r : BitVec 5) (s : State) : State := s.onUpd fun u => { u with result := r }

/-- A write of FL_UPD is refused. -/
def flRefuse (s : State) : State := s.onFlash fun f => { f with stat := { f.stat with refused := true } }

/-- Whether the update runs: on core 13 in RUN, and in the hold of NO_IMAGE, in which bundles are accepted (R446); in
provisioning-hold none is staged (R413). -/
def updUp (s : State) : Bool :=
  (s.sys.mode = .run && s.roleRuns 13#5) || (s.sys.mode = .provHold && s.fl.stat.noImage && !s.fz.stat.provHold)

/-- The bytes of an UPDATE message (Table 17.7). -/
def updBytes (s : State) (code : Byte) (rest : List Byte) : List Byte := [code, s.fl.upd.updId] ++ rest

/-- An UPDATE message to all from the device that drives the update; it is repeated (R449). -/
def tell (code : Byte) (rest : List Byte) (s : State) : State :=
  let bs := s.updBytes code rest
  (s.broadcast false 0#6 7#8 bs).onJob fun j => { j with pending := bs }

/-- A report of a worker to the acting manager; without a route it is held (R449, R456). -/
def report (code : Byte) (rest : List Byte) (s : State) : State :=
  if s.allocates then s
  else
    let bs := s.updBytes code rest
    if s.linksUp && (s.routeOf 0#6).isSome then (s.sendTo false 0#6 7#8 bs).onJob fun j => { j with report := [] }
    else s.onJob fun j => { j with report := bs }

/-- The acting manager counts a device that has succeeded in the present phase, or reported a result (Table 17.11). -/
def counted (a : BitVec 6) (r : BitVec 5) (s : State) : State :=
  let s := s.onJob fun j =>
    let ok := j.ok.filter (· ≠ a)
    let bad := j.bad.filter (· ≠ a)
    if r = 0#5 then { j with ok := a :: ok, bad := bad } else { j with ok := ok, bad := a :: bad }
  s.onUpd fun u => { u with nOk := BitVec.ofNat 6 s.fl.job.ok.length, nFail := BitVec.ofNat 6 s.fl.job.bad.length }

/-- A new phase of the tree is counted afresh. -/
def countAfresh (s : State) : State :=
  (s.onJob fun j => { j with ok := [], bad := [] }).onUpd fun u => { u with nOk := 0#6, nFail := 0#6 }

/-- The workers of the tree. -/
def treeWorkers (s : State) : List (BitVec 6) := if s.sys.stat.role = 0#2 then [] else s.lk.workers.map (·.1)

/-- Every device of the tree has succeeded in the present phase. -/
def allOk (s : State) : Bool := (s.ownAddr :: s.treeWorkers).all fun a => s.fl.job.ok.contains a

/-- Every worker has answered. -/
def allAnswered (s : State) : Bool := s.treeWorkers.all fun a => s.fl.job.ok.contains a || s.fl.job.bad.contains a

-- Staging (R451)

/-- The chunks of a bundle. -/
def chunkCount (s : State) : Nat := (s.fl.job.len + 2047) / 2048

/-- The bitmap of the missing chunks, chunk 0 in bit 0 of its first byte (Table 17.7, log entry 43). -/
def missingMap (s : State) : List Byte :=
  (List.range 16).map fun i => (List.range 8).foldl (fun (b : Byte) k =>
    let c := 8 * i + k
    if c < s.chunkCount ∧ !s.fl.job.chunks.contains c then b ||| (1#8 <<< k) else b) 0#8

/-- STAGING ends with a result: STAGED for success, else IDLE; the device reports it (R450, R451). -/
def stagingEnds (r : BitVec 5) (s : State) : State :=
  let s := (s.setResult r).setPhase (if r = 0#5 then phStaged else phIdle)
  if s.allocates then s.counted s.ownAddr r else s.report 2#8 ([r.setWidth 8] ++ s.missingMap)

/-- A new staging: its identifier and length; what was staged before is dropped (Table 17.9). -/
def newStaging (id : BitVec 8) (len : Nat) (hash : List Byte) (s : State) : State :=
  let s := s.onJob fun j => { Update.init with oldSlots := j.oldSlots, onNew := j.onNew, len := len, hash := hash }
  (s.onUpd fun u => { FlUpdStat.reset with phase := u.phase, updId := id }).setPhase phStaging

/-- The device's own steps at STAGE_BEGIN: the bank record of a start by fallback, the erase of the other bank and of its
settings half, and the record with that bank EMPTY (R451). -/
def prepareBank (s : State) : State :=
  if !s.flashCan then s.stagingEnds 8#5
  else
    let run := s.runBank
    s.onFlash fun f =>
      let f := if f.stat.bankFallback then
          f.writeBank ((f.bankRec.set run Flash.bankActive).set (!run) Flash.bankEmpty) else f
      let f := (f.erase (Flash.bankBase !run) 0x40000).erase (Flash.halfBase !run) 0x20000
      f.writeBank { f.bankRec.set (!run) Flash.bankEmpty with upd := f.upd.updId }

/-- All chunks are present: the bank is checked, and the record says STAGED (R451). The SHA-256 announced with
STAGE_BEGIN is that of the bundle (log entry 44). -/
def chunksDone (s : State) : State :=
  let other := !s.runBank
  let bs := s.fl.bytes (Flash.bankBase other) (min 262144 s.fl.job.len)
  let r := bundleCheck s.srevNat s.fz s.fl.job.len bs
  let r : BitVec 5 := if r = 0#5 ∧ sha256 bs ≠ s.fl.job.hash then 4#5 else r
  if r ≠ 0#5 then s.stagingEnds r
  else if !s.flashCan then s.stagingEnds 8#5
  else
    let s := s.onFlash fun f =>
      let x := { f.bankRec.set other Flash.bankStaged with upd := f.upd.updId }
      f.writeBank (if other then { x with verB := bundleVersion bs, lenB := f.job.len }
                   else { x with verA := bundleVersion bs, lenA := f.job.len })
    s.stagingEnds 0#5

/-- A chunk is written into the staging bank as it arrives (R451). -/
def chunkTaken (c : Nat) (data : List Byte) (s : State) : State :=
  if s.fl.upd.phase ≠ phStaging ∨ s.chunkCount ≤ c ∨ s.fl.job.chunks.contains c then s
  else if !s.flashCan then s.stagingEnds 8#5
  else
    let n := min 2048 (s.fl.job.len - 2048 * c)
    let s := s.onFlash fun f => f.put (Flash.bankBase (!s.runBank) + 2048 * c) (data.take n)
    let s := s.onJob fun j => { j with chunks := c :: j.chunks }
    if s.fl.job.chunks.length = s.chunkCount then s.chunksDone else s

/-- FL_UPD OP STAGE_BEGIN: a new update identifier; the staged-bundle area is erased (R451). -/
def updStageBegin (s : State) : State :=
  if !s.regsUp then s
  else if !s.updUp || !s.allocates || phArmed ≤ s.fl.upd.phase then s.flRefuse
  else
    let s := s.newStaging (s.fl.upd.updId + 1#8) s.fl.updLen.len.toNat []
    if s.flashCan then s.onFlash (·.erase 0x90000 0x40000) else s.stagingEnds 8#5

/-- A write of FL_STG_DATA appends its word on the acting manager (R451). -/
def stgData (w : Word) (s : State) : State :=
  if !s.regsUp || !s.updUp || !s.allocates || s.fl.upd.phase ≠ phStaging || s.fl.job.bundleOk then s
  else if 262144 < s.fl.job.staged + 4 ∨ s.fl.job.len < s.fl.job.staged + 4 then s
  else if !s.flashCan then s.stagingEnds 8#5
  else
    let a := 0x90000 + s.fl.job.staged
    (s.onFlash (·.put a (leBytes w))).onJob fun j => { j with staged := j.staged + 4 }

/-- The body of a BUNDLE message. -/
def chunkBody (s : State) (c : Nat) : List Byte :=
  let bs := s.fl.bytes (0x90000 + 2048 * c) (min 2048 (s.fl.job.len - 2048 * c))
  [s.fl.upd.updId, BitVec.ofNat 8 c] ++ bs ++ List.replicate (2048 - bs.length) 0#8

/-- FL_UPD OP STAGE_END: the staged bundle is checked; STAGE_BEGIN and every chunk are broadcast, and this device stages
it with the others (R451). -/
def updStageEnd (s : State) : State :=
  if !s.regsUp then s
  else if !s.updUp || !s.allocates || s.fl.upd.phase ≠ phStaging || s.fl.job.bundleOk then s.flRefuse
  else
    let bs := s.fl.bytes 0x90000 s.fl.job.staged
    let r := bundleCheck s.srevNat s.fz s.fl.job.len bs
    if r ≠ 0#5 then s.stagingEnds r
    else
      let s := s.onJob fun j => { j with bundleOk := true, hash := sha256 bs }
      let s := s.tell 1#8 (natBytes 4 s.fl.job.len ++ s.fl.job.hash)
      let s := (List.range s.chunkCount).foldl (fun (s : State) c => s.broadcast true 0#6 0x12#8 (s.chunkBody c)) s
      let s := s.prepareBank
      (List.range s.chunkCount).foldl (fun (s : State) c => s.chunkTaken c ((s.chunkBody c).drop 2)) s

/-- STAGE_BEGIN at a worker: the later identifier stands (Table 17.9); a repeat of it is answered where staging has
ended. -/
def stageBeginTaken (bs : List Byte) (s : State) : State :=
  let id := bs.getD 1 0#8
  if s.allocates || phArmed ≤ s.fl.upd.phase then s
  else if s.fl.upd.updId = id ∧ (s.fl.upd.phase ≠ phIdle ∨ s.fl.upd.result ≠ 0#5) then
    (if s.fl.upd.phase = phStaging then s else s.report 2#8 ([s.fl.upd.result.setWidth 8] ++ s.missingMap))
  else (s.newStaging id (numAt 2 4 bs) (cut 6 32 bs)).prepareBank

/-- BUNDLE at a worker. -/
def bundleTaken (bs : List Byte) (s : State) : State :=
  if s.allocates || bs.getD 0 0#8 ≠ s.fl.upd.updId then s else s.chunkTaken (numAt 1 1 bs) (cut 2 2048 bs)

/-- STAGE_REPORT_TIMER: a worker with missing chunks reports them. -/
def stageReportTimer (s : State) : State :=
  if s.fl.upd.phase = phStaging then s.report 2#8 ([0#8] ++ s.missingMap) else s

/-- STAGE_REPORT at the manager: the device is counted, or gets its missing chunks alone. -/
def stageReportTaken (src : BitVec 6) (bs : List Byte) (s : State) : State :=
  if !s.lk.tree.actingMgr || bs.getD 1 0#8 ≠ s.fl.upd.updId || !(s.fl.upd.phase = phStaging || s.fl.upd.phase = phStaged) then s
  else
    let r : BitVec 5 := (bs.getD 2 0#8).setWidth 5
    let missing := (List.range s.chunkCount).filter fun c => bit (bs.getD (3 + c / 8) 0#8) (c % 8)
    if r ≠ 0#5 then s.counted src r
    else if missing.isEmpty then s.counted src 0#5
    else missing.foldl (fun (s : State) c => s.sendTo true src 0x12#8 (s.chunkBody c)) s

/-- STAGING_TIMEOUT: chunks still missing 600 s after STAGE_BEGIN; the manager repeats STAGE_BEGIN no longer. -/
def stagingTimeout (s : State) : State :=
  let s := if s.fl.job.pending.getD 0 0#8 = 1#8 then s.onJob fun j => { j with pending := [] } else s
  if s.fl.upd.phase = phStaging then s.stagingEnds 9#5 else s

-- The images of the running and of the new bundle

/-- The Thoelm part of the bank that is not the booted one. -/
def otherThoelm (s : State) : List Byte := bundleBody (s.bankImage !s.fl.stat.bootBank) 4

/-- The Thoelm part of the booted bank. -/
def bootThoelm (s : State) : List Byte := bundleBody (s.bankImage s.fl.stat.bootBank) 4

/-- MAP of a Thoelm image whose sections lie in `slots`: the slot and spare order that each polder follows from now on
(Table 8.6). -/
def follow (th : List Byte) (slots : List (Fin 16)) (s : State) : State :=
  (List.finRange 4).foldl (fun (s : State) q =>
    s.onPolder q fun P =>
      { P with order := spareOrder th q,
               tplMap := Vector.ofFn fun p : Fin 48 =>
                 match mapSlot th slots (portAt q p) with | some t => BitVec.ofNat 4 t.val | none => P.tplMap[p] }) s

/-- The supervisor makes a load of its own and takes its event (R240). -/
def ownLoad (q : PolderId) (region : BitVec 6) (slot : BitVec 4) (s : State) : State :=
  if s.loadErr q region slot ≠ 0#3 then s
  else
    let k := s.fresh
    let s := ({ s with fresh := k + 1 }.plLoad q region slot).loadComplete q { row := 0, upset := 0#112 } false (Config.loadUs k)
    s.onSysq 51 fun x => x.drop x.entries.length

/-- A planned migration of a session to a region that is loaded from a slot first (R266). -/
def planHop (n : PortId) (r : RegionId) (slot : BitVec 4) (s : State) : State :=
  let q := polderOf n
  let pos := posOf n
  let t : BitVec 6 := BitVec.ofNat 6 r.val
  let R := s.polders[q].regions[r]
  let s := if R.st = .ready ∧ R.slot = slot then s else s.ownLoad q t slot
  let s := s.prepare (BitVec.ofNat 8 n.val) t
  if s.polders[q].prepared = some (pos, r) then (s.plSwitch q (BitVec.ofNat 6 pos.val) t).switchComplete q pos else s

/-- Step 4 of R453 for one port: out to a free spare loaded from the slot that MAP names, and back to its home region
loaded from it. -/
def rehome (n : PortId) (s : State) : State :=
  let q := polderOf n
  let pos := posOf n
  let slot := s.polders[q].tplMap[pos]
  let R := s.polders[q].regionAt pos
  if s.ports[n].pfault.oos ∨ R.st ≠ .serving ∨ R.slot = slot ∨ s.ports[n].place.migrating then s
  else match s.freeSpare q with
    | none => s
    | some r =>
      let s := s.planHop n r slot
      let home : RegionId := ⟨pos.val, by have := pos.isLt; omega⟩
      if s.polders[q].culv[pos].region.toNat ≠ r.val ∨ s.isSpoiled 1#4 (regionId q pos.val) then s
      else s.planHop n home slot

/-- Regions that no position is connected to and that were loaded from another slot than MAP names for any position are
emptied (log entry 45). -/
def emptyIdle (q : PolderId) (s : State) : State :=
  (List.finRange 56).foldl (fun (s : State) (r : Fin 56) =>
    let P : Polder := s.polders[q]
    let R : FabRegion := P.regions[r]
    if R.st = .ready ∧ R.trial = .none ∧ !(P.culv.toList.any fun c => c.region.toNat = r.val) ∧ !P.tplMap.toList.contains R.slot ∧
        !((P.load.toList ++ P.waiting).any fun j => j.target = some r) then s.wipe q (some r)
    else s) s

/-- Step 5 of R453 for one polder: the standby half is loaded and switched, then the other is reloaded. -/
def commonTo (q : PolderId) (slot : BitVec 4) (s : State) : State :=
  let P := s.polders[q]
  if P.active.slot = slot ∧ P.standby.slot = slot ∧ P.standby.st = .ready then s
  else ((s.ownLoad q 0x3E#6 slot).commonSwitch q |>.commonSwitchTick q).ownLoad q 0x3E#6 slot

/-- Steps 4 and 5 of R453: class A first, then B, then C, in port order; then the common halves. -/
def portsTo (th : List Byte) (slots : List (Fin 16)) (s : State) : State :=
  let s := s.follow th slots
  let s := [SvcClass.a, .b, .c].foldl (fun (s : State) cl =>
    s.onAllPorts fun n s => if s.cls n = cl then s.rehome n else s) s
  (List.finRange 4).foldl (fun (s : State) q =>
    let s := s.emptyIdle q
    match commonSlot th slots with | some t => s.commonTo q (BitVec.ofNat 4 t.val) | none => s) s

/-- Every SERVING region and both common halves run on what MAP names (R454). -/
def portsOn (th : List Byte) (slots : List (Fin 16)) (s : State) : Bool :=
  (List.finRange 4).all fun q =>
    let P := s.polders[q]
    ((List.finRange 48).all fun p =>
      let R := P.regionAt p
      R.st ≠ .serving || s.ports[portAt q p].pfault.oos || R.slot = P.tplMap[p]) &&
    (match commonSlot th slots with
     | some t => P.halfA.slot.toNat = t.val && P.halfB.slot.toNat = t.val
     | none => true)

/-- Every core in service starts at its role's entry with the other image; C_CFG and the roles stand (R453 steps 1 to 3,
R275). -/
def rolesHop (s : State) : State :=
  (List.finRange 16).foldl (fun (s : State) k =>
    if s.inService k then
      (s.clearHeld k).onCore k fun c =>
        { c.resetState with
          image := imageOf c.role.role, code := [], trap := CTrap.reset,
          stat := { c.stat with state := 1#3, wdLeft := watchdogOf c.role.role } }
    else s) s

/-- The parts of a bundle beside its templates and role images take effect: version, gauge tables, class-A reserve, the sluice
parameter sets of its Thoelm image and the role image cache (R238, R453 step 6, R179). -/
def bundleInForce (bank : Bool) (s : State) : State :=
  let img := s.bankImage bank
  let r := s.fl.bankRec
  let ver (b : Bool) : Word := if r.get b = Flash.bankEmpty then 0#32 else if b then r.verB else r.verA
  let s := s.onFlash fun f =>
    { f with ver := bundleVersion img, verOther := ver !bank, reserve := bundleReserve img, revs := some (bundleRevs img),
             cacheVer := bundleVersion img }
  ({ s with kg := { s.kg with tables := gaugeTables img } }.takeSets (bundleBody img 4)).cacheFill

/-- The slots of an image are freed (R452, R455, R456). -/
def freeImage (slots : List (Fin 16)) (s : State) : State := slots.foldl (fun s t => s.tplFree t) s

-- Bank records that the stage holds (R455, R456)

/-- A bank record that is due is written once a program may start: the running bank ACTIVE; the other OLD after CONFIRM,
STAGED after a revert. -/
def bankWriteDue (s : State) : State :=
  if s.fl.bankDue && s.flashCan then
    let run := s.runBank
    s.onFlash fun f =>
      let f := f.writeBank ((f.bankRec.set run Flash.bankActive).set (!run) (if f.upd.result = 0#5 then Flash.bankOld else Flash.bankStaged))
      { f with bankDue := false }
  else s

-- Fallback (R456, R457)

/-- A revert goes on: once nothing is loaded from the new image any more, the new image's slots are freed, the bank record is restored, and the device is IDLE and reports it. -/
def revertGoesOn (s : State) : State :=
  if s.fl.upd.phase ≠ phReverting then s
  else
    let th := s.bootThoelm
    let s := s.portsTo th s.fl.job.oldSlots
    if s.fl.job.newSlots.any fun t => s.store.slots[t].refs ≠ 0#8 then s
    else
      let s := (s.freeImage s.fl.job.newSlots).onJob fun j => { j with newSlots := [] }
      let due := s.fl.bankRec.get s.runBank ≠ Flash.bankActive
      let s := (s.onFlash fun f => { f with bankDue := due }).bankWriteDue
      let s := s.setPhase phIdle
      s.report 9#8 [s.fl.upd.result.setWidth 8]

/-- A revert with its result (R456). The old templates are first rewritten from the old bank where CONFIRM has freed
them; the settings of the old half are in force again (log entry 195). -/
def revert (r : BitVec 5) (s : State) : State :=
  let s₀ := s
  let s := ((s.setResult r).onUpd fun u => { u with healthOk := false }).setPhase phReverting
  let s :=
    if s.fl.job.onNew then
      let s := (s.onJob fun j => { j with onNew := false }).rolesHop
      let s : State := if s.fl.job.oldSlots.isEmpty then
          let (st, used) := writeImage s.bootThoelm s.store
          { s with store := st }.onJob fun j => { j with oldSlots := used }
        else s
      (s.bundleInForce s.fl.stat.bootBank).settingsDrop
    else s
  s₀.noteGuar s.revertGoesOn

/-- The phases in which an armed device can revert. -/
def revertible (s : State) : Bool := phArmed ≤ s.fl.upd.phase && s.fl.upd.phase ≤ phConfirmed

/-- The acting manager broadcasts REVERT with a cause and reverts itself (R456, R457). -/
def revertTree (cause own : BitVec 5) (s : State) : State :=
  let s := s.tell 7#8 [cause.setWidth 8]
  if s.revertible then s.revert own else s

-- Arming (R452)

/-- A device returns to STAGED with a result, and frees the slots that it wrote. -/
def disarm (r : BitVec 5) (s : State) : State :=
  let s := (s.freeImage s.fl.job.newSlots).onJob fun j => { j with newSlots := [] }
  (s.setResult r).setPhase phStaged

/-- The manager broadcasts ABORT with a result and leaves ARMED itself. -/
def abortTree (r own : BitVec 5) (s : State) : State :=
  let s := s.tell 8#8 [r.setWidth 8]
  if s.fl.upd.phase = phArmed then s.disarm own else s

/-- The conditions of R35, in the order of codes 0x0A to 0x0D. -/
def armErr (s : State) (th : List Byte) : BitVec 5 :=
  if (emptySlots s.store).length < slotsNeeded th then 0xA#5
  else if (List.finRange 4).any fun q => s.freeCount q = 0 then 0xB#5
  else if !(s.inService 15 && s.cores[15].role.role = 15#4) || (s.findCore fun k => s.cores[k].role.role = 14#4).isNone then 0xC#5
  else if 2#3 ≤ s.sh.stat.stage ∨ !(s.allocates || s.lk.time.synced) then 0xD#5
  else 0#5

/-- A STAGED device is armed, or has a result: the new templates and common image are written into free slots (R452). A
slot that fails its check is no free slot that the image could use. -/
def armSelf (active : BitVec 48) (tConfirm : BitVec 8) (s : State) : State :=
  let th := s.otherThoelm
  let e := s.armErr th
  if e ≠ 0#5 then s.setResult e
  else
    let (st, used) := writeImage th s.store
    let s : State := { s with store := st }.onJob fun j => { j with newSlots := used }
    if used.any fun t => s.store.slots[t].st ≠ .valid then s.disarm 0xA#5
    else
      let s := s.onJob fun j => { j with active := active, tConfirm := tConfirm, migrated := false, watchBad := false }
      (s.setResult 0#5).setPhase phArmed

/-- FL_UPD OP ARM: accepted in STAGED with every device of the tree staged (R452). -/
def updArm (s : State) : State :=
  if !s.regsUp then s
  else if !s.updUp || !s.allocates || s.fl.upd.phase ≠ phStaged || s.fl.upd.nFail ≠ 0#6 || !s.allOk then s.flRefuse
  else
    let active : BitVec 48 := BitVec.ofNat 48 (s.treeUs + 1000000 * s.fl.updCfg.actDelay.toNat)
    let s := s.countAfresh
    let s := (s.tell 3#8 (natBytes 6 active.toNat ++ [s.fl.updCfg.tConfirm])).armSelf active s.fl.updCfg.tConfirm
    let s := s.counted s.ownAddr s.fl.upd.result
    if s.fl.upd.result ≠ 0#5 then s.abortTree s.fl.upd.result s.fl.upd.result else s

/-- ARM at a worker; a repeat is answered again. -/
def armTaken (bs : List Byte) (s : State) : State :=
  if s.allocates || bs.getD 1 0#8 ≠ s.fl.upd.updId then s
  else if s.fl.upd.phase = phArmed then s.report 4#8 [0#8]
  else if s.fl.upd.phase ≠ phStaged then s
  else
    let s := s.armSelf (BitVec.ofNat 48 (numAt 2 6 bs)) (bs.getD 8 0#8)
    s.report 4#8 [s.fl.upd.result.setWidth 8]

/-- ARM_REPORT at the manager: a failing one makes it broadcast ABORT. -/
def armReportTaken (src : BitVec 6) (bs : List Byte) (s : State) : State :=
  if !s.lk.tree.actingMgr || bs.getD 1 0#8 ≠ s.fl.upd.updId || s.fl.upd.phase ≠ phArmed then s
  else
    let r : BitVec 5 := (bs.getD 2 0#8).setWidth 5
    let s := s.counted src r
    if r ≠ 0#5 then s.abortTree r 0xE#5
    else if s.allAnswered then s.onJob fun j => { j with pending := [] } else s

/-- ARM_REPORT_TIMEOUT: a report is missing 2 s after ARM. -/
def armReportTimeout (s : State) : State :=
  if s.updUp && s.allocates && s.fl.upd.phase = phArmed && !s.allOk then s.abortTree 0xF#5 0xF#5 else s

/-- What ABORT does on a device: ARMED goes back to STAGED, and STAGING, which has nothing staged yet, to IDLE
(Table 17.6, log entry 46). -/
def abortSelf (s : State) : State :=
  if s.fl.upd.phase = phArmed then s.disarm 0xE#5
  else if s.fl.upd.phase = phStaging then (s.setResult 0xE#5).setPhase phIdle
  else s

/-- FL_UPD OP ABORT, before the ACTIVATE time. -/
def updAbort (s : State) : State :=
  if !s.regsUp then s
  else if !s.updUp || !s.allocates || s.fl.upd.phase = phIdle || phActivating ≤ s.fl.upd.phase then s.flRefuse
  else (s.tell 8#8 [0xE#8]).abortSelf

/-- ABORT at a worker. -/
def abortTaken (bs : List Byte) (s : State) : State :=
  if s.allocates || bs.getD 1 0#8 ≠ s.fl.upd.updId then s else s.abortSelf

-- Confirm (R455)

/-- CONFIRM on a device: the bank record, the old image's slots freed, CONFIRMED. -/
def confirmSelf (s : State) : State :=
  if s.fl.upd.phase ≠ phTrial then s
  else
    let s := (s.onFlash fun f => { f with bankDue := true }).bankWriteDue
    let s := (s.freeImage s.fl.job.oldSlots).onJob fun j => { j with oldSlots := [] }
    s.setPhase phConfirmed

/-- The acting manager broadcasts CONFIRM once every device is healthy, up to 1 s before the deadline. -/
def confirmIfAll (s : State) : State :=
  let last := s.fl.job.active.toNat + 1000000 * (s.fl.job.tConfirm.toNat - 1)
  if s.allocates && s.fl.upd.phase = phTrial && s.allOk && decide (s.treeUs ≤ last) then (s.tell 6#8 []).confirmSelf else s

/-- CONFIRM at a worker. -/
def confirmTaken (bs : List Byte) (s : State) : State :=
  if s.allocates || bs.getD 1 0#8 ≠ s.fl.upd.updId then s else s.confirmSelf

-- Activation (R453, R454)

/-- The conditions of HEALTH_OK (R454). -/
def healthy (s : State) : Bool :=
  s.fl.job.onNew && s.fl.job.migrated && s.portsOn s.otherThoelm s.fl.job.newSlots && !s.fl.job.watchBad &&
    !((List.finRange 16).any fun k => s.cores[k].stat.state = 3#3) && (!s.fl.reserve || s.aGuar)

/-- A failing HEALTH: the manager broadcasts REVERT with the cause; a worker reports it and reverts by itself. -/
def healthFails (r : BitVec 5) (s : State) : State :=
  if s.allocates then (s.counted s.ownAddr r).revertTree r r else (s.report 5#8 [r.setWidth 8]).revert r

/-- HEALTH_OK is reached: TRIAL (R454). -/
def healthIfOk (s : State) : State :=
  if s.fl.upd.phase = phActivating && s.healthy then
    let s := (s.onUpd fun u => { u with healthOk := true }).setPhase phTrial
    if s.allocates then (s.counted s.ownAddr 0#5).confirmIfAll else s.report 5#8 [0#8]
  else s

/-- The activation goes on as far as the spares allow: the hops of the roles, the settings of the new half, the ports and
the common halves, the caches and tables (R453, Table 17.9). -/
def activationGoesOn (s : State) : State :=
  if s.fl.upd.phase ≠ phActivating then s
  else
    let s₀ := s
    let new := !s.fl.stat.bootBank
    let free := s.inService 15 && s.cores[15].role.role = 15#4 && (s.findCore fun k => s.cores[k].role.role = 14#4).isSome
    let s := if !s.fl.job.onNew && free then
        ((s.onJob fun j => { j with onNew := true }).rolesHop).bundleInForce new else s
    if !s.fl.job.onNew then s
    else
      let s := if !s.fl.job.migrated && (s.flashCan || !s.settingsOk) then
          (s.settingsMigrate new (schemaOf (s.bankImage new))).onJob fun j => { j with migrated := true }
        else s
      (s₀.noteGuar (s.portsTo s.otherThoelm s.fl.job.newSlots)).healthIfOk

/-- ACTIVATE: an armed device activates at S1 or shallower, else it reverts with 0x0D (R37, R453). In ACTIVATING it goes
on with what has waited. -/
def activate (s : State) : State :=
  if !s.updUp then s
  else if s.fl.upd.phase = phActivating then s.activationGoesOn
  else if s.fl.upd.phase ≠ phArmed then s
  else
    let s := if s.allocates then s.countAfresh else s
    if 2#3 ≤ s.sh.stat.stage then s.healthFails 0xD#5 else (s.setPhase phActivating).activationGoesOn

/-- HEALTH at the manager. -/
def healthTaken (src : BitVec 6) (bs : List Byte) (s : State) : State :=
  if !s.lk.tree.actingMgr || bs.getD 1 0#8 ≠ s.fl.upd.updId || !(phArmed ≤ s.fl.upd.phase && s.fl.upd.phase ≤ phTrial) then s
  else
    let r : BitVec 5 := (bs.getD 2 0#8).setWidth 5
    let s := s.counted src r
    if r = 0#5 then s.confirmIfAll else s.revertTree r 0xE#5

/-- CONFIRM_DEADLINE: no CONFIRM by ACTIVATE + t_confirm: result 0x10 when HEALTH_OK was never reached, else 0x12. -/
def confirmDeadline (s : State) : State :=
  if !s.updUp then s
  else if s.fl.upd.phase = phActivating ∨ s.fl.upd.phase = phTrial then
    let r : BitVec 5 := if s.fl.upd.healthOk then 0x12#5 else 0x10#5
    if s.allocates then s.revertTree r r else s.revert r
  else if s.fl.upd.phase = phConfirmed ∧ s.fl.job.pending.getD 0 0#8 = 6#8 then s.onJob fun j => { j with pending := [] }
  else s

/-- FL_UPD OP REVERT, in ACTIVATING, TRIAL or CONFIRMED. -/
def updRevert (s : State) : State :=
  if !s.regsUp then s
  else if !s.updUp || !s.allocates || s.fl.upd.phase < phActivating || phConfirmed < s.fl.upd.phase then s.flRefuse
  else s.revertTree 0x11#5 0x11#5

/-- REVERT at a worker. -/
def revertTaken (bs : List Byte) (s : State) : State :=
  if s.allocates || bs.getD 1 0#8 ≠ s.fl.upd.updId || !s.revertible then s else s.revert 0xE#5

/-- REVERTED at the manager: it broadcasts REVERT with the cause received; once every worker has answered, the repeats
end. -/
def revertedTaken (src : BitVec 6) (bs : List Byte) (s : State) : State :=
  if !s.lk.tree.actingMgr || bs.getD 1 0#8 ≠ s.fl.upd.updId then s
  else
    let r : BitVec 5 := (bs.getD 2 0#8).setWidth 5
    let s := s.counted src (if r = 0#5 then 0xE#5 else r)
    let s := if s.revertible then s.revertTree r 0xE#5 else s
    if s.treeWorkers.all fun a => s.fl.job.bad.contains a then s.onJob fun j => { j with pending := [] } else s

/-- LATE_WINDOW_EXPIRY: a confirmed device returns to IDLE; the bank that it runs is its booted bank from now on (log
entry 47). -/
def lateWindow (s : State) : State :=
  let s := s.onJob fun j => { j with pending := [] }
  if s.fl.upd.phase = phConfirmed then
    let run := s.runBank
    let s := s.onFlash fun f =>
      { f with stat := { f.stat with bootBank := run, bankFallback := false },
               job := { f.job with onNew := false, oldSlots := f.job.newSlots, newSlots := [] } }
    s.setPhase phIdle
  else s

/-- UPDATE_MESSAGE_REPEAT: a message to all that is not answered by every worker is broadcast again, a report that is
held is sent once it has a route, and what waits for a spare or for the stage goes on (R449, R456, Table 17.9). -/
def updateRepeat (s : State) : State :=
  if !s.updUp then s
  else
    let s := (s.bankWriteDue.activationGoesOn).revertGoesOn
    let j := s.fl.job
    if s.allocates then
      if j.pending.isEmpty then s
      else if s.treeWorkers.isEmpty || ((j.pending.getD 0 0#8 = 1#8 || j.pending.getD 0 0#8 = 3#8) && s.allAnswered) then
        s.onJob fun j => { j with pending := [] }
      else s.broadcast false 0#6 7#8 j.pending
    else if j.report.isEmpty || !s.linksUp || (s.routeOf 0#6).isNone then s
    else (s.sendTo false 0#6 7#8 j.report).onJob fun j => { j with report := [] }

-- UPDATE messages at the head of a receive queue

/-- The first byte of the UPDATE message at the head of the class-A receive queue of a port. -/
def updHead (s : State) (i : LinkId) : Option Byte :=
  match s.headCell i false with
  | none => none
  | some c =>
    if c.typ ≠ 7#8 then none
    else if c.frag = 0#7 then c.body.head?
    else match s.lk.parts.find? fun x => x.src = c.src && x.bulk = false with
      | some x => x.bytes.head?
      | none => none

/-- A command that takes an UPDATE message of one name. -/
def onUpdMsg (i : LinkId) (code : Byte) (f : BitVec 6 → List Byte → State → State) (s : State) : State :=
  if s.updUp && s.updHead i = some code then s.onMsg i false 7#8 f else s

-- The tree during an update (R457)

/-- TOPO: while the trial and the late window run, one from a worker of the armed tree makes the acting manager broadcast
REVERT. -/
def topoInUpdate (bs : List Byte) (s : State) : State :=
  let serial : BitVec 64 := BitVec.ofNat 64 (numAt 0 8 bs)
  let known := match s.lk.table.find? fun e => e.1 = serial with
    | some e => s.treeWorkers.contains e.2
    | none => false
  let s := s.topoTaken bs
  if s.lk.tree.actingMgr && known && phActivating ≤ s.fl.upd.phase && s.fl.upd.phase ≤ phConfirmed then s.revertTree 0xE#5 0xE#5
  else s

/-- MANAGER_LOSS: a deputy that takes over during ARMED to CONFIRMED broadcasts REVERT with 0x12 at once. -/
def managerLossInUpdate (s : State) : State :=
  let t := s.managerLoss
  if t.lk.tree.actingMgr && !s.lk.tree.actingMgr && t.revertible then t.revertTree 0x12#5 0x12#5 else t

end State

end Sys2Proof.Machine
end

