-- ==== Sys2Proof/Machine/ExecFlash.lean ====
section
/-! DEFINITION. The meanings of the commands of the flash and of the tree-wide update (spec/17_flash_update.md). -/

namespace Sys2Proof.Machine

/-- FLASH_READ (R440): Flash command READ reads bytes into queue 237. -/
def execFlashRead (addr : BitVec 24) (n : BitVec 9) (s : State) : Host.Outcome State Fault Refusal :=
  .next (s.flashCommand 1#3 addr n [])

/-- FLASH_PROGRAM (R440): core 13 gives the controller a PROGRAM of `n` bytes at `addr`; `data` is filled with zeros
to `n` bytes. -/
def execFlashProgram (addr : BitVec 24) (n : BitVec 9) (data : List Byte)
    (s : State) : Host.Outcome State Fault Refusal :=
  .next (s.flashCommand 2#3 addr n data)

/-- ERASE_4K (R440): Flash command ERASE_4K erases one sector, or is refused. -/
def execErase4k (addr : BitVec 24) (n : BitVec 9) (s : State) : Host.Outcome State Fault Refusal :=
  .next (s.flashCommand 3#3 addr n [])

/-- ERASE_64K (R440): Flash command ERASE_64K erases one block, or is refused. -/
def execErase64k (addr : BitVec 24) (n : BitVec 9) (s : State) : Host.Outcome State Fault Refusal :=
  .next (s.flashCommand 4#3 addr n [])

/-- READ_ID (R440): Flash command READ_ID reads the JEDEC ID. -/
def execReadId (addr : BitVec 24) (n : BitVec 9) (s : State) : Host.Outcome State Fault Refusal :=
  .next (s.flashCommand 5#3 addr n [])

/-- FLASH_COMMAND_DONE (R440): A flash command ends and its status is written to queue 239. -/
def execFlashCommandDone (s : State) : Host.Outcome State Fault Refusal :=
  .next s.flashDone

/-- SETTINGS_RECORD_WRITE (R443): settings record `j` of Table 17.2: 0 DEVICE, 1 to 12 PORTS, 13 TREE. -/
def execSettingsRecordWrite (j : Nat) (s : State) : Host.Outcome State Fault Refusal :=
  .next (s.settingsWrite j)

/-- LOG_RECORD_WRITE (R444): a log record of code `code`; `value` is its value where it is that of an alert or a
breach. -/
def execLogRecordWrite (code : Byte) (value : BitVec 120) (s : State) : Host.Outcome State Fault Refusal :=
  .next (s.logWrite code value)

/-- FL_UPD_STAGE_BEGIN (R451): FL_UPD OP STAGE_BEGIN takes a new update identifier, erases the staging area and
accepts bundle words. -/
def execFlUpdStageBegin (s : State) : Host.Outcome State Fault Refusal :=
  .next s.updStageBegin

/-- FL_STG_DATA_WRITE (R451): A write of FL_STG_DATA appends a bundle word. -/
def execFlStgDataWrite (w : Word) (s : State) : Host.Outcome State Fault Refusal :=
  .next (s.stgData w)

/-- FL_UPD_STAGE_END (R451): FL_UPD OP STAGE_END checks the bundle and broadcasts STAGE_BEGIN and the chunks. -/
def execFlUpdStageEnd (s : State) : Host.Outcome State Fault Refusal :=
  .next s.updStageEnd

/-- FL_UPD_ARM (R452): FL_UPD OP ARM broadcasts ARM with the ACTIVATE time when the tree is staged. -/
def execFlUpdArm (s : State) : Host.Outcome State Fault Refusal :=
  .next s.updArm

/-- FL_UPD_ABORT (R452): FL_UPD OP ABORT broadcasts ABORT. -/
def execFlUpdAbort (s : State) : Host.Outcome State Fault Refusal :=
  .next s.updAbort

/-- FL_UPD_REVERT (R456): FL_UPD OP REVERT reverts the update with result 0x11. -/
def execFlUpdRevert (s : State) : Host.Outcome State Fault Refusal :=
  .next s.updRevert

/-- STAGE_BEGIN (R451): the UPDATE message STAGE_BEGIN at the head of the class-A receive queue of link port `i` is
served. -/
def execStageBegin (i : LinkId) (s : State) : Host.Outcome State Fault Refusal :=
  .next (s.onUpdMsg i 1#8 fun _ bs s => s.stageBeginTaken bs)

/-- BUNDLE (R451): the BUNDLE message at the head of the bulk receive queue of link port `i` is served. -/
def execBundle (i : LinkId) (s : State) : Host.Outcome State Fault Refusal :=
  .next (s.onMsg i true 0x12#8 fun _ bs s => if s.updUp then s.bundleTaken bs else s)

/-- STAGE_REPORT_TIMER (R451): Every 2 s a worker with missing chunks sends STAGE_REPORT. -/
def execStageReportTimer (s : State) : Host.Outcome State Fault Refusal :=
  .next (if s.updUp then s.stageReportTimer else s)

/-- STAGE_REPORT (R451): the UPDATE message STAGE_REPORT at the head of the class-A receive queue of link port `i`
is served. -/
def execStageReport (i : LinkId) (s : State) : Host.Outcome State Fault Refusal :=
  .next (s.onUpdMsg i 2#8 fun src bs s => s.stageReportTaken src bs)

/-- STAGING_TIMEOUT (R450): Chunks still missing 600 s after STAGE_BEGIN end staging with 0x09. -/
def execStagingTimeout (s : State) : Host.Outcome State Fault Refusal :=
  .next (if s.updUp then s.stagingTimeout else s)

/-- ARM (R452): the UPDATE message ARM at the head of the class-A receive queue of link port `i` is served. -/
def execUpdArm (i : LinkId) (s : State) : Host.Outcome State Fault Refusal :=
  .next (s.onUpdMsg i 3#8 fun _ bs s => s.armTaken bs)

/-- ARM_REPORT (R452): the UPDATE message ARM_REPORT at the head of the class-A receive queue of link port `i` is
served. -/
def execArmReport (i : LinkId) (s : State) : Host.Outcome State Fault Refusal :=
  .next (s.onUpdMsg i 4#8 fun src bs s => s.armReportTaken src bs)

/-- ARM_REPORT_TIMEOUT (R452): A report missing 2 s after ARM makes the manager broadcast ABORT. -/
def execArmReportTimeout (s : State) : Host.Outcome State Fault Refusal :=
  .next (if s.updUp then s.armReportTimeout else s)

/-- ABORT (R452): the UPDATE message ABORT at the head of the class-A receive queue of link port `i` is served. -/
def execUpdAbort (i : LinkId) (s : State) : Host.Outcome State Fault Refusal :=
  .next (s.onUpdMsg i 8#8 fun _ bs s => s.abortTaken bs)

/-- UPDATE_MESSAGE_REPEAT (R449): Every 100 ms an unanswered UPDATE message is repeated. -/
def execUpdateMessageRepeat (s : State) : Host.Outcome State Fault Refusal :=
  .next (if s.updUp then s.updateRepeat else s)

/-- ACTIVATE (R453): At the ACTIVATE time an armed device hops roles, ports and common halves to the new image, or
reverts at S2 or deeper. -/
def execUpdActivate (s : State) : Host.Outcome State Fault Refusal :=
  .next (if s.updUp then s.activate else s)

/-- HEALTH (R455): the UPDATE message HEALTH at the head of the class-A receive queue of link port `i` is served. -/
def execUpdHealth (i : LinkId) (s : State) : Host.Outcome State Fault Refusal :=
  .next (s.onUpdMsg i 5#8 fun src bs s => s.healthTaken src bs)

/-- CONFIRM (R455): the UPDATE message CONFIRM at the head of the class-A receive queue of link port `i` is served. -/
def execUpdConfirm (i : LinkId) (s : State) : Host.Outcome State Fault Refusal :=
  .next (s.onUpdMsg i 6#8 fun _ bs s => s.confirmTaken bs)

/-- CONFIRM_DEADLINE (R456): No CONFIRM by ACTIVATE + t_confirm and the device reverts. -/
def execConfirmDeadline (s : State) : Host.Outcome State Fault Refusal :=
  .next (if s.updUp then s.confirmDeadline else s)

/-- REVERT (R456): the UPDATE message REVERT at the head of the class-A receive queue of link port `i` is served. -/
def execUpdRevert (i : LinkId) (s : State) : Host.Outcome State Fault Refusal :=
  .next (s.onUpdMsg i 7#8 fun _ bs s => s.revertTaken bs)

/-- REVERTED (R457): the UPDATE message REVERTED at the head of the class-A receive queue of link port `i` is
served. -/
def execUpdReverted (i : LinkId) (s : State) : Host.Outcome State Fault Refusal :=
  .next (s.onUpdMsg i 9#8 fun src bs s => s.revertedTaken src bs)

/-- LATE_WINDOW_EXPIRY (R457): 60 s after ACTIVATE + t_confirm a confirmed device returns to IDLE. -/
def execLateWindowExpiry (s : State) : Host.Outcome State Fault Refusal :=
  .next (if s.updUp then s.lateWindow else s)

end Sys2Proof.Machine
end

