-- ==== Sys2Proof/Machine/ExecFuse.lean ====
section
/-! DEFINITION. The commands of the fuse array (spec/15_fuses_secure_start.md R405 to R416). -/

namespace Sys2Proof.Machine

/-- SPOIL_ENTRY_WRITE (R280): A held spoil entry is written to the fuse ledger or flash when the stage allows. -/
def execSpoilEntryWrite (s : State) : Host.Outcome State Fault Refusal :=
  .next s.spoilEntryWrite

/-- PROGRAM (R405): FZ_CMD OP PROGRAM blows a fuse word in both copies where allowed. -/
def execFuseProgram (src : Src) (addr : BitVec 9) (s : State) : Host.Outcome State Fault Refusal :=
  .next (s.fuseProgram src addr)

/-- LOCK (R409): FZ_CMD OP LOCK compares both copies and programs the region digests. `up` lists the words that the
sense amplifiers read wrong, with the bits that differ. -/
def execFuseLock (src : Src) (region : BitVec 9) (up : List (Nat × BitVec 44))
    (s : State) : Host.Outcome State Fault Refusal :=
  .next (s.fuseLock src region up)

/-- READ_NORMAL (R416): FZ_CMD OP READ normal returns the raw word at normal margin; `upset` is in which bits the
read differs from the word as blown. -/
def execReadNormal (src : Src) (addr : BitVec 9) (upset : BitVec 44) (s : State) : Host.Outcome State Fault Refusal :=
  .next (s.fuseRead src addr upset)

/-- READ_STRICT (R416): FZ_CMD OP READ strict returns the raw word at strict margin; `upset` is in which bits the
read differs from the word as blown. -/
def execReadStrict (src : Src) (addr : BitVec 9) (upset : BitVec 44) (s : State) : Host.Outcome State Fault Refusal :=
  .next (s.fuseRead src addr upset)

/-- REVOKE (R411): FZ_CMD OP REVOKE programs the revocation word of a key slot unless it is the last live one. -/
def execFuseRevoke (src : Src) (slot : BitVec 9) (s : State) : Host.Outcome State Fault Refusal :=
  .next (s.fuseRevoke src slot)

/-- FUSE_PROGRAM_DONE (R405): A word program and its strict verify end, moving to a spare slot on failure; `got` is
what the strict read returned. -/
def execFuseProgramDone (got : BitVec 44) (s : State) : Host.Outcome State Fault Refusal :=
  .next (s.fuseProgramDone got)

/-- FUSE_SCRUB_READ (R414): Every 20 ms the fuse scrub reads one word at both margins and flags WEAK words; the
operands are the bits in which the two reads differ from the word as blown. -/
def execFuseScrubRead (normal : BitVec 44) (strict : BitVec 44) (s : State) : Host.Outcome State Fault Refusal :=
  .next (if s.fusesUp then s.onFuses (·.scrubRead normal strict) else s)

/-- FZ_SCRUB_CNT_CLR (R416): A write of FZ_SCRUB.CNT_CLR clears both counts. -/
def execFzScrubCntClr (s : State) : Host.Outcome State Fault Refusal :=
  .next (if s.fusesUp then s.onFuses fun f => { f with scrub := { f.scrub with weakCnt := 0#8, wcorrCnt := 0#8 } } else s)

end Sys2Proof.Machine
end

