-- ==== Sys2Proof/Machine/ExecGauge.lean ====
section
/-! DEFINITION. The meanings of the commands of the gauge, of pack identification and of the journal (spec/07_knaser_gauge.md,
spec/04_contracts_swaps.md R132, R133). -/

namespace Sys2Proof.Machine

/-- BATTERY_STATUS_POLL (R133): Every t_batt_poll the core sends Get_Battery_Status to an identified gauged pack. -/
def execBatteryStatusPoll (n : PortId) (s : State) : Host.Outcome State Fault Refusal :=
  .next (s.batteryPoll n)

/-- PACK_IDENTIFICATION (R132): The core identifies the docked pack and sets IDENT, IDENT_TAG and IDENT_DONE. -/
def execPackIdentification (n : PortId) (s : State) : Host.Outcome State Fault Refusal :=
  .next (s.askDigest n (s.onTurn n fun e p => p.identTurn e sysVid))

/-- IDENT_BOUND_EXPIRY (R132): The 2 s bound of pack identification is reached and IDENT is set from what was
answered. -/
def execIdentBoundExpiry (n : PortId) (s : State) : Host.Outcome State Fault Refusal :=
  .next (s.askDigest n (s.onTurn n fun _ p => p.identBound))

/-- DIGEST_REQ (R132): Core 13 computes the identity digest on the crypto engine and answers DIGEST_DONE. -/
def execDigestReq (s : State) : Host.Outcome State Fault Refusal :=
  .next s.digestReq

/-- GAUGE_SAMPLE (R200): The front end of a gauged port writes a sample group at 1 kHz or 8 Hz, or drops it whole. -/
def execGaugeSample (n : PortId) (quiet : Bool) (s : State) : Host.Outcome State Fault Refusal :=
  .next (s.gaugeSample n quiet)

/-- GAUGE_GROUP_PROCESS (R204): core 13 processes the head group of the sample queue of positions 0 to 23, or 24 to
47 (`upper`), of polder `q`: charge, SoC, conflict and impedance. -/
def execGaugeGroupProcess (q : PolderId) (upper : Bool) (s : State) : Host.Outcome State Fault Refusal :=
  .next (s.gaugeProcess q upper)

/-- REST_POINT (R209): |IBUS| below i_rest for t_rest anchors SoC on the OCV table. -/
def execRestPoint (slot : Fin 48) (s : State) : Host.Outcome State Fault Refusal :=
  .next (if s.gaugeUp then s.restPoint slot else s)

/-- END_OF_CHARGE (R212): The taper conditions hold for t_taper and END becomes FULL. -/
def execEndOfCharge (slot : Fin 48) (s : State) : Host.Outcome State Fault Refusal :=
  .next (s.endOfCharge slot)

/-- TOPUP_EXPIRY (R212): t_topup after END = FULL the flag clears and the APDOs return. -/
def execTopupExpiry (i : Fin 48) (s : State) : Host.Outcome State Fault Refusal :=
  .next (s.topupExpiry i)

/-- END_OF_DISCHARGE (R213): Fold-back holds for t_taper in SOURCING and END becomes EMPTY. -/
def execEndOfDischarge (i : Fin 48) (s : State) : Host.Outcome State Fault Refusal :=
  .next (s.endOfDischarge i)

/-- GET_TEMP_POLL (R207): Every 60 s in dock mode the gauge polls GET_TEMP. -/
def execGetTempPoll (n : PortId) (s : State) : Host.Outcome State Fault Refusal :=
  .next (s.tempPoll n)

/-- COMMIT_PERIOD_EXPIRY (R220): t_commit elapses with a record changed and a commit is due. -/
def execCommitPeriodExpiry (s : State) : Host.Outcome State Fault Refusal :=
  .next (if s.gaugeUp then s.allDue else s)

/-- JOURNAL_COMMIT (R221): A due commit starts when the stage and berm allow and writes the older slot. -/
def execJournalCommit (s : State) : Host.Outcome State Fault Refusal :=
  .next s.journalCommit

/-- KG_SLOT_DISABLE (R198): A write of KG_SLOT.EN = 0 turns the slot OFF and commits its changed record. -/
def execKgSlotDisable (i : Fin 48) (s : State) : Host.Outcome State Fault Refusal :=
  .next (if s.regsUp then s.kgSlotWrite i (s.kg.cfg[i].read &&& ~~~0x100#32) else s)

/-- KG_CMD_COMMIT (R225): KG_CMD OP 0b001 commits the slot's owning record now. -/
def execKgCmdCommit (slot : BitVec 6) (s : State) : Host.Outcome State Fault Refusal :=
  .next (s.kgCommit slot)

/-- KG_CMD_RESET (R225): KG_CMD OP 0b010 resets the owning record to design values. -/
def execKgCmdReset (slot : BitVec 6) (s : State) : Host.Outcome State Fault Refusal :=
  .next (s.kgReset slot)

end Sys2Proof.Machine
end

