-- ==== Sys2Proof/Machine/CoreMem.lean ====
section
/-! DEFINITION. What a Cenan core reaches outside itself: the data space with the device window and the shared SRAM,
the pushes into queues, the commits, and the choice of a wake source (spec/10_cenan_isa.md R291 to R294, R303, R308;
spec/11_cores_queues.md R321 to R333). -/

namespace Sys2Proof.Machine

/-- The entries of a queue that the fence lets through, from ring position `pos` on; a fenced group is left out whole
(R270, R322). -/
def Port.passing (p : Port) : Nat → BitVec 16 → List Entry → List Entry
  | 0, _, _ => []
  | fuel + 1, pos, es =>
    match es with
    | [] => []
    | e :: _ =>
      let n := groupLen es
      let ok := e.epoch = p.place.epoch || p.fences.any fun f => f.epoch = e.epoch && Port.ringBefore pos f.pos
      let rest := p.passing fuel (pos + BitVec.ofNat 16 n) (es.drop n)
      if ok then es.take n ++ rest else rest

namespace State

/-- The row of four instructions that the code space of a core holds (R290): that of its image, and what has changed in it.
The emergency image is the boot ROM's. -/
def codeRow (s : State) (k : CoreId) (row : Nat) : BitVec 56 :=
  let c := s.cores[k]
  let img : BitVec 56 := match c.image with
    | .none => 0#56
    | .emergency => Config.romCode row
    | .lifeline => s.imageRow 1 row
    | .supervisor => s.imageRow 2 row
    | .policy => s.imageRow 3 row
  img ^^^ Mem.read 0#56 c.code row

/-- The instruction that stands at the PC of a core: row PC[13:2], slot PC[1:0] (R290). -/
def instrAt (s : State) (k : CoreId) : BitVec 14 :=
  let pc := s.cores[k].pc.toNat
  fld (s.codeRow k (pc / 4)) (14 * (pc % 4)) 14

/-- The command that the word at the PC of a core spells (R295), for a load whose row has changed by `upset`. -/
noncomputable def fetched (s : State) (k : CoreId) (upset : BitVec 48) : Instr := decodeCenan k upset (s.instrAt k)

/-- The entries of a queue as its reader sees them (R322). -/
def visible (s : State) (x : QueueId) : List Entry :=
  if h : x.val < 192 then
    let p := s.ports[x.val]'(by omega)
    p.passing 64 p.q.rd p.q.entries
  else (s.sysq[x.val - 192]'(by have := x.isLt; omega)).entries

/-- The queue structure of a logical queue. -/
def queueAt (s : State) (x : QueueId) : Queue :=
  if h : x.val < 192 then (s.ports[x.val]'(by omega)).q else s.sysq[x.val - 192]'(by have := x.isLt; omega)

/-- A logical queue changed. -/
def onQueue (x : QueueId) (f : Queue → Queue) (s : State) : State :=
  if h : x.val < 192 then
    let n : PortId := ⟨x.val, h⟩
    let p := s.ports[n]
    s.setPort n { p with q := f p.q }
  else s.onSysq ⟨x.val - 192, by have := x.isLt; omega⟩ f

/-- The head row j of the device window: the entry at the read count + j of the queue that SEL names; queues 244 to 255
have no logical use (R322, R330). -/
def headEntry (s : State) (x : QueueId) (j : Nat) : Option Entry :=
  if 244 ≤ x.val then none else (s.visible x)[j]?

/-- The role that a split queue offers its head group to: 12 for a lifeline type, else 13 (R330). -/
def splitRole (q : Queue) : BitVec 5 :=
  match q.entries.head? with
  | some e => if bit e.typ 5 then 12#5 else 13#5
  | none => 13#5

/-- Whether a core may see the groups of a queue: each role sees only the groups of a split queue that are offered to it
(R330). -/
def offeredTo (s : State) (k : CoreId) (x : QueueId) : Bool :=
  let q := s.queueAt x
  q.role ≠ 0x1E#5 || s.holds k (splitRole q)

/-- A read of the device window, offset from 0x3C00 (Table 11.3). -/
def windowRead (s : State) (k : CoreId) (off : Nat) : W36 :=
  let c := s.cores[k]
  let sel : QueueId := ⟨c.dwin.sel.toNat, c.dwin.sel.isLt⟩
  let port : Option Port := if h : sel.val < 192 then some (s.ports[sel.val]'(by omega)) else none
  if off ≤ 0x42 then (match port with | some p => p.stgWord off | none => 0#36)
  else if off = 0x43 then (match port with | some p => payB 0 p.stg.pending | none => 0#36)
  else if 0x80 ≤ off ∧ off ≤ 0xBF then (match port with | some p => p.bank.word (off - 0x80) | none => 0#36)
  else if 0xC0 ≤ off ∧ off ≤ 0xC7 then (match (if s.offeredTo k sel then s.headEntry sel (off - 0xC0) else none) with | some e => e.payload | none => 0#36)
  else if 0xC8 ≤ off ∧ off ≤ 0xCF then
    (match (if s.offeredTo k sel then s.headEntry sel (off - 0xC8) else none) with
     | some e => pay 0 e.typ ||| pay 6 e.epoch ||| payB 12 true ||| payB 13 e.last
     | none => 0#36)
  else if off = 0x300 then c.pushType.setWidth 36
  else if off = 0x301 then payB 0 c.pushAcc ||| payB 1 c.push.isSome
  else 0#36

/-- A word of shared SRAM: the checkpoint areas hold what the queue hardware wrote there, and the image cache is held as its
difference from the images written to it (Table 11.2, R321). -/
def sharedRead (s : State) (a : Nat) : W36 :=
  if h : a < 0x6000 then
    let p := s.ports[a / 128]'(by omega)
    if a % 128 < 64 then p.ck0.word (a % 128) else p.ck1.word (a % 128 - 64)
  else if a < 0xC000 then s.cacheWord a ^^^ Mem.read 0#36 s.shared a
  else Mem.read 0#36 s.shared a

/-- Whether a core may write a word of shared SRAM (Table 11.2). -/
def sharedWriter (s : State) (k : CoreId) (a : Nat) : Bool :=
  if a < 0x6000 then false
  else if a < 0xC000 then s.holds k 13#5
  else if h : a < 0xCC00 then s.holds k (s.ports[(a - 0xC000) / 16]'(by omega)).q.role
  else if a < 0xCF80 then s.holds k (BitVec.ofNat 5 ((a - 0xCC00) / 64))
  else if a < 0xD000 then true
  else s.holds k 13#5

/-- Where a data address of a core leads: its private SRAM, the device window, or a shared word (R291, R322). -/
inductive DataAt where
  | priv (a : Nat)
  | window (off : Nat)
  | shared (a : Nat)
deriving DecidableEq, Repr

/-- The place of a data address. -/
def dataAt (s : State) (k : CoreId) (addr : BitVec 14) : DataAt :=
  let c := s.cores[k]
  let a := addr.toNat
  if a < 0x2000 then .priv a
  else if c.dwin.winOpen ∧ 0x3C00 ≤ a then .window (a - 0x3C00)
  else .shared (c.sp.bank.toNat * 8192 + (a - 0x2000))

/-- The word at a data address. -/
def dataRead (s : State) (k : CoreId) (addr : BitVec 14) : W36 :=
  match s.dataAt k addr with
  | .priv a => Mem.read 0#36 s.cores[k].data a
  | .window off => s.windowRead k off
  | .shared a => s.sharedRead a

/-- Whether a queue is written by cores (Table 1.2): mailboxes, link transmit, two-wire transmit, flash command and
write data. -/
def coreWrites (x : Nat) : Bool :=
  (decide (192 ≤ x) && decide (x ≤ 215)) || x = 233 || x = 235 || x = 236 || x = 238

/-- A push group closes: taken whole or refused whole, with OVF set on refusal (R331). -/
def closePush (k : CoreId) (g : PushGroup) (s : State) : State :=
  let x := g.queue
  let own := (List.range 16).any fun r => x = 192 + r && s.holds k (BitVec.ofNat 5 r)
  if h : 192 ≤ x ∧ x < 256 then
    let i : Fin 64 := ⟨x - 192, by omega⟩
    let ok := coreWrites x && !own && !g.mixed && decide (g.entries.length ≤ 8) && (s.sysq[i]).fits g.entries.length
    let s := if ok then s.pushSys i g.entries
      else if x < 244 then s.onSysq i fun q => { q with ovf := true } else s
    s.onCore k fun c => { c with push := none, pushAcc := ok }
  else
    let s := if h : x < 192 then s.onQueue ⟨x, by omega⟩ fun q => { q with ovf := true } else s
    s.onCore k fun c => { c with push := none, pushAcc := false }

/-- A store to the push word of queue `x`: the entry takes the type in PUSH_TYPE, and END closes the group (R331). -/
def pushEntry (k : CoreId) (x : Nat) (v : W36) (s : State) : State :=
  let c := s.cores[k]
  let g : PushGroup := match c.push with
    | some g => { g with entries := g.entries ++ [(fld c.pushType 0 6, v)], mixed := g.mixed || g.queue ≠ x }
    | none => { queue := x, entries := [(fld c.pushType 0 6, v)], mixed := false }
  if bit c.pushType 6 then s.closePush k g else s.onCore k fun c => { c with push := some g }

/-- A write of the device window (Table 11.3, R323). -/
def windowWrite (k : CoreId) (off : Nat) (v : W36) (s : State) : State :=
  let c := s.cores[k]
  if off ≤ 0x42 then
    if h : c.dwin.sel.toNat < 192 then
      let n : PortId := ⟨c.dwin.sel.toNat, h⟩
      let p := s.ports[n]
      if p.stg.pending then s.onCore k fun c => { c with stat := { c.stat with stgLost := true } }
      else s.setPort n (p.stage off v)
    else s
  else if 0x200 ≤ off ∧ off ≤ 0x2FF then s.pushEntry k (off - 0x200) v
  else if off = 0x300 then s.onCore k fun c => { c with pushType := fld v 0 7 }
  else s

/-- A store at a data address. -/
def dataWrite (k : CoreId) (addr : BitVec 14) (v : W36) (s : State) : State :=
  match s.dataAt k addr with
  | .priv a => s.onCore k fun c => { c with data := Mem.write 0#36 a v c.data }
  | .window off => s.windowWrite k off v
  | .shared a =>
    if s.sharedWriter k a then
      { s with shared := Mem.write 0#36 a (if decide (0x6000 ≤ a) && decide (a < 0xC000) then v ^^^ s.cacheWord a else v) s.shared }
    else s

/-- An instruction of core `k` that reaches outside it: `f` gives its effect on the whole state, PC included. -/
def runOut (k : CoreId) (op : Op) (cond rd rs : BitVec 3) (f : State → State) (s : State) : State :=
  if s.coreUp k then
    s.noteStop k (match (s.cores[k]).gate op cond rd rs with
      | .stopped => s
      | .ill => s.onCore k fun c => c.trapIll op cond rd rs
      | .skip => s.onCore k fun c => c.done 1
      | .go => f s)
  else s

/-- A load from a data address whose stored row has changed by `upset`: one bad symbol is corrected; an uncorrectable
row traps, or takes the core over where no spare row is left (R20, R294); an error that the code takes for none or for
another is delivered so, and stands in the row. `got` is what the core does with the word. -/
def load (k : CoreId) (addr : BitVec 14) (upset : BitVec 48) (got : W36 → Core → Core) (s : State) : State :=
  let v := s.dataRead k addr
  let x := slip 9 3 upset
  let fine (s : State) : State := s.onCore k fun c => (got v c).done 2
  let off (a : Nat) (s : State) : State :=
    if x = 0#36 then fine s
    else (s.onCore k fun c => { c with data := Mem.write 0#36 a (v ^^^ x) c.data }).onCore k fun c => (got (v ^^^ x) c).done 2
  match s.dataAt k addr, foundIn 9 3 0#36 upset with
  | .window _, _ => fine s
  | .priv a, .clean => off a s
  | .priv a, .one => off a (s.onCore k fun c => { c with ecc := { c.ecc with dataCorr := satInc c.ecc.dataCorr } })
  | .shared a, .clean | .shared a, .one =>
    (s.sharedSlip a x).onCore k fun c => (got (v ^^^ x) c).done 2
  | .priv a, .many =>
    let (ok, s) := s.coreRowLost k true a
    if ok then s.onCore k fun c => c.takeTrap 6#4 (BitVec.ofNat 36 a) c.returnAddr else s
  | .shared a, .many =>
    (s.sharedRow a true 5#4).onCore k fun c => c.takeTrap 5#4 (BitVec.ofNat 36 a) c.returnAddr

/-- LD (R303). -/
def coreLd (k : CoreId) (cond rd rs : BitVec 3) (upset : BitVec 48) (s : State) : State :=
  s.runOut k .ld cond rd rs fun s =>
    let c := s.cores[k]
    s.load k (fld (c.reg rs + c.dataOffset) 0 14) upset fun v c => c.setReg rd v

/-- LDX: with rd = rs the register receives the loaded value and the step is not applied (R303). -/
def coreLdx (k : CoreId) (cond rd rs : BitVec 3) (upset : BitVec 48) (s : State) : State :=
  s.runOut k .ldx cond rd rs fun s =>
    let c := s.cores[k]
    let step := c.dataStep
    s.load k (fld (c.reg rs) 0 14) upset fun v c => (c.setReg rs (c.reg rs + step)).setReg rd v

/-- ST (R303). -/
def coreSt (k : CoreId) (cond rd rs : BitVec 3) (s : State) : State :=
  s.runOut k .st cond rd rs fun s =>
    let c := s.cores[k]
    (s.dataWrite k (fld (c.reg rs + c.dataOffset) 0 14) (c.reg rd)).onCore k fun c => c.done 1

/-- STX: with rd = rs the word stored is the register's value before the step (R303). -/
def coreStx (k : CoreId) (cond rd rs : BitVec 3) (s : State) : State :=
  s.runOut k .stx cond rd rs fun s =>
    let c := s.cores[k]
    let step := c.dataStep
    (s.dataWrite k (fld (c.reg rs) 0 14) (c.reg rd)).onCore k fun c => (c.setReg rs (c.reg rs + step)).done 1

-- Waiting (R333)

/-- The roles a core holds. -/
def rolesOf (s : State) (k : CoreId) : List (BitVec 4) :=
  let r := s.cores[k].role
  r.role :: (if r.role2 = 15#4 then [] else [r.role2])

/-- Whether a queue is bound to a core and pending for it (R330, R333). -/
def pendingFor (s : State) (k : CoreId) (x : QueueId) : Bool :=
  let q := s.queueAt x
  let role := if q.role = 0x1E#5 then splitRole q else q.role
  s.holds k role && decide (x.val < 244) && s.cores[k].held ≠ some x &&
    ((q.wakeNe && !(s.visible x).isEmpty) || (q.wakeWm && q.wmHit))

/-- The level of Table 6.2 at which a queue is served for a role, 1 to 4; a queue rebound by software is served at the
lowest level of the role (R330). -/
def levelOf (s : State) (role : BitVec 4) (x : QueueId) : Nat :=
  let v := x.val
  if h : v < 192 then
    if role = 12#4 then 1 else match s.cls ⟨v, h⟩ with | .c => 3 | _ => 2
  else if role = 12#4 then (if v = 204 then 2 else 3)
  else if role = 13#4 then
    if v = 240 ∨ v = 242 ∨ v = 243 then 1
    else if v = 216 ∨ v = 218 ∨ v = 220 ∨ v = 222 ∨ v = 205 then 2
    else if v = 232 ∨ v = 234 ∨ v = 239 ∨ v = 241 then 3
    else 4
  else if v < 208 then 1
  else if role ≤ 11#4 then 3
  else 1

/-- The order of the system queues within a level (Table 6.2): a queue's place in it. -/
def placeOf (x : QueueId) : Nat :=
  if x.val = 205 then 300 else if x.val = 217 ∨ x.val = 219 ∨ x.val = 221 ∨ x.val = 223 then x.val + 200 else x.val

/-- The level of a queue for the role that it is bound to; a split queue that software has bound to one role is served at the
lowest level of that role (R330). -/
def coreLevel (s : State) (x : QueueId) : Nat :=
  let q := s.queueAt x
  if q.role = 0x1E#5 then s.levelOf ((splitRole q).setWidth 4) x
  else if q.role = 13#5 ∧ (x.val = 216 ∨ x.val = 218 ∨ x.val = 220 ∨ x.val = 222) then 4
  else s.levelOf (q.role.setWidth 4) x

/-- Of the pending queues of a level, the next after the last one served, else the first of them, by `key`. -/
def nextAfter (last : Nat) (key : QueueId → Nat) (xs : List QueueId) : Option QueueId :=
  let best (ys : List QueueId) : Option QueueId :=
    ys.foldl (fun b y => match b with | none => some y | some z => if key y < key z then some y else b) none
  match best (xs.filter fun y => last < key y) with
  | some y => some y
  | none => best xs

/-- What WAIT and POLL choose: a queue, the core timer, or nothing (R333). -/
inductive Wake where
  | queue (x : QueueId)
  | timer
  | none
deriving DecidableEq, Repr

/-- The source chosen to be served next (R333). A mailbox at level 1 is offered once a turn while a port queue of its role is
pending. -/
def chooseWake (s : State) (k : CoreId) : Wake :=
  let c := s.cores[k]
  let pend := (List.finRange 256).filter fun x => s.pendingFor k x
  let ports (x : QueueId) : Bool := pend.any fun y => decide (y.val < 192) && (s.queueAt y).role.toNat + 192 = x.val
  let offered := pend.filter fun x =>
    !(decide (192 ≤ x.val) && decide (x.val < 208) && s.coreLevel x = 1 && ports x && c.turn.mailDone.contains x.val)
  let at_ (l : Nat) : Option QueueId :=
    let xs := offered.filter fun x => s.coreLevel x = l
    let last := c.turn.last.getD (l - 1) 256
    let isPort := xs.any fun x => decide (x.val < 192)
    let from_ := if last = 256 then (if isPort then 1000 else 0) else last
    nextAfter from_ placeOf xs
  match at_ 1 with
  | some x => .queue x
  | none =>
    if c.ctimPend then .timer
    else match at_ 2 with
      | some x => .queue x
      | none => match at_ 3 with
        | some x => .queue x
        | none => match at_ 4 with
          | some x => .queue x
          | none => .none

/-- The head group of a queue is handed to a core: HELD, SEL, and the turn of its level move (R322, R329, R333). -/
def handOut (k : CoreId) (x : QueueId) (s : State) : State :=
  let l := s.coreLevel x
  let last := s.cores[k].turn.last.getD (l - 1) 256
  let wrapped := decide (x.val < 192) && last ≠ 256 && decide (x.val ≤ last)
  let mail := decide (192 ≤ x.val) && decide (x.val < 208)
  let s := if h : x.val < 192 then (let n : PortId := ⟨x.val, h⟩; s.setPort n (s.ports[n]).trim) else s
  (s.onQueue x fun q => { q with held := true }).onCore k fun c =>
    let done := if wrapped then [] else c.turn.mailDone
    { c with
      held := some x,
      dwin := { c.dwin with sel := BitVec.ofNat 8 x.val },
      turn := { last := if h : l - 1 < 4 then c.turn.last.set (l - 1) (placeOf x) h else c.turn.last,
                mailDone := if mail then x.val :: done else done } }

/-- WAIT, POLL or the end of a sleep: the chosen source goes into rd (R308); `none`: nothing is pending. -/
def serveWake (k : CoreId) (rd : BitVec 3) (s : State) : Option State :=
  let fin (v : W36) (s : State) : State := s.onCore k fun c =>
    { c.setReg rd v with flags := { c.flags with z := false }, waitReg := none, stat := { c.stat with state := 1#3 } }.done 1
  match s.chooseWake k with
  | .queue x => some (fin (BitVec.ofNat 36 x.val) (s.handOut k x))
  | .timer => some (fin 0x100#36 (s.onCore k fun c => { c with ctimPend := false }))
  | .none => none

/-- WAIT (R308), whose RS is 0; 2 to 7 raise ILL. The core sleeps unless a source is pending. -/
def coreWait (k : CoreId) (cond rd rs : BitVec 3) (s : State) : State :=
  s.runOut k .wait cond rd rs fun s =>
    let s := s.clearHeld k
    match s.serveWake k rd with
    | some s => s
    | none => s.onCore k fun c =>
      { c with chain := Chain.none, waitReg := some ⟨rd.toNat, rd.isLt⟩, stat := { c.stat with state := 2#3 } }

/-- POLL (R308): without a pending source rd is 0x1FF and Z is set. -/
def corePoll (k : CoreId) (cond rd : BitVec 3) (s : State) : State :=
  s.runOut k .wait cond rd 1#3 fun s =>
    let s := s.clearHeld k
    match s.serveWake k rd with
    | some s => s
    | none => s.onCore k fun c => { c.setReg rd 0x1FF#36 with flags := { c.flags with z := true } }.done 1

/-- WAIT_WAKE: a sleeping core leaves WAIT with the chosen source (R333). -/
def waitWake (k : CoreId) (s : State) : State :=
  let c := s.cores[k]
  if c.stat.state = 2#3 then
    match c.waitReg with
    | some r => (s.serveWake k (BitVec.ofNat 3 r.val)).getD s
    | none => s
  else s

/-- TIME: tree time in µs modulo 2^36; the model keeps tree time in 5 ns (Table 10.11). -/
def timeUs (s : State) : W36 := BitVec.ofNat 36 (s.lk.clock.toNat / 200)

/-- KICK; the first one of the supervisor role after a reset lets the heartbeats go on (R334, R424). -/
def coreKick (k : CoreId) (cond rd : BitVec 3) (s : State) : State :=
  s.runOut k .sys cond rd 2#3 fun s =>
    let s := s.onCore k fun c => c.kick cond rd
    if s.holds k 13#5 then { s with sys := { s.sys with supKicked := true } } else s

/-- A Cenan OUT of Q_PTR: the holding core commits RD, and fence records that the read count has passed retire; any other
commit sets PTR_ERR (R270, R329). -/
def commit (k : CoreId) (x : QueueId) (rd : BitVec 16) (s : State) : State :=
  if !s.coreUp k then s
  else match (if s.cores[k].held = some x then (s.queueAt x).commit rd else none) with
    | some q =>
      let s := (s.onQueue x fun _ => q).onCore k fun c => { c with held := none }
      if h : x.val < 192 then
        let n : PortId := ⟨x.val, h⟩
        (s.setPort n s.ports[n].retire).rebind n
      else s
    | none => s.onCore k fun c => { c with stat := { c.stat with ptrErr := true } }

end State

end Sys2Proof.Machine
end

