-- ==== Sys2Proof/Machine/ExecIsa.lean ====
section
/-! DEFINITION. The meanings of the Cenan instructions, IN and OUT apart: core `k` executes one instruction with
the condition and register fields of Table 10.3 (spec/10_cenan_isa.md, spec/11_cores_queues.md). -/

namespace Sys2Proof.Machine

/-- ADD (R301): Instruction ADD adds rs to rd. -/
def execAdd (k : CoreId) (cond : BitVec 3) (rd : BitVec 3) (rs : BitVec 3)
    (s : State) : Host.Outcome State Fault Refusal :=
  .next (s.onCoreUp k fun c => c.alu .add cond rd rs fun fl x y => fl.addc x y false)

/-- ADC (R301): Instruction ADC adds rs and C to rd. -/
def execAdc (k : CoreId) (cond : BitVec 3) (rd : BitVec 3) (rs : BitVec 3)
    (s : State) : Host.Outcome State Fault Refusal :=
  .next (s.onCoreUp k fun c => c.alu .adc cond rd rs fun fl x y => fl.addc x y fl.c)

/-- SUB (R301): Instruction SUB subtracts rs from rd. -/
def execSub (k : CoreId) (cond : BitVec 3) (rd : BitVec 3) (rs : BitVec 3)
    (s : State) : Host.Outcome State Fault Refusal :=
  .next (s.onCoreUp k fun c => c.alu .sub cond rd rs fun fl x y => fl.subb x y false)

/-- SBC (R301): Instruction SBC subtracts rs and the borrow from rd. -/
def execSbc (k : CoreId) (cond : BitVec 3) (rd : BitVec 3) (rs : BitVec 3)
    (s : State) : Host.Outcome State Fault Refusal :=
  .next (s.onCoreUp k fun c => c.alu .sbc cond rd rs fun fl x y => fl.subb x y !fl.c)

/-- AND (R301): Instruction AND. -/
def execAndI (k : CoreId) (cond : BitVec 3) (rd : BitVec 3) (rs : BitVec 3)
    (s : State) : Host.Outcome State Fault Refusal :=
  .next (s.onCoreUp k fun c => c.alu .and cond rd rs fun fl x y => (x &&& y, fl.zn (x &&& y)))

/-- OR (R301): Instruction OR. -/
def execOrI (k : CoreId) (cond : BitVec 3) (rd : BitVec 3) (rs : BitVec 3)
    (s : State) : Host.Outcome State Fault Refusal :=
  .next (s.onCoreUp k fun c => c.alu .or cond rd rs fun fl x y => (x ||| y, fl.zn (x ||| y)))

/-- XOR (R301): Instruction XOR. -/
def execXorI (k : CoreId) (cond : BitVec 3) (rd : BitVec 3) (rs : BitVec 3)
    (s : State) : Host.Outcome State Fault Refusal :=
  .next (s.onCoreUp k fun c => c.alu .xor cond rd rs fun fl x y => (x ^^^ y, fl.zn (x ^^^ y)))

/-- MOV (R301): Instruction MOV copies rs or an immediate into rd. -/
def execMov (k : CoreId) (cond : BitVec 3) (rd : BitVec 3) (rs : BitVec 3)
    (s : State) : Host.Outcome State Fault Refusal :=
  .next (s.onCoreUp k fun c => c.mov cond rd rs)

/-- ADDI (R301): Instruction ADDI adds a small immediate. -/
def execAddi (k : CoreId) (cond : BitVec 3) (rd : BitVec 3) (rs : BitVec 3)
    (s : State) : Host.Outcome State Fault Refusal :=
  .next (s.onCoreUp k fun c => c.addi cond rd rs)

/-- CMP (R301): Instruction CMP sets flags from rd minus rs. -/
def execCmp (k : CoreId) (cond : BitVec 3) (rd : BitVec 3) (rs : BitVec 3)
    (s : State) : Host.Outcome State Fault Refusal :=
  .next (s.onCoreUp k fun c => c.cmpOp .cmp cond rd rs fun fl x y => (fl.subb x y false).2)

/-- TST (R301): Instruction TST sets flags from rd AND rs. -/
def execTst (k : CoreId) (cond : BitVec 3) (rd : BitVec 3) (rs : BitVec 3)
    (s : State) : Host.Outcome State Fault Refusal :=
  .next (s.onCoreUp k fun c => c.cmpOp .tst cond rd rs fun fl x y => fl.zn (x &&& y))

/-- LSL (R305): SHF sub-operation LSL. -/
def execLsl (k : CoreId) (cond : BitVec 3) (rd : BitVec 3) (s : State) : Host.Outcome State Fault Refusal :=
  .next (s.onCoreUp k fun c => c.shift 0#3 cond rd)

/-- LSR (R305): SHF sub-operation LSR. -/
def execLsr (k : CoreId) (cond : BitVec 3) (rd : BitVec 3) (s : State) : Host.Outcome State Fault Refusal :=
  .next (s.onCoreUp k fun c => c.shift 1#3 cond rd)

/-- ASR (R305): SHF sub-operation ASR. -/
def execAsr (k : CoreId) (cond : BitVec 3) (rd : BitVec 3) (s : State) : Host.Outcome State Fault Refusal :=
  .next (s.onCoreUp k fun c => c.shift 2#3 cond rd)

/-- ROL (R305): SHF sub-operation ROL. -/
def execRol (k : CoreId) (cond : BitVec 3) (rd : BitVec 3) (s : State) : Host.Outcome State Fault Refusal :=
  .next (s.onCoreUp k fun c => c.shift 3#3 cond rd)

/-- ROR (R305): SHF sub-operation ROR. -/
def execRor (k : CoreId) (cond : BitVec 3) (rd : BitVec 3) (s : State) : Host.Outcome State Fault Refusal :=
  .next (s.onCoreUp k fun c => c.shift 4#3 cond rd)

/-- RLC (R305): SHF sub-operation RLC rotates C:rd left. -/
def execRlc (k : CoreId) (cond : BitVec 3) (rd : BitVec 3) (s : State) : Host.Outcome State Fault Refusal :=
  .next (s.onCoreUp k fun c => c.shift 5#3 cond rd)

/-- RRC (R305): SHF sub-operation RRC rotates C:rd right. -/
def execRrc (k : CoreId) (cond : BitVec 3) (rd : BitVec 3) (s : State) : Host.Outcome State Fault Refusal :=
  .next (s.onCoreUp k fun c => c.shift 6#3 cond rd)

/-- SXT (R305): SHF sub-operation SXT sign-extends rd. -/
def execSxt (k : CoreId) (cond : BitVec 3) (rd : BitVec 3) (s : State) : Host.Outcome State Fault Refusal :=
  .next (s.onCoreUp k fun c => c.shift 7#3 cond rd)

/-- LDK (R301): Instruction LDK loads an unsigned immediate. -/
def execLdk (k : CoreId) (cond : BitVec 3) (rd : BitVec 3) (rs : BitVec 3)
    (s : State) : Host.Outcome State Fault Refusal :=
  .next (s.onCoreUp k fun c => c.ldk cond rd rs)

/-- LD (R303): core `k` loads a data word; `upset` is what has changed in the stored row since it was written. -/
def execLd (k : CoreId) (cond : BitVec 3) (rd : BitVec 3) (rs : BitVec 3) (upset : BitVec 48)
    (s : State) : Host.Outcome State Fault Refusal :=
  .next (s.coreLd k cond rd rs upset)

/-- ST (R303): Instruction ST stores a data word. -/
def execSt (k : CoreId) (cond : BitVec 3) (rd : BitVec 3) (rs : BitVec 3)
    (s : State) : Host.Outcome State Fault Refusal :=
  .next (s.coreSt k cond rd rs)

/-- LDX (R303): core `k` loads a word and steps the address; `upset` is what has changed in the stored row since it
was written. -/
def execLdx (k : CoreId) (cond : BitVec 3) (rd : BitVec 3) (rs : BitVec 3) (upset : BitVec 48)
    (s : State) : Host.Outcome State Fault Refusal :=
  .next (s.coreLdx k cond rd rs upset)

/-- STX (R303): Instruction STX stores and steps the address. -/
def execStx (k : CoreId) (cond : BitVec 3) (rd : BitVec 3) (rs : BitVec 3)
    (s : State) : Host.Outcome State Fault Refusal :=
  .next (s.coreStx k cond rd rs)

/-- BRA (R304): Instruction BRA branches relative to itself. -/
def execBra (k : CoreId) (cond : BitVec 3) (d6 : BitVec 6) (s : State) : Host.Outcome State Fault Refusal :=
  .next (s.onCoreUp k fun c => c.bra cond d6)

/-- JMP (R304): Instruction JMP. -/
def execJmp (k : CoreId) (cond : BitVec 3) (rs : BitVec 3) (s : State) : Host.Outcome State Fault Refusal :=
  .next (s.onCoreUp k fun c => c.jmp cond rs)

/-- CALL (R304): Instruction CALL pushes the return address and jumps. -/
def execCallI (k : CoreId) (cond : BitVec 3) (rs : BitVec 3) (s : State) : Host.Outcome State Fault Refusal :=
  .next (s.onCoreUp k fun c => c.call cond rs)

/-- RET (R310): RET sub-operation RET pops and returns; the reserved sub-operations raise ILL. -/
def execRetI (k : CoreId) (cond : BitVec 3) (f : SubOp) (s : State) : Host.Outcome State Fault Refusal :=
  .next (s.onCoreUp k fun c => c.ret cond f.rd f.rs)

/-- RETT (R310): RET sub-operation RETT returns from a trap and restores the flags. -/
def execRett (k : CoreId) (cond : BitVec 3) (rd : BitVec 3) (s : State) : Host.Outcome State Fault Refusal :=
  .next (s.onCoreUp k fun c => c.rett cond rd)

/-- DROP (R310): RET sub-operation DROP pops and discards. -/
def execDropI (k : CoreId) (cond : BitVec 3) (rd : BitVec 3) (s : State) : Host.Outcome State Fault Refusal :=
  .next (s.onCoreUp k fun c => c.dropTop cond rd)

/-- DEPTH (R310): RET sub-operation DEPTH reads the stack depth. -/
def execDepthI (k : CoreId) (cond : BitVec 3) (rd : BitVec 3) (s : State) : Host.Outcome State Fault Refusal :=
  .next (s.onCoreUp k fun c => c.depthOp cond rd)

/-- PUSH (R310): RET sub-operation PUSH pushes rd[13:0]. -/
def execPushI (k : CoreId) (cond : BitVec 3) (rd : BitVec 3) (s : State) : Host.Outcome State Fault Refusal :=
  .next (s.onCoreUp k fun c => c.pushOp cond rd)

/-- TOP (R310): RET sub-operation TOP reads the top entry without a pop. -/
def execTopI (k : CoreId) (cond : BitVec 3) (rd : BitVec 3) (s : State) : Host.Outcome State Fault Refusal :=
  .next (s.onCoreUp k fun c => c.topOp cond rd)

/-- PFX (R297): Instruction PFX extends the prefix chain. -/
def execPfx (k : CoreId) (cond : BitVec 3) (p6 : BitVec 6) (s : State) : Host.Outcome State Fault Refusal :=
  .next (s.onCoreUp k fun c => c.pfx cond p6)

/-- CRCS (R314): Instruction CRCS advances a CRC by one byte. -/
def execCrcs (k : CoreId) (cond : BitVec 3) (rd : BitVec 3) (rs : BitVec 3)
    (s : State) : Host.Outcome State Fault Refusal :=
  .next (s.onCoreUp k fun c => c.crcs cond rd rs)

/-- PAR (R315): Instruction PAR computes parity. -/
def execParI (k : CoreId) (cond : BitVec 3) (rd : BitVec 3) (rs : BitVec 3)
    (s : State) : Host.Outcome State Fault Refusal :=
  .next (s.onCoreUp k fun c => c.par cond rd rs)

/-- BREV (R315): Instruction BREV reverses bit order. -/
def execBrev (k : CoreId) (cond : BitVec 3) (rd : BitVec 3) (rs : BitVec 3)
    (s : State) : Host.Outcome State Fault Refusal :=
  .next (s.onCoreUp k fun c => c.brev cond rd rs)

/-- MUL (R301): Instruction MUL multiplies into A. -/
def execMulI (k : CoreId) (cond : BitVec 3) (rd : BitVec 3) (rs : BitVec 3)
    (s : State) : Host.Outcome State Fault Refusal :=
  .next (s.onCoreUp k fun c => c.mul cond rd rs)

/-- LDM (R306): MAC sub-operation LDM loads M. -/
def execLdm (k : CoreId) (cond : BitVec 3) (rd : BitVec 3) (s : State) : Host.Outcome State Fault Refusal :=
  .next (s.onCoreUp k fun c => c.ldm cond rd)

/-- MACU (R306): MAC sub-operation MACU accumulates unsigned. -/
def execMacu (k : CoreId) (cond : BitVec 3) (rd : BitVec 3) (s : State) : Host.Outcome State Fault Refusal :=
  .next (s.onCoreUp k fun c => c.macu cond rd)

/-- MACS (R306): MAC sub-operation MACS accumulates signed. -/
def execMacs (k : CoreId) (cond : BitVec 3) (rd : BitVec 3) (s : State) : Host.Outcome State Fault Refusal :=
  .next (s.onCoreUp k fun c => c.macs cond rd)

/-- MSUS (R306): MAC sub-operation MSUS subtracts a signed product. -/
def execMsus (k : CoreId) (cond : BitVec 3) (rd : BitVec 3) (s : State) : Host.Outcome State Fault Refusal :=
  .next (s.onCoreUp k fun c => c.msus cond rd)

/-- RDH (R306): MAC sub-operation RDH reads A high. -/
def execRdh (k : CoreId) (cond : BitVec 3) (rd : BitVec 3) (s : State) : Host.Outcome State Fault Refusal :=
  .next (s.onCoreUp k fun c => c.macRead 4#3 (fun a => fld a 36 36) cond rd)

/-- RDL (R306): MAC sub-operation RDL reads A low. -/
def execRdl (k : CoreId) (cond : BitVec 3) (rd : BitVec 3) (s : State) : Host.Outcome State Fault Refusal :=
  .next (s.onCoreUp k fun c => c.macRead 5#3 (fun a => fld a 0 36) cond rd)

/-- CLR (R306): MAC sub-operation CLR clears A. -/
def execClrI (k : CoreId) (cond : BitVec 3) (rd : BitVec 3) (s : State) : Host.Outcome State Fault Refusal :=
  .next (s.onCoreUp k fun c => c.clrA cond rd)

/-- RND (R306): MAC sub-operation RND reads A high rounded. -/
def execRnd (k : CoreId) (cond : BitVec 3) (rd : BitVec 3) (s : State) : Host.Outcome State Fault Refusal :=
  .next (s.onCoreUp k fun c => c.macRead 7#3 (fun a => fld (a + (1#72 <<< 35)) 36 36) cond rd)

/-- SETP (R307): Instruction SETP combines a condition into P. -/
def execSetp (k : CoreId) (cond : BitVec 3) (comb : BitVec 3) (sub : BitVec 3)
    (s : State) : Host.Outcome State Fault Refusal :=
  .next (s.onCoreUp k fun c => c.setp cond comb sub)

/-- WAIT (R308): WAIT sub-operation WAIT returns a pending wake source or sleeps until one; the reserved sub-operations
raise ILL. -/
def execWaitI (k : CoreId) (cond : BitVec 3) (f : SubOp) (s : State) : Host.Outcome State Fault Refusal :=
  .next (s.coreWait k cond f.rd f.rs)

/-- WAIT_WAKE (R333): A wake source becomes pending for a sleeping core, which returns the chosen source and takes
its head group. -/
def execWaitWake (k : CoreId) (s : State) : Host.Outcome State Fault Refusal :=
  .next (s.waitWake k)

/-- POLL (R308): WAIT sub-operation POLL returns a pending source without sleeping. -/
def execPoll (k : CoreId) (cond : BitVec 3) (rd : BitVec 3) (s : State) : Host.Outcome State Fault Refusal :=
  .next (s.corePoll k cond rd)

/-- GETS (R309): SYS sub-operation GETS reads a special register. -/
def execGets (k : CoreId) (cond : BitVec 3) (rd : BitVec 3) (s : State) : Host.Outcome State Fault Refusal :=
  .next (s.onCoreUp k fun c => c.gets (BitVec.ofNat 4 k.val) s.timeUs cond rd)

/-- PUTS (R309): SYS sub-operation PUTS writes a special register. -/
def execPuts (k : CoreId) (cond : BitVec 3) (rd : BitVec 3) (s : State) : Host.Outcome State Fault Refusal :=
  .next (s.onCoreUp k fun c => c.puts cond rd)

/-- KICK (R334): SYS sub-operation KICK restarts the watchdog. -/
def execKick (k : CoreId) (cond : BitVec 3) (rd : BitVec 3) (s : State) : Host.Outcome State Fault Refusal :=
  .next (s.coreKick k cond rd)

/-- TRAP (R311): SYS sub-operation TRAP raises SWTRAP. -/
def execTrapI (k : CoreId) (cond : BitVec 3) (rd : BitVec 3) (s : State) : Host.Outcome State Fault Refusal :=
  .next (s.onCoreUp k fun c => c.trapOp cond rd)

/-- FENCE (R293): SYS sub-operation FENCE waits for earlier OUTs and shared stores to complete; the reserved sub-operations of
SYS raise ILL. -/
def execFenceI (k : CoreId) (cond : BitVec 3) (f : SubOp) (s : State) : Host.Outcome State Fault Refusal :=
  .next (s.onCoreUp k fun c => c.fenceOp cond f.rd f.rs)

/-- CTIM_EXPIRY (R309): The core timer reaches 0 and wake source 0x100 becomes pending. -/
def execCtimExpiry (k : CoreId) (s : State) : Host.Outcome State Fault Refusal :=
  .next (s.onCoreUp k fun c => c.ctimExpiry)

/-- COMMIT (R329): A Cenan OUT of Q_PTR advances the read count over a held group, or sets PTR_ERR. -/
def execQueueCommit (k : CoreId) (x : QueueId) (rd : BitVec 16) (s : State) : Host.Outcome State Fault Refusal :=
  .next (s.commit k x rd)

/-- C_TRAP_CNT_CLR (R318): A write of C_TRAP.CNT_CLR clears COUNT. -/
def execCTrapCntClr (k : CoreId) (s : State) : Host.Outcome State Fault Refusal :=
  .next (s.onCoreUp k fun c => c.cntClr)

/-- C_ECC_CNT_CLR (R337): A write of C_ECC.CNT_CLR clears the correction counts. -/
def execCEccCntClr (k : CoreId) (s : State) : Host.Outcome State Fault Refusal :=
  .next (s.onCoreUp k fun c => c.eccClr)

end Sys2Proof.Machine
end

