-- ==== Sys2Proof/Machine/ExecLink.lean ====
section
/-! DEFINITION. The meanings of the commands of the Ndomund link and of the device tree (spec/12_ndomund_link.md). -/

namespace Sys2Proof.Machine

/-- LINK_DOWN_WAIT_EXPIRY (R341): A link port in DOWN enters DETECT after 1 ms or its retry wait. -/
def execLinkDownWaitExpiry (i : LinkId) (s : State) : Host.Outcome State Fault Refusal :=
  .next (s.inTraining i 0#3 fun p => p.enter 1#3)

/-- LINE_ENERGY_DETECTED (R341): Line energy present for 1 ms moves a port to POLARITY. -/
def execLineEnergyDetected (i : LinkId) (s : State) : Host.Outcome State Fault Refusal :=
  .next (s.inTraining i 1#3 fun p => p.enter 2#3)

/-- POLARITY_FOUND (R341): K28.5 is found, with the receiver inverted or not, and link port `i` enters RATE. -/
def execPolarityFound (i : LinkId) (inverted : Bool) (s : State) : Host.Outcome State Fault Refusal :=
  .next (s.inTraining i 2#3 (State.polarityFound inverted))

/-- POLARITY_TIMEOUT (R341): No K28.5 within 100 µs returns the port to DOWN. -/
def execPolarityTimeout (i : LinkId) (s : State) : Host.Outcome State Fault Refusal :=
  .next (s.inTraining i 2#3 fun p => p.down)

/-- RATE_TRIAL_PASS (R341): 1,024 valid characters pass a rate trial and the port enters EQ. -/
def execRateTrialPass (i : LinkId) (s : State) : Host.Outcome State Fault Refusal :=
  .next (s.inTraining i 3#3 fun p => { p.enter 4#3 with eqViol := [] })

/-- RATE_TRIAL_TIMEOUT (R341): A rate trial fails after 10 ms and the next rate or DOWN follows. -/
def execRateTrialTimeout (i : LinkId) (s : State) : Host.Outcome State Fault Refusal :=
  .next (s.inTraining i 3#3 State.rateTimeout)

/-- EQ_STEP (R342): the 1 ms trial of one equaliser setting ends with `viol` code violations, and after the eighth
the sweep selects a setting. -/
def execEqStep (i : LinkId) (viol : Nat) (s : State) : Host.Outcome State Fault Refusal :=
  .next (s.eqStep i viol)

/-- AUTH1 (R343): An AUTH1 control cell carries the peer's role, serial and nonce. -/
def execAuth1 (i : LinkId) (up : Bool) (serial : BitVec 64) (nonce : BitVec 128)
    (s : State) : Host.Outcome State Fault Refusal :=
  .next (s.auth1 i up serial nonce)

/-- AUTH2 (R343): An AUTH2 control cell is checked and the port proceeds to SYNC or DOWN. -/
def execAuth2 (i : LinkId) (mac : BitVec 128) (s : State) : Host.Outcome State Fault Refusal :=
  .next (s.auth2 i mac)

/-- AUTH_TIMEOUT (R343): No AUTH2 within 2 ms sends the port DOWN and sets AUTH_FAIL. -/
def execAuthTimeout (i : LinkId) (s : State) : Host.Outcome State Fault Refusal :=
  .next (s.inTraining i 5#3 fun p => p.authFail)

/-- LINK_SILENCE (R344): No good cell for 1 ms sends an UP port DOWN. -/
def execLinkSilence (i : LinkId) (s : State) : Host.Outcome State Fault Refusal :=
  .next (s.fromUp i)

/-- CODE_VIOLATION_LIMIT (R344): More than 64 code violations in 1 ms send an UP port DOWN. -/
def execCodeViolationLimit (i : LinkId) (s : State) : Host.Outcome State Fault Refusal :=
  .next (s.fromUp i)

/-- HELLO_TIMER (R344): A port that has sent no cell for 250 µs sends HELLO. -/
def execHelloTimer (i : LinkId) (s : State) : Host.Outcome State Fault Refusal :=
  .next (s.inTraining i 7#3 fun p => p.queueCtl .hello)

/-- RETRAIN (R344): A write of LK_CTRL.RETRAIN sends the port DOWN to train again. -/
def execRetrain (i : LinkId) (s : State) : Host.Outcome State Fault Refusal :=
  .next (if s.regsUp then s.retrain i else s)

/-- LK_CTRL_EN_CLEAR (R344): A write of LK_CTRL.EN = 0 sends the port DOWN with no training. -/
def execLkCtrlEnClear (i : LinkId) (s : State) : Host.Outcome State Fault Refusal :=
  .next (if s.regsUp then s.linkDisable i else s)

/-- CELL_RECEIVED (R346): a cell of 32 bytes, first byte in [7:0], ends on link port `i`; `bad`: a code violation
fell inside it or a delimiter is missing. It is discarded as damaged, accepted and acknowledged, delivered or
forwarded. -/
def execCellReceived (i : LinkId) (raw : BitVec 256) (bad : Bool) (s : State) : Host.Outcome State Fault Refusal :=
  .next (s.cellReceived i raw bad)

/-- CELL_TRANSMIT (R347): At a cell boundary the transmitter chooses the next cell by class. -/
def execCellTransmit (i : LinkId) (s : State) : Host.Outcome State Fault Refusal :=
  .next (s.cellTransmit i)

/-- ACK (R348): An ACK control cell releases acknowledged cells and updates credit. -/
def execLinkAck (i : LinkId) (seqA : BitVec 12) (seqB : BitVec 12) (creditA : Nat) (creditB : Nat)
    (s : State) : Host.Outcome State Fault Refusal :=
  .next (s.ackCell i seqA seqB creditA creditB)

/-- NAK (R348): A NAK makes the sender resend from the oldest unacknowledged cell. -/
def execLinkNak (i : LinkId) (bulk : Bool) (s : State) : Host.Outcome State Fault Refusal :=
  .next (s.resendOr i bulk)

/-- ACK_TIMEOUT (R348): No ACK covers a cell in time and the sender resends, going DOWN after 16 sends. -/
def execAckTimeout (i : LinkId) (bulk : Bool) (s : State) : Host.Outcome State Fault Refusal :=
  .next (s.resendOr i bulk)

/-- BEACON_TIMER (R357): Every 5 ms the acting manager broadcasts BEACON. -/
def execBeaconTimer (s : State) : Host.Outcome State Fault Refusal :=
  .next s.beaconSend

/-- BEACON (R354): A received BEACON is followed for term and root port and forwarded. -/
def execLinkBeacon (i : LinkId) (s : State) : Host.Outcome State Fault Refusal :=
  .next (s.onMsg i false 1#8 fun _ bs s => s.beaconTaken i bs)

/-- BEACON_LOSS (R354): Three beacons missing on the root port while another port has them change the root port. -/
def execBeaconLoss (s : State) : Host.Outcome State Fault Refusal :=
  .next (s.beaconLoss)

/-- ROOT_REVERT_TIMER (R354): With REVERT set, upstream A carrying beacons for 60 s becomes root again. -/
def execRootRevertTimer (s : State) : Host.Outcome State Fault Refusal :=
  .next (s.rootRevert)

/-- TOPO (R351): The manager takes a TOPO, learns routes and grants an address. -/
def execLinkTopo (i : LinkId) (s : State) : Host.Outcome State Fault Refusal :=
  .next (s.onMsg i false 2#8 fun _ bs s => s.topoInUpdate bs)

/-- ADDR (R351): A worker takes its granted address from ADDR. -/
def execLinkAddr (i : LinkId) (s : State) : Host.Outcome State Fault Refusal :=
  .next (s.onMsg i false 3#8 fun _ bs s => s.addrTaken bs)

/-- LEASE (R191): A worker applies a received lease at its last cell. -/
def execLinkLease (i : LinkId) (s : State) : Host.Outcome State Fault Refusal :=
  .next (s.onMsg i false 4#8 fun _ bs s => s.leaseTaken bs)

/-- DEMAND (R187): The allocator stores a received demand report. -/
def execLinkDemand (i : LinkId) (s : State) : Host.Outcome State Fault Refusal :=
  .next (s.onMsg i false 5#8 fun src bs s => s.demandTaken src bs)

/-- STATE_COPY (R357): the deputy takes a STATE_COPY whose content is `c` (its layout is not given, log entry 29),
stores it and sets DEPUTY. -/
def execStateCopy (i : LinkId) (c : StateCopy) (s : State) : Host.Outcome State Fault Refusal :=
  .next (s.onMsg i false 6#8 fun _ _ s => s.copyTaken c)

/-- LIFE_TIMER (R349): Every 100 ms core 12 sends LIFE to the acting manager. -/
def execLifeTimer (s : State) : Host.Outcome State Fault Refusal :=
  .next s.lifeSend

/-- LIFE (R349): The acting manager takes a LIFE message of class-A port states. -/
def execLinkLife (i : LinkId) (s : State) : Host.Outcome State Fault Refusal :=
  .next (s.onMsg i false 0x21#8 fun src bs s =>
    if s.lk.tree.actingMgr then { s with lk := { s.lk with life := (src, bs) :: s.lk.life.filter fun x => x.1 ≠ src } } else s)

/-- LOG (R444): The acting manager takes LOG records from a worker. -/
def execLinkLog (i : LinkId) (s : State) : Host.Outcome State Fault Refusal :=
  .next (s.onMsg i true 0x13#8 fun src bs s =>
    if s.lk.tree.actingMgr then { s with lk := { s.lk with logs := (src, bs) :: s.lk.logs.filter fun x => x.1 ≠ src } } else s)

/-- MANAGER_LOSS (R358): The deputy hears no beacon of the present term for t_mgr_loss and takes over as acting
manager. -/
def execManagerLoss (s : State) : Host.Outcome State Fault Refusal :=
  .next s.managerLossInUpdate

/-- RECLAIM (R359): A write of RECLAIM while DEPOSED and SYNCED makes the device acting manager again. -/
def execReclaim (s : State) : Host.Outcome State Fault Refusal :=
  .next (if s.regsUp then s.reclaim else s)

/-- TIME_SYNC_TIMER (R355): Every 10 ms the time master sends SYNC on each link. -/
def execTimeSyncTimer (s : State) : Host.Outcome State Fault Refusal :=
  .next s.timeSync

/-- SYNC (R355): the child stamps the arrival `t2` of a SYNC sent at `t1` and sends DELAY_REQ. -/
def execLinkSync (i : LinkId) (t1 : BitVec 64) (t2 : BitVec 64) (s : State) : Host.Outcome State Fault Refusal :=
  .next (s.syncTaken i t1 t2)

/-- DELAY_REQ (R355): The master returns DELAY_RSP with the arrival stamp. -/
def execDelayReq (i : LinkId) (s : State) : Host.Outcome State Fault Refusal :=
  .next (s.delayReq i)

/-- DELAY_RSP (R355): the child, whose DELAY_REQ left at `t3` and arrived at `t4`, computes the offset and slews or
steps its tree time. -/
def execDelayRsp (i : LinkId) (t3 : BitVec 64) (t4 : BitVec 64) (s : State) : Host.Outcome State Fault Refusal :=
  .next (s.delayRsp i t3 t4)

/-- SYNCED_TIMER (R355): 100 ms after the root port reaches UP SYNCED is set. -/
def execSyncedTimer (s : State) : Host.Outcome State Fault Refusal :=
  .next (match s.rootLink with
    | some r => if s.linksUp && s.lk.ports[r].stat.state = 7#3 then { s with lk := { s.lk with time := { s.lk.time with synced := true } } } else s
    | none => s)

/-- SYNC_LOST (R355): No exchange on the root port for 100 ms clears SYNCED and sets SYNC_LOST. -/
def execSyncLost (s : State) : Host.Outcome State Fault Refusal :=
  .next (if s.lk.time.synced then
      { s with lk := { s.lk with time := { s.lk.time with synced := false, syncLost := true } } }
    else s)

/-- REM_GO (R360): REM_ADDR is written with `w` and GO: on the acting manager REM_REQ is sent, or the access is
refused. -/
def execRemGo (w : Word) (s : State) : Host.Outcome State Fault Refusal :=
  .next (if s.regsUp then s.remAddrWrite (w ||| 0x20000#32) else s)

/-- REM_RSP (R360): The answer clears BUSY, sets DONE and leaves read data in REM_DATA. -/
def execRemRsp (i : LinkId) (s : State) : Host.Outcome State Fault Refusal :=
  .next (s.onMsg i true 0x11#8 fun _ bs s => s.remRsp bs)

/-- REM_TIMEOUT (R360): No answer within t_rem sets TIMEOUT. -/
def execRemTimeout (s : State) : Host.Outcome State Fault Refusal :=
  .next s.remTimeout

/-- LK_ERR_CNT_CLR (R362): A write of LK_ERR.CNT_CLR clears the link counters. -/
def execLkErrCntClr (i : LinkId) (s : State) : Host.Outcome State Fault Refusal :=
  .next (if s.regsUp then s.onLink i fun p => { p with err := LkErr.reset } else s)

end Sys2Proof.Machine
end

