-- ==== Sys2Proof/Machine/ExecPd.lean ====
section
/-! DEFINITION. The meanings of the commands of the PD protocol layer, of contracts and of swaps that the region carries
out on its own (spec/03_pd_protocol.md, spec/04_contracts_swaps.md). -/

namespace Sys2Proof.Machine

/-- TRANSMIT_START (R72): the region begins the preamble of a pending transmission once the line is idle and
tInterFrameGap has passed; `tenUs` is the time of a measured reply from its EOP, in 10 µs rounded up (R182). -/
def execTransmitStart (n : PortId) (tenUs : Nat) (s : State) : Host.Outcome State Fault Refusal :=
  let p := s.ports[n]
  let t := s.onRegionOf n fun _ p => p.transmitStart
  .next (if s.regionUp n && p.startsSop && p.rg.meas then t.latency n tenUs (p.attachSeen && !p.rg.measSlack) else t)

/-- TRANSMIT_END (R75): The EOP of an own message starts CRCReceiveTimer. -/
def execTransmitEnd (n : PortId) (s : State) : Host.Outcome State Fault Refusal :=
  .next (s.onRegionOf n fun e p => p.transmitEnd e)

/-- GOODCRC_RECEIVED (R75): A GoodCRC with the matching MessageID advances the counter and ends the transmission. -/
def execGoodcrcReceived (n : PortId) (sop1 : Bool) (id : BitVec 3) (s : State) : Host.Outcome State Fault Refusal :=
  .next (s.onRegionOf n fun _ p => p.goodCrc sop1 id)

/-- CRC_RECEIVE_TIMEOUT (R75): No matching GoodCRC within CRCReceiveTimer and the region retries or ends the
transmission. -/
def execCrcReceiveTimeout (n : PortId) (s : State) : Host.Outcome State Fault Refusal :=
  .next (s.onRegionOf n fun _ p => p.crcTimeout)

/-- FRAME_RECEIVED (R80): A frame ends, is checked, acknowledged with GoodCRC or discarded, and a new message is
delivered to the queue. -/
def execFrameReceived (n : PortId) (f : Frame) (s : State) : Host.Outcome State Fault Refusal :=
  .next (s.onRegionOf n fun e p => p.frameReceived e (s.moving n) f)

/-- SOFT_RESET_RECEIVED (R96): A Soft_Reset on SOP clears MessageID state and is answered with Accept within 1 ms. -/
def execSoftResetReceived (n : PortId) (s : State) : Host.Outcome State Fault Refusal :=
  .next (s.onRegionOf n fun e p => p.softResetReceived e)

/-- SOFT_RESET_ACCEPT_TIMEOUT (R96): No Accept to the ladder Soft_Reset within tSenderResponse. -/
def execSoftResetAcceptTimeout (n : PortId) (s : State) : Host.Outcome State Fault Refusal :=
  .next (s.onRegionOf n fun _ p => p.softAcceptTimeout)

/-- HARD_RESET_DETECTED (R95): A Hard Reset ordered set is recognised and the Hard Reset power sequence begins. -/
def execHardResetDetected (n : PortId) (s : State) : Host.Outcome State Fault Refusal :=
  .next (s.onRegionOf n fun e p => p.hardResetDetected e)

/-- HARD_RESET_SIGNALLING_DONE (R95): The device's Hard Reset signalling completes, t0 of Table 3.9 and
NoResponseTimer start. -/
def execHardResetSignallingDone (n : PortId) (s : State) : Host.Outcome State Fault Refusal :=
  .next (s.onRegionOf n fun e p => p.hrSignalled e)

/-- HARD_RESET_COMPLETE_TIMEOUT (R93): HardResetCompleteTimer expires and the signalling is deemed sent. -/
def execHardResetCompleteTimeout (n : PortId) (s : State) : Host.Outcome State Fault Refusal :=
  .next (s.onRegionOf n fun e p => p.hrCompleteTimeout e)

/-- PS_HARD_RESET_EXPIRY (R95): tPSHardReset elapses and a source sets VSET to zero, holds and discharges. -/
def execPsHardResetExpiry (n : PortId) (s : State) : Host.Outcome State Fault Refusal :=
  .next (s.onRegionOf n fun _ p => p.psHardReset)

/-- SRC_RECOVER_EXPIRY (R95): tSrcRecover elapses after VB_SAFE0 and the source path passes towards vSafe5V. -/
def execSrcRecoverExpiry (n : PortId) (s : State) : Host.Outcome State Fault Refusal :=
  .next (s.onRegionOf n fun e p => p.srcRecover e)

/-- HARD_RESET_SINK_TIMEOUT (R95): t_hr_sink elapses without the sink row completing and detach is declared with
VB_LOSS. -/
def execHardResetSinkTimeout (n : PortId) (s : State) : Host.Outcome State Fault Refusal :=
  .next (s.onRegionOf n fun _ p => p.hrSinkTimeout)

/-- CABLE_RESET_RECEIVED (R81): A Cable Reset from another party is ignored and clears nothing. -/
def execCableResetReceived (n : PortId) (s : State) : Host.Outcome State Fault Refusal :=
  .next (s.onRegionOf n fun _ p => p)

/-- RESPONSE_TIMER_EXPIRY (R74): The response timer expires and ON_TIMEOUT is carried out. -/
def execResponseTimerExpiry (n : PortId) (s : State) : Host.Outcome State Fault Refusal :=
  .next (s.onRegionOf n fun _ p => p.responseExpiry)

/-- ID_TIMER_EXPIRY (R93): A PD timer started with an Id expires and PD_TIMER reports it to the core. -/
def execIdTimerExpiry (n : PortId) (id : BitVec 4) (s : State) : Host.Outcome State Fault Refusal :=
  .next (s.onRegionOf n fun _ p => p.idTimerExpiry id)

/-- SINK_TX_EXPIRY (R77): tSinkTx elapses after SinkTxNG and the held AMS start is transmitted. -/
def execSinkTxExpiry (n : PortId) (s : State) : Host.Outcome State Fault Refusal :=
  .next (s.onRegionOf n fun _ p => p.sinkTxExpiry)

/-- AMS_IDLE_EXPIRY (R77): 50 ms without a message returns the source to SinkTxOk. -/
def execAmsIdleExpiry (n : PortId) (s : State) : Host.Outcome State Fault Refusal :=
  .next (s.onRegionOf n fun _ p => p.amsIdleExpiry)

/-- SINK_TX_OK_SEEN (R78): A sink reads SinkTxOk and sends its held AMS start. -/
def execSinkTxOkSeen (n : PortId) (s : State) : Host.Outcome State Fault Refusal :=
  .next (s.onRegionOf n fun _ p => p.sinkTxOkSeen)

/-- CHUNK_REQUEST_RECEIVED (R85): A Chunk Request naming the next chunk makes the region send that chunk. -/
def execChunkRequestReceived (n : PortId) (chunk : BitVec 4) (s : State) : Host.Outcome State Fault Refusal :=
  .next (s.onRegionOf n fun _ p => if p.hears then p.chunkRequest false chunk else p)

/-- CHUNK_TIMEOUT (R86): A chunk wait or request wait expires and the exchange ends. -/
def execChunkTimeout (n : PortId) (txSide : Bool) (s : State) : Host.Outcome State Fault Refusal :=
  .next (s.onRegionOf n fun _ p => p.chunkTimeout txSide)

/-- BIST_RECEIVED (R92): A served BIST makes the region send the carrier or discard every further frame. -/
def execBistReceived (n : PortId) (mode : BitVec 4) (s : State) : Host.Outcome State Fault Refusal :=
  .next (s.onRegionOf n fun _ p => if p.hears ∧ p.bistServed mode then p.bist mode else p)

/-- BIST_CONT_MODE_EXPIRY (R92): BISTContModeTimer expires and the region returns to normal operation. -/
def execBistContModeExpiry (n : PortId) (s : State) : Host.Outcome State Fault Refusal :=
  .next (s.onRegionOf n fun e p => p.bistExpiry e)

/-- PS_TRANSITION_TIMEOUT (R96): PSTransitionTimer expires on a sink and the ladder sends Hard Reset. -/
def execPsTransitionTimeout (n : PortId) (s : State) : Host.Outcome State Fault Refusal :=
  .next (s.onRegionOf n fun _ p => p.psTransitionTimeout)

/-- NO_RESPONSE_TIMEOUT (R96): NoResponseTimer expires and the ladder sends Hard Reset, enters ErrorRecovery or
gives up. -/
def execNoResponseTimeout (n : PortId) (s : State) : Host.Outcome State Fault Refusal :=
  .next (s.onRegionOf n fun e p => p.noResponseTimeout e)

/-- TRANSITION_START (R110): t_src_trans after the Accept's GoodCRC the region starts the VSET ramp. -/
def execTransitionStart (n : PortId) (s : State) : Host.Outcome State Fault Refusal :=
  .next (s.onRegionOf n fun _ p => p.transitionStart)

/-- SETTLE_DONE (R110): VB stays in the settle window for t_settle and the transition completes. -/
def execSettleDone (n : PortId) (vbMv : Nat) (s : State) : Host.Outcome State Fault Refusal :=
  .next (s.onRegionOf n fun _ p => p.settleDone vbMv)

/-- T_PP_TIMEOUT_EXPIRY (R110): PP_DONE has not come within t_pp_timeout of the Accept's GoodCRC. -/
def execTPpTimeoutExpiry (n : PortId) (s : State) : Host.Outcome State Fault Refusal :=
  .next (s.onRegionOf n fun _ p => p.ppTimeoutExpiry)

/-- SRC_OFF_DEFERRED (R102): t_src_trans after the Accept's GoodCRC a deferred SRC_OFF executes. -/
def execSrcOffDeferred (n : PortId) (s : State) : Host.Outcome State Fault Refusal :=
  .next (s.onRegionOf n fun _ p => p.srcOffDeferred)

/-- FRS_DETECTION (R125): An armed port sees the active CC below v_frs for t_frs_det and starts the fast role swap. -/
def execFrsDetection (n : PortId) (s : State) : Host.Outcome State Fault Refusal :=
  .next (s.onRegionOf n fun _ p => p.frsDetection)

/-- FRS_FAST_PASS (R125): at VB below 4.75 V (`vbMv` in mV), or 90 µs after detection (`late`), the source path
fast-passes. -/
def execFrsFastPass (n : PortId) (vbMv : Nat) (late : Bool) (s : State) : Host.Outcome State Fault Refusal :=
  .next (s.onRegionOf n fun e p => p.frsFastPass e vbMv late)

/-- PS_SOURCE_ON_TIMEOUT (R118): PSSourceOnTimer expires during a PR_Swap and the port enters ErrorRecovery. -/
def execPsSourceOnTimeout (n : PortId) (s : State) : Host.Outcome State Fault Refusal :=
  .next (s.onRegionOf n fun _ p => p.swapTimeout .psSourceOn)

/-- PS_SOURCE_OFF_TIMEOUT (R119): PSSourceOffTimer expires during a swap and the port enters ErrorRecovery. -/
def execPsSourceOffTimeout (n : PortId) (s : State) : Host.Outcome State Fault Refusal :=
  .next (s.onRegionOf n fun _ p => p.swapTimeout .psSourceOff)

/-- ROLE_FLIP_DONE (R120): The termination change started by ROLE_FLIP completes at most 50 µs after its
acknowledge, the Type-C state changes and PP_DONE is written. -/
def execRoleFlipDone (n : PortId) (s : State) : Host.Outcome State Fault Refusal :=
  .next (s.onRegionOf n fun _ p => p.roleFlipDone)

end Sys2Proof.Machine
end

