-- ==== Sys2Proof/Machine/ExecPolicy.lean ====
section
/-! DEFINITION. The meanings of the turns of the delivered firmware on a port: the serving core acts on the head group of
the port event queue (spec/04_contracts_swaps.md, spec/03_pd_protocol.md R88 to R98). -/

namespace Sys2Proof.Machine

/-- REQUEST_EVALUATION (R108): The core checks a received Request against the last set and arms TRANSITION with
Accept, or sends Reject. -/
def execRequestEvaluation (n : PortId) (s : State) : Host.Outcome State Fault Refusal :=
  .next (s.onTurn n fun e p => p.requestTurn e)

/-- CABLE_DISCOVERY (R106): The core sends SOP′ Discover Identity and learns the cable from the answer. -/
def execCableDiscovery (n : PortId) (s : State) : Host.Outcome State Fault Refusal :=
  .next (s.onTurn n fun e p => p.cableTurn e)

/-- PR_SWAP_ANSWER (R117): The core accepts or rejects a received PR_Swap, DR_Swap, VCONN_Swap or FR_Swap under
Table 4.7. -/
def execPrSwapAnswer (n : PortId) (s : State) : Host.Outcome State Fault Refusal :=
  .next (s.onTurn n fun e p => p.swapTurn e)

/-- DR_SWAP (R122): After a DR_Swap Accept the core sets the new data role within 1 ms. -/
def execDrSwap (n : PortId) (s : State) : Host.Outcome State Fault Refusal :=
  .next (s.onTurn n fun e p => p.drTurn e)

/-- VCONN_SWAP (R123): After a VCONN_Swap Accept the core takes or gives up VCONN. -/
def execVconnSwap (n : PortId) (late : Bool) (s : State) : Host.Outcome State Fault Refusal :=
  .next (s.onTurn n fun e p => p.vconnTurn e late)

/-- EPR_ENTRY (R114): The core answers EPR_Mode Enter and reports success or failure within 100 ms. -/
def execEprEntry (n : PortId) (s : State) : Host.Outcome State Fault Refusal :=
  .next (s.onTurn n fun e p => p.eprTurn e)

/-- EPR_KEEPALIVE (R115): The core answers EPR_KeepAlive and restarts SourceEPRKeepAliveTimer. -/
def execEprKeepalive (n : PortId) (s : State) : Host.Outcome State Fault Refusal :=
  .next (s.onTurn n fun e p => p.keepAliveTurn e)

/-- STATUS_MESSAGE_ANSWER (R133): The core answers a Get_ status or battery message under Table 4.17. -/
def execStatusMessageAnswer (n : PortId) (s : State) : Host.Outcome State Fault Refusal :=
  let t := max s.sys.temp.die.toNat s.polders[polderOf n].temp.die.toNat
  .next (s.onTurn n fun e p => p.statusTurn e t sysVid)

/-- BREACH_SERVICE (R152): the core serves SL_BREACH with Alert and, `elapsed` ms after that with the condition
ended, clears and sends Hard Reset. -/
def execBreachService (n : PortId) (elapsed : Nat) (s : State) : Host.Outcome State Fault Refusal :=
  .next (s.onTurn n fun e p => p.breachTurn e elapsed)

/-- PROTOCOL_ERROR_ANSWER (R90): The core answers a protocol error with Soft_Reset or Hard Reset. -/
def execProtocolErrorAnswer (n : PortId) (s : State) : Host.Outcome State Fault Refusal :=
  .next (s.onTurn n fun e p => p.protocolError e)

/-- UNSUPPORTED_MESSAGE_ANSWER (R91): The core answers a message it does not serve under Table 3.7. -/
def execUnsupportedMessageAnswer (n : PortId) (s : State) : Host.Outcome State Fault Refusal :=
  .next (s.onTurn n fun e p => p.unsupported e sysVid)

/-- DISPLAYPORT_ENTRY (R127): The core advances DisplayPort entry one step on each ACK and posts mux writes. -/
def execDisplayportEntry (n : PortId) (s : State) : Host.Outcome State Fault Refusal :=
  .next (s.onTurnMux n fun e p => p.dpTurn e)

/-- DISPLAYPORT_EXIT (R129): The core leaves DisplayPort mode with or without Exit Mode and writes USB only. -/
def execDisplayportExit (n : PortId) (failed : Bool) (s : State) : Host.Outcome State Fault Refusal :=
  .next (s.onTurnMux n fun e p => p.dpExit e failed)

/-- DOCK_MODE_DISCOVERY (R131): After the first explicit contract the core discovers and enters Helaento dock mode. -/
def execDockModeDiscovery (n : PortId) (s : State) : Host.Outcome State Fault Refusal :=
  .next (s.onTurn n fun e p => p.dockTurn e sysVid)

end Sys2Proof.Machine
end

