-- ==== Sys2Proof/Machine/ExecQuarry.lean ====
section
/-! DEFINITION. The meanings of the commands of the quarry: faults, migrations, trials, takeovers and remaps
(spec/09_quarry_migration.md). -/

namespace Sys2Proof.Machine

/-- RETRY (R261): A write of P_FAULT.RETRY ends a front-end park and reconnects the front end as at start. -/
def execRetry (n : PortId) (s : State) : Host.Outcome State Fault Refusal :=
  .next (s.noted (if s.pRegUp n then s.retryPark n else s))

/-- CULVERT_WATCH_FAULT (R258): the culvert watch declares a region fault at position `pos`, where its conditions hold. -/
def execCulvertWatchFault (q : PolderId) (pos : PosId) (fault : WatchFault)
    (s : State) : Host.Outcome State Fault Refusal :=
  .next (s.noted (if s.controlUp && s.watches q pos fault.cause then s.regionFault q pos 9#4 fault.openGroup else s))

/-- PREPARE (R266): QY_MIG OP PREPARE freezes the serving region and restores its final checkpoint into the target. -/
def execQyPrepare (src : Src) (port : BitVec 8) (target : BitVec 6) (s : State) : Host.Outcome State Fault Refusal :=
  .next (s.noted (if s.fromSup src then s.prepare port target else s))

/-- PREPARE_LAPSE (R266): No SWITCH within 100 µs and the PREPARE lapses. -/
def execPrepareLapse (q : PolderId) (s : State) : Host.Outcome State Fault Refusal :=
  .next (s.prepareLapse q)

/-- ABANDON (R287): QY_MIG OP ABANDON abandons a prepared migration. -/
def execQyAbandon (src : Src) (port : BitVec 8) (s : State) : Host.Outcome State Fault Refusal :=
  .next (if s.fromSup src then s.abandon port else s)

/-- TRIAL (R272): QY_MIG OP TRIAL puts a region on trial. -/
def execQyTrial (src : Src) (port : BitVec 8) (target : BitVec 6) (s : State) : Host.Outcome State Fault Refusal :=
  .next (s.noted (if s.fromSup src then s.tryRegion port target else s))

/-- REGION_TRIAL_END (R272): two scrub passes of the trial of region `r` have gone by; `within24`: an earlier
SERVING session left by a fault lies within 24 h. -/
def execRegionTrialEnd (q : PolderId) (r : RegionId) (within24 : Bool)
    (s : State) : Host.Outcome State Fault Refusal :=
  .next (s.noted (s.trialEnd q r within24))

/-- CORE_HOP (R275): QY_MIG with KIND 1 hops a core role to another core. -/
def execCoreHop (src : Src) (role : BitVec 8) (target : CoreId) (s : State) : Host.Outcome State Fault Refusal :=
  .next (if s.fromSup src then s.coreHop role target else s)

/-- WATCHDOG_EXPIRY (R334): the watchdog of core `k` expires; `within24`: an earlier expiry of it lies within 24 h
(R275). -/
def execWatchdogExpiry (k : CoreId) (within24 : Bool) (s : State) : Host.Outcome State Fault Refusal :=
  .next (if s.controlUp then s.watchdogExpiry k within24 else s)

/-- CORE_TRIAL_DONE (R275): The core trial ends and the core becomes a free spare or is spoiled. -/
def execCoreTrialDone (k : CoreId) (pass : Bool) (s : State) : Host.Outcome State Fault Refusal :=
  .next (if s.controlUp then s.coreTrialDone k pass else s)

/-- QUEUE_FAULT (R276): a bad pointer (`pointer`), or an uncorrectable entry in the row read, remaps the queue to a spare
(R20). -/
def execQueueFault (x : QueueId) (pointer : Bool) (row : QueueRow) (s : State) : Host.Outcome State Fault Refusal :=
  .next (if s.controlUp then s.queueFault x pointer row.pos row.upset else s)

/-- SRAM_ROW_FAULT (R277): a row of the shared SRAM (`k` none) or of an array of core `k` is remapped; `lost`: its
content was uncorrectable. -/
def execSramRowFault (k : Option CoreId) (data : Bool) (row : Nat) (lost : Bool)
    (s : State) : Host.Outcome State Fault Refusal :=
  .next (if s.controlUp then s.rowFault k data row lost else s)

/-- SHARED_SRAM_SCRUB_READ (R335): Every 1.25 µs the shared SRAM scrub reads one row. -/
def execSharedSramScrubRead (upset : BitVec 48) (s : State) : Host.Outcome State Fault Refusal :=
  .next (if s.controlUp then s.sharedScrub upset else s)

/-- CORE_SCRUB_READ (R335): Every 5 µs each core's scrub reads one row. -/
def execCoreScrubRead (k : CoreId) (upset : BitVec 72) (s : State) : Host.Outcome State Fault Refusal :=
  .next (if s.controlUp then s.coreScrub k upset else s)

/-- OSC_WINDOW_CHECK (R257): the CK_PLq edges counted over 2.5 µs, or over 1 ms (`ms`), are compared with their
limits. -/
def execOscWindowCheck (q : PolderId) (edges : Nat) (ms : Bool) (s : State) : Host.Outcome State Fault Refusal :=
  .next (if s.controlUp then s.oscCheck q edges ms else s)

/-- DROP_CLR (R285): A write of P_PLACE.DROP_CLR clears DROPPED. -/
def execDropClr (n : PortId) (s : State) : Host.Outcome State Fault Refusal :=
  .next (s.onPReg n fun _ p => { p with place := { p.place with dropped := 0#8 } })

end Sys2Proof.Machine
end

