-- ==== Sys2Proof/Machine/TwoWireOps.lean ====
section
/-! DEFINITION. The two-wire interfaces: addresses and transactions on TW_H, alert records, arbitration, timeouts, and the
TW_M controller (spec/13_two_wire.md R365 to R381, spec/04_contracts_swaps.md R128, R129). The host accesses that core 13
makes for a transaction lie with the registers. -/

namespace Sys2Proof.Machine

/-- The packet error code: CRC-8 with polynomial 0x07 (R365). -/
def pecOf (bs : List Byte) : Byte :=
  bs.foldl (fun (c : Byte) b =>
    (List.range 8).foldl (fun (c : Byte) _ => if c.msb then (c <<< 1) ^^^ 0x07#8 else c <<< 1) (c ^^^ b)) 0#8

/-- How an address on TW_H matches (R366, R367). -/
inductive TwMatch where
  | none   -- not acknowledged
  | full   -- the primary, or an alias of it: reads and writes
  | group  -- writes only
deriving DecidableEq, Repr

namespace TwoWire

/-- The match of an address (R367). -/
def matchOf (a : BitVec 7) (t : TwoWire) : TwMatch :=
  if a < 0x08#7 ∨ 0x78#7 ≤ a then .none
  else if a = t.hAddr.primary then .full
  else if t.hAddr.mode then (if (a ^^^ t.hAddr.primary) &&& ~~~t.hAddr.mask = 0#7 then .group else .none)
  else
    match (List.range 4).find? fun j => bit t.hSec (8 * j + 7) && fld t.hSec (8 * j) 7 = a with
    | some j => if bit t.hCfg.secGroup j then .group else .full
    | none => .none

/-- TW_H_STAT changed. -/
def onStat (f : TwHStat → TwHStat) (t : TwoWire) : TwoWire := { t with hStat := f t.hStat }

/-- TW_M_STAT changed. -/
def onMStat (f : TwMStat → TwMStat) (t : TwoWire) : TwoWire := { t with mStat := f t.mStat }

/-- An address byte that is not acknowledged. -/
def silent (t : TwoWire) : TwoWire := { t with ack := false, sda := [], lead := [] }

/-- A busy not-acknowledge of Table 13.2; `flag` for the first two of its cases. -/
def busyNack (flag : Bool) (t : TwoWire) : TwoWire :=
  t.silent.onStat fun x => { x with busyNack := x.busyNack || flag, nackCnt := satInc x.nackCnt }

/-- The lines are released and the transaction in progress is abandoned (R376). -/
def release (t : TwoWire) : TwoWire := { t with sda := [], lead := [] }

end TwoWire

/-- A write transaction on TW_H as its bytes after the address byte say it (Table 13.1): how many are acknowledged, and
the form they make. -/
structure TwForm where
  beyond : Bool                -- a byte beyond the form was not acknowledged
  overlong : Bool            -- OVERLONG is set
  partForm : Bool            -- PARTIAL is set
  pecErr : Bool              -- PEC_ERR is set
  group : Option (BitVec 16 × Nat × List Word) -- pointer, registers to stage or 0, values; none: nothing is taken
deriving DecidableEq, Repr

/-- The form of a write transaction (R368 to R370). A code may end every form; PEC_REQ discards a write that carries none
(log entry 40). Where no data byte completes a register the form that is left is a pointer form (log entry 189). -/
def twForm (pecEn pecReq : Bool) (addrByte : Byte) (body : List Byte) : Nat × TwForm :=
  let block := bit (body.getD 0 0#8) 7
  let badCount := decide (2 < body.length) && decide (8#8 < body.getD 2 0#8)
  let lim : Nat := if block then (if badCount then 2 else if pecEn then 4 else 3) else (if pecEn then 35 else 34)
  let taken := body.take lim
  let beyond := decide (lim < body.length)
  let coded := pecEn && (if block then taken.length = 4 else taken.length % 4 = 3 && 3 ≤ taken.length)
  let plain := if coded then taken.dropLast else taken
  let codeBad := coded && pecOf (addrByte :: plain) ≠ taken.getLastD 0#8
  let ptr : BitVec 16 := (taken.getD 0 0#8) ++ (taken.getD 1 0#8)
  let data := plain.drop 2
  let none_ : TwForm := { beyond := beyond, overlong := beyond && (!block || decide (3 ≤ taken.length)), partForm := false,
                          pecErr := false, group := none }
  (taken.length,
    if taken.length < 2 ∨ (block ∧ taken.length < 3) then none_
    else if codeBad then { none_ with pecErr := true }
    else if pecEn ∧ pecReq ∧ !coded ∧ !block ∧ 4 ≤ data.length then none_
    else if block then { none_ with group := some (ptr, (data.getD 0 0#8).toNat, []) }
    else if data.length < 4 then { none_ with partForm := !data.isEmpty, group := some (ptr, 1, []) }
    else { none_ with
      partForm := data.length % 4 ≠ 0,
      group := some (ptr, 0, leWords (data.take (data.length / 4 * 4))) })

namespace State

/-- The two-wire block changed. -/
def onTw (f : TwoWire → TwoWire) (s : State) : State := { s with tw := f s.tw }

/-- Whether TW_H answers: enabled once in the start-up, EN, VDDIO good, the control die running (R372, R383, Table 13.2). -/
def twUp (s : State) : Bool := s.controlUp && s.tw.started && s.tw.hCfg.en && s.sh.vddioOk

/-- A transaction group for queue 232 (Table 13.5). -/
def twGroup (ptr : BitVec 16) (n : Nat) (grp : Bool) (seq : BitVec 12) (vals : List Word) : List (BitVec 6 × W36) :=
  (1#6, pay 0 ptr ||| payB 16 vals.isEmpty ||| pay 17 (BitVec.ofNat 4 n) ||| payB 21 grp ||| pay 22 seq) ::
    vals.map fun v => (2#6, v.setWidth 36)

/-- A write transaction on TW_H, ended by STOP or by a repeated START (`sr`): written into queue 232 as one group
(R368 to R372). -/
def twWrite (addr : BitVec 7) (body : List Byte) (sr : Bool) (s : State) : State :=
  let m := s.tw.matchOf addr
  if !s.twUp || m = .none then s.onTw (·.silent)
  else if !(s.sysq[(40 : Fin 64)]).fits 9 then s.onTw (·.busyNack true)
  else
    let addrByte : Byte := addr ++ 0#1
    let (k, f) := twForm s.tw.hCfg.pecEn s.tw.hCfg.pecReq addrByte body
    let s := s.onTw fun t =>
      ({ t with ack := true, sda := [], lead := if sr && !f.beyond then addrByte :: body.take k else [] }).onStat fun x =>
        { x with overlong := x.overlong || f.overlong, partForm := x.partForm || f.partForm,
                 pecErr := x.pecErr || f.pecErr }
    match f.group with
    | none => s
    | some (ptr, stage, vals) =>
      let n := if vals.isEmpty then stage else vals.length
      let s := s.pushSys 40 (twGroup ptr n (m = .group) s.tw.seq vals)
      s.onTw fun t =>
        ({ t with seq := t.seq + 1#12, ptr := ptr, staged := none, stagedRead := false }).onStat fun x =>
          { x with rdDiscard := x.rdDiscard || (t.staged.isSome && !t.stagedRead) }

/-- A read on TW_H of `n` bytes: the staged reply of the present pointer, then 0xFF; or its address byte is not
acknowledged (R368, R370, R372). -/
def twRead (addr : BitVec 7) (n : Nat) (s : State) : State :=
  let m := s.tw.matchOf addr
  if !s.twUp || m = .none then s.onTw (·.silent)
  else if m = .group then s.onTw (·.busyNack false)
  else match s.tw.staged with
  | none => s.onTw (·.busyNack true)
  | some ws =>
    let out := (if bit s.tw.ptr 15 then [BitVec.ofNat 8 (4 * ws.length)] else []) ++ ws.flatMap leBytes
    let addrByte : Byte := addr ++ 1#1
    let out := if s.tw.hCfg.pecEn then out ++ [pecOf (s.tw.lead ++ addrByte :: out)] else out
    s.onTw fun t =>
      { t with ack := true, lead := [], stagedRead := true, sda := (out ++ List.replicate n 0xFF#8).take n }

-- Alert records (R373)

/-- The bytes of a record on the bus, address byte first, with the packet error code where PEC_EN is set. -/
def alertBytes (t : TwoWire) (a : Alert) : List Byte :=
  let host : Byte := t.hCfg.hostAddr ++ 0#1
  let own : Byte := t.hAddr.primary ++ 0#1
  let b := host :: own :: a.code :: (leBytes a.value ++ [a.seq])
  if t.hCfg.pecEn then b ++ [pecOf b] else b

/-- ALERT_RECORD_SEND: an attempt of the oldest record, each of its bytes acknowledged (`acked`) or not. -/
def alertSend (acked : Bool) (s : State) : State :=
  if !s.twUp || s.tw.alertHeld || s.tw.hCfg.alertRetry = 0#4 then s
  else match s.tw.alerts with
  | [] => s
  | a :: rest =>
    s.onTw fun t =>
      let t : TwoWire := { t with sda := alertBytes t a, lead := [] }
      let a := { a with tries := a.tries + 1 }
      if acked then { t with alerts := rest }
      else if t.hCfg.alertRetry.toNat ≤ a.tries then
        { t with alerts := rest }.onStat fun x => { x with alertFail := true }
      else { t with alerts := a :: rest, alertHeld := true }

/-- ALERT_RETRY_EXPIRY: 5 ms after a not-acknowledged record it is sent again. -/
def alertRetry (acked : Bool) (s : State) : State :=
  if s.tw.alertHeld then (s.onTw fun t => { t with alertHeld := false }).alertSend acked else s

-- TW_M (R379)

/-- Whether the TW_M controller runs commands. -/
def twmUp (s : State) : Bool := s.regsUp && s.sh.vddioOk && s.tw.mCfg.en

/-- Core 13 takes the result groups of queue 234 as they come. -/
def drainResults (s : State) : State :=
  if s.roleRuns 13#5 then s.onSysq 42 fun q => q.drop q.entries.length else s

/-- A result group for queue 234 (Table 13.5). -/
def twmResult (c : TwmCmd) (code : BitVec 3) (data : List Byte) (s : State) : State :=
  (s.pushSys 42 ((1#6, pay 0 c.tag ||| pay 8 code ||| pay 11 (BitVec.ofNat 4 data.length)) ::
    (dataWords data).map fun w => (2#6, w))).drainResults

/-- The bus is cleared where SDA reads low; SDA_TO stands where it is still low after the ninth pulse (R377). -/
def busClear (m sdaLow cleared : Bool) (s : State) : State :=
  if !sdaLow then s
  else
    let s := s.onTw (·.onMStat fun x => { x with busClrCnt := satInc x.busClrCnt })
    if cleared then s
    else if m then s.onTw (·.onMStat fun x => { x with sdaTo := x.sdaTo || s.tw.mCfg.toEn })
    else s.onTw (·.onStat fun x => { x with sdaTo := x.sdaTo || s.tw.hCfg.toEn })

/-- The bytes that TW_M drives for a command: the address byte and the write bytes, then the read address byte where read bytes
follow, else the packet error code where the command asks for one; the address byte alone for a command of no bytes
(R365, R379). -/
def twmSent (c : TwmCmd) : List Byte :=
  let w : Byte := c.addr ++ 0#1
  let r : Byte := c.addr ++ 1#1
  if c.nr = 0 ∧ c.nw = 0 then [if c.read then r else w]
  else
    let b := w :: c.bytes
    if 0 < c.nr then b ++ [r] else if c.pec then b ++ [pecOf b] else b

/-- The command that a group of queue 235 says (Table 13.5). -/
def twmParse (g : List Entry) : Option TwmCmd :=
  match g with
  | h :: rest =>
    if h.typ ≠ 1#6 then none
    else
      let w := h.payload
      let nw := min 12 (fld w 8 4).toNat
      some { addr := fld w 0 7, read := bit w 7, nw := nw, nr := min 12 (fld w 12 4).toNat, tag := fld w 16 8,
             pec := bit w 24, bytes := (rest.flatMap fun e => leBytes (fld e.payload 0 32)).take nw }
  | [] => none

/-- TW_M_COMMAND: the next pushed command starts; SDA found low is cleared first (R377, R379). -/
def twmStart (sdaLow cleared : Bool) (s : State) : State :=
  if !s.twmUp || s.tw.run.isSome || (s.sysq[(43 : Fin 64)]).entries.isEmpty then s
  else
    let s := s.busClear true sdaLow cleared
    if sdaLow && !cleared then s
    else
      let c := twmParse (s.sysq[(43 : Fin 64)]).head
      (s.onSysq 43 Queue.commitHead).onTw fun t => ({ t with run := c, mSda := (c.map twmSent).getD [] }).onMStat fun x => { x with busy := c.isSome }

/-- A mux write of R128 is not acknowledged: MUX_FAIL, and the mode is left (R129). -/
def muxFailed (c : TwmCmd) (s : State) : State :=
  if h : c.tag.toNat < 192 then
    let n : PortId := ⟨c.tag.toNat, h⟩
    let a := s.ports[n].alt
    if !c.read ∧ c.nw = 2 ∧ c.nr = 0 ∧ c.addr = a.muxAddr ∧ c.bytes.getD 0 0#8 = a.muxReg then
      let s := s.onPort n fun _ p => { p with alt := { p.alt with muxFail := true } }
      s.onTurnMux n fun e p => p.dpExit e true
    else s
  else s

/-- TW_M_COMMAND_DONE: the command ends with STOP and its result group; `nack`: a byte was not acknowledged; `data`: the
bytes read; `code`: the byte read after them, which is the packet error code of a command that asks for one and covers
every byte from the START (R365, R370, R379). -/
def twmDone (nack : Bool) (code : Byte) (data : List Byte) (s : State) : State :=
  match s.tw.run with
  | none => s
  | some c =>
    if !s.twmUp then s
    else
      let data := if nack then [] else (data ++ List.replicate c.nr 0xFF#8).take c.nr
      let pecBad := c.pec && decide (0 < c.nr) && code ≠ pecOf (twmSent c ++ data) && !nack
      let code : BitVec 3 := if nack then 1#3 else if pecBad then 5#3 else 0#3
      let s := (s.onTw fun t => ({ t with run := none }).onMStat fun x =>
        { x with busy := false, nack := x.nack || nack, pecErr := x.pecErr || pecBad }).twmResult c code data
      if nack && s.roleRuns 13#5 then s.muxFailed c else s

/-- A TW_M command is not delivered: the result group reports it, and it is sent again (R374 to R376, log entry 41). -/
def twmNotDelivered (code : BitVec 3) (f : TwMStat → TwMStat) (s : State) : State :=
  match s.tw.run with
  | none => s.onTw (·.onMStat f)
  | some c => (s.onTw (·.onMStat f)).twmResult c code []

/-- MUX_REC: core 13 turns the mux record at the head of its mailbox into a TW_M write, whose tag is the port. While
MUX_FAIL is set only the USB-only state is written (R128, R129). -/
def muxRec (s : State) : State :=
  if !s.twmUp || !s.roleRuns 13#5 then s
  else match s.mailHead 13 with
  | some (k, port, data) =>
    if k ≠ 2#8 then s
    else if h : port.toNat < 192 then
      let a := (s.ports[port.toNat]'h).alt
      let v := fld (data.headD 0#36) 0 8
      if a.muxFail && fld v 1 2 ≠ 0#2 then s.mailDone 13
      else if !(s.sysq[(43 : Fin 64)]).fits 2 then s
      else
        (s.mailDone 13).pushSys 43
          [(1#6, pay 0 a.muxAddr ||| pay 8 2#4 ||| pay 16 port), (2#6, (leWord [a.muxReg, v]).setWidth 36)]
    else s.mailDone 13
  | none => s

-- Arbitration and timeouts (R374 to R377); `m` names the interface: true TW_M, false TW_H

/-- Whether TW_H is sending a record as controller. -/
def alertOut (s : State) : Bool := s.twUp && !s.tw.alertHeld && !s.tw.alerts.isEmpty

/-- ARBITRATION_LOST: the lines are released and ARB_LOST set; the record or command goes again from its START. -/
def arbLost (m : Bool) (s : State) : State :=
  if m then (if s.twmUp && s.tw.run.isSome then s.twmNotDelivered 2#3 fun x => { x with arbLost := true } else s)
  else if s.alertOut then s.onTw fun t => t.release.onStat fun x => { x with arbLost := true } else s

/-- ARB_LOST_SR: a loss in a STOP or a repeated START: the record or command is not delivered and goes again. -/
def arbLostSr (m : Bool) (s : State) : State :=
  if m then (if s.twmUp && s.tw.run.isSome then s.twmNotDelivered 3#3 fun x => { x with arbLostSr := true } else s)
  else if s.alertOut then s.onTw fun t => t.release.onStat fun x => { x with arbLostSr := true } else s

/-- SCL_TO. -/
def sclTo (m : Bool) (s : State) : State :=
  if m then (if s.twmUp && s.tw.mCfg.toEn then s.twmNotDelivered 4#3 fun x => { x with sclTo := true } else s)
  else if s.twUp && s.tw.hCfg.toEn then s.onTw fun t => t.release.onStat fun x => { x with sclTo := true } else s

/-- SDA_TO: the bus is cleared where the interface has something to send. -/
def sdaTo (m cleared : Bool) (s : State) : State :=
  if m then
    if s.twmUp && s.tw.mCfg.toEn then
      let send := s.tw.run.isSome || !(s.sysq[(43 : Fin 64)]).entries.isEmpty
      (s.twmNotDelivered 4#3 fun x => { x with sdaTo := true }).busClear true send cleared
    else s
  else if s.twUp && s.tw.hCfg.toEn then
    (s.onTw fun t => t.release.onStat fun x => { x with sdaTo := true }).busClear false (!s.tw.alerts.isEmpty) cleared
  else s

/-- STUCK_RETRY_EXPIRY: 100 ms after an attempt on a stuck line the next one is made: the bus is cleared where SDA reads
low, and a pushed command that has not started starts (R376, R377). -/
def stuckRetry (m sdaLow cleared : Bool) (s : State) : State :=
  if m then
    if !s.twmUp then s
    else if s.tw.run.isSome then s.busClear true sdaLow cleared
    else s.twmStart sdaLow cleared
  else if s.alertOut then s.busClear false sdaLow cleared
  else s

/-- VDDIO is lost: both interfaces end as after a timeout (R385). -/
def twLost (s : State) : State := (s.onTw (·.release)).twmNotDelivered 4#3 id

end State

end Sys2Proof.Machine
end

