-- ==== Sys2Proof/Machine/Supply.lean ====
section
/-! DEFINITION. Supplies and shedding: heartbeats, what each stage does to ports, cores and packs, S6, the rails, and
SHELF (spec/14_supplies_shedding.md R383 to R398, spec/01_architecture.md R32, spec/16_startup_resets.md R424). -/

namespace Sys2Proof.Machine

namespace State

-- Heartbeats (R32, R424, Table 5.6)

/-- The watchdog of a core that holds the supervisor role has not expired. -/
def supWatched (s : State) : Bool :=
  (List.finRange 16).any fun k =>
    s.holds k 13#5 && (s.inService k || s.cores[k].stat.state = 3#3)

/-- Whether the sequencer sends a heartbeat: VDDC good and the supervisor watched; after a warm reset for 10 ms from its
start, and then from the first kick of the supervisor role on (R32, R424). In S6 and in provisioning-hold, where no
supervisor core runs, none is sent (log entry 166). -/
def sendsHeartbeat (vddcGood within10 : Bool) (s : State) : Bool :=
  vddcGood && ((within10 && ((s.sys.mode = .warm && s.sys.runSeen) || s.sys.mode = .run) && !s.sys.supKicked) ||
    (s.sys.mode = .run && s.sys.supKicked && s.supWatched))

/-- A port that a heartbeat loss, a BOR or a PLD has held goes on: its region carries out a Hard Reset (Table 5.6). -/
def heldPortOn (n : PortId) (s : State) : State :=
  if s.ports[n].fe.held then
    let s := s.setPort n { s.ports[n] with fe := { s.ports[n].fe with held := false } }
    s.onRegionOf n fun _ p => p.hardReset
  else s

/-- HEARTBEAT: each powered polder die takes and returns it; after a loss HB_LOST clears and the ports that held for it go on. -/
def heartbeat (vddcGood within10 : Bool) (s : State) : State :=
  if s.sendsHeartbeat vddcGood within10 then
    (List.finRange 4).foldl (fun (s : State) q =>
      if s.polders[q].die && !s.polders[q].pld then
        ((s.onPolder q fun P => { P with stat := { P.stat with hbLost := false } }).onPolderPorts q fun n s =>
          if s.regionUp n then s.heldPortOn n else s).supNote 2
      else s) s
  else s

/-- The class-B and class-C sluices of a polder hold; those that passed make a Hard Reset later (Table 5.6). -/
def holdLower (q : PolderId) (s : State) : State :=
  s.onPolderPorts q holdForHb

/-- HEARTBEAT_LOSS: a polder die without a heartbeat for 20 ms. -/
def heartbeatLoss (q : PolderId) (s : State) : State :=
  if s.polders[q].die then
    (s.onPolder q fun P => { P with stat := { P.stat with hbLost := true, hbSeen := true } }).holdLower q
  else s

-- Cores under the stages (R392)

/-- Whether a stage parks a core with roles `r`: bench roles 0 to 5 alone from S3, every bench role and the free spare
from S5. -/
def parkedAt (stage : Nat) (r : CRole) : Bool :=
  (decide (3 ≤ stage) && decide (r.role ≤ 5#4) && r.role2 = 15#4) ||
    (decide (5 ≤ stage) && (decide (r.role ≤ 11#4) || r.role = 15#4))

/-- Whether a core is neither on trial nor spoiled. -/
def usable (s : State) (k : CoreId) : Bool := decide (s.cores[k].stat.state ≤ 3#3)

/-- The core that bench b, 0 to 5, is doubled onto: that of bench b + 6, or where it holds two already the lowest that
serves a single bench (R274, R392). -/
def doubleTarget (s : State) (b : BitVec 4) : Option CoreId :=
  let single (k : CoreId) : Bool :=
    s.usable k && decide (6#4 ≤ s.cores[k].role.role) && decide (s.cores[k].role.role ≤ 11#4) && s.cores[k].role.role2 = 15#4
  match (List.finRange 16).find? fun k => single k && s.cores[k].role.role = b + 6#4 with
  | some k => some k
  | none => (List.finRange 16).find? single

/-- From S3 on the benches 0 to 5 are doubled; in shallower stages each is back on its own core (R392). -/
def stageDouble (stage : Nat) (s : State) : State :=
  (List.range 6).foldl (fun (s : State) i =>
    let b : BitVec 4 := BitVec.ofNat 4 i
    let own := (List.finRange 16).any fun k => s.usable k && s.cores[k].role.role = b
    if !own then s
    else if 3 ≤ stage then
      let alone := (List.finRange 16).any fun k =>
        s.usable k && s.cores[k].role.role = b && s.cores[k].role.role2 = 15#4
      let done := (List.finRange 16).any fun k => s.cores[k].role.role2 = b
      if !alone || done then s
      else match s.doubleTarget b with
        | some k => s.seat2 k b
        | none => s
    else
      (List.finRange 16).foldl (fun (s : State) k =>
        if s.cores[k].role.role2 = b then s.onCore k fun c => { c with role := { c.role with role2 := 15#4 } } else s) s) s

/-- A core is held in reset (R392). -/
def parkCore (k : CoreId) (s : State) : State :=
  (s.clearHeld k).onCore k fun c => { c.resetState with trap := c.trap.afterReset, stat := { c.stat with state := 0#3 } }

/-- A core starts at the entry of its role (R392, R425). -/
def startCore (k : CoreId) (s : State) : State :=
  s.onCore k fun c =>
    { c.resetState with
      image := imageOf c.role.role, code := if c.image = imageOf c.role.role then c.code else s.cacheCode (imagePart (imageOf c.role.role)), trap := c.trap.afterReset,
      stat := { c.stat with state := 1#3, wdLeft := watchdogOf c.role.role } }

/-- The cores follow the stage: those it parks are held in reset, those that were and it does not park start again. -/
def stageCores (stage : Nat) (s : State) : State :=
  let s := s.stageDouble stage
  let s := (List.finRange 16).foldl (fun (s : State) k =>
    if !s.usable k then s
    else if parkedAt stage s.cores[k].role then (if s.cores[k].stat.state = 0#3 then s else s.parkCore k)
    else if s.cores[k].stat.state = 0#3 then s.startCore k
    else s) s
  let any := (List.finRange 16).any fun k => s.usable k && parkedAt stage s.cores[k].role
  { s with sh := { s.sh with stat := { s.sh.stat with parked := any } } }

-- Stages

/-- Every link transmitter goes idle. -/
def linksIdle (s : State) : State := (List.finRange 4).foldl (fun s i => s.portDown i) s

/-- Every core stops (R395). -/
def parkAll (s : State) : State :=
  (List.finRange 16).foldl (fun (s : State) k => if s.usable k then s.parkCore k else s) s

/-- S6 (R395): every port Disabled, the links idle, TW_H silent, the stage record written, every core stopped. -/
def enterS6 (old : Nat) (s : State) : State :=
  let s₀ := s
  let s := s.onAllPorts fun n s => s.shedPort n
  let s := (s.linksIdle.onTw (·.release))
  let s := { s with sh := { s.sh with sup := { s.sh.sup with s6Seen := true, lastStage := BitVec.ofNat 3 old } } }
  let s := s.parkAll
  s₀.noteGuar { s with sys := { s.sys with mode := if s.sys.mode = .warm then .warm else .holdDown } }

/-- The policy and lifeline roles are told of a new stage (Table 11.6, R190). -/
def postStage (s : State) : State :=
  if s.roleRuns 13#5 then
    (List.finRange 13).foldl (fun (t : State) r =>
      t.post ⟨r.val, by have := r.isLt; omega⟩ (mbxGroup 13#4 6#8 0#8 [s.sh.stat.stage.setWidth 36])) s
  else s

/-- S6 is left: what a warm reset under it left to the roles is done (R425, PHASE 0x8), and a worker whose lease has ended
is on its island budget (R192). -/
def holdLeft (s : State) : State :=
  let warm : Bool := s.sys.start.phase = 8#4
  let s : State := if warm then { s.settingsRestore false with sys := { s.sys with start := { s.sys.start with phase := 5#4 } } } else s
  let s := if s.isWorker && !s.bg.stat.leaseValid then s.leaseless else s
  if warm && s.revertible then s.revert 0x13#5 else s

/-- What the entry to a stage does, from stage `old` (R391 to R395, R221). S6 left to S5 starts the roles that S5
serves. -/
def stageEntered (old : Nat) (s : State) : State :=
  let stage := s.sh.stat.stage.toNat
  if stage = old then s
  else if stage = 6 then s.enterS6 old
  else
    let left : Bool := s.sys.mode = .holdDown
    let s : State := if left then { s with sys := { s.sys with mode := .run } } else s
    let s := if s.sys.mode = .run then s.stageCores stage else s
    let s := if left then s.holdLeft else s
    let s := s.onAllPorts fun n s => (s.shedPort n).unshedPort n
    let s := ((s.alert 3#8 (s.sh.stat.stage.setWidth 32))).postStage
    if stage = 3 ∧ old = 2 then s.finalCommit
    else if stage = 3 ∧ old = 4 then s.commitAll.bankWriteDue
    else if stage = 4 ∧ old = 3 ∧ 0 < s.journalPending then
      { s with kg := { s.kg with jstat := { s.kg.jstat with heldStage := true } } }
    else s

-- Pack feed (R394)

/-- A port whose pack is being asked, or is swapping. -/
def feedBusy (s : State) (n : PortId) : Bool :=
  let r := s.ports[n].role
  r.feed = 1 || ((r.feed = 2 || r.feed = 4) && r.swap ≠ .none)

/-- A class-A port whose pack is to be asked to feed the lifeline supply. -/
def feedCandidate (s : State) (n : PortId) : Bool :=
  let p := s.ports[n]
  s.cls n = .a && p.partner.dockMode && p.role.feed = 0 && p.isSource && p.contract.explicit && !p.busyCore &&
    (s.slotOf n).isSome && (p.kgSoc.endSt = 1#2 || (p.kgSoc.socSrc ≠ 0#2 && decide (500#10 ≤ p.kgSoc.soc)))

/-- The packs at S5, one port at a time in port order; and their swap back at S4 or shallower. The permit bit of
SOURCE_PERMIT is bit 10 of its word (Table 4.16). -/
def packFeed (s : State) : State :=
  if s.sys.mode ≠ .run || !s.roleRuns 12#5 then s
  else if s.sh.stat.stage = 5#3 then
    if !s.sh.cfg.packSrc || (List.finRange 192).any s.feedBusy then s
    else match (List.finRange 192).find? s.feedCandidate with
      | none => s
      | some n =>
        let cur : BitVec 10 := match s.slotOf n with | some i => Config.dockCurrent i.val | none => 0#10
        s.onTurn n fun e p =>
          { p with role := { p.role with feed := 1 } }.dockCmd e false sysVid 3#8 [putF 0 cur ||| putB 10 true]
  else
    (List.finRange 192).foldl (fun (s : State) n =>
      let p := s.ports[n]
      if p.role.feed = 3 then s.setPort n { p with role := { p.role with feed := 0 } }
      else if (p.role.feed = 2 ∨ p.role.feed = 4) ∧ p.role.swap = .none ∧ p.tc.state = .attachedSnk ∧ !p.busyCore then
        s.onTurn n fun e p => p.askPrSwap e false
      else s) s

-- Samples and rails

/-- Whether the shed sequencer samples: from RUN on, through a warm reset and in S6 (Table 16.3, R424). -/
def shedRuns (s : State) : Bool :=
  s.sys.mode = .run || (s.sys.mode = .warm && s.sys.runSeen) || s.sys.mode = .holdDown

/-- SHED_SAMPLE: SYS_TEMP takes the control die's temperature with it. -/
def shedSample (x : FeedSample) (die : BitVec 12) (s : State) : State :=
  if !s.shedRuns then s
  else
    let old := s.sh.stat.stage.toNat
    let s := { s with sh := Shed.sample x s.sh, sys := { s.sys with temp := { s.sys.temp with die := die } } }
    let s := s.stageEntered old
    (if s.sh.stat.stage.toNat = old then s else s.supNote 0).packFeed

/-- SUPPLY_S6_LEVEL: VDDA (5), VDDC (6) or the berm (7) crosses its level; V_FLOOR 0 is no berm cause (R390, R396). -/
def supplyS6 (cause : BitVec 3) (s : State) : State :=
  let named := cause = 5#3 || cause = 6#3 || (cause = 7#3 && s.sh.berm.vFloor ≠ 0#10)
  if !s.shedRuns || s.sh.stat.stage = 6#3 || !named then s
  else
    let old := s.sh.stat.stage.toNat
    ({ s with sh := { s.sh with up6 := 0 }.enter 6 (some cause) }.stageEntered old).supNote 0

/-- VGD_RESTORED: VGD stands at v_gd_pass again (R145, R147, Table 5.3). -/
def vgdRestored (q : PolderId) (s : State) : State :=
  let s := s.onPolder q fun P => { P with stat := { P.stat with vgdLow := false }, vgdPass := true }
  s.onPolderPorts q fun n s =>
    if Breach.vgdLow ∈ s.ports[n].fe.cond then s.onFrontEnd n fun e p => p.condEnd e .vgdLow else s

/-- VDDIO_LOST: the two-wire interfaces end as after a timeout, and a flash write in progress is cut off (R383, R385). -/
def vddioLost (s : State) : State :=
  if !s.sh.vddioOk then s
  else
    let s := s.flashCut.twLost
    { s with sh := { s.sh with vddioOk := false, sup := { s.sh.sup with vddioLost := true } } }

/-- VDDIO is good at a level in mV, and its mode is set (Table 14.1). -/
def vddioGood (mv : Nat) (s : State) : State :=
  { s with sh := { s.sh with vddioOk := true }, sys := { s.sys with stat := { s.sys.stat with vddio3v3 := decide (2500 ≤ mv) } } }

/-- VDDIO_RESTORED at a level in mV. -/
def vddioRestored (mv : Nat) (s : State) : State := if s.sh.vddioOk || mv < 1620 then s else s.vddioGood mv

-- SHELF (R387)

/-- SHELF_REQ: refused in the update phases ARMED to REVERTING and at S6. -/
def shelfReq (s : State) : State :=
  if !s.regsUp then s
  else if (3#3 ≤ s.fl.upd.phase ∧ s.fl.upd.phase ≤ 7#3) ∨ s.sh.stat.stage = 6#3 then
    { s with sh := { s.sh with pwr := { s.sh.pwr with refused := true } } }
  else
    let s := (s.onAllPorts fun n s => s.onPort n fun _ p => p.disable 5#3).commitAll.linksIdle
    let s := (List.finRange 4).foldl (fun (s : State) q => s.onPolder q fun P => { P with die := false }) s
    { s with sys := { s.sys with mode := .shelf } }

end State

end Sys2Proof.Machine
end

