-- ==== Sys2Proof/Machine/Start.lean ====
section
/-! DEFINITION. Starts and resets: POR and the cold start, BOR, PIN, SYS and LNK resets, PLD, the dead-battery island
and its handover, and leaving SHELF (spec/16_startup_resets.md R417 to R438). -/

namespace Sys2Proof.Machine

-- Class defaults (R175, R402)

/-- The value of the class word of a class that is not programmed (Table 15.2). -/
def deliveredWord (cl : SvcClass) : Word :=
  let w (typ try_ er sense set opts cap : Nat) (bist : Bool) : Word :=
    BitVec.ofNat 32 (typ + 4 * try_ + 16 + 32 + 64 * bist.toNat + 128 * er + 2048 * sense + 4096 * set + 32768 * opts + 8388608 * cap)
  match cl with
  | .a => w 2 1 15 0 3 0x91 60 false
  | .b => w 0 0 5 0 3 0x01 100 true
  | .c => w 0 0 2 1 4 0x05 240 true

namespace Fuses

/-- Word i of the customer configuration, from the shadows (Table 15.2). -/
def cfgWord (f : Fuses) (i : Nat) : Word := f.shadowAt (regionBase 4 + i)

/-- The word that gives the defaults of a class (R402). -/
def classWord (f : Fuses) (cl : SvcClass) : Word :=
  let w := f.cfgWord (match cl with | .a => 4 | .b => 5 | .c => 6)
  if bit w 31 then w else deliveredWord cl

/-- The class that the configuration gives a polder position; 0b00 is class C (Table 15.2). -/
def posClass (f : Fuses) (pos : PosId) : SvcClass :=
  match fld (f.cfgWord (1 + pos.val / 16)) (2 * (pos.val % 16)) 2 with
  | 1#2 => .a
  | 2#2 => .b
  | _ => .c

/-- The raw bit [4] of configuration word 0 in either bank, as the harvest circuits sense it (R428). -/
def harvestSensed (f : Fuses) : Bool :=
  bit (f.word (regionBase 4)) 4 || bit (f.word (256 + regionBase 4)) 4

/-- HARVEST_EN from the copy of region 4 that the start uses (R428). -/
def harvestEn (f : Fuses) : Bool := bit (f.cfgWord 0) 4

/-- The word being programmed when a POR cuts its program short (R415, log entry 23). -/
def cutOff (k : Nat) (f : Fuses) : Fuses :=
  match f.job with
  | some j => { f with raw := Mem.write 0#44 (stepAddr j.now) (Config.cutFuse k) f.raw, job := none }
  | none => f

end Fuses

namespace Port

/-- The "fuse" reset values of a port, from the word of its class (R402). -/
def classDefaults (w : Word) (p : Port) : Port :=
  { p with
    cc := { p.cc with portType := fld w 0 2, tryPref := fld w 2 2, enable := bit w 4 },
    pdcfg := { p.pdcfg with pdEn := bit w 5, bistEn := bit w 6, erLimit := fld w 7 4 },
    sluice := { p.sluice with senseMode := (fld w 11 1).setWidth 2 },
    srccap := { p.srccap with
      set := fld w 12 3, ppsEn := bit w 15, sprAvsEn := bit w 16, eprEn := bit w 17, eprAvsEn := bit w 18,
      drpPwr := bit w 19, drd := bit w 20, frsEn := bit w 21, dockEn := bit w 22, pCap := fld w 23 8 } }

/-- The resume of a port whose region has stood still: the checkpoint as at a cut-over, with the epoch stepped and no
fence left (R425, R427, Table 16.8). -/
def resume (e : Env) (tid : BitVec 16) (p : Port) : Port := (p.cutOver e p.place.region tid false).setFences []

end Port

namespace State

-- The record of starts (R419)

/-- SYS_RST_CAUSE records a start of a code (Table 16.2); a lost always-on domain has its record rebuilt. -/
def recordStart (code : Nat) (vaoLost : Bool) (s : State) : State :=
  let c : SysRstCause := if vaoLost then { SysRstCause.reset with seen := 0#8 } else s.sys.rstCause
  { s with sys := { s.sys with rstCause := { c with
      last := BitVec.ofNat 4 code, seen := c.seen ||| (1#8 <<< (code - 1)), vaoLost := vaoLost, warmCnt := 0#7 } } }

/-- Whether an update stands in ARMED to CONFIRMED, which a start ends with result 0x13 (R457). -/
def cutUpdate (s : State) : Bool := s.revertible

/-- What is left after the whole device but the always-on domain has lost its state: the fuses as blown, the flash as
written, the reset record, SH_SUP, and what stands outside the device (R417, Table 16.8). -/
def lost (s : State) : State :=
  let k := s.fresh
  let fz := s.fz.cutOff k
  let s := { s with fresh := k + 1 }.flashCut
  let r := State.reset
  let id := s.fl.upd.updId
  { r with
    polders := Vector.ofFn fun q : Fin 4 => { r.polders[q] with vgdPass := s.polders[q].vgdPass },
    sys := { r.sys with rstCause := s.sys.rstCause, rstN := s.sys.rstN, harvestOff := s.sys.harvestOff },
    sh := { r.sh with sup := s.sh.sup },
    fz := { r.fz with raw := fz.raw },
    fl := { r.fl with
      mem := s.fl.mem,
      upd := if s.cutUpdate then { r.fl.upd with updId := id, result := 0x13#5 } else r.fl.upd,
      job := if s.cutUpdate ∧ !s.allocates then { Update.init with report := [9#8, id, 0x13#8] } else Update.init },
    fresh := s.fresh, pending := s.pending }

/-- POR: VDDA falls below 2.9 V, or power first arrives. Without VDDA already, as in the island, it does not fall
(R417, R432). `vaoLost`: VAO has gone with it; `recordLost`: VDDC had been lost for less than 2 ms; `vddcEarly`: VDDC came
first (R385). -/
def por (vaoLost recordLost vddcEarly : Bool) (s : State) : State :=
  if s.sys.mode = .island ∨ s.sys.mode = .harvest then s
  else
    let s := s.lost.recordStart 1 vaoLost
    let sup := if vaoLost then ShSup.reset else s.sh.sup
    let sup := if recordLost then { sup with lastStage := 7#3 } else sup
    { s with sh := { s.sh with sup := { sup with vddcEarly := sup.vddcEarly || vddcEarly } } }

/-- Leaving SHELF is a start of its own code, in POR until its release (R387, R417). -/
def shelfExit (s : State) : State := s.lost.recordStart 6 false

/-- SHELF_WAKE: the wake timer elapses; WAKE 0 starts none. -/
def shelfWake (s : State) : State :=
  if s.sys.mode = .shelf ∧ s.sh.pwr.wake ≠ 0#16 then s.shelfExit else s

/-- BOR: VDDC falls below 0.74 V. EPOCH is stepped, of an attached port by its resume. The polder dies keep the P_ registers and the sluices, of which class B and C hold;
everything else of the control die is lost (R426, Tables 5.6 and 16.8). -/
def bor (s : State) : State :=
  match s.sys.mode with
  | .run | .provHold | .holdDown | .warm | .stayReset | .bor =>
    let s := (List.finRange 4).foldl (fun (s : State) q => s.holdLower q) s
    let k := s.lost.recordStart 2 false
    { k with
      ports := Vector.ofFn fun n : Fin 192 =>
        let p := s.ports[n]
        let d := Port.reset n.val
        { p with
          kgSoc := d.kgSoc, kgCap := d.kgCap,
          place := { p.place with
            region := d.place.region, migrating := false, prepared := false, fences := 0#3,
            epoch := if p.attached then p.place.epoch else p.place.epoch + 1#6 },
          stg := d.stg, q := Queue.init (roleFor n s.pcfg[n].cls) true, role := RoleState.init,
          ck0 := Ckpt.none, ck1 := Ckpt.none, ckNewer := false, fences := [], bank := Ckpt.none, heldCls := none,
          rebindDue := false },
      pcfg := s.pcfg,
      polders := Vector.ofFn fun q : Fin 4 =>
        let P := s.polders[q]
        { Polder.reset with temp := P.temp, vgdPass := P.vgdPass, die := P.die },
      sys := { k.sys with
        rstCause := { k.sys.rstCause with vaoLost := s.sys.rstCause.vaoLost, warmCnt := s.sys.rstCause.warmCnt },
        stat := s.sys.stat, runSeen := s.sys.runSeen, mode := .bor },
      sh := { k.sh with vddioOk := s.sh.vddioOk } }
  | _ => s

-- Start-up steps

/-- The straps, sampled at the end of POR (R38, R366). -/
def sampleStraps (role : BitVec 2) (addr : BitVec 3) (deputy : Bool) (s : State) : State :=
  { s with sys := { s.sys with stat := { s.sys.stat with
      role := role, roleStrapBad := decide (role = 3#2), addr := addr, deputy := deputy } } }

/-- What the shadows give: identity, the oscillator trims, the island budget and the primary address of TW_H
(R366, R402, Tables 15.1 and 18.5). -/
def fuseValues (s : State) : State :=
  let f := s.fz
  let base := fld (f.cfgWord 0) 0 4
  let base : BitVec 4 := if base = 0#4 ∨ base = 15#4 then 0xB#4 else base
  let trim := (List.range 32).map fun i => f.shadowAt (regionBase 0 + i)
  { s with
    sys := { s.sys with
      serialLo := f.shadowAt (regionBase 1), serialHi := f.shadowAt (regionBase 1 + 1),
      rev := { s.sys.rev with srev := fld (f.shadowAt (regionBase 1 + 2)) 16 8 } },
    bg := { s.bg with islandW := fld (f.cfgWord 0) 5 16 },
    tw := { s.tw with hAddr := { s.tw.hAddr with primary := base ++ s.sys.stat.addr } },
    polders := Vector.ofFn fun q : Fin 4 =>
      { s.polders[q] with osc := { s.polders[q].osc with trim := Config.oscTrim trim q.val } } }

/-- At the end of POR each port takes the class default of its position, in port order; a twenty-fifth of class A is
loaded as class B (R175). -/
def classDefaults (s : State) : State :=
  s.onAllPorts fun n s =>
    let cl := s.fz.posClass (posOf n)
    let full := decide (24 ≤ (s.pcfg.toList.filter fun c => c.cls = .a).length)
    let clip := decide (cl = .a) && full
    let cl : SvcClass := if clip then .b else cl
    let s := if clip then { s with bg := { s.bg with stat := { s.bg.stat with classaClipped := true } } } else s
    let p := s.ports[n].classDefaults (s.fz.classWord cl)
    { s.setPort n { p with q := { p.q with role := roleFor n cl } } with pcfg := s.pcfg.set n { s.pcfg[n] with cls := cl } }

/-- VB of positions as their front ends sense it at the start. -/
def senseVb (vb : List (PortId × Nat)) (s : State) : State :=
  vb.foldl (fun (s : State) x => s.setPort x.1 (s.ports[x.1].vbLevel (s.env x.1) x.2)) s

/-- Whether a spoil entry names a resource that exists (R280, R281). -/
def spoilExists (w : Word) : Bool :=
  let id := (fld w 4 20).toNat
  match fld w 0 4 with
  | 1#4 => decide (id < 224)
  | 2#4 => decide (id < 16)
  | 3#4 => decide (id < 256)
  | 4#4 => decide (id / 32 < (if id / 16 % 2 = 0 then 4096 else 8192))
  | 5#4 => decide (id < 65536)
  | 6#4 => decide (id < 4)
  | 7#4 => decide (id < 8)
  | _ => false

/-- How many spoil entries of a kind satisfy `f` on their ID. -/
def spoilCount (s : State) (kind : BitVec 4) (f : Nat → Bool) : Nat :=
  (s.qy.spoiled.filter fun w => fld w 0 4 = kind && f (fld w 4 20).toNat).length

/-- The spoil list is formed from the ledger, from both flash copies and from the entries still held: one entry for each
resource that exists (R281). What it names is out of service from now on: queues and rows are remapped, and a polder with
a spoiled oscillator takes the fallback clock. -/
def spoilStart (s : State) : State :=
  let ledger := ((List.range 64).map fun i => s.fz.shadowAt (ledgerAddr i)).filter spoilValid
  let copyA := if s.fl.stat.present then spoilCopy s.fl 0x2000 else []
  let copyB := if s.fl.stat.present then spoilCopy s.fl 0x9000 else []
  let all := (ledger ++ copyA ++ copyB ++ s.qy.held).filter spoilExists
  let list := all.foldl (fun (ws : List Word) w =>
    if ws.any fun x => fld x 0 24 = fld w 0 24 then ws else ws ++ [w]) []
  let empty (i : Nat) : Bool := s.fz.word (ledgerAddr i) = 0#44
  let tried := ((List.range 64).filter fun i => !empty i).length
  let s : State := { s with qy := { s.qy with
    spoiled := list, ledgerAt := ((List.range 64).find? empty).getD 64,
    spoil := { s.qy.spoil with ledgerUsed := BitVec.ofNat 7 tried,
                               flashUsed := BitVec.ofNat 8 (min 255 (max copyA.length copyB.length)) } } }
  let s : State := { s with qy := { s.qy with freeRows := BitVec.ofNat 7 (64 - min 64 (s.spoilCount 5#4 fun _ => true)) } }
  let s := (List.finRange 244).foldl (fun (s : State) x =>
    let x : Fin 256 := ⟨x.val, by have := x.isLt; omega⟩
    let id : BitVec 20 := BitVec.ofNat 20 (s.physOf x)
    if s.isSpoiled 3#4 id && !(x.val < 192 && s.queueless ⟨x.val % 192, Nat.mod_lt _ (by decide)⟩) then s.queueSeat x id 0#4
    else s) s
  (List.finRange 4).foldl (fun (s : State) q =>
    if s.isSpoiled 6#4 (BitVec.ofNat 20 q.val) then s.onPolder q fun P => { P with fallback := true } else s) s

/-- A core's registers as a start leaves them: C_TRAP aside, the reset values, with the spare rows that the spoil list
has not taken (R424, Table 16.8). -/
def coreAfresh (k : CoreId) (s : State) : State :=
  let spares (d : Nat) : BitVec 4 :=
    BitVec.ofNat 4 (8 - min 8 (s.spoilCount 4#4 fun id => decide (id % 16 = k.val) && decide (id / 16 % 2 = d)))
  let d := Core.reset k.val
  let out := s.isSpoiled 2#4 (coreId k)
  s.onCore k fun c => { c.resetState with
    cfg := d.cfg,
    role := if out then { role := 15#4, role2 := 15#4 } else d.role,
    stat := { d.stat with state := if out then 5#3 else 0#3 },
    ecc := { d.ecc with codeSpare := spares 0, dataSpare := spares 1 } }

/-- Every core is held in reset (R424). -/
def coresHeld (s : State) : State := (List.finRange 16).foldl (fun (s : State) k => s.coreAfresh k) s

/-- The cores start, each at the entry of its role; the roles of spoiled cores go to others in class order (R255, R274,
R281, R425). -/
def seatRoles (s : State) : State :=
  let s := (List.finRange 16).foldl (fun (s : State) k => if s.usable k then s.startCore k else s) s
  let out (k : CoreId) : Bool := !s.usable k
  let s := if out 12 then s.seatLife CCfg.reset else s
  let s := if out 13 then s.seatSup CCfg.reset else s
  let s := if out 14 then s.seatStandby none else s
  let s := (List.finRange 12).foldl (fun (s : State) b =>
    if out ⟨b.val, by have := b.isLt; omega⟩ then s.seatBench (BitVec.ofNat 4 b.val) CCfg.reset else s) s
  s.coreMap

-- Images (R446, R422)

/-- The bank that a start chooses, and whether it is a fallback: the ACTIVE bank, else the OLD one, if it passes its check
(R446). -/
def bankChoice (s : State) : Option (Bool × Bool) :=
  let r := s.fl.bankRec
  let pick (st : BitVec 2) : Option Bool :=
    [false, true].find? fun b => Flash.BankRec.get b r = st && s.bankCheck b = 0#5
  match pick Flash.bankActive with
  | some b => some (b, false)
  | none => (pick Flash.bankOld).map fun b => (b, true)

/-- The sequence of the next log record: after the newest good one of the ring (R444). -/
def logNext (f : Flash) : BitVec 32 :=
  let seqs := (f.mem.map (·.1)).filterMap fun a =>
    if a < 0x1F0000 ∨ 0x800000 ≤ a ∨ a % 32 ≠ 0 then none
    else
      let bs := f.bytes a 32
      if cut 0 2 bs = natBytes 2 0x4C47 ∧ cut 28 4 bs = leBytes (crc32 (cut 0 28 bs)) then some (numAt 2 4 bs) else none
  match seqs with
  | [] => 0#32
  | x :: xs => BitVec.ofNat 32 (xs.foldl (fun a b => if Flash.after b a then b else a) x) + 1#32

/-- The flash as the boot ROM finds it: present when it answers JEDEC ID with at least 64 Mbit, capacity byte 0x17 or
more (R446). -/
def flashFound (jedec : Option (BitVec 24)) (s : State) : State :=
  s.onFlash fun f =>
    match jedec with
    | some id =>
      let r := f.bankRec
      let here := decide (0x17#8 ≤ fld id 0 8)
      { f with
        id := id,
        stat := { f.stat with
          present := here, stateA := if here then r.stateA else 0#2, stateB := if here then r.stateB else 0#2 },
        logSeq := if here then logNext f else 0#32 }
    | none => f

/-- The boot ROM chooses the bank; NO_IMAGE where none passes (R446). -/
def chooseBank (s : State) : State :=
  match if s.fl.stat.present then s.bankChoice else none with
  | some (b, fb) => s.onFlash fun f => { f with stat := { f.stat with bootBank := b, bankFallback := fb } }
  | none => s.onFlash fun f => { f with stat := { f.stat with noImage := true } }

/-- The Thoelm image of the booted bank is written into the template store, and MAP is followed (R232, R244). -/
def storeImage (s : State) : State :=
  let th := s.runThoelm
  let (st, used) := writeImage th s.store
  (({ s with store := st } : State).takeSets th |>.onJob fun x => { x with oldSlots := used }).follow th used

/-- Core 13 restores the settings; a half that holds none is first filled from the other (R438, R446). -/
def startSettings (ports : Bool) (s : State) : State :=
  let h := s.fl.half
  let s := if s.halfEmpty h then s.settingsMigrate h s.runSchema else s
  s.settingsRestore ports

-- Regions (R244, R422)

/-- The common halves of a polder with the rows of an image: half A active and half B standby, without one that is spoiled
(R230, R281). -/
def loadCommons (q : PolderId) (slot : BitVec 4) (tid : BitVec 16) (rows : List (BitVec 112)) (ref : Bool) (onlyA : Bool)
    (s : State) : State :=
  let okA := !s.isSpoiled 7#4 (halfId q false)
  let okB := !onlyA && !s.isSpoiled 7#4 (halfId q true)
  let useB := !okA && okB
  let half (ok act : Bool) : Half :=
    if ok then { st := if act then .serving else .ready, slot := slot, tid := tid, frames := rows, ref := ref } else Half.init
  let s := if ref && okA then s.refUp slot else s
  let s := if ref && okB then s.refUp slot else s
  s.onPolder q fun P => { P with commonB := useB, halfA := half okA (!useB), halfB := half okB useB }

/-- The region that a front end is connected to at a start: its home region, else the first spare of the order that is
neither spoiled nor connected (R244). -/
def startRegion (s : State) (n : PortId) : Option RegionId :=
  let q := polderOf n
  let pos := posOf n
  let P := s.polders[q]
  let home : RegionId := ⟨pos.val, by have := pos.isLt; omega⟩
  if !s.isSpoiled 1#4 (regionId q pos.val) then some home
  else P.order.find? fun r =>
    !s.isSpoiled 1#4 (regionId q r.val) && !(P.culv.toList.any fun c => c.region.toNat = r.val)

/-- A region serves a position from now on (R243, R253). -/
def connect (n : PortId) (r : RegionId) (s : State) : State :=
  s.onPolder (polderOf n) fun P =>
    let P := P.onRegion r.val fun R => { R with st := .serving, isolated := false }
    let c : PlCulv := { region := BitVec.ofNat 6 r.val, switching := false, slot := (P.region r.val).slot }
    { P with culv := P.culv.set (posOf n) c }

/-- The region of a port starts: from Start as R51 says, or Disabled where R64 or R65 hold it; after a BOR the state of the
registers, with R269 for an attached port (R422, R426). -/
def bootPort (n : PortId) (r : RegionId) (s : State) : State :=
  let p := s.ports[n]
  let reg : BitVec 6 := BitVec.ofNat 6 r.val
  let e := { s.env n with regionUp := true }
  let p :=
    if p.tc.state = .start then
      let p := { p with place := { p.place with region := reg } }
      (p.regionStart e).writeReports
    else if p.attached then { p with place := { p.place with region := reg } }.resume e (s.tidAt n)
    else
      { p with place := { p.place with region := reg } }.enter e
  (s.setPort n (s.checkpointed n p)).gaugeFollow n

/-- The sluice parameter set that a loaded template's descriptor names comes into force with its region (R238). -/
def setOf (s : State) (slot : BitVec 4) : SluiceSet := s.store.slots[slot.toNat].set

/-- A port for which no region exists at a start is parked with cause NO_REGION (R244, R287). -/
def parkUnplaced (n : PortId) (s : State) : State :=
  (s.parkPort n 3#2).quarryEvent 7#4 1#4 (regionId (polderOf n) (posOf n).val) 0#4

/-- A port is placed and its region started from the slot that MAP names. A port parked for its front end stays parked;
without a region the port is parked with cause NO_REGION; without a good template the port stays in Start (R244, R422). -/
def placePort (n : PortId) (s : State) : State :=
  let q := polderOf n
  let slot := s.polders[q].tplMap[posOf n]
  if (s.ports[n].pfault.oos ∧ (s.ports[n].pfault.oosCause = 1#2 ∨ s.queueless n)) ∨ !s.slotOk slot false then s
  else
    let s := if s.ports[n].pfault.oos then s.setPort n (s.ports[n].unpark (s.env n)) else s
    match s.startRegion n with
    | none => s.parkUnplaced n
    | some r =>
      let s := (s.install q (some r) slot s.store.slots[slot.toNat].rows).connect n r
      let set := s.setOf slot
      (s.setPort n { s.ports[n] with fe := { s.ports[n].fe with set := set } }).bootPort n r

/-- Every port of a class that no region serves is placed, in port order (R422). -/
def placeClass (cl : SvcClass) (s : State) : State :=
  s.onAllPorts fun n s =>
    if s.cls n = cl ∧ (s.polders[polderOf n].regionAt (posOf n)).st ≠ .serving then s.placePort n else s

/-- What a start of the links leaves: every port DOWN with its label, the strapped manager acting with address 0
(R38, R351, Tables 12.7 and 12.8). -/
def linkStart (s : State) : State :=
  let mgr := decide (s.sys.stat.role = 1#2)
  { s with lk := { s.lk with
    tree := { LkTree.reset with addrOk := mgr, actingMgr := mgr },
    mgrSerial := if mgr then s.serial else 0#64,
    ports := Vector.ofFn fun i : Fin 4 =>
      { LinkPort.reset with stat := { LinkPort.reset.stat with roleUp := s.upLabel i } } } }

/-- SYS_START after a start, times saturated (Table 16.2). -/
def startDone (phase : BitVec 4) (tLife tAll : Nat) (s : State) : State :=
  { s with sys := { s.sys with start := {
      phase := phase, tLife := BitVec.ofNat 12 (min 0xFFF tLife), tAll := BitVec.ofNat 12 (min 0xFFF tAll) } } }

-- The ROM's own images (R413, R423, R430)

/-- The template or common image of the boot ROM, as a slot would hold it (log entry 50). Its slot number reads 15. -/
def romSlot (common : Bool) : TplSlot :=
  let word (i : Nat) : Word :=
    if !common && decide (8 ≤ i ∧ i < 32) then fld (Config.boundary ((i - 8) / 3)) (32 * ((i - 8) % 3)) 32 else Config.romWord common i
  { TplSlot.init with st := .valid, common := common, words := (List.range (bodyWords common)).map word }

/-- A region holds the emergency template. -/
def romRegion (q : PolderId) (r : RegionId) (st : RState) (s : State) : State :=
  s.onPolder q fun P => P.onRegion r.val fun R =>
    { R with st := st, slot := 15#4, frames := (romSlot false).rows, ffInit := initBits (romSlot false).rows, ref := false,
             isolated := false }

/-- A port is served from the emergency template. -/
def romPort (n : PortId) (s : State) : State :=
  match s.startRegion n with
  | none => s.parkUnplaced n
  | some r => ((s.romRegion (polderOf n) r .serving).connect n r).bootPort n r

/-- Core 12 runs the emergency image and every other core is held in reset (R413, Table 16.4). -/
def romCore (s : State) : State :=
  if s.usable 12 then (s.startCore 12).onCore 12 fun c => { c with image := .emergency, code := [] } else s

/-- Provisioning-hold, or the hold of NO_IMAGE: core 12 serves the class-A ports, every other port is Disabled, the
island budget applies (R413, R423, R446). -/
def enterHold (tLife tAll : Nat) (s : State) : State :=
  let s : State := { s.coresHeld.romCore with sys := { s.sys with mode := .provHold } }
  let s := (List.finRange 4).foldl (fun (s : State) q =>
    if (s.polders[q].active).st = .serving then s
    else s.loadCommons q 15#4 0#16 (romSlot true).rows false false) s
  let s := s.onAllPorts fun n s =>
    if s.ports[n].pfault.oos then s
    else if s.cls n ≠ .a then s.setPort n (s.ports[n].disable 5#3)
    else if (s.polders[polderOf n].regionAt (posOf n)).st = .serving ∨ !s.usable 12 then s
    else s.romPort n
  let s : State := { s with tw := { s.tw with started := true } }
  s.linkStart.leaseless.startDone 6#4 tLife tAll

/-- Cores, settings, images and ports of a start with a good bank, up to every port ready (Table 16.3 from its 20 ms row
on). `served`: what to do with the ports that the island serves. -/
def startUp (tLife tAll : Nat) (served : SvcClass → State → State) (s : State) : State :=
  let s := s.linkStart.storeImage
  let s := ((s.startSettings true).journalLoad).bundleInForce s.fl.stat.bootBank
  let s : State := { s with sys := { s.sys with mode := .run } }
  let s := (List.finRange 4).foldl (fun (s : State) q =>
    match commonSlot s.runThoelm s.fl.job.oldSlots with
    | some t =>
      let slot : BitVec 4 := BitVec.ofNat 4 t.val
      if (s.polders[q].active).st = .serving then s.commonTo q slot
      else s.loadCommons q slot s.store.slots[t].tid s.store.slots[t].rows true false
    | none => s) s
  let s := [SvcClass.a, .b, .c].foldl (fun (s : State) cl => (served cl s).placeClass cl) s
  let s : State := { s with sys := { s.sys with runSeen := true, supKicked := true },
                            tw := { s.tw with started := true } }
  s.leaseless.startDone 5#4 tLife tAll

/-- The flash row of Table 16.3. In provisioning-hold the table ends before it, and no image bank is started (R413,
R423). -/
def flashRow (jedec : Option (BitVec 24)) (s : State) : State :=
  if s.fz.stat.provHold then s else (s.flashFound jedec).chooseBank

/-- The start goes on from the choice of the bank (Table 16.3, R446). -/
def bootFlash (jedec : Option (BitVec 24)) (tLife tAll : Nat) (served : SvcClass → State → State) (s : State) : State :=
  let s := (s.flashRow jedec).spoilStart
  if s.fz.stat.provHold || s.fl.stat.noImage then s.enterHold tLife tAll
  else s.coresHeld.seatRoles.startUp tLife tAll served

/-- POR_RELEASE: the start of Table 16.3 after POR, BOR or SHELF. It waits for VDDIO at 1.62 V; the straps are sampled
after POR alone (R385, R421, R426). -/
def porRelease (role : BitVec 2) (addr : BitVec 3) (deputy : Bool) (vddioMv : Nat) (jedec : Option (BitVec 24))
    (up : List (Nat × BitVec 44)) (vb : List (PortId × Nat)) (tLife tAll : Nat) (s : State) : State :=
  let bor := decide (s.sys.mode = .bor)
  if !(s.sys.mode = .por || bor) || vddioMv < 1620 then s
  else
    let s := if bor then s else s.sampleStraps role addr deputy
    let s := s.vddioGood vddioMv
    let s := (List.finRange 4).foldl (fun (s : State) q => s.onPolder q fun P => { P with die := true }) s
    let (fz, out) := Fuses.start up s.fz
    let s := { s with fz := fz }
    match out with
    | .stay _ => { s with sys := { s.sys with mode := .stayReset } }.startDone 1#4 0 0
    | _ =>
      let s := (s.fuseValues.senseVb vb)
      let s := if bor then s else s.classDefaults
      s.bootFlash jedec tLife tAll fun _ s => s

-- PIN, SYS and LNK (R418, R424, R425)

/-- Whether a warm reset finds a running control die. -/
def warmable (s : State) : Bool :=
  match s.sys.mode with
  | .run | .provHold | .holdDown | .island | .warm => true
  | _ => false

/-- A polder at a warm reset: a load in progress is abandoned and its region left EMPTY, a PREPARE lapses, and each
front end stands with the region that its culvert connects (Table 16.6); the registers of R437 return to reset. -/
def warmPolder (q : PolderId) (s : State) : State :=
  let s := s.unprepare q
  let s := match s.polders[q].load with | some j => s.wipe q j.target | none => s
  s.onPolder q fun P =>
    { P with
      load := none, waiting := [], switching := [], swPend := false,
      stat := { P.stat with hbSeen := false }, ntcCfg := PlNtcCfg.reset,
      loadStat := PlLoadStat.reset,
      scrub := { P.scrub with corr := 0#8, uncorr := 0#4 },
      culv := P.culv.map fun c => { c with switching := false },
      regions := P.regions.map fun R => { R with
        trial := match R.trial with | .unloading => .none | .loading => .none | t => t } }

/-- The blocks of the control die at a warm reset: every register that Table 16.8 does not keep returns to its reset
value (R424, R435, R437). -/
def warmBlocks (s : State) : State :=
  { s with
    store := { s.store with stat := { s.store.stat with storeUncorr := false } },
    qy := { s.qy with
      stat := QyStat.reset, mig := QyMigStat.reset,
      spoil := { s.qy.spoil with badWords := 0#4, flashFull := false } },
    sh := { s.sh with
      thr := ShThr.reset, cfg := ShCfg.reset, dwell := ShDwell.reset, nom := ShNom.reset,
      berm := { ShBerm.reset with vBerm := s.sh.berm.vBerm }, pwr := ShPwr.reset },
    bg := { Budget.reset with shipLim := s.bg.shipLim, feedLim := s.bg.feedLim, islandW := s.bg.islandW },
    kg := { s.kg with
      stat := KgStat.reset, cur := KgCur.reset, time := KgTime.reset, learn := KgLearn.reset,
      curNow := KgCur.reset, timeNow := KgTime.reset, learnNow := KgLearn.reset, jstat := KgJstat.reset,
      cfg := Vector.replicate 48 KgSlot.reset },
    lk := { Link.reset with clock := s.lk.clock, firstSync := s.lk.firstSync },
    tw := { TwoWire.reset with hAddr := { TwHAddr.reset with primary := s.tw.hAddr.primary }, started := s.tw.started },
    fz := { s.fz with
      wdata := 0#32, cmdStat := FzCmdStat.reset, rawData := 0#32, raddr := 0#9,
      scrub := FzScrub.reset,
      job := s.fz.job.map fun j => { j with next := [], command := false } },
    fl := { s.fl with
      stat := { s.fl.stat with refused := false, verifyFail := false, cut := false, settingsReset := false },
      updCfg := FlUpdCfg.reset, updLen := FlUpdLen.reset },
    sysq := State.reset.sysq }

/-- A warm reset of a code starts (R424). Queues 0 to 191 keep their entries and counts; their configuration returns to
reset, and no fence is left. -/
def warmStart (code : Nat) (s : State) : State :=
  if !s.warmable then s
  else
    let s := (List.finRange 4).foldl (fun (s : State) q => s.warmPolder q) s.flashCut
    let s := s.warmBlocks.linkStart.coresHeld
    let s := s.onAllPorts fun n s =>
      let p := s.ports[n].setFences []
      let q := Queue.init (roleFor n (s.cls n)) true
      s.setPort n { p with
        attachSeen := false,
        q := { q with entries := p.q.entries, rd := p.q.rd, wr := p.q.wr },
        stg := Staging.init }
    let c := s.sys.rstCause
    { s with sys := { s.sys with
        mode := .warm, req := .none, supKicked := false,
        start := { s.sys.start with phase := 8#4 },
        rstCause := { c with
          last := BitVec.ofNat 4 code, seen := c.seen ||| (1#8 <<< (code - 1)), warmCnt := satInc c.warmCnt } } }

/-- The serving region of a port resumes (R425, R427). A port that is parked has none. -/
def resumePort (n : PortId) (s : State) : State :=
  let q := polderOf n
  if s.ports[n].pfault.oos ∨ (s.polders[q].regionAt (posOf n)).st ≠ .serving then s
  else
    let r := s.polders[q].culv[posOf n].region
    let s := s.onPolder q fun P => P.onRegion r.toNat fun R => { R with isolated := false }
    let e := { s.env n with regionUp := true }
    let p := { s.ports[n] with place := { s.ports[n].place with region := r } }.resume e (s.tidAt n)
    ((s.setPort n (s.checkpointed n p)).applyClass n).gaugeFollow n

/-- The device goes on in a mode, with the phase that SYS_START shows. -/
def goOn (m : DevMode) (phase : BitVec 4) (s : State) : State :=
  { s with sys := { s.sys with mode := m, start := { s.sys.start with phase := phase } } }

/-- A warm reset is released: the island and the holds stay what they were; else the roles start again as the stage
allows, the settings are restored, and a worker is on its island budget (R425). An update between ARMED and CONFIRMED
ends with 0x13 (R457). At S6 the cores stop again until it is left (log entry 227). -/
def warmRelease (s : State) : State :=
  if s.sys.mode ≠ .warm then s
  else if s.sys.stat.island then (s.romCore.goOn .island 7#4).onAllPorts resumePort
  else if s.fz.stat.provHold || s.fl.stat.noImage then
    ((s.romCore.goOn .provHold 6#4).onAllPorts resumePort).leaseless
  else if s.sh.stat.stage = 6#3 then
    let s := (s.cacheFill.seatRoles.goOn .holdDown 8#4).onAllPorts resumePort
    s.parkAll.leaseless
  else
    let s := ((s.cacheFill.seatRoles.goOn .run 5#4).settingsRestore false).onAllPorts resumePort
    let s := (s.stageCores s.sh.stat.stage.toNat).leaseless
    if s.cutUpdate then s.revert 0x13#5 else s

/-- PIN_RESET: RST_N has been low for `ns` nanoseconds: ignored below 1 µs, taken from 2 µs on, and either in between
(R418, log entry 49). In SHELF it is the exit from it (R387). -/
def pinReset (ns : Nat) (s : State) : State :=
  let k := s.fresh
  let taken := decide (2000 ≤ ns) || (decide (1000 ≤ ns) && Config.pinTaken k)
  let s : State := { s with fresh := k + 1 }
  if !taken then s
  else
    let s := if s.sys.mode = .shelf then s.shelfExit else s.warmStart 3
    { s with sys := { s.sys with rstN := false } }

/-- PIN_RELEASE: the rising edge of RST_N after a PIN reset. -/
def pinRelease (s : State) : State :=
  if s.sys.rstN then s else { s with sys := { s.sys with rstN := true } }.warmRelease

/-- SYS_RESET_START: a SYS or LNK reset that a write has commanded starts (R418). -/
def sysResetStart (s : State) : State :=
  match s.sys.req with
  | .none => s
  | .sys => s.warmStart 4
  | .lnk => s.warmStart 5

/-- SYS_RESET_RELEASE: 100 µs after its start, unless RST_N holds the device. -/
def sysResetRelease (s : State) : State := if s.sys.rstN then s.warmRelease else s

-- PLD (R417, R427)

/-- A PLD of a polder starts: its regions are isolated, and its class-B and class-C sluices hold. -/
def pldStart (q : PolderId) (s : State) : State :=
  if !(s.controlUp || s.sys.mode = .warm || s.sys.mode = .holdDown) || !s.polders[q].die || s.polders[q].pld then s
  else
    let s := (s.holdLower q).onPolder q fun P => { P with pld := true }
    { s with sys := { s.sys with rstCause := { s.sys.rstCause with pldSeen := s.sys.rstCause.pldSeen ||| (1#4 <<< q.val) } } }

/-- PLD_END: the regions resume, and the ports that held for the PLD make a Hard Reset. A port in migration is left to
it (Table 16.6). -/
def pldEnd (q : PolderId) (s : State) : State :=
  if !s.polders[q].pld then s
  else
    let s := s.onPolder q fun P => { P with pld := false }
    if !s.controlUp then s
    else s.onPolderPorts q fun n s =>
      let s := if s.ports[n].place.migrating ∨ s.ports[n].place.prepared then s else s.resumePort n
      s.heldPortOn n

/-- A write of SYS_RST_CTRL: it acts with KEY 0xA5 alone. OP SYS comes from TW_H, from the supervisor role, or through a
REM_REQ as LNK; OP PLD from the supervisor role alone (R417, R418, R420). -/
def rstCtrl (src : Src) (w : Word) (s : State) : State :=
  if !s.controlUp || fld w 0 8 ≠ 0xA5#8 then s
  else match fld w 8 2 with
    | 1#2 =>
      let req : ResetReq := match src with
        | .host => .sys
        | .remote => .lnk
        | .core _ => if s.fromSup src then .sys else .none
      if s.sys.req = .none then { s with sys := { s.sys with req := req } } else s
    | 2#2 => if s.fromSup src then s.pldStart ⟨(fld w 10 2).toNat, (fld w 10 2).isLt⟩ else s
    | _ => s

-- The dead-battery island (R428 to R432)

/-- HARVEST_START: VB of a position 0 to 5 reaches 4.4 V; VDB is driven when at least one copy of HARVEST_EN reads 1, and
the circuits are not turned off (R428). -/
def harvestStart (n : PortId) (s : State) : State :=
  if (s.sys.mode = .por ∨ s.sys.mode = .off) ∧ (posOf n).val ≤ 5 ∧ !s.sys.harvestOff ∧ s.fz.harvestSensed then
    { s with sys := { s.sys with mode := .harvest } }
  else s

/-- ISLAND_RELEASE: the island senses and checks the fuses, and core 12 serves the class-A ports of positions 0 to 5 as
Sinks from the emergency template (R428 to R431). The straps are those of an end of POR. -/
def islandRelease (role : BitVec 2) (addr : BitVec 3) (deputy : Bool) (vddioMv : Nat) (up : List (Nat × BitVec 44))
    (vb : List (PortId × Nat)) (tLife : Nat) (vaoLost : Bool) (s : State) : State :=
  if s.sys.mode ≠ .harvest then s
  else
    let s := (s.recordStart 7 vaoLost).sampleStraps role addr deputy
    let s := if vaoLost then { s with sh := { s.sh with sup := ShSup.reset } } else s
    let s := if 1620 ≤ vddioMv then s.vddioGood vddioMv else s
    let (fz, out) := Fuses.start up s.fz
    let s := { s with fz := fz }
    match out with
    | .stay _ => { s with sys := { s.sys with mode := .stayReset } }.startDone 1#4 0 0
    | _ =>
      if !s.fz.harvestEn then { s.lost with sys := { s.lost.sys with mode := .off, harvestOff := true } }
      else
        let s := ((s.fuseValues.senseVb vb).classDefaults).spoilStart
        let s := (List.finRange 4).foldl (fun (s : State) q =>
          (s.onPolder q fun P => { P with die := true }).loadCommons q 15#4 0#16 (romSlot true).rows false true) s
        let s : State := { s.coresHeld.romCore with
          sys := { s.sys with mode := .island, stat := { s.sys.stat with island := true } } }
        let s := s.onAllPorts fun n s =>
          if 5 < (posOf n).val then s
          else if s.isSpoiled 1#4 (regionId (polderOf n) (posOf n).val) then s
          else if s.cls n = .a ∧ s.usable 12 then
            (s.setPort n { s.ports[n] with islandSink := true }).romPort n
          else s.romRegion (polderOf n) ⟨(posOf n).val, by have := (posOf n).isLt; omega⟩ .ready
        let s : State := { s with tw := { s.tw with started := true } }
        s.linkStart.startDone 7#4 tLife 0

/-- A served port moves to the template that MAP names by a planned migration to a free spare, and is a port of its own
type again (R432). -/
def handPort (n : PortId) (s : State) : State :=
  let q := polderOf n
  let P := s.polders[q]
  if !s.ports[n].islandSink then s
  else match s.freeSpare q with
    | none => s
    | some r =>
      let s := s.planHop n r P.tplMap[posOf n]
      if s.polders[q].culv[posOf n].region.toNat = r.val then s.setPort n { s.ports[n] with islandSink := false } else s

/-- Core 14 takes the lifeline image and role, and core 12 becomes its standby (R432). -/
def handCores (s : State) : State :=
  if s.inService 14 && s.cores[14].role.role = 14#4 && s.inService 12 && s.cores[12].role.role = 12#4 then
    ((s.seat 14 12#4 CCfg.reset).seat 12 14#4 CCfg.reset).coreMap
  else s

/-- The record of the handover: a start that is no POR. -/
def recordHandover (s : State) : State :=
  let c := s.sys.rstCause
  { s with sys := { s.sys with rstCause := { c with last := 8#4, seen := c.seen ||| 0x80#8 } } }

/-- DB_HANDOVER: VDDA and VDDC become good while the island runs; VDDIO has its level by then. The rest of the device
starts without POR, the served ports keep their contracts, and the harvest circuits turn off (R432). -/
def dbHandover (vddioMv : Nat) (jedec : Option (BitVec 24)) (vb : List (PortId × Nat)) (tLife tAll : Nat) (s : State) : State :=
  if s.sys.mode ≠ .island ∨ vddioMv < 1620 then s
  else
    let s := s.vddioGood vddioMv
    let s := s.recordHandover.senseVb (vb.filter fun x => decide (5 < (posOf x.1).val))
    let s : State := { s with sys := { s.sys with stat := { s.sys.stat with island := false }, harvestOff := false } }
    let s := (s.flashRow jedec).spoilStart
    if s.fz.stat.provHold || s.fl.stat.noImage then s.enterHold tLife tAll
    else s.coresHeld.seatRoles.handCores.startUp tLife tAll fun cl s =>
      s.onAllPorts fun n s => if s.cls n = cl then s.handPort n else s

/-- ISLAND_POWER_DOWN: every VB of positions 0 to 5 stays below 3.67 V for 10 ms. The island powers down, and circuits that
the boot ROM has turned off may start again (R428, R432). -/
def islandPowerDown (s : State) : State :=
  match s.sys.mode with
  | .island | .harvest => { s.lost with sys := { s.lost.sys with mode := .off, harvestOff := false } }
  | .por | .off => { s with sys := { s.sys with harvestOff := false } }
  | _ => s

end State

end Sys2Proof.Machine
end

