-- ==== Sys2Proof/Machine/Regs.lean ====
section
/-! DEFINITION. The register map: what a read of a register returns and what a write does, by its source
(spec/18_register_map.md R461 to R476, spec/00_scope.md R11 to R14); the accesses made for the host through TW_HACC,
the transactions that core 13 serves, the remote accesses, and IN and OUT. -/

namespace Sys2Proof.Machine

namespace State

-- SYS_

/-- SYS_PEVT[i] (R476). -/
def pevtWord (s : State) (i : Nat) : Word :=
  (List.range 32).foldl (fun (w : Word) j =>
    if h : 32 * i + j < 192 then w ||| putB j ((s.ports[32 * i + j]).evt &&& (s.ports[32 * i + j]).evtEn ≠ 0#32) else w) 0#32

/-- SYS_TPL[t] (Table 8.18). -/
def tplWord (s : State) (t : SlotId) : Word :=
  let x := s.store.slots[t]
  putF 0 x.st.code ||| putB 2 x.common ||| putF 4 x.refs ||| putF 12 x.srcIdx ||| putF 16 x.tid

/-- A read of the SYS_ block (Tables 16.2, 18.4 and 18.5). -/
def readSys (s : State) (a : Nat) : Word :=
  if h : 0x60 ≤ a ∧ a < 0x70 then s.tplWord ⟨a - 0x60, by omega⟩
  else if 0x10 ≤ a ∧ a ≤ 0x15 then s.pevtWord (a - 0x10)
  else match a with
    | 0x00 => 0x2E5C0192#32
    | 0x01 => s.sys.rev.read
    | 0x02 => s.sys.serialLo
    | 0x03 => s.sys.serialHi
    | 0x04 => s.sys.stat.read
    | 0x05 => s.sys.temp.read
    | 0x08 => s.sys.rstCause.read
    | 0x0A => s.sys.start.read
    | 0x16 => (List.range 6).foldl (fun (w : Word) i => w ||| putB i (s.pevtWord i ≠ 0#32)) 0#32
    | 0x72 => s.store.stat.read s.store.writing.isSome (BitVec.ofNat 5 s.freeSlots)
    | _ => 0#32

/-- A write of SYS_TPL_CMD from the supervisor role (Table 8.18). -/
def tplCmd (w : Word) (s : State) : State :=
  let t : SlotId := ⟨(fld w 0 4).toNat, (fld w 0 4).isLt⟩
  match fld w 4 2 with
  | 1#2 => s.tplBegin t (bit w 6)
  | 2#2 => s.tplEnd t
  | 3#2 => s.tplFree t
  | _ => s

/-- A write of the SYS_ block. -/
def writeSys (src : Src) (a : Nat) (w : Word) (s : State) : State :=
  match a with
  | 0x08 => { s with sys := { s.sys with rstCause := s.sys.rstCause.write w } }
  | 0x09 => s.rstCtrl src w
  | 0x70 => if s.fromSup src then s.tplCmd w else s
  | 0x71 => if s.fromSup src then s.tplData w else s
  | 0x72 => { s with store := { s.store with stat := s.store.stat.write w } }
  | _ => s

-- KG_

/-- A read of the KG_ block (Tables 7.10 and 7.11). -/
def readKg (s : State) (a : Nat) : Word :=
  if h : 0x110 ≤ a ∧ a < 0x140 then (s.kg.cfg[a - 0x110]).read
  else match a with
    | 0x100 => s.kg.stat.read (BitVec.ofNat 6 (s.kg.slots.toList.filter fun x => x.state ≠ 0#2).length)
    | 0x101 => s.kg.cur.read
    | 0x102 => s.kg.time.read
    | 0x103 => s.kg.learn.read
    | 0x104 => s.kg.jstat.read (BitVec.ofNat 8 s.journalPending)
    | _ => 0#32

/-- A write of KG_CMD (Table 7.11). -/
def kgCmd (w : Word) (s : State) : State :=
  match fld w 6 3 with
  | 1#3 => s.kgCommit (fld w 0 6)
  | 2#3 => s.kgReset (fld w 0 6)
  | _ => s

/-- A write of the KG_ block. -/
def writeKg (a : Nat) (w : Word) (s : State) : State :=
  if h : 0x110 ≤ a ∧ a < 0x140 then s.kgSlotWrite ⟨a - 0x110, by omega⟩ w
  else match a with
    | 0x100 => { s with kg := { s.kg with stat := s.kg.stat.write w } }
    | 0x101 => { s with kg := { s.kg with cur := s.kg.cur.write w } }
    | 0x102 => { s with kg := { s.kg with time := s.kg.time.write w } }
    | 0x103 => { s with kg := { s.kg with learn := s.kg.learn.write w } }
    | 0x105 => s.kgCmd w
    | _ => s

-- BG_

/-- A read of the BG_ block: on a worker the allocator registers read their reset values (R196, Table 6.10). -/
def readBg (s : State) (a : Nat) : Word :=
  let g : Budget := if s.allocRegs then s.bg else Budget.reset
  if h : 0x1A0 ≤ a ∧ a < 0x1C0 then (g.feedLim[a - 0x1A0]).setWidth 32
  else if h : 0x1C0 ≤ a ∧ a < 0x1E0 then (g.feedCap[a - 0x1C0]).setWidth 32
  else if h : 0x1E0 ≤ a ∧ a < 0x200 then (g.feedGrant[a - 0x1E0]).setWidth 32
  else match a with
    | 0x180 => s.bgStatWord
    | 0x181 => g.cfg.read
    | 0x182 => g.shipLim.setWidth 32
    | 0x183 => g.floor.read
    | 0x184 => s.bg.islandW.setWidth 32
    | 0x185 => s.bg.lease.read
    | 0x186 => s.bg.latA.read
    | 0x187 => s.bg.latB.read
    | 0x188 => s.bg.latC.read
    | _ => 0#32

/-- A write of BG_SHIP_LIM or BG_FEED_LIM through TW_H of the deputy ends LIM_INHERITED (Table 6.6). -/
def limWritten (src : Src) (s : State) : State :=
  if src = .host then { s with bg := { s.bg with stat := { s.bg.stat with limInherited := false } } } else s

/-- A write of an allocator register. -/
def writeAlloc (src : Src) (a : Nat) (w : Word) (s : State) : State :=
  if h : 0x1A0 ≤ a ∧ a < 0x1C0 then
    limWritten src { s with bg := { s.bg with feedLim := s.bg.feedLim.set (a - 0x1A0) (fld w 0 20) } }
  else if h : 0x1C0 ≤ a ∧ a < 0x1E0 then
    { s with bg := { s.bg with feedCap := s.bg.feedCap.set (a - 0x1C0) (fld w 0 20) } }
  else match a with
    | 0x181 => { s with bg := { s.bg with cfg := s.bg.cfg.write w } }
    | 0x182 => limWritten src { s with bg := { s.bg with shipLim := fld w 0 20 } }
    | 0x183 => { s with bg := { s.bg with floor := s.bg.floor.write w } }
    | _ => s

/-- A write of the BG_ block. -/
def writeBg (src : Src) (a : Nat) (w : Word) (s : State) : State :=
  match a with
  | 0x180 => { s with bg := { s.bg with stat := s.bg.stat.write w } }
  | 0x186 => if bit w 27 then s.latClear .a else s
  | 0x187 => if bit w 27 then s.latClear .b else s
  | 0x188 => if bit w 27 then s.latClear .c else s
  | _ => if s.allocRegs then s.writeAlloc src a w else s

-- QY_

/-- QY_QMAP[i] (Table 9.15). -/
def qmapWord (s : State) (i : Nat) : Word :=
  (List.range 4).foldl (fun (w : Word) j =>
    w ||| putF (8 * j) (match (s.qy.qmap[4 * i + j]?).join with | some x => BitVec.ofNat 8 x.val | none => 0xFF#8)) 0#32

/-- A read of the QY_ block (Table 9.15). -/
def readQy (s : State) (a : Nat) : Word :=
  match a with
  | 0x200 => s.qyStatWord
  | 0x201 =>
    ((List.finRange 4).foldl (fun (w : Word) q => w ||| putF (4 * q.val) (BitVec.ofNat 4 (s.freeCount q))) 0#32) |||
    putF 16 (BitVec.ofNat 4 ((List.finRange 12).filter fun i => s.queueFree i).length) ||| putF 20 s.qy.freeRows
  | 0x202 => s.qy.core.read
  | 0x204 => s.qy.mig.read
  | 0x205 => s.qy.spoil.read (BitVec.ofNat 8 s.qy.held.length)
  | 0x206 => s.qy.last.read
  | 0x207 => s.qmapWord 0
  | 0x208 => s.qmapWord 1
  | 0x209 => s.qmapWord 2
  | 0x20A => (List.finRange 16).foldl (fun (w : Word) k => w ||| putB k.val (s.cores[k].stat.state = 5#3)) 0#32
  | _ => 0#32

/-- A write of the QY_ block. -/
def writeQy (src : Src) (a : Nat) (w : Word) (s : State) : State :=
  match a with
  | 0x200 => { s with qy := { s.qy with stat := s.qy.stat.write w } }
  | 0x203 => if s.fromSup src && bit w 17 then s.qyMigWrite w else s
  | 0x204 => { s with qy := { s.qy with mig := s.qy.mig.write w } }
  | 0x205 => { s with qy := { s.qy with spoil := s.qy.spoil.write w } }
  | _ => s

-- REM_

/-- A read of the REM_ block (Table 12.9). -/
def readRem (s : State) (a : Nat) : Word :=
  match a with
  | 0x240 => s.lk.remSel.read
  | 0x241 => s.lk.remAddr.read
  | 0x242 => s.lk.remData
  | 0x243 => s.lk.remStat.read
  | _ => 0#32

/-- A write of the REM_ block. -/
def writeRem (a : Nat) (w : Word) (s : State) : State :=
  match a with
  | 0x240 => { s with lk := { s.lk with remSel := s.lk.remSel.write w } }
  | 0x241 => s.remAddrWrite w
  | 0x242 => { s with lk := { s.lk with remData := w } }
  | 0x243 => { s with lk := { s.lk with remStat := s.lk.remStat.write w } }
  | _ => s

-- SH_

/-- SH_PWR.STATE: LIFELINE at S5, DOZE while every core in service waits, else RUN (Table 14.7, R386). -/
def pwrState (s : State) : BitVec 3 :=
  if s.sh.stat.stage = 5#3 then 3#3
  else if (List.finRange 16).all fun k => !s.inService k || s.cores[k].stat.state = 2#3 then 1#3
  else 0#3

/-- A read of the SH_ block (Table 14.7). -/
def readSh (s : State) (a : Nat) : Word :=
  match a with
  | 0x280 => s.sh.stat.read
  | 0x281 => s.sh.thr.read
  | 0x282 => s.sh.cfg.read
  | 0x283 => s.sh.dwell.read
  | 0x284 => s.sh.nom.read
  | 0x285 => s.sh.berm.read
  | 0x286 => s.sh.mon.read
  | 0x287 => (List.finRange 4).foldl (fun (w : Word) q => w ||| putF (7 * q.val) s.sh.pfeed[q]) 0#32
  | 0x288 => s.sh.pwr.read s.pwrState
  | 0x289 => s.sh.sup.read
  | _ => 0#32

/-- A write of the SH_ block. -/
def writeSh (a : Nat) (w : Word) (s : State) : State :=
  match a with
  | 0x281 => { s with sh := s.sh.writeThr w }
  | 0x282 => { s with sh := s.sh.writeCfg w }
  | 0x283 => { s with sh := { s.sh with dwell := s.sh.dwell.write w } }
  | 0x284 => { s with sh := { s.sh with nom := s.sh.nom.write w } }
  | 0x285 => { s with sh := { s.sh with berm := s.sh.berm.write w } }
  | 0x288 =>
    let s : State := { s with sh := { s.sh with pwr := s.sh.pwr.write w } }
    if bit w 3 then s.shelfReq else s
  | 0x289 => { s with sh := { s.sh with sup := s.sh.sup.write w } }
  | _ => s

-- FZ_

/-- A read of the FZ_ block (Table 15.7). -/
def readFz (s : State) (a : Nat) : Word :=
  let f := s.fz
  match a with
  | 0x2C0 => f.stat.read
  | 0x2C1 => f.readReg
  | 0x2C3 => f.wdata
  | 0x2C4 => f.cmdStat.read
  | 0x2C5 => f.rawData
  | 0x2C6 => f.raddr.setWidth 32
  | 0x2C7 => f.readData
  | 0x2C8 => (f.rstatOf f.raddr.toNat).setWidth 32
  | 0x2C9 => f.scrub.read
  | 0x2CA => f.spare.read
  | _ => 0#32

/-- A write of FZ_CMD with GO (Table 15.7). -/
def fzCmd (src : Src) (w : Word) (s : State) : State :=
  match fld w 9 3 with
  | 1#3 => s.fuseProgram src (fld w 0 9)
  | 2#3 => s.fuseLock src (fld w 0 9) []
  | 3#3 => s.fuseRead src (fld w 0 9) 0#44
  | 4#3 => s.fuseRead src (fld w 0 9) 0#44
  | 5#3 => s.fuseRevoke src (fld w 0 9)
  | _ => s

/-- A write of the FZ_ block. -/
def writeFz (src : Src) (a : Nat) (w : Word) (s : State) : State :=
  match a with
  | 0x2C0 => s.onFuses fun f => { f with stat := f.stat.write w }
  | 0x2C2 => if bit w 12 then s.fzCmd src w else s
  | 0x2C3 => s.onFuses fun f => { f with wdata := w }
  | 0x2C4 => s.onFuses fun f => { f with cmdStat := f.cmdStat.write w }
  | 0x2C6 => s.onFuses fun f => { f with raddr := fld w 0 9 }
  | 0x2C9 => if bit w 25 then s.onFuses fun f => { f with scrub := { f.scrub with weakCnt := 0#8, wcorrCnt := 0#8 } } else s
  | _ => s

-- C_

/-- A read of the C_ registers of a core (Tables 10.19, 10.20 and 11.9). -/
def readCore (s : State) (k : CoreId) (off : Nat) : Word :=
  let c := s.cores[k]
  match off with
  | 0 => c.cfg.read
  | 1 => c.trap.read
  | 2 => c.role.read
  | 3 => c.stat.read
  | 4 => c.dwin.read
  | 5 => c.ecc.read
  | _ => 0#32

/-- A write of the C_ registers of a core: C_DWIN from its own OUT alone (R337). -/
def writeCore (src : Src) (k : CoreId) (off : Nat) (w : Word) (s : State) : State :=
  match off with
  | 0 => s.onCore k fun c => { c with cfg := c.cfg.write w }
  | 1 => s.onCore k fun c => if bit w 28 then { c with trap := c.trap.write w }.cntClr else { c with trap := c.trap.write w }
  | 3 => s.onCore k fun c => { c with stat := c.stat.write w }
  | 4 => if src = .core k then s.onCore k fun c => { c with dwin := c.dwin.write w } else s
  | 5 => s.onCore k fun c => if bit w 26 then { c with ecc := c.ecc.write w }.eccClr else { c with ecc := c.ecc.write w }
  | _ => s

-- PL_

/-- A read of the PL_ registers of a polder (Tables 18.6 and 8.14). -/
def readPl (s : State) (q : PolderId) (off : Nat) : Word :=
  let P := s.polders[q]
  if h : 0x10 ≤ off ∧ off < 0x40 then (P.culv[off - 0x10]).read
  else match off with
    | 0x0 => P.stat.read P.fallback
    | 0x1 => P.ntcCfg.read
    | 0x2 => P.temp.read
    | 0x3 => P.osc.read
    | 0x9 => P.loadStat.read
    | 0xA => P.scrub.read
    | 0xB => P.readCommon
    | 0xC => P.readRstate 0
    | 0xD => P.readRstate 1
    | 0xE => P.readRstate 2
    | 0xF => P.readRstate 3
    | _ => 0#32

/-- A write of the PL_ registers of a polder. -/
def writePl (src : Src) (q : PolderId) (off : Nat) (w : Word) (s : State) : State :=
  match off with
  | 0x0 => s.onPolder q fun P => { P with stat := P.stat.write w }
  | 0x1 => s.onPolder q fun P => { P with ntcCfg := P.ntcCfg.write w }
  | 0x8 => if s.fromSup src && bit w 18 then s.plLoadWrite q w else s
  | 0x9 => s.onPolder q fun P => { P with loadStat := P.loadStat.write w }
  | 0xA => if bit w 28 then s.onPolder q fun P => { P with scrub := { P.scrub with corr := 0#8, uncorr := 0#4 } } else s
  | 0xB => if bit w 4 then s.commonSwitch q else s
  | _ => s

-- Q_

/-- The queues whose ROLE software may write (R330). -/
def roleWritable (x : Nat) : Bool :=
  (decide (216 ≤ x) && decide (x ≤ 232)) || x = 234 || x = 237 || (decide (239 ≤ x) && decide (x ≤ 243))

/-- A read of Q_CFG or Q_PTR; those of queues 244 to 255 read 0 (R330, Table 11.10). -/
def readQueue (s : State) (x : QueueId) (ptr : Bool) : Word :=
  if 244 ≤ x.val then 0#32 else if ptr then (s.queueAt x).readPtr else (s.queueAt x).readCfg

/-- A write of Q_PTR: a commit from a core; from the host, a HOST_WORD into a mailbox (R329, R331). -/
def writePtr (src : Src) (x : QueueId) (w : Word) (s : State) : State :=
  match src with
  | .core k => s.commit k x (fld w 0 16)
  | _ =>
    if h : 192 ≤ x.val ∧ x.val ≤ 207 then s.pushSys ⟨x.val - 192, by omega⟩ [(3#6, w.setWidth 36)] else s

/-- A write of Q_CFG or Q_PTR. -/
def writeQueue (src : Src) (x : QueueId) (ptr : Bool) (w : Word) (s : State) : State :=
  if 244 ≤ x.val then s
  else if ptr then s.writePtr src x w
  else s.onQueue x fun q => q.writeCfg (roleWritable x.val) w

-- LK_

/-- A read of the LK_ block, by its offset from 0x0E00 (Tables 12.7 and 12.8). -/
def readLk (s : State) (off : Nat) : Word :=
  if h : off < 0x40 then
    let p := s.lk.ports[off / 16]'(by omega)
    match off % 16 with
    | 0 => p.ctrl.read
    | 1 => p.stat.read
    | 2 => p.err.read
    | _ => 0#32
  else match off with
    | 0x40 => s.lk.cfg.read
    | 0x41 => s.lkTreeWord
    | 0x42 => s.lk.time.read
    | _ => 0#32

/-- A write of LK_CTRL (R344). On a standalone device the registers of the link ports read their reset values, so the
write does nothing (R339). -/
def writeLkCtrl (i : LinkId) (w : Word) (s : State) : State :=
  if s.sys.stat.role = 0#2 then s
  else
    let s := s.onLink i fun p => { p with ctrl := p.ctrl.write w }
    let s := if !bit w 0 then s.linkDisable i else s
    if bit w 2 then s.retrain i else s

/-- A write of the LK_ block. -/
def writeLk (off : Nat) (w : Word) (s : State) : State :=
  if h : off < 0x40 then
    let i : LinkId := ⟨off / 16, by omega⟩
    match off % 16 with
    | 0 => s.writeLkCtrl i w
    | 1 => s.onLink i fun p => { p with stat := p.stat.write w }
    | 2 => if bit w 28 then s.onLink i fun p => { p with err := LkErr.reset } else s
    | _ => s
  else match off with
    | 0x40 => { s with lk := { s.lk with cfg := s.lk.cfg.write w } }
    | 0x41 =>
      let s := s.onTree fun t => t.write w
      if bit w 17 then s.reclaim else s
    | 0x42 => { s with lk := { s.lk with time := s.lk.time.write w } }
    | _ => s

-- TW_

/-- A read of the TW_ block (Table 13.7). -/
def readTw (s : State) (a : Nat) : Word :=
  let t := s.tw
  match a with
  | 0xE80 => t.hAddr.read
  | 0xE81 => t.hSec
  | 0xE82 => t.hCfg.read
  | 0xE83 => t.hTim.read
  | 0xE84 => t.hStat.read (BitVec.ofNat 8 t.alerts.length)
  | 0xE86 => t.haccData
  | 0xE88 => t.mCfg.read
  | 0xE89 => t.mTim.read
  | 0xE8A => t.mStat.read
  | _ => 0#32

/-- A write of the TW_ block but for TW_HACC_ADDR. -/
def writeTw (src : Src) (a : Nat) (w : Word) (s : State) : State :=
  match a with
  | 0xE80 => s.onTw fun t => { t with hAddr := t.hAddr.write w }
  | 0xE81 => s.onTw fun t => { t with hSec := w }
  | 0xE82 => s.onTw fun t => { t with hCfg := t.hCfg.write w }
  | 0xE83 => s.onTw fun t => { t with hTim := t.hTim.write w }
  | 0xE84 => s.onTw fun t => { t with hStat := t.hStat.write w }
  | 0xE86 => if s.fromSup src then s.onTw fun t => { t with haccData := w } else s
  | 0xE88 => s.onTw fun t => { t with mCfg := t.mCfg.write w }
  | 0xE89 => s.onTw fun t => { t with mTim := t.mTim.write w }
  | 0xE8A => s.onTw fun t => { t with mStat := t.mStat.write w }
  | _ => s

-- FL_

/-- A read of the FL_ block (Table 17.11). -/
def readFl (s : State) (a : Nat) : Word :=
  let f := s.fl
  match a with
  | 0xEC0 => f.stat.read
  | 0xEC1 => f.id.setWidth 32
  | 0xEC2 => f.ver
  | 0xEC3 => f.verOther
  | 0xEC5 => f.updCfg.read
  | 0xEC6 => f.updLen.read
  | 0xEC7 => f.upd.read
  | _ => 0#32

/-- A write of FL_UPD with GO on a device that drives the update (Table 17.11). -/
def flUpd (w : Word) (s : State) : State :=
  match fld w 0 3 with
  | 1#3 => s.updStageBegin
  | 2#3 => s.updStageEnd
  | 3#3 => s.updArm
  | 4#3 => s.updAbort
  | 5#3 => s.updRevert
  | _ => s

/-- A write of the FL_ block; one of FL_UPD on a worker has no effect and sets REFUSED (R449). -/
def writeFl (a : Nat) (w : Word) (s : State) : State :=
  if 0xEC8 ≤ a ∧ a ≤ 0xECF then s.stgData w
  else match a with
    | 0xEC0 => s.onFlash fun f => { f with stat := f.stat.write w }
    | 0xEC4 => if !s.allocates then s.flRefuse else if bit w 3 then s.flUpd w else s
    | 0xEC5 => s.onFlash fun f => { f with updCfg := f.updCfg.write w }
    | 0xEC6 => s.onFlash fun f => { f with updLen := f.updLen.write w }
    | _ => s

-- P_

/-- P_STAT.SERVE_ROLE: 0xF while the role is suspended at S5 or the port is parked (Table 18.9). -/
def serveRole (s : State) (n : PortId) : BitVec 4 :=
  let p := s.ports[n]
  if p.pfault.oos || (decide (p.q.role ≤ 11#5) && decide (5#3 ≤ s.sh.stat.stage)) then 15#4 else p.q.role.setWidth 4

/-- P_STAT (Table 18.9). -/
def pStatWord (s : State) (n : PortId) : Word :=
  let p := s.ports[n]
  let cl := s.cls n
  putB 0 p.attached ||| putB 1 (p.tc.state = .attachedSrc) ||| putB 2 (p.fe.path ≠ .none) ||| putB 3 (s.holdLine cl) |||
  putB 4 (s.polders[polderOf n].stat.hbLost && cl ≠ .a) ||| putB 5 p.pfault.oos ||| putB 6 (p.evt &&& p.evtEn ≠ 0#32) |||
  putF 8 (s.serveRole n) ||| putF 12 cl.code ||| putF 16 p.power

/-- A read of the P_ registers of a port (Table 18.7). -/
def readPort (s : State) (n : PortId) (off : Nat) : Word :=
  let p := s.ports[n]
  match off with
  | 0x00 => s.pcfg[n].read
  | 0x01 => putB 1 p.stg.pending
  | 0x02 => s.pStatWord n
  | 0x03 => p.evt
  | 0x04 => p.evtEn
  | 0x05 => p.cc.read
  | 0x06 => p.tc.read
  | 0x07 => p.pdcfg.read
  | 0x08 => p.pdstat.read
  | 0x09 => p.srccap.read
  | 0x0A => p.contract.read
  | 0x0B => p.partner.read
  | 0x0C => p.vset.read (BitVec.ofNat 12 (p.rg.moving / 20))
  | 0x0D => p.ilim.read
  | 0x0E => p.trip.read
  | 0x0F => p.sluice.read (p.fe.path = .source) (p.fe.path = .sink) (!p.fe.cond.isEmpty) (p.holdSrc (s.env n))
              (p.fe.dis ≠ .off)
  | 0x10 => p.vbus.read
  | 0x11 => p.ibus.read
  | 0x12 => p.energyJ
  | 0x13 => p.alt.read
  | 0x14 => p.kgSoc.read
  | 0x15 => p.kgCap.read
  | 0x16 => p.place.read
  | 0x17 => p.pfault.read
  | _ => 0#32

/-- A write of P_CFG (Table 6.9). -/
def writePCfg (n : PortId) (w : Word) (s : State) : State :=
  if s.pRegUp n then ({ s with pcfg := s.pcfg.set n (s.pcfg[n].write w) } : State).classWrite n (fld w 0 2) else s

/-- A write of P_CTRL: TX_GO from the serving core, which the region acknowledges with a command of its own (R472). -/
def writePCtrl (src : Src) (n : PortId) (w : Word) (s : State) : State :=
  match src with
  | .core k => if bit w 0 then s.onTxGo k n fun _ p => { p with stg := { p.stg with pending := true } } else s
  | _ => s

/-- A write of the P_ registers of a port. -/
def writePort (src : Src) (n : PortId) (off : Nat) (w : Word) (s : State) : State :=
  let core : Bool := match src with | .core _ => true | _ => false
  match off with
  | 0x00 => s.writePCfg n w
  | 0x01 => s.writePCtrl src n w
  | 0x03 => s.onPReg n fun _ p => { p with evt := p.evt &&& ~~~w }
  | 0x04 => s.onPReg n fun _ p => { p with evtEn := w }
  | 0x05 => s.onPReg n fun e p => p.writeCc e w
  | 0x07 => s.onPReg n fun _ p => p.writePdcfg w
  | 0x09 => (s.onPReg n fun _ p => { p with srccap := p.srccap.write w }).onOffer n
  | 0x0B => if core then s.onPReg n fun _ p => { p with partner := p.partner.write w } else s
  | 0x0C => s.onPReg n fun _ p => { p with vset := p.vset.write w }
  | 0x0D => s.onPReg n fun _ p => p.writeIlim w
  | 0x0E => s.onPReg n fun _ p => { p with trip := p.trip.write w }
  | 0x0F => s.onPReg n fun _ p => p.writeSluice core w
  | 0x13 => s.onPReg n fun _ p => p.writeAlt w
  | 0x16 => if bit w 25 then s.onPReg n fun _ p => { p with place := { p.place with dropped := 0#8 } } else s
  | 0x17 =>
    let s := s.onPReg n fun _ p => { p with pfault := p.pfault.write w }
    if bit w 13 && s.pRegUp n then s.retryPark n else s
  | _ => s

-- The map (Table 18.1)

/-- Where a register number leads (R461, R462). -/
inductive RegAt where
  | sys (a : Nat) | kg (a : Nat) | bg (a : Nat) | qy (a : Nat) | rem (a : Nat) | sh (a : Nat) | fz (a : Nat)
  | core (k : CoreId) (off : Nat)
  | pl (q : PolderId) (off : Nat)
  | queue (x : QueueId) (ptr : Bool)
  | lk (off : Nat) | tw (a : Nat) | fl (a : Nat)
  | port (n : PortId) (off : Nat)
  | unassigned
deriving DecidableEq, Repr

/-- The block of a register number (Table 18.1). -/
def regAt (addr : BitVec 16) : RegAt :=
  let a := addr.toNat
  if a < 0x100 then .sys a
  else if a < 0x180 then .kg a
  else if a < 0x200 then .bg a
  else if a < 0x240 then .qy a
  else if a < 0x280 then .rem a
  else if a < 0x2C0 then .sh a
  else if a < 0x300 then .fz a
  else if a < 0x400 then .unassigned
  else if h : a < 0x600 then .core ⟨(a - 0x400) / 0x20, by omega⟩ (a % 0x20)
  else if a < 0x800 then .unassigned
  else if h : a < 0x900 then .pl ⟨(a - 0x800) / 0x40, by omega⟩ (a % 0x40)
  else if a < 0xC00 then .unassigned
  else if h : a < 0xE00 then .queue ⟨(a - 0xC00) / 2, by omega⟩ (a % 2 = 1)
  else if a < 0xE80 then .lk (a - 0xE00)
  else if a < 0xEC0 then .tw a
  else if a < 0xF00 then .fl a
  else if a < 0x1000 then .unassigned
  else if h : a < 0x2800 then .port ⟨(a - 0x1000) / 0x20, by omega⟩ (a % 0x20)
  else .unassigned

/-- Whether a register is served: in the island the SYS_ registers and the P_ registers of positions 0 to 5 alone (R463);
without the control die none. -/
def served (s : State) : RegAt → Bool
  | .sys _ => s.controlUp
  | .port n _ => s.pRegUp n
  | .pl q _ => s.plRegUp q
  | .unassigned => false
  | _ => s.regsUp

/-- Whether an access to a register waits for the end of a PLD (Table 18.11). -/
def waits (s : State) (addr : BitVec 16) : Bool :=
  match regAt addr with
  | .port n _ => s.polders[polderOf n].pld
  | .pl q _ => s.polders[q].pld
  | _ => false

/-- The word a read of a register returns; a number that is not served reads 0 (R462, R463). -/
def readReg (s : State) (addr : BitVec 16) : Word :=
  let r := regAt addr
  if s.served r then
    match r with
    | .sys a => s.readSys a
    | .kg a => s.readKg a
    | .bg a => s.readBg a
    | .qy a => s.readQy a
    | .rem a => s.readRem a
    | .sh a => s.readSh a
    | .fz a => s.readFz a
    | .core k off => s.readCore k off
    | .pl q off => s.readPl q off
    | .queue x ptr => s.readQueue x ptr
    | .lk off => s.readLk off
    | .tw a => s.readTw a
    | .fl a => s.readFl a
    | .port n off => s.readPort n off
    | .unassigned => 0#32
  else 0#32

/-- A write of a register other than TW_HACC_ADDR, by its source; a number that is not served ignores it (R11 to R13,
R462 to R464). -/
def writeBase (src : Src) (addr : BitVec 16) (w : Word) (s : State) : State :=
  let r := regAt addr
  if s.served r then
    s.noted (match r with
      | .sys a => s.writeSys src a w
      | .kg a => s.writeKg a w
      | .bg a => s.writeBg src a w
      | .qy a => s.writeQy src a w
      | .rem a => s.writeRem a w
      | .sh a => s.writeSh a w
      | .fz a => s.writeFz src a w
      | .core k off => s.writeCore src k off w
      | .pl q off => s.writePl src q off w
      | .queue x ptr => s.writeQueue src x ptr w
      | .lk off => s.writeLk off w
      | .tw a => s.writeTw src a w
      | .fl a => s.writeFl a w
      | .port n off => s.writePort src n off w
      | .unassigned => s)
  else s

/-- An access made for the host through TW_HACC (R368, R382): a write of TW_HACC_DATA to the register, or a read into
it. -/
def hostAccess (addr : BitVec 16) (write : Bool) (s : State) : State :=
  if write then s.writeBase .host addr s.tw.haccData else s.onTw fun t => { t with haccData := s.readReg addr }

/-- A write of TW_HACC_ADDR: GO makes the access (Table 13.7). It takes effect only from the supervisor role. -/
def haccWrite (src : Src) (w : Word) (s : State) : State :=
  if s.regsUp && s.fromSup src && bit w 17 && !s.waits (fld w 0 16) then s.hostAccess (fld w 0 16) (bit w 16) else s

/-- A write of a register, by its source. -/
def writeReg (src : Src) (addr : BitVec 16) (w : Word) (s : State) : State :=
  if addr = 0xE85#16 then s.haccWrite src w else s.writeBase src addr w

-- IN and OUT

/-- IN (R292): the 32-bit value of a register, [35:32] clear. A core whose access waits for the end of a PLD stands still,
its watchdog with it (Table 18.11). -/
def coreIn (k : CoreId) (cond rd rs : BitVec 3) (s : State) : State :=
  s.runOut k .inp cond rd rs fun s =>
    let a := (s.cores[k]).ioAddr rs
    if s.waits a then s
    else
    let v := s.readReg a
    s.onCore k fun c => (c.setReg rd (v.setWidth 36)).done 2

/-- OUT (R292): rd[31:0] goes to a register; it waits as IN does. -/
def coreOut (k : CoreId) (cond rd rs : BitVec 3) (s : State) : State :=
  s.runOut k .out cond rd rs fun s =>
    let c := s.cores[k]
    if s.waits (c.ioAddr rs) then s
    else (s.onCore k fun c => c.done 1).writeReg (.core k) (c.ioAddr rs) (fld (c.reg rd) 0 32)

-- Transactions of the host (R371)

/-- Whether a core serves the transactions of TW_H: core 13 by its role; core 12 in the holds and in the island. -/
def twServer (s : State) : Bool :=
  if s.sys.mode = .run then s.roleRuns 13#5
  else (s.sys.mode = .provHold || s.sys.mode = .island) && s.inService 12

/-- The writes of a transaction, in register order (R369). -/
def applyWrites : BitVec 16 → List Word → State → State
  | _, [], s => s
  | a, v :: vs, s => applyWrites (a + 1#16) vs ((s.onTw fun t => { t with haccData := v }).hostAccess a true)

/-- The registers of a pointer form, read one after another (R466). -/
def readStaged : Nat → BitVec 16 → State → List Word × State
  | 0, _, s => ([], s)
  | n + 1, a, s =>
    let s := s.hostAccess a false
    let (vs, t) := readStaged n (a + 1#16) s
    (s.tw.haccData :: vs, t)

/-- The head group of queue 232 is served: a write is applied unless its sequence has been applied before, and a
pointer form is staged in queue 233 when no later transaction has reached the interface (R371, R372, Table 13.5). A group
that reaches a register of a polder in PLD waits at the head (Table 18.11). -/
def serveTransaction (s : State) : State :=
  match (s.sysq[(40 : Fin 64)]).head with
  | [] => s
  | hd :: rest =>
    let w := hd.payload
    let ptr : BitVec 16 := fld w 0 15 |>.setWidth 16
    let count := if bit w 16 then (fld w 17 4).toNat else rest.length
    if !s.twServer || (List.range count).any (fun i => s.waits (ptr + BitVec.ofNat 16 i)) then s
    else
      let seq : BitVec 12 := fld w 22 12
      let s := s.onSysq 40 Queue.commitHead
      if bit w 16 then
        let (vs, s) := readStaged (fld w 17 4).toNat ptr s
        if seq + 1#12 = s.tw.seq then
          let grp : List (BitVec 6 × W36) := (1#6, pay 0 (BitVec.ofNat 4 vs.length)) :: vs.map fun v => (2#6, v.setWidth 36)
          ((s.pushSys 41 grp).onSysq 41 Queue.commitHead).onTw fun t => { t with staged := some vs, stagedRead := false }
        else s
      else if s.tw.applied = some seq then s
      else applyWrites ptr (rest.map fun e => fld e.payload 0 32) (s.onTw fun t => { t with applied := some seq })

-- Remote accesses (R360)

/-- Whether the REM_REQ at the head of a receive queue waits for the end of a PLD (Table 18.11). -/
def remWaits (s : State) (i : LinkId) : Bool :=
  match s.headCell i true with
  | some c => c.typ = 0x10#8 && s.waits (BitVec.ofNat 16 (numAt 0 2 c.body))
  | none => false

/-- A REM_REQ is carried out by the link hardware with the effect of a TW_H access, and answered with REM_RSP. -/
def remReq (bs : List Byte) (s : State) : State :=
  let addr : BitVec 16 := BitVec.ofNat 16 (numAt 0 2 bs)
  let write := bs.getD 2 0#8 = 1#8
  let tag := bs.getD 7 0#8
  let v : Word := if write then 0#32 else s.readReg addr
  let s := if write then s.writeReg .remote addr (leWord (cut 3 4 bs)) else s
  s.sendTo true 0#6 0x11#8 ([tag, 0#8] ++ leBytes v)

end State

end Sys2Proof.Machine
end

