-- ==== Sys2Proof/Machine/ExecReg.lean ====
section
/-! DEFINITION. The meanings of the register accesses: writes without a row of their own, IN and OUT, and the accesses made for the
host and for a remote manager (spec/10_cenan_isa.md, spec/12_ndomund_link.md, spec/13_two_wire.md,
spec/18_register_map.md). -/

namespace Sys2Proof.Machine

/-- REGISTER_WRITE (R11): a write of `w` to register `addr` acts on its fields by their types (Table 0.5, R12, R13). -/
def execRegisterWrite (src : Src) (addr : BitVec 16) (w : Word) (s : State) : Host.Outcome State Fault Refusal :=
  .next (s.writeReg src addr w)

/-- IN (R292): Instruction IN reads an I/O register. -/
def execInp (k : CoreId) (cond : BitVec 3) (rd : BitVec 3) (rs : BitVec 3)
    (s : State) : Host.Outcome State Fault Refusal :=
  .next (s.coreIn k cond rd rs)

/-- OUT (R292): Instruction OUT writes an I/O register. -/
def execOutp (k : CoreId) (cond : BitVec 3) (rd : BitVec 3) (rs : BitVec 3)
    (s : State) : Host.Outcome State Fault Refusal :=
  .next (s.coreOut k cond rd rs)

/-- REM_REQ (R360): a REM_REQ at the head of the bulk receive queue of link port `i` is carried out by the link
hardware and answered with REM_RSP. -/
def execRemReq (i : LinkId) (s : State) : Host.Outcome State Fault Refusal :=
  .next (if s.remWaits i then s else s.onMsg i true 0x10#8 fun _ bs s => s.remReq bs)

/-- TW_H_TRANSACTION_SERVE (R371): Core 13 serves a transaction group from queue 232 and stages or applies it once. -/
def execTwHTransactionServe (s : State) : Host.Outcome State Fault Refusal :=
  .next s.serveTransaction

/-- HOST_ACCESS (R382): TW_HACC_ADDR is written with `w`: with GO, the register access is made for the host. -/
def execHostAccess (src : Src) (w : Word) (s : State) : Host.Outcome State Fault Refusal :=
  .next (s.haccWrite src w)

end Sys2Proof.Machine
end

