-- ==== Sys2Proof/Machine/ExecSluice.lean ====
section
/-! DEFINITION. The meanings of the commands of the sluice and front end of a port (spec/05_sluice.md) and of its
self-checks (spec/09_quarry_migration.md R260). -/

namespace Sys2Proof.Machine

/-- PASS_COMMAND (R145): the region commands the source pair (`src`) or the sink pair to pass, and the sluice passes
it only if every condition of R145 and R146 holds. -/
def execPassCommand (n : PortId) (src : Bool) (s : State) : Host.Outcome State Fault Refusal :=
  .next (s.onRegionOf n fun e p => p.passCommand e src)

/-- HOLD_COMMAND (R259): The region commands a pair to hold by a coded pattern and the sluice holds within 2 µs. -/
def execHoldCommand (n : PortId) (s : State) : Host.Outcome State Fault Refusal :=
  .next (s.onRegionOf n fun _ p => p.holdCommand)

/-- FULL_ENH (R144): V_GS of a passing pair reaches 9 V, FULL_ENH sets and a cold pass ramps VSET to vSafe5V. -/
def execFullEnh (n : PortId) (s : State) : Host.Outcome State Fault Refusal :=
  .next (s.onFrontEnd n fun _ p => p.fullEnh)

/-- CC_SHORT (R148): a CC line stands at `mv` mV for the filter time; at or above the CC_SHORT level it breaches:
both pairs hold, the CC PHY isolates and the region enters ErrorRecovery. -/
def execCcShort (n : PortId) (mv : Nat) (s : State) : Host.Outcome State Fault Refusal :=
  .next (s.onFrontEnd n fun e p => p.ccShort e mv)

/-- OVP (R148): VB stands at `mv` mV for the filter time; at or above v_ovp it breaches and the passing pair holds. -/
def execOvp (n : PortId) (mv : Nat) (s : State) : Host.Outcome State Fault Refusal :=
  .next (s.onFrontEnd n fun e p => p.ovp e mv)

/-- OC_FAST (R148): the current, at `tenNv` times 10 nV of sense voltage, or in on-resistance mode the drop of a pair,
reaches the fast threshold: breach, and the pair holds. -/
def execOcFast (n : PortId) (tenNv : Int) (dropMv : Int) (s : State) : Host.Outcome State Fault Refusal :=
  .next (s.onFrontEnd n fun e p => p.ocFast e tenNv dropMv)

/-- REV (R148): the current, at `tenNv` times 10 nV of sense voltage, runs against the passing pair beyond REV_I for its filter time: breach without
discharge. -/
def execRevI (n : PortId) (tenNv : Int) (s : State) : Host.Outcome State Fault Refusal :=
  .next (s.onFrontEnd n fun e p => p.rev e tenNv)

/-- OC_SLOW (R149): `periods` of 10 µs at the sense voltage `tenNv` advance the slow integral; at Q_SLOW the pair holds. -/
def execOcSlow (n : PortId) (tenNv : Int) (periods : Nat) (s : State) : Host.Outcome State Fault Refusal :=
  .next (s.onFrontEnd n fun e p => p.ocSlow e tenNv periods)

/-- OTP_DIE (R148): the junction of polder die `q` has stood at its level for the filter time, and every sluice of
the polder holds. -/
def execOtpDie (q : PolderId) (s : State) : Host.Outcome State Fault Refusal :=
  let s := s.onPolder q fun P => { P with stat := { P.stat with otpDie := true } }
  .next (if s.polders[q].die then s.onPolderPorts q fun n s => s.onFrontEnd n fun e p => p.otpDie e else s)

/-- OTP_NTC (R148): the NTC of polder `q` has stood at its threshold for the filter time, and every class-B and
class-C sluice of the polder holds. -/
def execOtpNtc (q : PolderId) (s : State) : Host.Outcome State Fault Refusal :=
  let s := s.onPolder q fun P => { P with stat := { P.stat with otpNtc := true } }
  .next (if s.polders[q].die then s.onPolderPorts q fun n s => s.onFrontEnd n fun e p => p.otpNtc e else s)

/-- VGD_LOW (R148): VGD at a polder stands at `v.mv` mV: below 10.0 V no pair may pass (R145, log entry 203), and below 9.0 V
SH_SUP.VGD_LOW is set and every sluice of the polder holds by the off-clamps. -/
def execVgdLow (v : VgdAt) (s : State) : Host.Outcome State Fault Refusal :=
  let low := decide (v.mv < 9000)
  let s := s.onPolder v.q fun P =>
    { P with stat := { P.stat with vgdLow := P.stat.vgdLow || low }, vgdPass := P.vgdPass && decide (10000 ≤ v.mv) }
  let s := { s with sh := { s.sh with sup := { s.sh.sup with vgdLow := s.sh.sup.vgdLow || low } } }
  .next (if s.polders[v.q].die then s.onPolderPorts v.q fun n s => s.onFrontEnd n fun e p => p.vgdLow e v.mv else s)

/-- GATE (R143): FULL_ENH is not reached within t_gate_lim, or falls for 10 µs, and the pair holds as a GATE breach. -/
def execGateI (n : PortId) (s : State) : Host.Outcome State Fault Refusal :=
  .next (s.onCheckedFe n fun e p => p.gateCheck e)

/-- CLEAR (R29): A Cenan OUT of P_SLUICE.CLEAR clears the breach latch when the condition has ended and LOCKOUT is
clear. -/
def execSluiceClear (k : CoreId) (n : PortId) (s : State) : Host.Outcome State Fault Refusal :=
  .next (if s.coreUp k && s.inService k then s.onPReg n fun _ p => p.clearBreach else s)

/-- LOCK_CLR (R152): A write of LOCK_CLR clears LOCKOUT. -/
def execLockClr (n : PortId) (s : State) : Host.Outcome State Fault Refusal :=
  .next (s.onPReg n fun _ p => p.lockClr)

/-- BREACH_WINDOW_EXPIRY (R150): 60 s without a breach returns WIN_CNT to zero. -/
def execBreachWindowExpiry (n : PortId) (s : State) : Host.Outcome State Fault Refusal :=
  .next (s.onFrontEnd n fun _ p => p.breachWindow)

/-- SENSE_MODE_WRITE (R141): A write of SENSE_MODE takes effect only while both pairs hold. -/
def execSenseModeWrite (n : PortId) (v : BitVec 2) (s : State) : Host.Outcome State Fault Refusal :=
  .next (s.onPReg n fun _ p => p.writeSenseMode v)

/-- FOREIGN_VBUS (R154): VB, at `mv` mV, is present where the port does not source, or (`stuck`) a discharge does
not lower it: a foreign VBUS is flagged and DIS released. -/
def execForeignVbus (n : PortId) (mv : Nat) (stuck : Bool) (s : State) : Host.Outcome State Fault Refusal :=
  .next (s.onFrontEnd n fun e p => p.foreignVbus e mv stuck)

/-- DISCHARGE_TIMEOUT (R156): DIS driven for t_vb0_wait without VB_SAFE0 is released and DIS_TIMEOUT is set. -/
def execDischargeTimeout (n : PortId) (s : State) : Host.Outcome State Fault Refusal :=
  .next (s.onFrontEnd n fun e p => p.dischargeTimeout e)

/-- VSET_LOOP_UPDATE (R159): Every 50 µs the region updates the integral, the VSET duty and the moving target. -/
def execVsetLoopUpdate (n : PortId) (vbMv : Nat) (s : State) : Host.Outcome State Fault Refusal :=
  .next (s.onRegionOf n fun e p => p.vsetLoop e vbMv)

/-- RON_UPDATE (R163): Every 1 ms in on-resistance mode the front end recomputes the pair temperature, resistance
and fast threshold. -/
def execRonUpdate (n : PortId) (s : State) : Host.Outcome State Fault Refusal :=
  .next (s.onFrontEnd n fun e p => p.ronUpdate e.ntc)

/-- METERING_TICK (R166): on the 1 ms tick P_VBUS and P_IBUS take the block means, from the means `vbMv` and `vpathMv` and
the mean sense voltage `tenNv`; I_AVG moves, and the energy and charge of the block are added. -/
def execMeteringTick (n : PortId) (vbMv : Nat) (vpathMv : Nat) (tenNv : Int) (vi : Int)
    (s : State) : Host.Outcome State Fault Refusal :=
  .next (s.onFrontEnd n fun _ p => p.metering vbMv vpathMv tenNv vi)

/-- SHUNT_OFFSET_SAMPLE (R162): When both pairs have held for 100 ms with VB_SAFE0 the front end takes a shunt
offset sample. -/
def execShuntOffsetSample (n : PortId) (tenNv : Int) (s : State) : Host.Outcome State Fault Refusal :=
  .next (s.onCheckedFe n fun _ p => p.shuntOffset tenNv)

/-- CURRENT_LIMIT_ENTRY (R160): In PPS the 1 ms mean of IBUS reaches CURR + 100 mA and the region lowers the duty. -/
def execCurrentLimitEntry (n : PortId) (ma : Int) (s : State) : Host.Outcome State Fault Refusal :=
  .next (s.onRegionOf n fun _ p => p.clEntry ma)

/-- CURRENT_LIMIT_EXIT (R160): VB reaches the requested voltage and the region leaves current limit. -/
def execCurrentLimitExit (n : PortId) (vbMv : Nat) (s : State) : Host.Outcome State Fault Refusal :=
  .next (s.onRegionOf n fun _ p => p.clExit vbMv)

/-- CL_FLOOR_TIMEOUT (R160): VB below the APDO minimum for 500 ms in current limit ends in PP_CL_FLOOR. -/
def execClFloorTimeout (n : PortId) (vbMv : Nat) (s : State) : Host.Outcome State Fault Refusal :=
  .next (s.onRegionOf n fun _ p => p.clFloor vbMv)

/-- UNDERVOLTAGE_TIMEOUT (R161): VB below 80 % of the moving target for 10 ms while the source pair passes. -/
def execUndervoltageTimeout (n : PortId) (vbMv : Nat) (s : State) : Host.Outcome State Fault Refusal :=
  .next (s.onRegionOf n fun _ p => p.undervoltage vbMv)

/-- MEASURE_DONE (R165): the 1 s average of MEASURE, `tenNv` in 10 nV, ends and its result is reported. -/
def execMeasureDone (n : PortId) (tenNv : Int) (s : State) : Host.Outcome State Fault Refusal :=
  .next (s.onRegionOf n fun e p => p.measureDone e.ntc tenNv)

/-- FRONT_END_CHECK_FAIL (R260): front-end self-check `check` (FE_GATE, FE_CC, FE_ISENSE, FE_VB) fails, its P_FAULT
bit is set and the port is parked. -/
def execFrontEndCheckFail (n : PortId) (check : Fin 4) (s : State) : Host.Outcome State Fault Refusal :=
  .next (s.onCheckedFe n fun _ p => p.checkFail check.val)

/-- NTC_FAULT (R470): the NTC reading of polder `q` is outside its range: NTC_FAULT is set and t_ntc is taken as
125.0 °C, 165.0 above −40.0. -/
def execNtcFault (q : PolderId) (s : State) : Host.Outcome State Fault Refusal :=
  .next (s.onPolder q fun P =>
    { P with stat := { P.stat with ntcFault := true }, temp := { P.temp with ntc := 1650#12 } })

/-- BREACH_CONDITION_END (R148): the condition of the latched breach `code` has ended and P_SLUICE.COND falls to 0. -/
def execBreachConditionEnd (n : PortId) (code : BitVec 4) (s : State) : Host.Outcome State Fault Refusal :=
  .next (match Port.breachOfCode code with
    | some b =>
      let t := s.onFrontEnd n fun e p => p.condEnd e b
      t.onPolder (polderOf n) fun P => { P with stat := { P.stat with
        otpDie := P.stat.otpDie && b ≠ .otpDie, otpNtc := P.stat.otpNtc && b ≠ .otpNtc } }
    | none => s)

end Sys2Proof.Machine
end

