-- ==== Sys2Proof/Machine/ExecStart.lean ====
section
/-! DEFINITION. The meanings of the starts and resets (spec/16_startup_resets.md, spec/14_supplies_shedding.md R387). -/

namespace Sys2Proof.Machine

/-- POR (R417): VDDA falls below 2.9 V, or power first arrives. `vaoLost`: VAO is lost with it; `recordLost`: VDDC
had been lost for less than 2 ms before; `vddcEarly`: VDDC came up first (R385). -/
def execPor (vaoLost recordLost vddcEarly : Bool) (s : State) : Host.Outcome State Fault Refusal :=
  .next (s.por vaoLost recordLost vddcEarly)

/-- POR_RELEASE (R421): POR, BOR or SHELF ends and the start of Table 16.3 runs to its end. `role`, `addr` and
`deputy` are the straps; `jedec` is what the flash answers, `up` the fuse words that the sense amplifiers read
with some bits changed, `vb` the VB of ports in mV, and `tLife` and `tAll` the times in ms that SYS_START shows. -/
def execPorRelease (role : BitVec 2) (addr : BitVec 3) (deputy : Bool) (vddioMv : Nat) (jedec : Option (BitVec 24)) (up : List (Nat × BitVec 44)) (vb : List (PortId × Nat)) (tLife tAll : Nat)
    (s : State) : Host.Outcome State Fault Refusal :=
  .next (s.porRelease role addr deputy vddioMv jedec up vb tLife tAll)

/-- BOR (R426): VDDC falls below 0.74 V and the control die restarts while the polder-die registers are kept. -/
def execBor (s : State) : Host.Outcome State Fault Refusal :=
  .next s.bor

/-- PIN_RESET (R418): RST_N has been low for `ns` nanoseconds. -/
def execPinReset (ns : Nat) (s : State) : Host.Outcome State Fault Refusal :=
  .next (s.pinReset ns)

/-- PIN_RELEASE (R425): The rising edge of RST_N releases a PIN reset and the warm resume begins. -/
def execPinRelease (s : State) : Host.Outcome State Fault Refusal :=
  .next s.pinRelease

/-- SYS_RESET (R418): a write of SYS_RST_CTRL with OP SYS from `src` (R420). -/
def execSysReset (src : Src) (key : BitVec 8) (s : State) : Host.Outcome State Fault Refusal :=
  .next (s.rstCtrl src (putF 0 key ||| 0x100#32))

/-- SYS_RESET_START (R418): 10 µs after the commanding write a SYS or LNK reset starts and acts as R424 states. -/
def execSysResetStart (s : State) : Host.Outcome State Fault Refusal :=
  .next s.sysResetStart

/-- SYS_RESET_RELEASE (R418): 100 µs after its start a SYS or LNK reset is released and the warm resume of R425
runs. -/
def execSysResetRelease (s : State) : Host.Outcome State Fault Refusal :=
  .next s.sysResetRelease

/-- PLD_COMMAND (R420): a write of SYS_RST_CTRL with OP PLD from `src`. -/
def execPldCommand (src : Src) (key : BitVec 8) (q : PolderId) (s : State) : Host.Outcome State Fault Refusal :=
  .next (s.rstCtrl src (putF 0 key ||| 0x200#32 ||| putF 10 (BitVec.ofNat 2 q.val)))

/-- DIE_CHECK_FAIL (R418): Polder die q returns no echo of the 1 ms tick for 3 ms and a PLD of that polder starts. -/
def execDieCheckFail (q : PolderId) (s : State) : Host.Outcome State Fault Refusal :=
  .next (s.pldStart q)

/-- PLD_END (R427): A PLD ends, regions restore checkpoints and held class-B and class-C ports make a Hard Reset. -/
def execPldEnd (q : PolderId) (s : State) : Host.Outcome State Fault Refusal :=
  .next (s.pldEnd q)

/-- HARVEST_START (R428): VB of port `n` reaches 4.4 V. -/
def execHarvestStart (n : PortId) (s : State) : Host.Outcome State Fault Refusal :=
  .next (s.harvestStart n)

/-- ISLAND_RELEASE (R429): the operands are those of POR_RELEASE; `vaoLost`: VAO had been lost. -/
def execIslandRelease (role : BitVec 2) (addr : BitVec 3) (deputy : Bool) (vddioMv : Nat) (up : List (Nat × BitVec 44)) (vb : List (PortId × Nat)) (tLife : Nat) (vaoLost : Bool)
    (s : State) : Host.Outcome State Fault Refusal :=
  .next (s.islandRelease role addr deputy vddioMv up vb tLife vaoLost)

/-- DB_HANDOVER (R432): the operands are those of POR_RELEASE; `vb` counts for the positions outside the island. -/
def execDbHandover (vddioMv : Nat) (jedec : Option (BitVec 24)) (vb : List (PortId × Nat)) (tLife tAll : Nat)
    (s : State) : Host.Outcome State Fault Refusal :=
  .next (s.dbHandover vddioMv jedec vb tLife tAll)

/-- ISLAND_POWER_DOWN (R432): Every VB of positions 0 to 5 stays below 3.67 V for 10 ms and the island powers down. -/
def execIslandPowerDown (s : State) : Host.Outcome State Fault Refusal :=
  .next s.islandPowerDown

/-- SHELF_WAKE (R387): The wake timer elapses and the device leaves SHELF by a start. -/
def execShelfWake (s : State) : Host.Outcome State Fault Refusal :=
  .next s.shelfWake

end Sys2Proof.Machine
end

