-- ==== Sys2Proof/Machine/ExecSupply.lean ====
section
/-! DEFINITION. The meanings of the commands of supplies and shedding (spec/14_supplies_shedding.md, spec/01_architecture.md R32). -/

namespace Sys2Proof.Machine

/-- SUPPLY_S6_LEVEL (R390): `cause` names the input as SH_STAT.CAUSE does: 5 VDDA, 6 VDDC, 7 the berm. -/
def execSupplyS6Level (cause : BitVec 3) (s : State) : Host.Outcome State Fault Refusal :=
  .next (s.supplyS6 cause)

/-- VDDIO_LOST (R383): VDDIO stays below 80 % of its mode value for 10 µs and the two-wire and flash interfaces
stop. -/
def execVddioLost (s : State) : Host.Outcome State Fault Refusal :=
  .next s.vddioLost

/-- HEARTBEAT (R32): the 1 ms tick of the shed sequencer: `vddcGood` says whether VDDC stands at its S6 level or
above, `within10` whether at most 10 ms have gone by since the start of a PIN, SYS or LNK reset (R424). -/
def execHeartbeat (vddcGood within10 : Bool) (s : State) : Host.Outcome State Fault Refusal :=
  .next (s.heartbeat vddcGood within10)

/-- HEARTBEAT_LOSS (R32): No heartbeat for 20 ms sets HB_LOST and holds every class-B and class-C sluice of the
polder. -/
def execHeartbeatLoss (q : PolderId) (s : State) : Host.Outcome State Fault Refusal :=
  .next (s.heartbeatLoss q)

/-- SHED_SAMPLE (R388): the sequencer samples: `feeds` and `pf` in mV at the pins, `berm` in 0.1 V, `vdda` and
`vddc` in mV; `die` is the control die temperature as SYS_TEMP shows it. -/
def execShedSample (feeds : Nat) (pf : List Nat) (berm : Nat) (vdda : Nat) (vddc : Nat) (die : BitVec 12)
    (s : State) : Host.Outcome State Fault Refusal :=
  .next (s.shedSample { feeds := feeds, pf := pf, berm := berm, vdda := vdda, vddc := vddc } die)

/-- SHELF_REQ (R387): A write of SH_PWR.SHELF_REQ disables every port, commits, downs the links and enters SHELF, or
is refused. -/
def execShelfReq (s : State) : Host.Outcome State Fault Refusal :=
  .next s.shelfReq

/-- VGD_RESTORED (R383): VGD rises back to v_gd_pass or above, the VGD_LOW condition ends, the charge pump recovers
and HOLD_SRC no longer names VGD. -/
def execVgdRestored (q : PolderId) (s : State) : Host.Outcome State Fault Refusal :=
  .next (s.vgdRestored q)

/-- VDDIO_RESTORED (R383): VDDIO has stood at 1.62 V or above for 2 ms and then stands at `mv` mV. -/
def execVddioRestored (mv : Nat) (s : State) : Host.Outcome State Fault Refusal :=
  .next (s.vddioRestored mv)

end Sys2Proof.Machine
end

