-- ==== Sys2Proof/Machine/ExecTw.lean ====
section
/-! DEFINITION. The meanings of the commands of the two-wire interfaces (spec/13_two_wire.md); the host accesses lie with the registers. -/

namespace Sys2Proof.Machine

/-- MUX_REC (R128): Core 13 turns a posted mux record into a TW_M write. -/
def execMuxRec (s : State) : Host.Outcome State Fault Refusal :=
  .next s.muxRec

/-- TW_H_POINTER (R368): the controller sends address `addr`, the register number and, with `code`, a packet error
code, and ends with STOP or a repeated START (`sr`). -/
def execTwHPointer (addr : BitVec 7) (reg : BitVec 15) (code : Option Byte) (sr : Bool)
    (s : State) : Host.Outcome State Fault Refusal :=
  .next (s.twWrite addr ([(0#1 ++ fld reg 8 7 : Byte), fld reg 0 8] ++ code.toList) sr)

/-- TW_H_WRITE (R369): the controller sends address `addr`, the register number and the bytes `data`, a packet error
code among them where it sends one, and ends with STOP or a repeated START (`sr`). -/
def execTwHWrite (addr : BitVec 7) (reg : BitVec 15) (data : List Byte) (sr : Bool)
    (s : State) : Host.Outcome State Fault Refusal :=
  .next (s.twWrite addr ([(0#1 ++ fld reg 8 7 : Byte), fld reg 0 8] ++ data) sr)

/-- TW_H_BLOCK_POINTER (R368): the controller sends address `addr`, the register number with bit 15 set, the count
and the bytes `tail`, and ends with STOP or a repeated START (`sr`). -/
def execTwHBlockPointer (addr : BitVec 7) (reg : BitVec 15) (count : Byte) (tail : List Byte) (sr : Bool)
    (s : State) : Host.Outcome State Fault Refusal :=
  .next (s.twWrite addr ([(1#1 ++ fld reg 8 7 : Byte), fld reg 0 8, count] ++ tail) sr)

/-- TW_H_READ (R368): the controller reads `n` bytes from address `addr`. -/
def execTwHRead (addr : BitVec 7) (n : Nat) (s : State) : Host.Outcome State Fault Refusal :=
  .next (s.twRead addr n)

/-- TW_H_BLOCK_READ (R368): the controller reads `n` bytes from address `addr` after a block pointer. -/
def execTwHBlockRead (addr : BitVec 7) (n : Nat) (s : State) : Host.Outcome State Fault Refusal :=
  .next (s.twRead addr n)

/-- ALERT_RECORD_SEND (R373): Once the bus is free the interface sends a waiting alert record as controller. -/
def execAlertRecordSend (acked : Bool) (s : State) : Host.Outcome State Fault Refusal :=
  .next (s.alertSend acked)

/-- ALERT_RETRY_EXPIRY (R373): 5 ms after a not-acknowledged record it is sent again, or dropped with ALERT_FAIL
after the last attempt. -/
def execAlertRetryExpiry (acked : Bool) (s : State) : Host.Outcome State Fault Refusal :=
  .next (s.alertRetry acked)

/-- ARBITRATION_LOST (R374): on TW_M (`m`) or TW_H. -/
def execArbitrationLost (m : Bool) (s : State) : Host.Outcome State Fault Refusal :=
  .next (s.arbLost m)

/-- ARB_LOST_SR (R375): on TW_M (`m`) or TW_H. -/
def execArbLostSr (m : Bool) (s : State) : Host.Outcome State Fault Refusal :=
  .next (s.arbLostSr m)

/-- SCL_TO (R376): on TW_M (`m`) or TW_H. -/
def execSclTo (m : Bool) (s : State) : Host.Outcome State Fault Refusal :=
  .next (s.sclTo m)

/-- SDA_TO (R376): on TW_M (`m`) or TW_H; `cleared` says whether a bus clear frees SDA. -/
def execSdaTo (m cleared : Bool) (s : State) : Host.Outcome State Fault Refusal :=
  .next (s.sdaTo m cleared)

/-- STUCK_RETRY_EXPIRY (R376): on TW_M (`m`) or TW_H; `sdaLow` says whether SDA still reads low, `cleared` whether a
bus clear frees it. -/
def execStuckRetryExpiry (m sdaLow cleared : Bool) (s : State) : Host.Outcome State Fault Refusal :=
  .next (s.stuckRetry m sdaLow cleared)

/-- TW_M_COMMAND (R379): `sdaLow` says whether SDA reads low on the idle bus, `cleared` whether a bus clear frees
it. -/
def execTwMCommand (sdaLow cleared : Bool) (s : State) : Host.Outcome State Fault Refusal :=
  .next (s.twmStart sdaLow cleared)

/-- TW_M_COMMAND_DONE (R379): `nack`: a byte was not acknowledged; `code`: the packet error code that follows a read;
`data`: the bytes read. -/
def execTwMCommandDone (nack : Bool) (code : Byte) (data : List Byte) (s : State) : Host.Outcome State Fault Refusal :=
  .next (s.twmDone nack code data)

end Sys2Proof.Machine
end

