-- ==== Sys2Proof/Machine/ExecTxGo.lean ====
section
/-! DEFINITION. The meanings of the staging commands: the core writes the staging area of a port and TX_GO, and the region
acknowledges and carries the command out (spec/03_pd_protocol.md R73, R74, spec/04_contracts_swaps.md R102,
spec/05_sluice.md R163 to R165). -/

namespace Sys2Proof.Machine

/-- TX_GO_ACKNOWLEDGE (R23): the staging handshake of a pending TX_GO is acknowledged, and the region carries the
command out; `tenNv` is the present sense voltage, for ZERO. -/
def execTxGoAcknowledge (n : PortId) (tenNv : Int) (s : State) : Host.Outcome State Fault Refusal :=
  .next (s.noteParks n (s.onRegionOf n fun e p => p.txGoAck e tenNv))

/-- CMD_NONE (R74): TX_GO with CMD 0x0 is acknowledged and has no effect. -/
def execCmdNone (k : CoreId) (n : PortId) (seq : BitVec 8) (s : State) : Host.Outcome State Fault Refusal :=
  .next (s.onStaged k n fun e p => p.txGo e (cmdWords 0#4 seq 0#36 0#36) 0)

/-- TRANSMIT_MESSAGE (R74): TX_GO with CMD 0x1 queues a message for transmission, or refuses it with PD_CMD_BAD, or
answers a repeat under R76. -/
def execTransmitMessage (k : CoreId) (n : PortId) (word0 : BitVec 36) (word1 : BitVec 36) (objs : List Word)
    (s : State) : Host.Outcome State Fault Refusal :=
  .next (s.onStaged k n fun e p => p.txGo e (msgWords word0 word1 objs) 0)

/-- HARD_RESET (R95): TX_GO with CMD 0x2 aborts any transmission and signals Hard Reset. -/
def execHardReset (k : CoreId) (n : PortId) (seq : BitVec 8) (s : State) : Host.Outcome State Fault Refusal :=
  .next (s.onStaged k n fun e p => p.txGo e (cmdWords 2#4 seq 0#36 0#36) 0)

/-- CABLE_RESET (R81): TX_GO with CMD 0x3 signals Cable Reset and clears the SOP′ MessageID state. -/
def execCableReset (k : CoreId) (n : PortId) (seq : BitVec 8) (s : State) : Host.Outcome State Fault Refusal :=
  .next (s.onStaged k n fun e p => p.txGo e (cmdWords 3#4 seq 0#36 0#36) 0)

/-- VCONN_ON (R56): TX_GO with CMD 0x4 drives VCONN or is refused by the port state and VCONN_EN. -/
def execVconnOn (k : CoreId) (n : PortId) (seq : BitVec 8) (s : State) : Host.Outcome State Fault Refusal :=
  .next (s.onStaged k n fun e p => p.txGo e (cmdWords 4#4 seq 0#36 0#36) 0)

/-- VCONN_OFF (R56): TX_GO with CMD 0x5 turns VCN off within 10 µs and restores the CC termination. -/
def execVconnOff (k : CoreId) (n : PortId) (seq : BitVec 8) (s : State) : Host.Outcome State Fault Refusal :=
  .next (s.onStaged k n fun e p => p.txGo e (cmdWords 5#4 seq 0#36 0#36) 0)

/-- SET_DATA_ROLE (R122): TX_GO with CMD 0x6 sets the data role used in the region's own headers. -/
def execSetDataRole (k : CoreId) (n : PortId) (seq : BitVec 8) (dfp : Bool)
    (s : State) : Host.Outcome State Fault Refusal :=
  .next (s.onStaged k n fun e p => p.txGo e (cmdWords 6#4 seq (payB 0 dfp) 0#36) 0)

/-- PD_TIMER_COMMAND (R93): TX_GO with CMD 0x7 starts or stops a PD timer named by its Id. -/
def execPdTimerCommand (k : CoreId) (n : PortId) (seq : BitVec 8) (id : BitVec 4) (on : Bool)
    (s : State) : Host.Outcome State Fault Refusal :=
  .next (s.onStaged k n fun e p => p.txGo e (cmdWords 7#4 seq (pay 0 id ||| payB 4 on) 0#36) 0)

/-- TRANSITION (R102): CMD 0x8 arms a source voltage change or the sink disconnect level from a contract word. -/
def execTransition (k : CoreId) (n : PortId) (seq : BitVec 8) (w : BitVec 36)
    (s : State) : Host.Outcome State Fault Refusal :=
  .next (s.onStaged k n fun e p => p.txGo e (cmdWords 8#4 seq w 0#36) 0)

/-- SRC_OFF (R102): CMD 0x9 turns the source off now or arms it deferred to the next Accept. -/
def execSrcOff (k : CoreId) (n : PortId) (seq : BitVec 8) (defer : Bool)
    (s : State) : Host.Outcome State Fault Refusal :=
  .next (s.onStaged k n fun e p => p.txGo e (cmdWords 9#4 seq (payB 0 defer) 0#36) 0)

/-- SRC_ON (R102): CMD 0xA passes the source path at VB_SAFE0 and raises VSET to vSafe5V. -/
def execSrcOn (k : CoreId) (n : PortId) (seq : BitVec 8) (s : State) : Host.Outcome State Fault Refusal :=
  .next (s.onStaged k n fun e p => p.txGo e (cmdWords 0xA#4 seq 0#36 0#36) 0)

/-- SNK_OFF (R102): CMD 0xB holds the sink path now or at the GoodCRC of the next Accept. -/
def execSnkOff (k : CoreId) (n : PortId) (seq : BitVec 8) (defer : Bool)
    (s : State) : Host.Outcome State Fault Refusal :=
  .next (s.onStaged k n fun e p => p.txGo e (cmdWords 0xB#4 seq (payB 0 defer) 0#36) 0)

/-- SNK_ON (R102): CMD 0xC passes the sink path once VB_PRESENT is set. -/
def execSnkOn (k : CoreId) (n : PortId) (seq : BitVec 8) (s : State) : Host.Outcome State Fault Refusal :=
  .next (s.onStaged k n fun e p => p.txGo e (cmdWords 0xC#4 seq 0#36 0#36) 0)

/-- ROLE_FLIP (R102): CMD 0xD swaps Rp and Rd on the active CC and changes the Type-C state during a swap. -/
def execRoleFlip (k : CoreId) (n : PortId) (seq : BitVec 8) (s : State) : Host.Outcome State Fault Refusal :=
  .next (s.onStaged k n fun e p => p.txGo e (cmdWords 0xD#4 seq 0#36 0#36) 0)

/-- FRS_ARM (R124): CMD 0xE arms or disarms fast role swap detection and the pre-bias. -/
def execFrsArm (k : CoreId) (n : PortId) (seq : BitVec 8) (arm : Bool)
    (s : State) : Host.Outcome State Fault Refusal :=
  .next (s.onStaged k n fun e p => p.txGo e (cmdWords 0xE#4 seq (payB 0 arm) 0#36) 0)

/-- VCAL (R158): SLUICE_CFG operation 0x1 loads the VSET feed-forward points. -/
def execVcal (k : CoreId) (n : PortId) (seq : BitVec 8) (w : BitVec 36)
    (s : State) : Host.Outcome State Fault Refusal :=
  .next (s.onStaged k n fun e p => p.txGo e (cmdWords 0xF#4 seq (pay 0 1#4) w) 0)

/-- RON_CAL (R163): SLUICE_CFG operation 0x2 loads R_cal, T_cal and alpha. -/
def execRonCal (k : CoreId) (n : PortId) (seq : BitVec 8) (w : BitVec 36)
    (s : State) : Host.Outcome State Fault Refusal :=
  .next (s.onStaged k n fun e p => p.txGo e (cmdWords 0xF#4 seq (pay 0 2#4) w) 0)

/-- THETA (R163): SLUICE_CFG operation 0x3 loads the thermal resistance. -/
def execTheta (k : CoreId) (n : PortId) (seq : BitVec 8) (w : BitVec 36)
    (s : State) : Host.Outcome State Fault Refusal :=
  .next (s.onStaged k n fun e p => p.txGo e (cmdWords 0xF#4 seq (pay 0 3#4) w) 0)

/-- SHUNT_CAL (R163): SLUICE_CFG operation 0x4 loads the shunt value and gain. -/
def execShuntCal (k : CoreId) (n : PortId) (seq : BitVec 8) (w : BitVec 36)
    (s : State) : Host.Outcome State Fault Refusal :=
  .next (s.onStaged k n fun e p => p.txGo e (cmdWords 0xF#4 seq (pay 0 4#4) w) 0)

/-- MEASURE (R165): SLUICE_CFG operation 0x5 starts a 1 s average of the sense voltage. -/
def execMeasure (k : CoreId) (n : PortId) (seq : BitVec 8) (s : State) : Host.Outcome State Fault Refusal :=
  .next (s.onStaged k n fun e p => p.txGo e (cmdWords 0xF#4 seq (pay 0 5#4) 0#36) 0)

/-- ZERO (R165): SLUICE_CFG operation 0x6 takes a shunt offset sample now if both pairs hold at VB_SAFE0. -/
def execZero (k : CoreId) (n : PortId) (seq : BitVec 8) (tenNv : Int)
    (s : State) : Host.Outcome State Fault Refusal :=
  .next (s.noteParks n (s.onStaged k n fun e p => p.txGo e (cmdWords 0xF#4 seq (pay 0 6#4) 0#36) tenNv))

end Sys2Proof.Machine
end

