-- ==== Sys2Proof/Machine/ExecTypeC.lean ====
section
/-! DEFINITION. The meanings of the Type-C commands: probes, line changes, debounces, attach, detach, VCONN and the writes of
P_CC that act at once (spec/02_port_attach.md). -/

namespace Sys2Proof.Machine

/-- PROBE (R47): an unattached port probes both CC lines, at `v1` and `v2` mV, and acts on the result. -/
def execProbe (n : PortId) (v1 : Nat) (v2 : Nat) (s : State) : Host.Outcome State Fault Refusal :=
  .next (s.onRegionOf n fun _ p => p.probe v1 v2)

/-- DRP_TOGGLE (R48): The half of tDRP in progress elapses and a DRP port changes role after any probe in progress. -/
def execDrpToggle (n : PortId) (s : State) : Host.Outcome State Fault Refusal :=
  .next (s.onRegionOf n fun _ p => p.drpToggle)

/-- CC_LINE_CHANGE (R42): the filtered classes of the lines, at `v1` and `v2` mV, have changed and the Type-C
machine takes the exit it meets. -/
def execCcLineChange (n : PortId) (v1 : Nat) (v2 : Nat) (s : State) : Host.Outcome State Fault Refusal :=
  .next (s.onRegionOf n fun _ p => p.ccLineChange v1 v2)

/-- CC_DEBOUNCE_EXPIRY (R44): tCCDebounce elapses in an AttachWait or TryWait state and the port attaches or enters
an accessory or Try state. -/
def execCcDebounceExpiry (n : PortId) (s : State) : Host.Outcome State Fault Refusal :=
  .next (s.onRegionOf n fun e p => p.ccDebounceExpiry e)

/-- PD_DEBOUNCE_EXPIRY (R44): tPDDebounce elapses with the lines open and the port returns to Unattached. -/
def execPdDebounceExpiry (n : PortId) (s : State) : Host.Outcome State Fault Refusal :=
  .next (s.onRegionOf n fun _ p => p.pdDebounceExpiry)

/-- TRY_CC_DEBOUNCE_EXPIRY (R44): tTryCCDebounce elapses in a Try or TryWait state and the port attaches or moves
on. -/
def execTryCcDebounceExpiry (n : PortId) (s : State) : Host.Outcome State Fault Refusal :=
  .next (s.onRegionOf n fun e p => p.tryCcExpiry e)

/-- DRP_TRY_EXPIRY (R44): tDRPTry elapses in Try.SRC without Rd and the port enters TryWait.SNK. -/
def execDrpTryExpiry (n : PortId) (s : State) : Host.Outcome State Fault Refusal :=
  .next (s.onRegionOf n fun _ p => p.drpTryExpiry)

/-- TRY_TIMEOUT_EXPIRY (R44): tTryTimeout elapses in TryWait.SRC and the port enters Unattached.SNK. -/
def execTryTimeoutExpiry (n : PortId) (s : State) : Host.Outcome State Fault Refusal :=
  .next (s.onRegionOf n fun _ p => p.tryTimeoutExpiry)

/-- ERROR_RECOVERY_EXPIRY (R44): tErrorRecovery elapses and the port enters Unattached. -/
def execErrorRecoveryExpiry (n : PortId) (s : State) : Host.Outcome State Fault Refusal :=
  .next (s.onRegionOf n fun _ p => p.errorRecoveryExpiry)

/-- VB_LEVEL_CHANGE (R43): VB, now at `mv` mV, crosses a VB_PRESENT or VB_SAFE0 level and the flag moves, with the
actions that wait on it. -/
def execVbLevelChange (n : PortId) (mv : Nat) (s : State) : Host.Outcome State Fault Refusal :=
  .next (s.onFrontEnd n fun e p => p.vbLevel e mv)

/-- VSAFE5V_REACHED (R495): VB first reaches vSafe5V after a cold pass, completing an attach, a Hard Reset or
SRC_ON. -/
def execVsafe5vReached (n : PortId) (s : State) : Host.Outcome State Fault Refusal :=
  .next (s.onRegionOf n fun _ p => p.vsafe5v)

/-- VB0_WAIT_EXPIRY (R46): VB_SAFE0 is not set within t_vb0_wait and the port enters ErrorRecovery. -/
def execVb0WaitExpiry (n : PortId) (s : State) : Host.Outcome State Fault Refusal :=
  .next (s.onRegionOf n fun _ p => p.vb0WaitExpiry)

/-- VBUSON_EXPIRY (R46): VB does not reach vSafe5V within tVBUSON of VB_SAFE0 and the port enters ErrorRecovery. -/
def execVbusonExpiry (n : PortId) (s : State) : Host.Outcome State Fault Refusal :=
  .next (s.onRegionOf n fun _ p => p.vbusOnExpiry)

/-- SLOW_DETACH (R59): The active CC shows SRC.Open for tSRCDisconnect and detach is declared with cause CC_SLOW. -/
def execSlowDetach (n : PortId) (s : State) : Host.Outcome State Fault Refusal :=
  .next (s.onRegionOf n fun _ p => p.slowDetach)

/-- FAST_DETACH_LATCH (R59): The front end latches the fast-detach flag when the active CC crosses the Rd/Open
boundary. -/
def execFastDetachLatch (n : PortId) (s : State) : Host.Outcome State Fault Refusal :=
  .next (s.onFrontEnd n fun e p => p.fastDetachLatch e)

/-- FAST_DETACH_CURRENT_FALL (R59): after the latch IBUS, now `ma` mA, falls below i_fdet and detach is declared
with cause CC_FAST. -/
def execFastDetachCurrentFall (n : PortId) (ma : Int) (s : State) : Host.Outcome State Fault Refusal :=
  .next (s.onRegionOf n fun _ p => p.fastDetachFall ma)

/-- FAST_DETACH_WINDOW_EXPIRY (R59): t_fdet_win elapses without the current falling and the fast path is abandoned. -/
def execFastDetachWindowExpiry (n : PortId) (s : State) : Host.Outcome State Fault Refusal :=
  .next (s.onRegionOf n fun _ p => p.fastDetachWindow)

/-- SINK_DETACH (R61): VB, at `mv` mV, has stayed below the sink disconnect level for 10 µs and detach is declared
with cause VB_LOSS. -/
def execSinkDetach (n : PortId) (mv : Nat) (s : State) : Host.Outcome State Fault Refusal :=
  .next (s.onRegionOf n fun _ p => p.sinkDetach mv)

/-- VCONN_LINE_OK (R56): The driven non-active CC reaches v_vconn_ok after VCONN_ON. -/
def execVconnLineOk (n : PortId) (s : State) : Host.Outcome State Fault Refusal :=
  .next (s.onRegionOf n fun _ p => p.vconnLineOk)

/-- VCONN_FAULT_TIMEOUT (R55): The driven CC stays below 4.5 V for 1 ms and VCN goes to high impedance. -/
def execVconnFaultTimeout (n : PortId) (s : State) : Host.Outcome State Fault Refusal :=
  .next (s.onRegionOf n fun e p => p.vconnFault e)

/-- ERR_RECOVERY (R67): A write of P_CC.ERR_RECOVERY puts the port into ErrorRecovery at once where allowed. -/
def execErrRecovery (n : PortId) (s : State) : Host.Outcome State Fault Refusal :=
  .next (s.onPReg n fun _ p => p.errRecovery)

/-- PORT_DISABLE (R64): A write of P_CC.ENABLE = 0 holds the sluice, removes VCONN, discharges and disables the port
with cause SW_DISABLE. -/
def execPortDisable (n : PortId) (s : State) : Host.Outcome State Fault Refusal :=
  .next (s.onPReg n fun _ p => ({ p with cc := { p.cc with enable := false } }).disable 5#3)

/-- VCONN_EN_CLEAR (R64): A write of VCONN_EN = 0 while VCN is driven removes VCONN at once and writes TC_VCONN_OFF. -/
def execVconnEnClear (n : PortId) (s : State) : Host.Outcome State Fault Refusal :=
  .next (s.onPReg n fun e p => ({ p with cc := { p.cc with vconnEn := false } }).vconnEnClear e)

end Sys2Proof.Machine
end

