-- ==== Sys2Proof/Machine/Dispatch.lean ====
section
/-! DEFINITION. One arm for each command, each one direct call of the command's meaning (spec/opcode_table.json). -/

namespace Sys2Proof.Machine

/-- The effect of a command on everything but the queue of waiting commands. -/
def exec (i : Instr) (s : State) : Host.Outcome State Fault Refusal :=
  match i with
  | .registerWrite src addr w => Sys2Proof.Machine.execRegisterWrite src addr w s
  | .por vaoLost recordLost vddcEarly => Sys2Proof.Machine.execPor vaoLost recordLost vddcEarly s
  | .porRelease role addr deputy vddioMv jedec up vb tLife tAll => Sys2Proof.Machine.execPorRelease role addr deputy vddioMv jedec up vb tLife tAll s
  | .bor => Sys2Proof.Machine.execBor s
  | .pinReset ns => Sys2Proof.Machine.execPinReset ns s
  | .pinRelease => Sys2Proof.Machine.execPinRelease s
  | .sysReset src key => Sys2Proof.Machine.execSysReset src key s
  | .sysResetStart => Sys2Proof.Machine.execSysResetStart s
  | .sysResetRelease => Sys2Proof.Machine.execSysResetRelease s
  | .pldCommand src key q => Sys2Proof.Machine.execPldCommand src key q s
  | .dieCheckFail q => Sys2Proof.Machine.execDieCheckFail q s
  | .pldEnd q => Sys2Proof.Machine.execPldEnd q s
  | .harvestStart n => Sys2Proof.Machine.execHarvestStart n s
  | .islandRelease role addr deputy vddioMv up vb tLife vaoLost => Sys2Proof.Machine.execIslandRelease role addr deputy vddioMv up vb tLife vaoLost s
  | .dbHandover vddioMv jedec vb tLife tAll => Sys2Proof.Machine.execDbHandover vddioMv jedec vb tLife tAll s
  | .islandPowerDown => Sys2Proof.Machine.execIslandPowerDown s
  | .supplyS6Level cause => Sys2Proof.Machine.execSupplyS6Level cause s
  | .vddioLost => Sys2Proof.Machine.execVddioLost s
  | .heartbeat vddcGood within10 => Sys2Proof.Machine.execHeartbeat vddcGood within10 s
  | .heartbeatLoss q => Sys2Proof.Machine.execHeartbeatLoss q s
  | .passCommand n src => Sys2Proof.Machine.execPassCommand n src s
  | .holdCommand n => Sys2Proof.Machine.execHoldCommand n s
  | .fullEnh n => Sys2Proof.Machine.execFullEnh n s
  | .ccShort n mv => Sys2Proof.Machine.execCcShort n mv s
  | .ovp n mv => Sys2Proof.Machine.execOvp n mv s
  | .ocFast n ma dropMv => Sys2Proof.Machine.execOcFast n ma dropMv s
  | .revI n ma => Sys2Proof.Machine.execRevI n ma s
  | .ocSlow n ma periods => Sys2Proof.Machine.execOcSlow n ma periods s
  | .otpDie q => Sys2Proof.Machine.execOtpDie q s
  | .otpNtc q => Sys2Proof.Machine.execOtpNtc q s
  | .vgdLow v => Sys2Proof.Machine.execVgdLow v s
  | .gateI n => Sys2Proof.Machine.execGateI n s
  | .sluiceClear k n => Sys2Proof.Machine.execSluiceClear k n s
  | .lockClr n => Sys2Proof.Machine.execLockClr n s
  | .breachWindowExpiry n => Sys2Proof.Machine.execBreachWindowExpiry n s
  | .senseModeWrite n v => Sys2Proof.Machine.execSenseModeWrite n v s
  | .foreignVbus n mv stuck => Sys2Proof.Machine.execForeignVbus n mv stuck s
  | .dischargeTimeout n => Sys2Proof.Machine.execDischargeTimeout n s
  | .vsetLoopUpdate n vbMv => Sys2Proof.Machine.execVsetLoopUpdate n vbMv s
  | .ronUpdate n => Sys2Proof.Machine.execRonUpdate n s
  | .meteringTick n vbMv vpathMv ma vi => Sys2Proof.Machine.execMeteringTick n vbMv vpathMv ma vi s
  | .shuntOffsetSample n tenNv => Sys2Proof.Machine.execShuntOffsetSample n tenNv s
  | .currentLimitEntry n ma => Sys2Proof.Machine.execCurrentLimitEntry n ma s
  | .currentLimitExit n vbMv => Sys2Proof.Machine.execCurrentLimitExit n vbMv s
  | .clFloorTimeout n vbMv => Sys2Proof.Machine.execClFloorTimeout n vbMv s
  | .undervoltageTimeout n vbMv => Sys2Proof.Machine.execUndervoltageTimeout n vbMv s
  | .measureDone n tenNv => Sys2Proof.Machine.execMeasureDone n tenNv s
  | .frontEndCheckFail n check => Sys2Proof.Machine.execFrontEndCheckFail n check s
  | .retry n => Sys2Proof.Machine.execRetry n s
  | .ntcFault q => Sys2Proof.Machine.execNtcFault q s
  | .probe n v1 v2 => Sys2Proof.Machine.execProbe n v1 v2 s
  | .drpToggle n => Sys2Proof.Machine.execDrpToggle n s
  | .ccLineChange n v1 v2 => Sys2Proof.Machine.execCcLineChange n v1 v2 s
  | .ccDebounceExpiry n => Sys2Proof.Machine.execCcDebounceExpiry n s
  | .pdDebounceExpiry n => Sys2Proof.Machine.execPdDebounceExpiry n s
  | .tryCcDebounceExpiry n => Sys2Proof.Machine.execTryCcDebounceExpiry n s
  | .drpTryExpiry n => Sys2Proof.Machine.execDrpTryExpiry n s
  | .tryTimeoutExpiry n => Sys2Proof.Machine.execTryTimeoutExpiry n s
  | .errorRecoveryExpiry n => Sys2Proof.Machine.execErrorRecoveryExpiry n s
  | .vbLevelChange n mv => Sys2Proof.Machine.execVbLevelChange n mv s
  | .vsafe5vReached n => Sys2Proof.Machine.execVsafe5vReached n s
  | .vb0WaitExpiry n => Sys2Proof.Machine.execVb0WaitExpiry n s
  | .vbusonExpiry n => Sys2Proof.Machine.execVbusonExpiry n s
  | .slowDetach n => Sys2Proof.Machine.execSlowDetach n s
  | .fastDetachLatch n => Sys2Proof.Machine.execFastDetachLatch n s
  | .fastDetachCurrentFall n ma => Sys2Proof.Machine.execFastDetachCurrentFall n ma s
  | .fastDetachWindowExpiry n => Sys2Proof.Machine.execFastDetachWindowExpiry n s
  | .sinkDetach n mv => Sys2Proof.Machine.execSinkDetach n mv s
  | .vconnLineOk n => Sys2Proof.Machine.execVconnLineOk n s
  | .vconnFaultTimeout n => Sys2Proof.Machine.execVconnFaultTimeout n s
  | .errRecovery n => Sys2Proof.Machine.execErrRecovery n s
  | .portDisable n => Sys2Proof.Machine.execPortDisable n s
  | .vconnEnClear n => Sys2Proof.Machine.execVconnEnClear n s
  | .txGoAcknowledge n tenNv => Sys2Proof.Machine.execTxGoAcknowledge n tenNv s
  | .cmdNone k n seq => Sys2Proof.Machine.execCmdNone k n seq s
  | .transmitMessage k n word0 word1 objs => Sys2Proof.Machine.execTransmitMessage k n word0 word1 objs s
  | .hardReset k n seq => Sys2Proof.Machine.execHardReset k n seq s
  | .cableReset k n seq => Sys2Proof.Machine.execCableReset k n seq s
  | .vconnOn k n seq => Sys2Proof.Machine.execVconnOn k n seq s
  | .vconnOff k n seq => Sys2Proof.Machine.execVconnOff k n seq s
  | .setDataRole k n seq dfp => Sys2Proof.Machine.execSetDataRole k n seq dfp s
  | .pdTimerCommand k n seq id on => Sys2Proof.Machine.execPdTimerCommand k n seq id on s
  | .transition k n seq w => Sys2Proof.Machine.execTransition k n seq w s
  | .srcOff k n seq defer => Sys2Proof.Machine.execSrcOff k n seq defer s
  | .srcOn k n seq => Sys2Proof.Machine.execSrcOn k n seq s
  | .snkOff k n seq defer => Sys2Proof.Machine.execSnkOff k n seq defer s
  | .snkOn k n seq => Sys2Proof.Machine.execSnkOn k n seq s
  | .roleFlip k n seq => Sys2Proof.Machine.execRoleFlip k n seq s
  | .frsArm k n seq arm => Sys2Proof.Machine.execFrsArm k n seq arm s
  | .vcal k n seq w => Sys2Proof.Machine.execVcal k n seq w s
  | .ronCal k n seq w => Sys2Proof.Machine.execRonCal k n seq w s
  | .theta k n seq w => Sys2Proof.Machine.execTheta k n seq w s
  | .shuntCal k n seq w => Sys2Proof.Machine.execShuntCal k n seq w s
  | .measure k n seq => Sys2Proof.Machine.execMeasure k n seq s
  | .zero k n seq tenNv => Sys2Proof.Machine.execZero k n seq tenNv s
  | .transmitStart n tenUs => Sys2Proof.Machine.execTransmitStart n tenUs s
  | .transmitEnd n => Sys2Proof.Machine.execTransmitEnd n s
  | .goodcrcReceived n sop1 id => Sys2Proof.Machine.execGoodcrcReceived n sop1 id s
  | .crcReceiveTimeout n => Sys2Proof.Machine.execCrcReceiveTimeout n s
  | .frameReceived n f => Sys2Proof.Machine.execFrameReceived n f s
  | .softResetReceived n => Sys2Proof.Machine.execSoftResetReceived n s
  | .softResetAcceptTimeout n => Sys2Proof.Machine.execSoftResetAcceptTimeout n s
  | .hardResetDetected n => Sys2Proof.Machine.execHardResetDetected n s
  | .hardResetSignallingDone n => Sys2Proof.Machine.execHardResetSignallingDone n s
  | .hardResetCompleteTimeout n => Sys2Proof.Machine.execHardResetCompleteTimeout n s
  | .psHardResetExpiry n => Sys2Proof.Machine.execPsHardResetExpiry n s
  | .srcRecoverExpiry n => Sys2Proof.Machine.execSrcRecoverExpiry n s
  | .hardResetSinkTimeout n => Sys2Proof.Machine.execHardResetSinkTimeout n s
  | .cableResetReceived n => Sys2Proof.Machine.execCableResetReceived n s
  | .responseTimerExpiry n => Sys2Proof.Machine.execResponseTimerExpiry n s
  | .idTimerExpiry n id => Sys2Proof.Machine.execIdTimerExpiry n id s
  | .sinkTxExpiry n => Sys2Proof.Machine.execSinkTxExpiry n s
  | .amsIdleExpiry n => Sys2Proof.Machine.execAmsIdleExpiry n s
  | .sinkTxOkSeen n => Sys2Proof.Machine.execSinkTxOkSeen n s
  | .chunkRequestReceived n chunk => Sys2Proof.Machine.execChunkRequestReceived n chunk s
  | .chunkTimeout n txSide => Sys2Proof.Machine.execChunkTimeout n txSide s
  | .bistReceived n mode => Sys2Proof.Machine.execBistReceived n mode s
  | .bistContModeExpiry n => Sys2Proof.Machine.execBistContModeExpiry n s
  | .psTransitionTimeout n => Sys2Proof.Machine.execPsTransitionTimeout n s
  | .noResponseTimeout n => Sys2Proof.Machine.execNoResponseTimeout n s
  | .transitionStart n => Sys2Proof.Machine.execTransitionStart n s
  | .settleDone n vbMv => Sys2Proof.Machine.execSettleDone n vbMv s
  | .tPpTimeoutExpiry n => Sys2Proof.Machine.execTPpTimeoutExpiry n s
  | .srcOffDeferred n => Sys2Proof.Machine.execSrcOffDeferred n s
  | .frsDetection n => Sys2Proof.Machine.execFrsDetection n s
  | .frsFastPass n vbMv late => Sys2Proof.Machine.execFrsFastPass n vbMv late s
  | .psSourceOnTimeout n => Sys2Proof.Machine.execPsSourceOnTimeout n s
  | .psSourceOffTimeout n => Sys2Proof.Machine.execPsSourceOffTimeout n s
  | .requestEvaluation n => Sys2Proof.Machine.execRequestEvaluation n s
  | .share role => Sys2Proof.Machine.execShare role s
  | .cableDiscovery n => Sys2Proof.Machine.execCableDiscovery n s
  | .prSwapAnswer n => Sys2Proof.Machine.execPrSwapAnswer n s
  | .drSwap n => Sys2Proof.Machine.execDrSwap n s
  | .vconnSwap n late => Sys2Proof.Machine.execVconnSwap n late s
  | .eprEntry n => Sys2Proof.Machine.execEprEntry n s
  | .eprKeepalive n => Sys2Proof.Machine.execEprKeepalive n s
  | .statusMessageAnswer n => Sys2Proof.Machine.execStatusMessageAnswer n s
  | .batteryStatusPoll n => Sys2Proof.Machine.execBatteryStatusPoll n s
  | .breachService n elapsed => Sys2Proof.Machine.execBreachService n elapsed s
  | .protocolErrorAnswer n => Sys2Proof.Machine.execProtocolErrorAnswer n s
  | .unsupportedMessageAnswer n => Sys2Proof.Machine.execUnsupportedMessageAnswer n s
  | .displayportEntry n => Sys2Proof.Machine.execDisplayportEntry n s
  | .displayportExit n failed => Sys2Proof.Machine.execDisplayportExit n failed s
  | .dockModeDiscovery n => Sys2Proof.Machine.execDockModeDiscovery n s
  | .packIdentification n => Sys2Proof.Machine.execPackIdentification n s
  | .identBoundExpiry n => Sys2Proof.Machine.execIdentBoundExpiry n s
  | .digestReq => Sys2Proof.Machine.execDigestReq s
  | .muxRec => Sys2Proof.Machine.execMuxRec s
  | .classWrite n v => Sys2Proof.Machine.execClassWrite n v s
  | .allocatorTick => Sys2Proof.Machine.execAllocatorTick s
  | .allocatorRunEnd => Sys2Proof.Machine.execAllocatorRunEnd s
  | .demandReport => Sys2Proof.Machine.execDemandReport s
  | .budgetAgentTick => Sys2Proof.Machine.execBudgetAgentTick s
  | .leaseExpiry => Sys2Proof.Machine.execLeaseExpiry s
  | .maxClr v => Sys2Proof.Machine.execMaxClr v s
  | .gaugeSample n quiet => Sys2Proof.Machine.execGaugeSample n quiet s
  | .gaugeGroupProcess q upper => Sys2Proof.Machine.execGaugeGroupProcess q upper s
  | .restPoint slot => Sys2Proof.Machine.execRestPoint slot s
  | .endOfCharge slot => Sys2Proof.Machine.execEndOfCharge slot s
  | .topupExpiry idx => Sys2Proof.Machine.execTopupExpiry idx s
  | .endOfDischarge idx => Sys2Proof.Machine.execEndOfDischarge idx s
  | .getTempPoll n => Sys2Proof.Machine.execGetTempPoll n s
  | .commitPeriodExpiry => Sys2Proof.Machine.execCommitPeriodExpiry s
  | .journalCommit => Sys2Proof.Machine.execJournalCommit s
  | .kgSlotDisable idx => Sys2Proof.Machine.execKgSlotDisable idx s
  | .kgCmdCommit slot => Sys2Proof.Machine.execKgCmdCommit slot s
  | .kgCmdReset slot => Sys2Proof.Machine.execKgCmdReset slot s
  | .plLoad src q region slot => Sys2Proof.Machine.execPlLoad src q region slot s
  | .regionLoadComplete q store readBad tenths => Sys2Proof.Machine.execRegionLoadComplete q store readBad tenths s
  | .plSwitch src q pos region => Sys2Proof.Machine.execPlSwitch src q pos region s
  | .culvertSwitchComplete q pos => Sys2Proof.Machine.execCulvertSwitchComplete q pos s
  | .plUnload src q region => Sys2Proof.Machine.execPlUnload src q region s
  | .unloadComplete q => Sys2Proof.Machine.execUnloadComplete q s
  | .commonSwitch q => Sys2Proof.Machine.execCommonSwitch q s
  | .commonSwitchTick q => Sys2Proof.Machine.execCommonSwitchTick q s
  | .polderTick q ntc die => Sys2Proof.Machine.execPolderTick q ntc die s
  | .tplBegin src t common => Sys2Proof.Machine.execTplBegin src t common s
  | .tplDataWrite src w => Sys2Proof.Machine.execTplDataWrite src w s
  | .tplEnd src t => Sys2Proof.Machine.execTplEnd src t s
  | .templateCheckDone => Sys2Proof.Machine.execTemplateCheckDone s
  | .tplFree src t => Sys2Proof.Machine.execTplFree src t s
  | .fabricScrubRead q upset hour => Sys2Proof.Machine.execFabricScrubRead q upset hour s
  | .storeScrubRead upset => Sys2Proof.Machine.execStoreScrubRead upset s
  | .plScrubCntClr q => Sys2Proof.Machine.execPlScrubCntClr q s
  | .culvertWatchFault q pos fault => Sys2Proof.Machine.execCulvertWatchFault q pos fault s
  | .qyPrepare src port target => Sys2Proof.Machine.execQyPrepare src port target s
  | .prepareLapse q => Sys2Proof.Machine.execPrepareLapse q s
  | .qyAbandon src port => Sys2Proof.Machine.execQyAbandon src port s
  | .qyTrial src port target => Sys2Proof.Machine.execQyTrial src port target s
  | .regionTrialEnd q r within24 => Sys2Proof.Machine.execRegionTrialEnd q r within24 s
  | .coreHop src role target => Sys2Proof.Machine.execCoreHop src role target s
  | .watchdogExpiry k within24 => Sys2Proof.Machine.execWatchdogExpiry k within24 s
  | .coreTrialDone k pass => Sys2Proof.Machine.execCoreTrialDone k pass s
  | .queueFault x pointer row => Sys2Proof.Machine.execQueueFault x pointer row s
  | .sramRowFault k data row lost => Sys2Proof.Machine.execSramRowFault k data row lost s
  | .sharedSramScrubRead upset => Sys2Proof.Machine.execSharedSramScrubRead upset s
  | .coreScrubRead k upset => Sys2Proof.Machine.execCoreScrubRead k upset s
  | .oscWindowCheck q edges ms => Sys2Proof.Machine.execOscWindowCheck q edges ms s
  | .spoilEntryWrite => Sys2Proof.Machine.execSpoilEntryWrite s
  | .dropClr n => Sys2Proof.Machine.execDropClr n s
  | .add k cond rd rs => Sys2Proof.Machine.execAdd k cond rd rs s
  | .adc k cond rd rs => Sys2Proof.Machine.execAdc k cond rd rs s
  | .sub k cond rd rs => Sys2Proof.Machine.execSub k cond rd rs s
  | .sbc k cond rd rs => Sys2Proof.Machine.execSbc k cond rd rs s
  | .andI k cond rd rs => Sys2Proof.Machine.execAndI k cond rd rs s
  | .orI k cond rd rs => Sys2Proof.Machine.execOrI k cond rd rs s
  | .xorI k cond rd rs => Sys2Proof.Machine.execXorI k cond rd rs s
  | .mov k cond rd rs => Sys2Proof.Machine.execMov k cond rd rs s
  | .addi k cond rd rs => Sys2Proof.Machine.execAddi k cond rd rs s
  | .cmp k cond rd rs => Sys2Proof.Machine.execCmp k cond rd rs s
  | .tst k cond rd rs => Sys2Proof.Machine.execTst k cond rd rs s
  | .lsl k cond rd => Sys2Proof.Machine.execLsl k cond rd s
  | .lsr k cond rd => Sys2Proof.Machine.execLsr k cond rd s
  | .asr k cond rd => Sys2Proof.Machine.execAsr k cond rd s
  | .rol k cond rd => Sys2Proof.Machine.execRol k cond rd s
  | .ror k cond rd => Sys2Proof.Machine.execRor k cond rd s
  | .rlc k cond rd => Sys2Proof.Machine.execRlc k cond rd s
  | .rrc k cond rd => Sys2Proof.Machine.execRrc k cond rd s
  | .sxt k cond rd => Sys2Proof.Machine.execSxt k cond rd s
  | .ldk k cond rd rs => Sys2Proof.Machine.execLdk k cond rd rs s
  | .ld k cond rd rs upset => Sys2Proof.Machine.execLd k cond rd rs upset s
  | .st k cond rd rs => Sys2Proof.Machine.execSt k cond rd rs s
  | .ldx k cond rd rs upset => Sys2Proof.Machine.execLdx k cond rd rs upset s
  | .stx k cond rd rs => Sys2Proof.Machine.execStx k cond rd rs s
  | .inp k cond rd rs => Sys2Proof.Machine.execInp k cond rd rs s
  | .outp k cond rd rs => Sys2Proof.Machine.execOutp k cond rd rs s
  | .bra k cond d6 => Sys2Proof.Machine.execBra k cond d6 s
  | .jmp k cond rs => Sys2Proof.Machine.execJmp k cond rs s
  | .callI k cond rs => Sys2Proof.Machine.execCallI k cond rs s
  | .retI k cond f => Sys2Proof.Machine.execRetI k cond f s
  | .rett k cond rd => Sys2Proof.Machine.execRett k cond rd s
  | .dropI k cond rd => Sys2Proof.Machine.execDropI k cond rd s
  | .depthI k cond rd => Sys2Proof.Machine.execDepthI k cond rd s
  | .pushI k cond rd => Sys2Proof.Machine.execPushI k cond rd s
  | .topI k cond rd => Sys2Proof.Machine.execTopI k cond rd s
  | .pfx k cond p6 => Sys2Proof.Machine.execPfx k cond p6 s
  | .crcs k cond rd rs => Sys2Proof.Machine.execCrcs k cond rd rs s
  | .parI k cond rd rs => Sys2Proof.Machine.execParI k cond rd rs s
  | .brev k cond rd rs => Sys2Proof.Machine.execBrev k cond rd rs s
  | .mulI k cond rd rs => Sys2Proof.Machine.execMulI k cond rd rs s
  | .ldm k cond rd => Sys2Proof.Machine.execLdm k cond rd s
  | .macu k cond rd => Sys2Proof.Machine.execMacu k cond rd s
  | .macs k cond rd => Sys2Proof.Machine.execMacs k cond rd s
  | .msus k cond rd => Sys2Proof.Machine.execMsus k cond rd s
  | .rdh k cond rd => Sys2Proof.Machine.execRdh k cond rd s
  | .rdl k cond rd => Sys2Proof.Machine.execRdl k cond rd s
  | .clrI k cond rd => Sys2Proof.Machine.execClrI k cond rd s
  | .rnd k cond rd => Sys2Proof.Machine.execRnd k cond rd s
  | .setp k cond comb sub => Sys2Proof.Machine.execSetp k cond comb sub s
  | .waitI k cond f => Sys2Proof.Machine.execWaitI k cond f s
  | .waitWake k => Sys2Proof.Machine.execWaitWake k s
  | .poll k cond rd => Sys2Proof.Machine.execPoll k cond rd s
  | .gets k cond rd => Sys2Proof.Machine.execGets k cond rd s
  | .puts k cond rd => Sys2Proof.Machine.execPuts k cond rd s
  | .kick k cond rd => Sys2Proof.Machine.execKick k cond rd s
  | .trapI k cond rd => Sys2Proof.Machine.execTrapI k cond rd s
  | .fenceI k cond f => Sys2Proof.Machine.execFenceI k cond f s
  | .ctimExpiry k => Sys2Proof.Machine.execCtimExpiry k s
  | .queueCommit k x rd => Sys2Proof.Machine.execQueueCommit k x rd s
  | .cTrapCntClr k => Sys2Proof.Machine.execCTrapCntClr k s
  | .cEccCntClr k => Sys2Proof.Machine.execCEccCntClr k s
  | .linkDownWaitExpiry idx => Sys2Proof.Machine.execLinkDownWaitExpiry idx s
  | .lineEnergyDetected idx => Sys2Proof.Machine.execLineEnergyDetected idx s
  | .polarityFound idx inverted => Sys2Proof.Machine.execPolarityFound idx inverted s
  | .polarityTimeout idx => Sys2Proof.Machine.execPolarityTimeout idx s
  | .rateTrialPass idx => Sys2Proof.Machine.execRateTrialPass idx s
  | .rateTrialTimeout idx => Sys2Proof.Machine.execRateTrialTimeout idx s
  | .eqStep idx viol => Sys2Proof.Machine.execEqStep idx viol s
  | .auth1 idx up serial nonce => Sys2Proof.Machine.execAuth1 idx up serial nonce s
  | .auth2 idx mac => Sys2Proof.Machine.execAuth2 idx mac s
  | .authTimeout idx => Sys2Proof.Machine.execAuthTimeout idx s
  | .linkSilence idx => Sys2Proof.Machine.execLinkSilence idx s
  | .codeViolationLimit idx => Sys2Proof.Machine.execCodeViolationLimit idx s
  | .helloTimer idx => Sys2Proof.Machine.execHelloTimer idx s
  | .retrain idx => Sys2Proof.Machine.execRetrain idx s
  | .lkCtrlEnClear idx => Sys2Proof.Machine.execLkCtrlEnClear idx s
  | .cellReceived idx raw bad => Sys2Proof.Machine.execCellReceived idx raw bad s
  | .cellTransmit idx => Sys2Proof.Machine.execCellTransmit idx s
  | .linkAck idx seqA seqB creditA creditB => Sys2Proof.Machine.execLinkAck idx seqA seqB creditA creditB s
  | .linkNak idx bulk => Sys2Proof.Machine.execLinkNak idx bulk s
  | .ackTimeout idx bulk => Sys2Proof.Machine.execAckTimeout idx bulk s
  | .beaconTimer => Sys2Proof.Machine.execBeaconTimer s
  | .linkBeacon idx => Sys2Proof.Machine.execLinkBeacon idx s
  | .beaconLoss => Sys2Proof.Machine.execBeaconLoss s
  | .rootRevertTimer => Sys2Proof.Machine.execRootRevertTimer s
  | .linkTopo idx => Sys2Proof.Machine.execLinkTopo idx s
  | .linkAddr idx => Sys2Proof.Machine.execLinkAddr idx s
  | .linkLease idx => Sys2Proof.Machine.execLinkLease idx s
  | .linkDemand idx => Sys2Proof.Machine.execLinkDemand idx s
  | .stateCopy idx c => Sys2Proof.Machine.execStateCopy idx c s
  | .lifeTimer => Sys2Proof.Machine.execLifeTimer s
  | .linkLife idx => Sys2Proof.Machine.execLinkLife idx s
  | .linkLog idx => Sys2Proof.Machine.execLinkLog idx s
  | .managerLoss => Sys2Proof.Machine.execManagerLoss s
  | .reclaim => Sys2Proof.Machine.execReclaim s
  | .timeSyncTimer => Sys2Proof.Machine.execTimeSyncTimer s
  | .linkSync idx t1 t2 => Sys2Proof.Machine.execLinkSync idx t1 t2 s
  | .delayReq idx => Sys2Proof.Machine.execDelayReq idx s
  | .delayRsp idx t3 t4 => Sys2Proof.Machine.execDelayRsp idx t3 t4 s
  | .syncedTimer => Sys2Proof.Machine.execSyncedTimer s
  | .syncLost => Sys2Proof.Machine.execSyncLost s
  | .remGo w => Sys2Proof.Machine.execRemGo w s
  | .remReq idx => Sys2Proof.Machine.execRemReq idx s
  | .remRsp idx => Sys2Proof.Machine.execRemRsp idx s
  | .remTimeout => Sys2Proof.Machine.execRemTimeout s
  | .lkErrCntClr idx => Sys2Proof.Machine.execLkErrCntClr idx s
  | .twHPointer addr reg code sr => Sys2Proof.Machine.execTwHPointer addr reg code sr s
  | .twHWrite addr reg data sr => Sys2Proof.Machine.execTwHWrite addr reg data sr s
  | .twHBlockPointer addr reg count tail sr => Sys2Proof.Machine.execTwHBlockPointer addr reg count tail sr s
  | .twHRead addr n => Sys2Proof.Machine.execTwHRead addr n s
  | .twHBlockRead addr n => Sys2Proof.Machine.execTwHBlockRead addr n s
  | .twHTransactionServe => Sys2Proof.Machine.execTwHTransactionServe s
  | .hostAccess src w => Sys2Proof.Machine.execHostAccess src w s
  | .alertRecordSend acked => Sys2Proof.Machine.execAlertRecordSend acked s
  | .alertRetryExpiry acked => Sys2Proof.Machine.execAlertRetryExpiry acked s
  | .arbitrationLost m => Sys2Proof.Machine.execArbitrationLost m s
  | .arbLostSr m => Sys2Proof.Machine.execArbLostSr m s
  | .sclTo m => Sys2Proof.Machine.execSclTo m s
  | .sdaTo m cleared => Sys2Proof.Machine.execSdaTo m cleared s
  | .stuckRetryExpiry m sdaLow cleared => Sys2Proof.Machine.execStuckRetryExpiry m sdaLow cleared s
  | .twMCommand sdaLow cleared => Sys2Proof.Machine.execTwMCommand sdaLow cleared s
  | .twMCommandDone nack code data => Sys2Proof.Machine.execTwMCommandDone nack code data s
  | .shedSample feeds pf berm vdda vddc die => Sys2Proof.Machine.execShedSample feeds pf berm vdda vddc die s
  | .shelfReq => Sys2Proof.Machine.execShelfReq s
  | .shelfWake => Sys2Proof.Machine.execShelfWake s
  | .fuseProgram src addr => Sys2Proof.Machine.execFuseProgram src addr s
  | .fuseLock src region up => Sys2Proof.Machine.execFuseLock src region up s
  | .readNormal src addr upset => Sys2Proof.Machine.execReadNormal src addr upset s
  | .readStrict src addr upset => Sys2Proof.Machine.execReadStrict src addr upset s
  | .fuseRevoke src slot => Sys2Proof.Machine.execFuseRevoke src slot s
  | .fuseProgramDone got => Sys2Proof.Machine.execFuseProgramDone got s
  | .fuseScrubRead normal strict => Sys2Proof.Machine.execFuseScrubRead normal strict s
  | .fzScrubCntClr => Sys2Proof.Machine.execFzScrubCntClr s
  | .flashRead addr n => Sys2Proof.Machine.execFlashRead addr n s
  | .flashProgram addr n data => Sys2Proof.Machine.execFlashProgram addr n data s
  | .erase4k addr n => Sys2Proof.Machine.execErase4k addr n s
  | .erase64k addr n => Sys2Proof.Machine.execErase64k addr n s
  | .readId addr n => Sys2Proof.Machine.execReadId addr n s
  | .flashCommandDone => Sys2Proof.Machine.execFlashCommandDone s
  | .settingsRecordWrite j => Sys2Proof.Machine.execSettingsRecordWrite j s
  | .logRecordWrite code value => Sys2Proof.Machine.execLogRecordWrite code value s
  | .flUpdStageBegin => Sys2Proof.Machine.execFlUpdStageBegin s
  | .flStgDataWrite w => Sys2Proof.Machine.execFlStgDataWrite w s
  | .flUpdStageEnd => Sys2Proof.Machine.execFlUpdStageEnd s
  | .flUpdArm => Sys2Proof.Machine.execFlUpdArm s
  | .flUpdAbort => Sys2Proof.Machine.execFlUpdAbort s
  | .flUpdRevert => Sys2Proof.Machine.execFlUpdRevert s
  | .stageBegin idx => Sys2Proof.Machine.execStageBegin idx s
  | .bundle idx => Sys2Proof.Machine.execBundle idx s
  | .stageReportTimer => Sys2Proof.Machine.execStageReportTimer s
  | .stageReport idx => Sys2Proof.Machine.execStageReport idx s
  | .stagingTimeout => Sys2Proof.Machine.execStagingTimeout s
  | .updArm idx => Sys2Proof.Machine.execUpdArm idx s
  | .armReport idx => Sys2Proof.Machine.execArmReport idx s
  | .armReportTimeout => Sys2Proof.Machine.execArmReportTimeout s
  | .updAbort idx => Sys2Proof.Machine.execUpdAbort idx s
  | .updateMessageRepeat => Sys2Proof.Machine.execUpdateMessageRepeat s
  | .updActivate => Sys2Proof.Machine.execUpdActivate s
  | .updHealth idx => Sys2Proof.Machine.execUpdHealth idx s
  | .updConfirm idx => Sys2Proof.Machine.execUpdConfirm idx s
  | .confirmDeadline => Sys2Proof.Machine.execConfirmDeadline s
  | .updRevert idx => Sys2Proof.Machine.execUpdRevert idx s
  | .updReverted idx => Sys2Proof.Machine.execUpdReverted idx s
  | .lateWindowExpiry => Sys2Proof.Machine.execLateWindowExpiry s
  | .roleFlipDone n => Sys2Proof.Machine.execRoleFlipDone n s
  | .breachConditionEnd n code => Sys2Proof.Machine.execBreachConditionEnd n code s
  | .vgdRestored q => Sys2Proof.Machine.execVgdRestored q s
  | .vddioRestored mv => Sys2Proof.Machine.execVddioRestored mv s

end Sys2Proof.Machine
end

