-- ==== Sys2Proof/Safety.lean ====
section
/-! DEFINITION. The terms that claims are stated in: the outcome of a command, what a command leaves alone, and the
invariants of the state. -/

namespace Sys2Proof.Machine

/-- A command completes in a next state of which `post` holds. -/
def Completes (i : Instr) (s : State) (post : State → Prop) : Prop := ∃ t, exec i s = .next t ∧ post t

/-- A port but for its checkpoint copies (R262) and for P_KG_SOC and P_KG_CAP, which the gauge writes (Table 18.7). -/
def Port.bare (p : Port) : Port :=
  { p with ck0 := Ckpt.none, ck1 := Ckpt.none, ckNewer := false, kgSoc := PKgSoc.reset, kgCap := PKgCap.reset }

/-- A port but for P_KG_SOC and P_KG_CAP. -/
def Port.ungauged (p : Port) : Port := { p with kgSoc := PKgSoc.reset, kgCap := PKgCap.reset }

/-- Two states differ at most in the port `n` and in the gauge, which follows the port (R199); a gauge slot that the port lets
go may serve another port, and is shown in its two registers (R198, R223). -/
def OnlyPort (n : PortId) (s t : State) : Prop :=
  { t with ports := s.ports, kg := s.kg } = s ∧ ∀ m : PortId, m ≠ n → t.ports[m].ungauged = s.ports[m].ungauged

/-- Two states differ at most in the core `k`. -/
def OnlyCore (k : CoreId) (s t : State) : Prop :=
  { t with cores := s.cores } = s ∧ ∀ j : CoreId, j ≠ k → t.cores[j] = s.cores[j]

/-- A command completes, acts on port `n` alone, and leaves it so that `post` holds of it, whatever its checkpoint copies
and its gauge registers hold. -/
def PortCompletes (i : Instr) (n : PortId) (s : State) (post : Port → Prop) : Prop :=
  Completes i s fun t => OnlyPort n s t ∧ post t.ports[n].bare

/-- The P_EVT bit of an event is set (Table 18.10). -/
def Port.flagged (e : PEvent) (p : Port) : Bool :=
  match e.bit with
  | some i => p.evt.getLsbD i
  | none => false

/-- A command completes, acts on core `k` alone, and leaves it so that `post` holds of it. -/
def CoreCompletes (i : Instr) (k : CoreId) (s : State) (post : Core → Prop) : Prop :=
  Completes i s fun t => OnlyCore k s t ∧ post t.cores[k]

/-- A state with its alerts blanked: queue 233 and the TW_H block that sends them (R373). -/
def State.mute (s : State) : State := { s with tw := TwoWire.reset, sysq := s.sysq.set 41 (Queue.init 0#5 false) }

/-- A command completes, leaves core `k` as `c`, and changes nothing else; where the core stops at a double trap and the class-A
guarantee falls with it, A_GUAR_LOST is set and an alert given as well (R180, R312). -/
def CoreBecomes (i : Instr) (k : CoreId) (s : State) (c : Core) : Prop :=
  Completes i s fun t => t.cores[k] = c ∧
    if c.stat.state = 3#3 ∧ s.aGuar = true ∧ t.aGuar = false then
      t.bg = { s.bg with stat := { s.bg.stat with aGuarLost := true } } ∧ OnlyCore k s.mute { t.mute with bg := s.bg }
    else OnlyCore k s t

/-- A command completes in the state `t`, but for the alerts it gives. -/
def CompletesIn (i : Instr) (s t : State) : Prop := Completes i s fun u => u.mute = t.mute

/-- A command completes, acts on link port `i` alone, and leaves it so that `post` holds of it. -/
def LinkCompletes (i : Instr) (l : LinkId) (s : State) (post : LinkPort → Prop) : Prop :=
  Completes i s fun t => { t with lk := { t.lk with ports := s.lk.ports } } = s ∧
    (∀ j : LinkId, j ≠ l → t.lk.ports[j] = s.lk.ports[j]) ∧ post t.lk.ports[l]

/-- The front end of a port is powered, outside the island (Table 16.4). -/
def State.feUp (s : State) (n : PortId) : Prop := s.polders[polderOf n].die = true ∧ s.sys.mode ≠ .island

/-- The P_ registers of a port can be reached, outside the island and no PLD of its polder (R463, Table 18.11). -/
def State.portRegsUp (s : State) (n : PortId) : Prop :=
  s.controlUp = true ∧ s.sys.mode ≠ .island ∧ s.polders[polderOf n].pld = false

/-- A core in service holds the serving role of a port, so that its TX_GO counts (R464), and no PLD of the port's polder makes
it wait (Table 18.11). -/
def State.servedBy (s : State) (k : CoreId) (n : PortId) : Prop :=
  s.controlUp = true ∧ s.polders[polderOf n].pld = false ∧ s.holds k s.ports[n].q.role = true ∧ s.inService k = true

/-- What R145 asks of the device, beside the pass command, before a pair of port `n` may pass: no latch, no hold line, no loss of
heartbeats for classes B and C, VGD, RUN, and a clock (Table 5.6); the lifeline ports need no RUN in the island (R431). -/
def State.mayPass (s : State) (n : PortId) (p : Port) : Prop :=
  p.sluice.latched = false ∧ s.holdLine (s.cls n) = false ∧
    (s.polders[polderOf n].stat.hbLost = false ∨ s.cls n = .a) ∧ s.polders[polderOf n].vgdPass = true ∧
    (s.sys.runSeen = true ∨ (s.inIsland n = true ∧ s.cls n = .a)) ∧
    (s.polders[polderOf n].oscBad = false ∨ s.polders[polderOf n].fallback = true)

/-- The sense voltage in 10 nV that the current front end works with: ±62.5 mV at most, less the offset in shunt mode, zero
before full enhancement in on-resistance mode (R162). -/
def Port.sensed (p : Port) (x : Int) : Int :=
  let v := max (-6250000) (min 6250000 x)
  if p.sluice.senseMode = 1#2 then (if p.sluice.fullEnh then v else 0) else v - p.fe.offset

/-- A sense voltage in 10 nV, times any factor, as a current in mA: by the pair resistance in on-resistance mode, else by the
shunt and the gain in force (R162, R163). -/
def Port.milliamps (p : Port) (x : Int) : Int :=
  if p.sluice.senseMode = 1#2 then (x * 10).tdiv p.fe.rEst else (x * 10 * p.fe.cal.gain.toNat).tdiv (32768 * p.fe.cal.shunt.toNat)

/-- The sense voltage in 10 nV of a threshold in mA, at most full scale (R162). -/
def Port.threshold (p : Port) (ma : Nat) : Nat :=
  if p.sluice.senseMode = 1#2 then min 6250000 (ma * p.fe.rEst / 10)
  else if p.fe.cal.gain = 0#16 then 6250000
  else min 6250000 (ma * p.fe.cal.shunt.toNat * 32768 / (p.fe.cal.gain.toNat * 10))

/-- What a breach leaves in the port that had it: the latch, both pairs holding, and the records of P_TRIP (R148, R150);
`p` is the port before, `q` after. -/
def Port.tripped (b : Breach) (p q : Port) : Prop :=
  q.sluice.latched = true ∧ q.fe.path = .none ∧ q.trip.breach = p.trip.breach ||| (1#9 <<< (b.code.toNat - 1)) ∧
    q.trip.first = (if p.sluice.latched then p.trip.first else b.code) ∧
    q.trip.breachTotal = satInc p.trip.breachTotal ∧ q.trip.winCnt = satInc p.trip.winCnt

/-- A core executes an instruction: it runs, no failed prefix suppresses the instruction, and the condition holds (R296,
R299). -/
def State.executes (s : State) (k : CoreId) (cond : BitVec 3) : Prop :=
  s.coreUp k = true ∧ s.cores[k].stat.state = 1#3 ∧ s.cores[k].chain.suppress = false ∧ s.cores[k].flags.cond cond = true

/-- A core after an instruction of `n` cycles that leaves PC at `pc`: the chain is consumed and CYCLE counts (R297,
Table 10.6). -/
def Core.after (c : Core) (pc : BitVec 14) (n : Nat) : Core :=
  { c with chain := Chain.none, pc := pc, sp := { c.sp with cycle := c.sp.cycle + BitVec.ofNat 36 n } }

/-- A core after an instruction of one cycle that goes on to the next address. -/
def Core.next (c : Core) : Core := c.after (c.pc + 1#14) 1

/-- A core after a trap (R311): TPC, TFL, TCAUSE, TVAL, TACT, C_TRAP and PC; 2 cycles. -/
def Core.trapped (c : Core) (cause : BitVec 4) (tval : BitVec 36) (ret : BitVec 14) : Core :=
  { c with
    sp := { c.sp with tpc := ret, tfl := c.flags.word, tcause := cause, tval := tval, cycle := c.sp.cycle + 2#36 },
    tact := true, chain := Chain.none, pc := 0x0004#14,
    trap := { c.trap with cause := cause, tpc := ret, tact := true, count := satInc c.trap.count } }

/-- The address that a trap other than SWTRAP returns to: the instruction, or the first PFX of its chain (R311). -/
def Core.trapAddr (c : Core) : BitVec 14 := if c.chain.seen = 0#3 then c.pc else c.chain.first

/-- The region of a port is free to take a message of the core in hand: PD is served, nothing is on the line or waits, no
Soft_Reset is due, and the command that the head group causes is no repeat (R74, R76, R79). -/
def Port.free (p : Port) : Prop :=
  p.stg.pending = false ∧ p.rg.latchedPdEn = true ∧ p.pdstat.giveup = false ∧ p.rg.tx = none ∧
    p.rg.held = none ∧ p.rg.ownDue = [] ∧ p.rg.phase = .idle ∧ p.role.softDue = false ∧
    p.rg.lastSeq ≠ some ((fld p.q.rd 0 7).setWidth 8) ∧ p.rg.lastSeq1 ≠ some ((fld p.q.rd 0 7).setWidth 8)

/-- The memories of the device lie in their canonical form: the shared SRAM, each core's data SRAM and code rows, the fuse
array and the flash. -/
def State.memOk (s : State) : Bool :=
  Mem.wf 0#36 s.shared && (List.finRange 16).all (fun k => Mem.wf 0#36 s.cores[k].data && Mem.wf 0#56 s.cores[k].code) &&
    Mem.wf 0#44 s.fz.raw && Mem.wf 0xFF#8 s.fl.mem

end Sys2Proof.Machine
end

