-- ==== Sys2Proof/Certificates/Slice0/Obligations.lean ====
section
/-! DEFINITION. The statements about the model: what each command of the block does, when it completes, and what every step
keeps. -/

section

open Sys2Proof Sys2Proof.Machine

/-- Exits of the unattached states and the watch on the active line (R42, R47, R48, R59, Table 2.3). -/
def Obligations.TypeCUnattachedExits : Prop :=
  ∀ (s : State) (n : PortId) (p : Port), s.ports[n] = p → s.regionUp n = true → p.onAir = false →
    (∀ v1 v2, p.tc.state = .unattachedSrc → p.tc.rpProbing = true → p.cc.vconnOn = false → 200 ≤ v1 → v1 < 1600 →
      PortCompletes (.probe n v1 v2) n s fun q =>
        q.tc.state = .attachWaitSrc ∧ q.tc.prevState = .unattachedSrc ∧ q.cc.cc1Line = 2#3) ∧
    (∀ v1 v2, p.tc.state = .unattachedSnk → p.tc.rpProbing = true → p.cc.vconnOn = false → 200 ≤ v1 →
      PortCompletes (.probe n v1 v2) n s fun q =>
        q.tc.state = .attachWaitSnk ∧ q.tc.prevState = .unattachedSnk ∧ 3 ≤ q.cc.cc1Line.toNat) ∧
    (∀ v1 v2, p.tc.state = .unattachedSrc → p.tc.rpProbing = false → p.cc.vconnOn = false → 800 ≤ v1 → v1 < 1600 →
      PortCompletes (.ccLineChange n v1 v2) n s fun q =>
        q.tc.state = .attachWaitSrc ∧ q.tc.prevState = .unattachedSrc ∧ q.cc.cc1Line = 2#3) ∧
    (∀ v1 v2, p.tc.state = .unattachedSnk → p.tc.rpProbing = false → p.cc.vconnOn = false → 200 ≤ v1 →
      PortCompletes (.ccLineChange n v1 v2) n s fun q =>
        q.tc.state = .attachWaitSnk ∧ q.tc.prevState = .unattachedSnk ∧ 3 ≤ q.cc.cc1Line.toNat) ∧
    (p.timerOn .drpHalf = true → p.tc.state = .unattachedSnk →
      PortCompletes (.drpToggle n) n s fun q => q.tc.state = .unattachedSrc ∧ q.tc.prevState = .unattachedSnk) ∧
    (p.timerOn .drpHalf = true → p.tc.state = .unattachedSrc →
      PortCompletes (.drpToggle n) n s fun q => q.tc.state = .unattachedSnk ∧ q.tc.prevState = .unattachedSrc) ∧
    (∀ v1 v2, p.tc.state = .attachedSrc → p.tc.rpProbing = false → p.cc.vconnOn = false → p.cc.polarity = false →
      2600 ≤ v1 → PortCompletes (.ccLineChange n v1 v2) n s fun q =>
        q.tc.state = .attachedSrc ∧ q.cc.cc1Line = 0#3 ∧ q.timerOn .srcDisconnect = true)

/-- The exits of the debounced and timed states (R46, R52, R61, R68, R155, R495, Table 2.3). -/
def Obligations.TypeCTimedExits : Prop :=
  ∀ (s : State) (n : PortId) (p : Port), s.ports[n] = p → s.regionUp n = true →
    (p.timerOn .ccDebounce = true → p.tc.state = .attachWaitSnk → p.pattern = .one2 → p.cc.vbPresent = true →
      p.trySrcOn = false → PortCompletes (.ccDebounceExpiry n) n s fun q =>
        q.tc.state = .attachedSnk ∧ q.tc.attachCnt = p.tc.attachCnt + 1#8 ∧ q.cc.polarity = true ∧
          q.pdstat.drole = false ∧ q.flagged .tcAttach = true ∧ q.timerOn .ccDebounce = false) ∧
    (p.timerOn .ccDebounce = true → p.tc.state = .attachWaitSrc → p.pattern = .both →
      PortCompletes (.ccDebounceExpiry n) n s fun q =>
        q.tc.state = .debugSrc ∧ q.flagged .tcAccessory = true) ∧
    (p.timerOn .pdDebounce = true → p.tc.state = .attachWaitSrc →
      PortCompletes (.pdDebounceExpiry n) n s fun q =>
        q.tc.state = (if p.latchCfg.typeOf = 0#2 then .unattachedSrc else .unattachedSnk) ∧ q.timerOn .pdDebounce = false) ∧
    (p.timerOn .tryCcDebounce = true → p.tc.state = .trySnk → p.pattern = .open →
      PortCompletes (.tryCcDebounceExpiry n) n s fun q =>
        q.tc.state = .tryWaitSrc ∧ q.timerOn .tryTimeout = true) ∧
    (p.timerOn .tryCcDebounce = true → p.tc.state = .tryWaitSrc → p.cc.vbSafe0 = false →
      PortCompletes (.tryCcDebounceExpiry n) n s fun q =>
        q.tc.state = .attachedSrc ∧ q.tc.attachCnt = p.tc.attachCnt + 1#8 ∧ q.pdstat.drole = true ∧
          q.fe.path = p.fe.path ∧ q.timerOn .vb0Wait = true) ∧
    (p.timerOn .drpTry = true → p.tc.state = .trySrc →
      PortCompletes (.drpTryExpiry n) n s fun q => q.tc.state = .tryWaitSnk ∧ q.timerOn .drpTry = false) ∧
    (p.timerOn .tryTimeout = true → p.tc.state = .tryWaitSrc →
      PortCompletes (.tryTimeoutExpiry n) n s fun q => q.tc.state = .unattachedSnk ∧ q.tc.prevState = .tryWaitSrc) ∧
    (p.timerOn .errorRecovery = true → p.tc.state = .errorRecovery → (p.fe.ccIsolated = false ∨ p.fe.cond = []) →
      PortCompletes (.errorRecoveryExpiry n) n s fun q =>
        q.tc.state = (if p.latchCfg.typeOf = 0#2 then .unattachedSrc else .unattachedSnk)) ∧
    (p.timerOn .errorRecovery = true → p.tc.state = .errorRecovery → p.fe.ccIsolated = true → p.fe.cond ≠ [] →
      PortCompletes (.errorRecoveryExpiry n) n s fun q => q.tc.state = .errorRecovery)

/-- VB levels and what waits for them (R43, R46, R144, R154, R495, Tables 3.9 and 4.1). -/
def Obligations.TypeCVbusLevels : Prop :=
  ∀ (s : State) (n : PortId) (p : Port), s.ports[n] = p →
    (∀ mv, s.feUp n → PortCompletes (.vbLevelChange n mv) n s fun q =>
      q.cc.vbPresent = (decide (4000 ≤ mv) || (p.cc.vbPresent && decide (3670 ≤ mv))) ∧ q.cc.vbSafe0 = decide (mv ≤ 800) ∧
        q.fe.vb = mv ∧ q.fe.foreign = (p.fe.foreign && decide (3670 ≤ mv))) ∧
    (∀ mv, s.feUp n → s.regionUp n = true → p.tc.state = .attachedSrc → p.rg.noFirstPass = true → p.rg.hr = .idle →
      p.fe.path = .none → p.cc.vbSafe0 = false → mv ≤ 800 → s.mayPass n p →
      PortCompletes (.vbLevelChange n mv) n s fun q =>
        q.fe.path = .source ∧ q.vset.duty = 0#12 ∧ q.rg.rise = .attach ∧ q.timerOn .vbusOn = true ∧ q.fe.dis = .off ∧
          q.tc = p.tc) ∧
    (∀ mv, s.feUp n → s.regionUp n = true → p.tc.state = .attachWaitSnk → p.rg.ccMet = true → p.trySrcOn = false →
      p.rg.hr = .idle → p.cc.vbPresent = false → 4000 ≤ mv → PortCompletes (.vbLevelChange n mv) n s fun q =>
        q.tc.state = .attachedSnk ∧ q.tc.attachCnt = p.tc.attachCnt + 1#8 ∧ q.flagged .tcAttach = true) ∧
    (∀ mv, s.feUp n → s.regionUp n = false → p.fe.dis = .off →
      PortCompletes (.vbLevelChange n mv) n s fun q => q = { p with
        cc := { p.cc with vbPresent := decide (4000 ≤ mv) || (p.cc.vbPresent && decide (3670 ≤ mv)),
                          vbSafe0 := decide (mv ≤ 800) },
        fe := { p.fe with vb := mv, foreign := p.fe.foreign && decide (3670 ≤ mv) } }.bare) ∧
    (s.regionUp n = true →
      (p.rg.rise = .attach → PortCompletes (.vsafe5vReached n) n s fun q =>
        q.rg.rise = .none ∧ q.flagged .tcAttach = true ∧ q.timerOn .vbusOn = false ∧ q.tc = p.tc) ∧
      (p.rg.rise = .hardReset → PortCompletes (.vsafe5vReached n) n s fun q =>
        q.rg.hr = .idle ∧ q.pdstat.hrActive = false ∧ q.flagged .pdHardResetDone = true ∧ q.tc = p.tc) ∧
      (p.rg.rise = .srcOn → PortCompletes (.vsafe5vReached n) n s fun q =>
        q.rg.rise = .none ∧ q.flagged .ppDone = true ∧ q.tc = p.tc) ∧
      (p.rg.rise = .none → PortCompletes (.vsafe5vReached n) n s fun q => q = p.bare) ∧
      (p.timerOn .vb0Wait = true → p.cc.vbSafe0 = false → p.rg.hr ≠ .srcSafe0 →
        p.tc.state ≠ .attachedSrc ∨ p.rg.noFirstPass = false →
        PortCompletes (.vb0WaitExpiry n) n s fun q => q = (p.stop .vb0Wait).bare) ∧
      (p.timerOn .vb0Wait = true → p.cc.vbSafe0 = false →
        (p.tc.state = .attachedSrc ∧ p.rg.noFirstPass = true) ∨ p.rg.hr = .srcSafe0 →
        PortCompletes (.vb0WaitExpiry n) n s fun q =>
          q.tc.state = .errorRecovery ∧ q.flagged .tcVbStuck = true ∧ q.fe.path = .none) ∧
      (p.timerOn .vbusOn = true → p.rg.rise = .attach →
        PortCompletes (.vbusonExpiry n) n s fun q =>
          q.tc.state = .errorRecovery ∧ q.flagged .tcVbStuck = true ∧ q.fe.path = .none))

/-- Detach, ErrorRecovery and Disabled (R59 to R61, R63, R64, R126, R136, R495, Table 2.7). -/
def Obligations.TypeCDetachPaths : Prop :=
  ∀ (s : State) (n : PortId) (p : Port), s.ports[n] = p →
    let ended (c : BitVec 3) (q : Port) : Prop :=
      q.tc.detachCause = c ∧ q.fe.path = .none ∧ q.vset.duty = 0#12 ∧ q.cc.vconnOn = false ∧ q.fe.vcnDriven = false ∧
        q.contract = PContract.reset ∧ q.partner = PPartner.reset ∧ (p.rg.announced = true → q.flagged .tcDetach = true)
    let idle : TcState := if p.latchCfg.typeOf = 0#2 then .unattachedSrc else .unattachedSnk
    (s.regionUp n = true →
      (p.tc.state = .attachedSrc → p.timerOn .srcDisconnect = true →
        PortCompletes (.slowDetach n) n s fun q => ended 1#3 q ∧ q.tc.state = idle) ∧
      (s.feUp n → p.tc.state = .attachedSrc → p.onAir = true →
        PortCompletes (.fastDetachLatch n) n s fun q => q = { p with fe := { p.fe with fdetBlank := true } }.bare) ∧
      (s.feUp n → p.tc.state = .attachedSrc → p.onAir = false → p.contract.transPend = true ∨ p.contract.swap = true →
        PortCompletes (.fastDetachLatch n) n s fun q => ended 3#3 q ∧ q.tc.state = idle ∧
          q.flagged .detachInTransition = true) ∧
      (s.feUp n → p.tc.state = .attachedSrc → p.onAir = false →
        p.contract.transPend = false → p.contract.swap = false →
        PortCompletes (.fastDetachLatch n) n s fun q =>
          q.tc = p.tc ∧ q.rg.fdet = true ∧ q.timerOn .fdetWindow = true ∧ q.fe.fdetLatch = false ∧
            (s.polders[polderOf n].stat.hbLost = true → q.fe.path = .none) ∧
            (s.polders[polderOf n].stat.hbLost = false → q.fe = { p.fe with fdetLatch := false })) ∧
      (∀ ma : Int, p.rg.fdet = true → p.timerOn .fdetWindow = true → ma.natAbs < 50 →
        PortCompletes (.fastDetachCurrentFall n ma) n s fun q => ended 2#3 q ∧ q.tc.state = idle) ∧
      (p.timerOn .fdetWindow = true →
        PortCompletes (.fastDetachWindowExpiry n) n s fun q =>
          q.rg.fdet = false ∧ q.timerOn .fdetWindow = false ∧ q.tc = p.tc ∧ q.fe = p.fe) ∧
      (∀ mv, p.tc.state = .attachedSnk → p.pdstat.vbMask = false → mv < p.rg.snkLevel →
        PortCompletes (.sinkDetach n mv) n s fun q => ended 4#3 q ∧ q.tc.state = idle)) ∧
    (s.portRegsUp n → p.pfault.oos = false → p.tc.state ≠ .disabled →
      (p.tc.state ≠ .errorRecovery → PortCompletes (.errRecovery n) n s fun q =>
        ended 7#3 q ∧ q.tc.state = .errorRecovery ∧ q.timerOn .errorRecovery = true) ∧
      PortCompletes (.portDisable n) n s fun q => ended 5#3 q ∧ q.tc.state = .disabled ∧ q.cc.enable = false)

/-- VCONN events (R55, R56, R64, R84). -/
def Obligations.TypeCVconnEvents : Prop :=
  ∀ (s : State) (n : PortId) (p : Port), s.ports[n] = p → p.fe.vcnDriven = true →
    let shown : PCc :=
      { (if p.cc.vconnOn then p.setLineCode false p.rg.savedOther else p).cc with vconnOn := false }
    (s.regionUp n = true →
      (p.timerOn .vconnLow = true → PortCompletes (.vconnLineOk n) n s fun q =>
        q.fe = p.fe ∧ q.cc = p.cc ∧ q.flagged .tcVconnReady = true ∧ q.timerOn .vconnLow = false) ∧
      PortCompletes (.vconnFaultTimeout n) n s fun q =>
        q.fe.vcnDriven = false ∧ q.cc.vconnOn = false ∧ q.flagged .tcVconnFault = true ∧
          (p.onAir = false → p.fe.fdetLatch = false →
            q.fe = { p.fe with vcnDriven := false } ∧ q.cc = shown ∧ q.tc = p.tc)) ∧
    (s.portRegsUp n →
      PortCompletes (.vconnEnClear n) n s fun q =>
        q.fe.vcnDriven = false ∧ q.cc.vconnOn = false ∧ q.cc.vconnEn = false ∧ q.flagged .tcVconnOff = true ∧
          (p.onAir = false → p.fe.fdetLatch = false →
            q.fe = { p.fe with vcnDriven := false } ∧ q.cc = { shown with vconnEn := false } ∧ q.tc = p.tc))

/-- Pass, hold and full enhancement (R141, R142, R144 to R147, R149). -/
def Obligations.SluicePassAndHold : Prop :=
  ∀ (s : State) (n : PortId) (p : Port), s.ports[n] = p →
    let refused (q : Port) : Prop := q.trip.passRefused = true ∧ q.flagged .slPassRefused = true
    (s.regionUp n = true →
      (s.mayPass n p → p.fe.path = .none → p.fe.foreign = false →
        PortCompletes (.passCommand n true) n s fun q =>
          q.fe.path = .source ∧ q.vset.duty = 0#12 ∧ q.timerOn .gateLimit = true ∧ q.sluice.fullEnh = false) ∧
      (s.mayPass n p → p.fe.path = .none → p.sluice.senseMode ≠ 1#2 →
        PortCompletes (.passCommand n false) n s fun q =>
          q.fe.path = .sink ∧ q.vset = p.vset ∧ q.timerOn .gateLimit = true ∧ q.sluice.fullEnh = false) ∧
      (¬ s.mayPass n p ∨ p.fe.foreign = true → p.fe.path = .none →
        PortCompletes (.passCommand n true) n s fun q => q.fe.path = .none ∧ refused q ∧
          (p.rg.rise = .attach → q.tc.state = .errorRecovery ∧ q.flagged .tcVbStuck = true)) ∧
      (¬ s.mayPass n p ∨ p.sluice.senseMode = 1#2 → p.fe.path = .none →
        PortCompletes (.passCommand n false) n s fun q => q.fe.path = .none ∧ refused q) ∧
      (p.fe.path = .sink → PortCompletes (.passCommand n true) n s fun q =>
        q.fe.path = (if p.rg.rise = .attach then .none else .sink) ∧ q.sluice.otherPair = true ∧ refused q) ∧
      (p.fe.path = .source → PortCompletes (.passCommand n false) n s fun q =>
        q.fe.path = .source ∧ q.sluice.otherPair = (p.sluice.otherPair || decide (p.sluice.senseMode ≠ 1#2)) ∧ refused q) ∧
      (p.fe.path = .source → PortCompletes (.passCommand n true) n s fun q =>
        q.fe.path = .source ∧ q.trip = p.trip ∧ q.vset.duty = 0#12) ∧
      (p.fe.path = .sink → PortCompletes (.passCommand n false) n s fun q => q = p.bare) ∧
      (p.fe.path = .none → PortCompletes (.holdCommand n) n s fun q => q = p.bare) ∧
      (p.fe.path ≠ .none → PortCompletes (.holdCommand n) n s fun q =>
        q.fe.path = .none ∧ q.fe.slowInt = 0 ∧ q.sluice = { p.sluice with fullEnh := false } ∧ q.trip = p.trip ∧
          q.tc = p.tc ∧ q.contract = p.contract)) ∧
    (s.feUp n → p.fe.path = .none → PortCompletes (.fullEnh n) n s fun q => q = p.bare) ∧
    (s.feUp n → p.fe.path ≠ .none → PortCompletes (.fullEnh n) n s fun q =>
      q.fe.path = p.fe.path ∧ q.sluice = { p.sluice with fullEnh := true } ∧ q.timerOn .gateLimit = false ∧ q.vset = p.vset) ∧
    (s.feUp n → p.fe.path = .source → p.fe.fastPass = false → p.rg.moving = 0 →
      PortCompletes (.fullEnh n) n s fun q =>
        q.fe.path = .source ∧ q.sluice = { p.sluice with fullEnh := true } ∧ q.rg.target = 5000 ∧
          q.rg.coldRamp = true ∧ q.timerOn .gateLimit = false)

/-- The breaches of one port (R143, R148 to R150, R153, R162, R163, Tables 5.3 and 5.7). -/
def Obligations.SluiceBreachesTrip : Prop :=
  ∀ (s : State) (n : PortId) (p : Port), s.ports[n] = p → s.feUp n →
    let fast : Nat := if p.sluice.senseMode = 1#2 then min 6250000 (p.fe.vFast / 10)
      else p.threshold (max p.ilim.fast.toNat p.ilim.slow.toNat * 50)
    let conn : Prop := p.sluice.senseMode ≠ 1#2 ∨ p.sluice.fullEnh = true
    let full (x : Int) : Int := if x < 0 then -6250000 else 6250000
    let excess (x : Int) : Int := (p.milliamps (p.sensed x)).natAbs -
      ((min (p.ilim.slow.toNat * 50) (p.milliamps (p.sensed (full x))).natAbs : Nat) : Int)
    (∀ mv, p.fe.set.ccShort * 10 ≤ mv → PortCompletes (.ccShort n mv) n s (p.tripped .ccShort)) ∧
    (∀ mv, mv < p.fe.set.ccShort * 10 → PortCompletes (.ccShort n mv) n s fun q => q = p.bare) ∧
    (∀ mv, p.vOvp ≤ mv → 0 < p.rg.moving ∨ p.sinkSide = true ∨ mv ≤ p.fe.vb →
      PortCompletes (.ovp n mv) n s (p.tripped .ovp)) ∧
    (∀ mv, p.vOvp ≤ mv → p.rg.moving = 0 → p.sinkSide = false → p.fe.vb < mv → p.fe.foreign = false →
      PortCompletes (.ovp n mv) n s fun q =>
        q.fe.foreign = true ∧ q.fe.path = .none ∧ q.fe.dis = .off ∧ q.trip = { p.trip with foreignVb := true } ∧
          q.sluice.latched = p.sluice.latched) ∧
    (∀ mv, mv < p.vOvp → PortCompletes (.ovp n mv) n s fun q => q = p.bare) ∧
    (∀ (x drop : Int), fast ≤ (p.sensed x).natAbs → PortCompletes (.ocFast n x drop) n s (p.tripped .ocFast)) ∧
    (∀ (x drop : Int), p.sluice.senseMode = 1#2 → p.sluice.fullEnh = true → 500 < drop →
      PortCompletes (.ocFast n x drop) n s (p.tripped .ocFast)) ∧
    (∀ (x drop : Int), conn → 6250000 ≤ x.natAbs → PortCompletes (.ocFast n x drop) n s (p.tripped .ocFast)) ∧
    (∀ (x drop : Int), (p.sensed x).natAbs < fast → x.natAbs < 6250000 ∨ ¬ conn →
      drop ≤ 500 ∨ p.sluice.senseMode ≠ 1#2 ∨ p.sluice.fullEnh = false →
      PortCompletes (.ocFast n x drop) n s fun q => q = p.bare) ∧
    (∀ x : Int, p.fe.path = .source → p.sensed x ≤ -(p.threshold (p.ilim.revI.toNat * 50) : Int) →
      PortCompletes (.revI n x) n s (p.tripped .rev)) ∧
    (∀ x : Int, p.fe.path = .sink → (p.threshold (p.ilim.revI.toNat * 50) : Int) ≤ p.sensed x →
      PortCompletes (.revI n x) n s (p.tripped .rev)) ∧
    (∀ x : Int, conn → (p.fe.path = .source ∧ x ≤ -6250000) ∨ (p.fe.path = .sink ∧ 6250000 ≤ x) →
      PortCompletes (.revI n x) n s (p.tripped .rev)) ∧
    (∀ x : Int, p.fe.path = .none ∨
        ((p.sensed x).natAbs < p.threshold (p.ilim.revI.toNat * 50) ∧ (x.natAbs < 6250000 ∨ ¬ conn)) →
      PortCompletes (.revI n x) n s fun q => q = p.bare) ∧
    (∀ (x : Int) (k : Nat), p.fe.path = .none → PortCompletes (.ocSlow n x k) n s fun q => q = p.bare) ∧
    (∀ (x : Int) (k : Nat), p.fe.path ≠ .none → (p.ilim.qSlow.toNat * 100000 : Int) ≤ max 0 (p.fe.slowInt + k * excess x) →
      PortCompletes (.ocSlow n x k) n s (p.tripped .ocSlow)) ∧
    (∀ (x : Int) (k : Nat), p.fe.path ≠ .none →
      max 0 (p.fe.slowInt + k * excess x) < (p.ilim.qSlow.toNat * 100000 : Int) →
      PortCompletes (.ocSlow n x k) n s fun q => q = { p with fe := { p.fe with
        slowInt := (max 0 ((p.fe.slowInt : Int) + k * excess x)).toNat } }.bare) ∧
    (p.fe.path = .none → PortCompletes (.gateI n) n s fun q => q = p.bare) ∧
    (p.fe.path ≠ .none → Completes (.gateI n) s fun t => p.tripped .gate t.ports[n])

/-- The polder-wide breaches and the NTC fault (R27, R148, R470, Table 5.3). -/
def Obligations.PolderBreachesTrip : Prop :=
  ∀ (s : State) (q : PolderId), s.polders[q].die = true → s.sys.mode ≠ .island →
    (Completes (.otpDie q) s fun t => t.polders[q].stat.otpDie = true ∧
      (∀ n : PortId, polderOf n = q → t.ports[n].sluice.latched = true ∧ t.ports[n].fe.path = .none) ∧
      ∀ n : PortId, polderOf n ≠ q → t.ports[n].ungauged = s.ports[n].ungauged) ∧
    (∀ mv, 10000 ≤ mv → Completes (.vgdLow ⟨q, mv⟩) s fun t => t.polders = s.polders ∧ t.sh = s.sh ∧
      ∀ n : PortId, t.ports[n].bare = s.ports[n].bare) ∧
    (∀ mv, 9000 ≤ mv → mv < 10000 → Completes (.vgdLow ⟨q, mv⟩) s fun t => t.polders[q].vgdPass = false ∧
      t.polders[q].stat = s.polders[q].stat ∧ t.sh = s.sh ∧
      ∀ n : PortId, if polderOf n = q then t.ports[n].fe.path = .none ∧ t.ports[n].sluice.latched = s.ports[n].sluice.latched
        else t.ports[n].ungauged = s.ports[n].ungauged) ∧
    (∀ mv, mv < 9000 → Completes (.vgdLow ⟨q, mv⟩) s fun t => t.polders[q].stat.vgdLow = true ∧ t.polders[q].vgdPass = false ∧
      t.sh.sup.vgdLow = true ∧
      (∀ n : PortId, polderOf n = q → t.ports[n].sluice.latched = true ∧ t.ports[n].fe.path = .none) ∧
      ∀ n : PortId, polderOf n ≠ q → t.ports[n].ungauged = s.ports[n].ungauged) ∧
    (Completes (.otpNtc q) s fun t => t.polders[q].stat.otpNtc = true ∧
      (∀ n : PortId, polderOf n = q → s.cls n ≠ .a → t.ports[n].sluice.latched = true ∧ t.ports[n].fe.path = .none) ∧
      (∀ n : PortId, polderOf n = q → s.cls n = .a → t.ports[n].bare = s.ports[n].bare) ∧
      ∀ n : PortId, polderOf n ≠ q → t.ports[n].ungauged = s.ports[n].ungauged) ∧
    (Completes (.ntcFault q) s fun t => t.polders[q].stat.ntcFault = true ∧ t.polders[q].temp.ntc = 1650#12 ∧
      t = { s with polders := t.polders } ∧ ∀ r : PolderId, r ≠ q → t.polders[r] = s.polders[r])

/-- Clearing a breach (R29, R141, R150, R152, R172). -/
def Obligations.SluiceClearing : Prop :=
  ∀ (s : State) (n : PortId) (p : Port), s.ports[n] = p →
    (∀ k : CoreId, s.portRegsUp n → s.coreUp k = true → s.inService k = true → p.sluice.latched = true →
      PortCompletes (.sluiceClear k n) n s fun q => q = (if p.fe.cond = [] ∧ p.sluice.lockout = false then
        { p with sluice := { p.sluice with latched := false }, fe := { p.fe with ccIsolated := false } }.bare else p.bare)) ∧
    (s.portRegsUp n → PortCompletes (.lockClr n) n s fun q => q = { p with sluice := { p.sluice with lockout := false } }.bare) ∧
    (∀ v, s.portRegsUp n → PortCompletes (.senseModeWrite n v) n s fun q =>
      let p' : Port := { p with sluice := { p.sluice with senseMode := v } }
      if p.fe.path = .none ∧ (v = 0#2 ∨ v = 1#2) then
        (if p'.typeOf ≠ p.typeOf ∧ p.configNow = true then
          q.sluice = p'.sluice ∧ q.fe = p.fe ∧
            q.tc.state = (if p'.latchCfg.typeOf = 0#2 then TcState.unattachedSrc else TcState.unattachedSnk)
         else q = p'.bare)
      else q = p.bare) ∧
    (s.feUp n → p.timerOn .breachWindow = true → PortCompletes (.breachWindowExpiry n) n s fun q =>
      q.trip = { p.trip with winCnt := 0#4 } ∧ q.timerOn .breachWindow = false ∧ q.sluice = p.sluice ∧ q.fe = p.fe) ∧
    (∀ b : Breach, s.feUp n → s.regionUp n = true → p.tc.state = .errorRecovery → p.timerOn .errorRecovery = false →
      p.fe.cond = [b] → Completes (.breachConditionEnd n b.code) s fun t =>
        t.ports[n].fe.cond = [] ∧
          t.ports[n].tc.state = (if p.latchCfg.typeOf = 0#2 then .unattachedSrc else .unattachedSnk)) ∧
    (∀ b : Breach, s.feUp n → p.tc.state ≠ .errorRecovery → Completes (.breachConditionEnd n b.code) s fun t =>
      t.ports[n].bare = { p with fe := { p.fe with cond := p.fe.cond.filter (· ≠ b) } }.bare ∧
        ∀ m : PortId, m ≠ n → t.ports[m].ungauged = s.ports[m].ungauged)

/-- Foreign VBUS, discharge, VSET, sensing and metering (R154, R156, R158, R159, R162, R163, R166). -/
def Obligations.SluiceSensing : Prop :=
  ∀ (s : State) (n : PortId) (p : Port), s.ports[n] = p →
    (∀ mv stuck, s.feUp n → 4000 ≤ mv → p.tc.state = .unattachedSrc → p.fe.path = .none → p.fe.dis = .off →
      p.fe.foreign = false → PortCompletes (.foreignVbus n mv stuck) n s fun q =>
        q.fe.foreign = true ∧ q.fe.dis = .off ∧ q.fe.path = .none ∧ q.trip = { p.trip with foreignVb := true } ∧
          (s.regionUp n = true → q.flagged .slForeignVb = true) ∧ (s.regionUp n = false → q.fe.foreignOwed = true)) ∧
    (s.feUp n → p.fe.dis ≠ .off → p.cc.vbSafe0 = false → PortCompletes (.dischargeTimeout n) n s fun q =>
      q.fe = { p.fe with dis := .off, disOwed := p.fe.disOwed || !s.regionUp n } ∧ q.trip = { p.trip with disTimeout := true } ∧
        (s.regionUp n = true → q.flagged .slDisTimeout = true)) ∧
    (∀ mv, s.regionUp n = true → s.polders[polderOf n].stat.hbLost = true →
      PortCompletes (.vsetLoopUpdate n mv) n s fun q => q = p.bare) ∧
    (∀ mv, s.regionUp n = true → s.polders[polderOf n].stat.hbLost = false → p.rg.moving < p.rg.target → p.rg.coldRamp = false →
      PortCompletes (.vsetLoopUpdate n mv) n s fun q =>
        q.rg.moving = min p.rg.target (p.rg.moving + p.vset.slew.toNat * 25) ∧ q.rg.target = p.rg.target ∧
          q.fe.vb = mv ∧ q.fe.path = p.fe.path ∧ q.contract = p.contract) ∧
    (s.feUp n → p.sluice.senseMode = 1#2 → PortCompletes (.ronUpdate n) n s fun q =>
      q.fe.vFast = max p.ilim.fast.toNat p.ilim.slow.toNat * 50 * q.fe.rEst ∧
        q = { p with fe := { p.fe with tFet := q.fe.tFet, rEst := q.fe.rEst, vFast := q.fe.vFast } }.bare) ∧
    (s.feUp n → p.sluice.senseMode ≠ 1#2 → PortCompletes (.ronUpdate n) n s fun q => q = p.bare) ∧
    (∀ vb vp x vi, s.feUp n → PortCompletes (.meteringTick n vb vp x vi) n s fun q =>
      let ma : Int := p.milliamps (p.sensed x)
      let product : Int := if p.sluice.senseMode ≠ 1#2 then vi - p.fe.offset * (2 * vb : Nat)
        else if p.sluice.fullEnh then vi else 0
      q.fe.accum = p.fe.accum + p.milliamps (p.sensed x * 1000) ∧
        q.fe.energy = p.fe.energy + BitVec.ofInt 64 (p.milliamps product) ∧
        q.vbus.vb = BitVec.ofNat 13 (vb / 10) ∧ q.vbus.vpath = BitVec.ofNat 13 (vp / 10) ∧
        q.fe.means = (ma :: p.fe.means).take 1000 ∧
        q.ibus.ibus.toInt = max (-32768) (min 32767 ma) ∧ q.tc = p.tc ∧ q.sluice = p.sluice ∧ q.rg = p.rg ∧
        q.fe.cal = { d5 := p.fe.d5, d20 := p.fe.d20, d48 := p.fe.d48, shunt := p.fe.shunt, gain := p.fe.gain }) ∧
    (∀ v, s.feUp n → 200000 < v.natAbs → p.fe.path = .none → p.cc.vbSafe0 = true → p.sluice.senseMode ≠ 1#2 →
      Completes (.shuntOffsetSample n v) s fun t => t.ports[n].pfault.oos = true ∧ t.ports[n].pfault.fe.getLsbD 2 = true) ∧
    (∀ v, s.feUp n → v.natAbs ≤ 200000 → PortCompletes (.shuntOffsetSample n v) n s fun q =>
      q = (if p.fe.path = .none ∧ p.cc.vbSafe0 = true ∧ p.sluice.senseMode ≠ 1#2 then
        { p with fe := { p.fe with offset := v } }.bare else p.bare))

/-- Current limit, undervoltage, MEASURE and self-checks (R160, R161, R165, R260, R261). -/
def Obligations.SluiceReports : Prop :=
  ∀ (s : State) (n : PortId) (p : Port), s.ports[n] = p →
    (s.regionUp n = true →
      (∀ ma : Int, p.tc.state = .attachedSrc → p.contract.explicit = true → fld p.contract.contract 25 2 = 1#2 →
        p.vset.clActive = false → ((fld p.contract.contract 12 9).toNat * 10 : Int) + 100 ≤ ma →
        PortCompletes (.currentLimitEntry n ma) n s fun q =>
          q.vset.clActive = true ∧ q.flagged .ppCl = true ∧ q.timerOn .clFloor = true ∧ q.contract = p.contract) ∧
      (∀ mv, p.vset.clActive = true → (fld p.contract.contract 0 12).toNat * 20 ≤ mv →
        PortCompletes (.currentLimitExit n mv) n s fun q =>
          q.vset = { p.vset with clActive := false } ∧ q.flagged .ppCl = true ∧ q.timerOn .clFloor = false) ∧
      (∀ mv, p.vset.clActive = true → mv < 3300 →
        PortCompletes (.clFloorTimeout n mv) n s fun q => q.flagged .ppClFloor = true ∧ q.vset = p.vset) ∧
      (∀ mv, p.fe.path = .source → mv * 10 < p.rg.moving * 8 → p.vset.clActive = false → p.pdstat.hrActive = false →
        p.contract.swap = false → PortCompletes (.undervoltageTimeout n mv) n s fun q =>
          q.trip = { p.trip with uv := true } ∧ q.flagged .slUv = true ∧ q.fe = p.fe) ∧
      (∀ v, p.fe.measuring = true → PortCompletes (.measureDone n v) n s fun q =>
        q.fe = { p.fe with measuring := false } ∧ q.flagged .slCalRaw = true ∧ q.timerOn .measure = false)) ∧
    (∀ c : Fin 4, s.feUp n → p.pfault.oos = false → Completes (.frontEndCheckFail n c) s fun t =>
      t.ports[n].pfault.oos = true ∧ t.ports[n].pfault.oosCause = 1#2 ∧ t.ports[n].pfault.fe.getLsbD c.val = true ∧
        t.ports[n].fe.path = .none ∧ t.ports[n].tc.state = .disabled ∧
        (∀ m : PortId, m ≠ n → s.ports[m].pfault.oos = false → t.ports[m].fe = s.ports[m].fe ∧
          t.ports[m].tc = s.ports[m].tc ∧ t.ports[m].contract = s.ports[m].contract ∧ t.ports[m].pfault = s.ports[m].pfault) ∧
        ∀ m : PortId, polderOf m ≠ polderOf n → t.ports[m].ungauged = s.ports[m].ungauged)

/-- The protocol commands of TX_GO (R23, R74, R79, R81, R93, R95, R122, R464, Table 3.3). -/
def Obligations.TxGoProtocolCommands : Prop :=
  ∀ (s : State) (k : CoreId) (n : PortId) (p : Port), s.ports[n] = p →
    (s.servedBy k n → p.stg.pending = false →
      (∀ seq, s.regionUp n = false → PortCompletes (.hardReset k n seq) n s fun q =>
        q.stg.pending = true ∧ q = { p with stg := q.stg }.bare) ∧
      (s.regionUp n = true →
        (∀ seq, PortCompletes (.cmdNone k n seq) n s fun q => q = { p with stg := q.stg }.bare) ∧
        (∀ word0 word1 objs, fld word0 16 2 = 0#2 → fld word0 18 1 = 0#1 → fld word0 24 3 ≤ 5#3 →
          hExt (fld word0 0 16) = false → isCtrl (fld word0 0 16) tSoftReset = false → p.attached = true → p.pdstat.giveup = false →
          p.rg.latchedPdEn = true → p.rg.tx = none → p.rg.phase = .idle → p.rg.lastSeq ≠ some (fld word1 0 8) →
          PortCompletes (.transmitMessage k n word0 word1 objs) n s fun q =>
            q.rg.phase = .ready ∧ (∃ m, q.rg.tx = some m ∧ m.header = fld word0 0 16 ∧ m.seq = fld word1 0 8 ∧
              m.sop1 = false ∧ m.own = false) ∧ q.fe = p.fe ∧ q.contract = p.contract ∧ q.tc = p.tc) ∧
        (∀ word0 word1 objs, p.pdstat.giveup = true ∨ p.attached = false ∨ 1#2 < fld word0 16 2 ∨ 5#3 < fld word0 24 3 →
          PortCompletes (.transmitMessage k n word0 word1 objs) n s fun q =>
            q.flagged .pdCmdBad = true ∧ q.rg = p.rg) ∧
        (∀ seq, p.attached = true → p.rg.hr ≠ .signalling →
          PortCompletes (.hardReset k n seq) n s fun q =>
            q.rg.hr = .signalling ∧ q.timerOn .hrComplete = true ∧ q.pdstat.hrActive = true ∧ q.pdstat.vbMask = true ∧
              q.pdstat.hrCnt = satInc p.pdstat.hrCnt ∧ q.contract.contract = 0#29 ∧ q.flagged .pdHardReset = true ∧
              q.tc = p.tc) ∧
        (∀ seq, p.cc.vconnOn = true → p.pdstat.drole = true →
          PortCompletes (.cableReset k n seq) n s fun q =>
            q.rg.txId1 = 0#3 ∧ q.rg.rxId1 = none ∧
              (p.fe.fdetLatch = false → p.fe.fdetBlank = false → q.rg.txId = p.rg.txId ∧ q.tc = p.tc ∧
                (∀ m, p.rg.tx = some m → m.own = false → p.rg.ownDue = [] → q.rg.tx = none ∧ q.rg.phase = .idle))) ∧
        (∀ seq, p.cc.vconnOn = false ∨ p.pdstat.drole = false →
          PortCompletes (.cableReset k n seq) n s fun q => q.flagged .pdCmdBad = true ∧ q.rg = p.rg) ∧
        (∀ seq dfp, PortCompletes (.setDataRole k n seq dfp) n s fun q =>
          q = { p with stg := q.stg, pdstat := { p.pdstat with drole := dfp } }.bare) ∧
        (∀ seq id on, id ≠ 0#4 → id ≤ 8#4 →
          PortCompletes (.pdTimerCommand k n seq id on) n s fun q =>
            q.timerOn (.pd id) = on ∧ (∀ t, t ≠ .pd id → q.timerOn t = p.timerOn t) ∧ q.evt = p.evt) ∧
        (∀ seq id on, id = 0#4 ∨ 8#4 < id →
          PortCompletes (.pdTimerCommand k n seq id on) n s fun q => q.flagged .pdCmdBad = true ∧ q.rg = p.rg))) ∧
    (∀ v, s.regionUp n = true → p.stg.pending = true → PortCompletes (.txGoAcknowledge n v) n s fun q =>
      q.stg.pending = false) ∧
    (∀ v, s.regionUp n = true → p.stg.pending = true → fld (p.stgWord 0) 28 4 = 6#4 → fld (p.stgWord 0) 16 2 ≤ 1#2 →
      fld (p.stgWord 0) 24 3 ≤ 5#3 →
      PortCompletes (.txGoAcknowledge n v) n s fun q =>
        q.stg.pending = false ∧ q.pdstat.drole = bit (p.stgWord 2) 0)

/-- The VCONN and power-path commands (R53, R56, R102, R103, R109, R110, R118, R120, R124, Table 4.1). -/
def Obligations.TxGoPowerPathCommands : Prop :=
  ∀ (s : State) (k : CoreId) (n : PortId) (p : Port) (seq : BitVec 8), s.ports[n] = p → s.servedBy k n →
    p.stg.pending = false → s.regionUp n = true →
    (p.attached = true → p.cc.vconnEn = true → s.holdLine (s.cls n) = false → PortCompletes (.vconnOn k n seq) n s fun q =>
      q.fe = { p.fe with vcnDriven := true } ∧ q.timerOn .vconnLow = true ∧
        q.cc = { (if p.cc.vconnOn then p else p.setLineCode false 6#3).cc with vconnOn := true }) ∧
    (p.attached = true → p.cc.vconnEn = false ∨ s.holdLine (s.cls n) = true → PortCompletes (.vconnOn k n seq) n s fun q =>
      q.fe = p.fe ∧ q.cc = p.cc ∧ q.flagged .tcVconnRefused = true) ∧
    (p.attached = false → PortCompletes (.vconnOn k n seq) n s fun q =>
      q.fe = p.fe ∧ q.cc = p.cc ∧ q.flagged .pdCmdBad = true) ∧
    (PortCompletes (.vconnOff k n seq) n s fun q =>
      q.fe.vcnDriven = false ∧ q.cc.vconnOn = false ∧ q.flagged .tcVconnOff = true ∧
        (p.onAir = false → p.fe.fdetLatch = false → q.fe = { p.fe with vcnDriven := false } ∧ q.tc = p.tc ∧
          q.cc = { (if p.cc.vconnOn then p.setLineCode false p.rg.savedOther else p).cc with vconnOn := false })) ∧
    (p.rg.hr = .idle →
      (∀ w : BitVec 36, p.tc.state = .attachedSrc → p.rg.ramping = false → fld w 25 2 ≠ 3#2 →
        (fld w 0 12).toNat ≤ 2400 → (fld w 12 9).toNat ≤ 500 → PortCompletes (.transition k n seq w) n s fun q =>
          q.contract = { p.contract with transPend := true } ∧ q.rg = { p.rg with armed := some (fld w 0 29) } ∧
            q.evt = p.evt) ∧
      (∀ w : BitVec 36, p.tc.state = .attachedSnk → p.rg.ramping = false → fld w 25 2 ≠ 3#2 →
        (fld w 0 12).toNat ≤ 2400 → (fld w 12 9).toNat ≤ 500 → PortCompletes (.transition k n seq w) n s fun q =>
          q.contract = { p.contract with transPend := true } ∧ q.rg.sinkContract = some (fld w 0 29) ∧
            q.rg.sinkVolt = (fld w 0 12).toNat * 20 ∧ q.evt = p.evt) ∧
      (p.tc.state = .attachedSrc → PortCompletes (.srcOff k n seq true) n s fun q =>
        q.rg = { p.rg with srcOffArmed := true } ∧ q.fe = p.fe) ∧
      (p.tc.state = .attachedSrc → PortCompletes (.srcOff k n seq false) n s fun q =>
        q.fe.path = .none ∧ q.vset.duty = 0#12 ∧ q.rg.target = 0 ∧
          (if p.cc.vbSafe0 then q.flagged .ppDone = true else q.rg.srcOffRun = true)) ∧
      (p.tc.state = .attachedSrc → p.cc.vbSafe0 = false → PortCompletes (.srcOn k n seq) n s fun q =>
        q.rg = { p.rg with srcOnWait := true } ∧ q.fe = p.fe) ∧
      (p.tc.state = .attachedSrc → p.cc.vbSafe0 = true → s.mayPass n p → p.fe.foreign = false → p.fe.path = .none →
        PortCompletes (.srcOn k n seq) n s fun q =>
          q.fe.path = .source ∧ q.vset.duty = 0#12 ∧ q.rg.rise = .srcOn ∧ q.tc = p.tc) ∧
      (p.tc.state = .attachedSnk → p.sluice.senseMode ≠ 1#2 → p.cc.vbPresent = true → s.mayPass n p → p.fe.path = .none →
        PortCompletes (.snkOn k n seq) n s fun q =>
          q.fe.path = .sink ∧ q.flagged .ppDone = true ∧ q.vset = p.vset ∧ q.tc = p.tc) ∧
      (p.sluice.senseMode = 1#2 → ∀ b, PortCompletes (.snkOff k n seq b) n s fun q =>
        q.flagged .pdCmdBad = true ∧ q.rg = p.rg ∧ q.fe = p.fe) ∧
      (p.sluice.senseMode = 1#2 → PortCompletes (.snkOn k n seq) n s fun q =>
        q.flagged .pdCmdBad = true ∧ q.rg = p.rg ∧ q.fe = p.fe) ∧
      (p.sluice.senseMode = 1#2 → ∀ b, PortCompletes (.frsArm k n seq b) n s fun q =>
        q.flagged .pdCmdBad = true ∧ q.rg = p.rg ∧ q.fe = p.fe) ∧
      (p.tc.state = .attachedSnk → p.sluice.senseMode ≠ 1#2 → PortCompletes (.snkOff k n seq true) n s fun q =>
        q.rg = { p.rg with snkOffArmed := true } ∧ q.fe = p.fe) ∧
      (p.tc.state = .attachedSnk → p.sluice.senseMode ≠ 1#2 → PortCompletes (.snkOff k n seq false) n s fun q =>
        q.fe.path = .none ∧ q.flagged .ppDone = true ∧ q.vset = p.vset) ∧
      (p.tc.state = .attachedSnk → p.sluice.senseMode ≠ 1#2 → p.cc.vbPresent = false → PortCompletes (.snkOn k n seq) n s fun q =>
        q.rg = { p.rg with snkOnWait := true } ∧ q.fe = p.fe) ∧
      (p.contract.swap = true → p.attached = true → p.sluice.senseMode ≠ 1#2 →
        PortCompletes (.roleFlip k n seq) n s fun q =>
          q.rg.flip = true ∧ q.timerOn .roleFlip = true ∧ q.tc = p.tc) ∧
      (p.contract.swap = false → PortCompletes (.roleFlip k n seq) n s fun q =>
        q.flagged .pdCmdBad = true ∧ q.rg = p.rg) ∧
      (p.tc.state = .attachedSnk → p.contract.explicit = true → p.sluice.senseMode ≠ 1#2 →
        PortCompletes (.frsArm k n seq true) n s fun q =>
        q.partner = { p.partner with frsArmed := true } ∧ q.fe = { p.fe with preBias := true } ∧
          q.rg.target = 5000 ∧ q.rg.moving = 5000) ∧
      (p.tc.state = .attachedSnk → p.contract.explicit = true → p.sluice.senseMode ≠ 1#2 →
        PortCompletes (.frsArm k n seq false) n s fun q =>
        q.partner = { p.partner with frsArmed := false } ∧ q.fe.preBias = false ∧ q.fe.path = p.fe.path ∧
          q.vset.duty = 0#12) ∧
      (p.tc.state ≠ .attachedSrc → ∀ d, PortCompletes (.srcOff k n seq d) n s fun q =>
        q.flagged .pdCmdBad = true ∧ q.rg = p.rg ∧ q.fe = p.fe))

/-- The operations of SLUICE_CFG (R158, R162, R163, R165, Table 5.5). -/
def Obligations.TxGoSluiceConfig : Prop :=
  ∀ (s : State) (k : CoreId) (n : PortId) (p : Port) (seq : BitVec 8), s.ports[n] = p → s.servedBy k n →
    p.stg.pending = false → s.regionUp n = true →
    let inForce (q : Port) : Prop := q.fe.cal = if p.fe.path = .none then
      { d5 := q.fe.d5, d20 := q.fe.d20, d48 := q.fe.d48, shunt := q.fe.shunt, gain := q.fe.gain } else p.fe.cal
    (∀ w : BitVec 36, PortCompletes (.vcal k n seq w) n s fun q => q.flagged .ppDone = true ∧
      q.fe = { p.fe with d5 := if fld w 0 12 = 0#12 then p.fe.d5 else fld w 0 12,
                         d20 := if fld w 12 12 = 0#12 then p.fe.d20 else fld w 12 12, d48 := fld w 24 12, cal := q.fe.cal } ∧ inForce q ∧
        q.sluice = { p.sluice with vcalOk := true }) ∧
    (∀ w : BitVec 36, fld w 0 16 ≠ 0#16 → PortCompletes (.ronCal k n seq w) n s fun q => q.flagged .ppDone = true ∧
      q.fe = { p.fe with rCal := fld w 0 16, tCal := fld w 16 12, alpha := fld w 28 8 } ∧
        q.sluice = { p.sluice with rcalOk := true }) ∧
    (∀ w : BitVec 36, fld w 0 16 = 0#16 → PortCompletes (.ronCal k n seq w) n s fun q => q.flagged .ppDone = true ∧
      q.fe = p.fe ∧ q.sluice = p.sluice) ∧
    (∀ w : BitVec 36, PortCompletes (.theta k n seq w) n s fun q => q.flagged .ppDone = true ∧
      q.fe = { p.fe with theta := if fld w 0 12 = 0#12 then p.fe.theta else fld w 0 12 }) ∧
    (∀ w : BitVec 36, PortCompletes (.shuntCal k n seq w) n s fun q => q.flagged .ppDone = true ∧
      (fld w 0 16 = 0#16 → q.fe = p.fe) ∧ (fld w 0 16 ≠ 0#16 → inForce q ∧
        q.fe = { p.fe with shunt := fld w 0 16, gain := fld w 16 16, cal := q.fe.cal })) ∧
    (PortCompletes (.measure k n seq) n s fun q =>
      q.fe = { p.fe with measuring := true, measureVoid := false } ∧ q.timerOn .measure = true) ∧
    (∀ v : Int, 200000 < v.natAbs → p.fe.path = .none → p.cc.vbSafe0 = true → Completes (.zero k n seq v) s fun t =>
      t.ports[n].pfault.oos = true ∧ t.ports[n].pfault.fe.getLsbD 2 = true) ∧
    (∀ v : Int, v.natAbs ≤ 200000 → p.fe.path = .none → p.cc.vbSafe0 = true → PortCompletes (.zero k n seq v) n s fun q =>
      q.fe = { p.fe with offset := v } ∧ q.flagged .ppDone = true) ∧
    (∀ v : Int, p.fe.path ≠ .none ∨ p.cc.vbSafe0 = false → PortCompletes (.zero k n seq v) n s fun q =>
      q.fe = p.fe ∧ q.flagged .pdCmdBad = true)

/-- Transmission (R60, R72, R74 to R79, R85, Table 3.8). -/
def Obligations.PdTransmission : Prop :=
  ∀ (s : State) (n : PortId) (p : Port), s.ports[n] = p → s.regionUp n = true →
    (∀ m us, p.rg.tx = some m → p.rg.phase = .ready → p.rg.chunk = 0#4 → m.own = false → m.sop1 = false →
      p.rg.meas = false → p.cc.polarity = false → PortCompletes (.transmitStart n us) n s fun q =>
        q.rg.phase = .onLine ∧ q.rg.lastSeq = some m.seq ∧ q.rg.lastOk = none ∧ q.cc = { p.cc with cc1Line := 7#3 } ∧
          ∃ h, q.rg.tx = some { m with header := h } ∧ fld h 9 3 = p.rg.txId ∧ h &&& 0xF1FF#16 = m.header &&& 0xF1FF#16) ∧
    (p.rg.phase = .onLine → p.tc.state = .attachedSrc → p.onAir = true → p.fe.fdetBlank = true → p.contract.transPend = false →
      p.contract.swap = false → PortCompletes (.transmitEnd n) n s fun q =>
      q.rg.phase = .awaitCrc ∧ q.rg.fdet = true ∧ q.timerOn .fdetWindow = true ∧ q.fe.fdetBlank = false) ∧
    (p.rg.phase = .onLine → p.cc.polarity = false → p.cc.cc1Line = 7#3 → p.fe.fdetLatch = false → p.fe.fdetBlank = false →
      PortCompletes (.transmitEnd n) n s fun q =>
      q.rg.phase = .awaitCrc ∧ q.timerOn .crcReceive = true ∧ q.cc = { p.cc with cc1Line := p.rg.savedLine }) ∧
    (∀ m, p.rg.tx = some m → p.rg.phase = .awaitCrc → m.sop1 = false → m.own = false → m.amsEnd = false →
      m.resp = 0#3 → hExt m.header = false → hNdo m.header ≠ 0 → p.rg.held = none → p.rg.ownDue = [] →
      PortCompletes (.goodcrcReceived n false p.rg.txId) n s fun q =>
        q.rg.tx = none ∧ q.rg.phase = .idle ∧ q.rg.txId = p.rg.txId + 1#3 ∧ q.rg.lastOk = some true ∧
          q.flagged .pdTxOk = true ∧ q.timerOn .crcReceive = false ∧ q.timerOn .noResponse = false) ∧
    (∀ m id, p.rg.tx = some m → m.sop1 = false → id ≠ p.rg.txId → PortCompletes (.goodcrcReceived n false id) n s fun q =>
      q.rg.tx = some m ∧ q.rg.phase = p.rg.phase ∧ q.rg.txId = p.rg.txId ∧ q.evt = p.evt) ∧
    (∀ m, p.rg.tx = some m → p.rg.phase = .awaitCrc → p.timerOn .crcReceive = true → p.rg.retries ≠ 0 →
      PortCompletes (.crcReceiveTimeout n) n s fun q =>
        q.rg.tx = some m ∧ q.rg.phase = .retryWait ∧ q.rg.retries = p.rg.retries - 1 ∧
          q.timerOn .crcReceive = false ∧ q.evt = p.evt) ∧
    (∀ m, p.rg.tx = some m → p.rg.phase = .awaitCrc → p.timerOn .crcReceive = true → p.rg.retries = 0 →
      m.own = false → m.onFail = 0#2 → hNdo m.header ≠ 0 → p.rg.held = none → p.rg.ownDue = [] →
      PortCompletes (.crcReceiveTimeout n) n s fun q =>
        q.rg.tx = none ∧ q.rg.phase = .idle ∧ q.pdstat.txFail = satInc p.pdstat.txFail ∧
          q.flagged .pdTxFail = true) ∧
    (p.rg.phase = .sinkTxWait → p.timerOn .sinkTx = true → PortCompletes (.sinkTxExpiry n) n s fun q =>
      q.rg.phase = .ready ∧ q.rg.tx = p.rg.tx ∧ q.timerOn .sinkTx = false) ∧
    (p.tc.state = .attachedSnk → p.pdstat.collAv = true → p.rg.phase = .heldNg →
      PortCompletes (.sinkTxOkSeen n) n s fun q =>
        q.rg.phase = .ready ∧ q.pdstat.sinkTxOk = true ∧ q.pdstat.txPending = false ∧ q.rg.tx = p.rg.tx) ∧
    (p.tc.state = .attachedSrc → p.pdstat.collAv = true → p.rg.phase = .idle →
      PortCompletes (.amsIdleExpiry n) n s fun q =>
        q.pdstat = { p.pdstat with amsActive := false, sinkTxOk := true } ∧ q.timerOn .amsIdle = false) ∧
    (∀ m, p.attached = true → p.rg.latchedPdEn = true → p.pdstat.giveup = false → p.rg.bist = .off →
      p.rg.phase = .awaitCrc ∨ p.rg.phase = .retryWait ∨ p.rg.phase = .chunkWait → p.rg.tx = some m → m.sop1 = false →
      m.own = false → hExt m.header = true → (p.rg.chunk + 1#4).toNat < chunksOf m.extHeader → 1 < chunksOf m.extHeader →
      p.rg.rx = none → PortCompletes (.chunkRequestReceived n (p.rg.chunk + 1#4)) n s fun q =>
      q.rg.phase = .ready ∧ q.rg.chunk = p.rg.chunk + 1#4 ∧ q.rg.tx = p.rg.tx ∧ q.evt = p.evt) ∧
    (p.rg.rx.isSome = true → p.timerOn .chunkResponse = true → PortCompletes (.chunkTimeout n false) n s fun q =>
      q.rg.rx = none ∧ q.flagged .pdChunkAbort = true ∧ q.timerOn .chunkResponse = false)

/-- Reception, BIST and the reported timers (R70, R74, R79, R80, R82, R83, R92, R93, Table 3.4). -/
def Obligations.PdReception : Prop :=
  ∀ (s : State) (n : PortId) (p : Port), s.ports[n] = p → s.regionUp n = true →
    (∀ f : Frame, f.crcOk = false ∨ f.lenOk = false → PortCompletes (.frameReceived n f) n s fun q =>
      q = { p with pdstat := { p.pdstat with crcErr := satInc p.pdstat.crcErr } }.bare) ∧
    (∀ f : Frame, f.crcOk = true → f.lenOk = true → f.sop = 0#3 → p.attached = true → p.rg.latchedPdEn = true →
      p.pdstat.giveup = false → p.onAir = false → p.rg.phase = .idle → p.rg.bist = .off → p.rg.tx = none → p.rg.held = none →
      p.rg.waiting = none → p.rg.rx = none → p.q.fits (f.objs.length + 1) = true → hExt f.header = false →
      hNdo f.header ≠ 0 → hType f.header ≠ 3#5 → fld f.header 6 2 ≠ 0#2 →
      p.rg.rxId ≠ some (fld f.header 9 3) → PortCompletes (.frameReceived n f) n s fun q =>
        q.rg.rxId = some (fld f.header 9 3) ∧ q.q.entries.length = p.q.entries.length + f.objs.length + 1 ∧
          q.q.entries.take p.q.entries.length = p.q.entries ∧ q.tc = p.tc ∧ q.contract = p.contract ∧ q.fe = p.fe) ∧
    (∀ f : Frame, f.crcOk = true → f.lenOk = true → f.sop = 0#3 → p.onAir = false → p.rg.phase = .idle → p.rg.bist = .off →
      hNdo f.header ≠ 0 → hExt f.header = false → p.rg.rxId = some (fld f.header 9 3) →
      (p.rg.waiting = none → PortCompletes (.frameReceived n f) n s fun q => q = p.bare) ∧
      (∀ m, p.rg.waiting = some m → m.sop1 = false → p.attached = true → p.rg.latchedPdEn = true → p.pdstat.giveup = false →
        PortCompletes (.frameReceived n f) n s fun q =>
          q.rg.waiting = none ∧ q.timerOn .response = false ∧ q.q = p.q ∧ q.evt = p.evt ∧ q.pdstat = p.pdstat)) ∧
    (∀ f : Frame, f.crcOk = true → f.lenOk = true → p.onAir = false → p.rg.phase = .idle → p.rg.bist = .off →
      (p.attached = false ∨ p.rg.latchedPdEn = false ∨ p.pdstat.giveup = true ∨ 2#3 ≤ f.sop) →
      PortCompletes (.frameReceived n f) n s fun q => q = p.bare) ∧
    (PortCompletes (.cableResetReceived n) n s fun q => q = p.bare) ∧
    (p.pdcfg.bistEn = true → 4750 ≤ p.fe.vb → p.fe.vb ≤ 5500 → p.attached = true → p.rg.latchedPdEn = true →
      p.pdstat.giveup = false → p.rg.bist = .off →
      PortCompletes (.bistReceived n 5#4) n s fun q =>
        q.rg.bist = .carrier ∧ q.timerOn .bistCont = true ∧ q.flagged .pdBist = true) ∧
    (p.rg.bist = .carrier → p.fe.fdetLatch = false → p.fe.fdetBlank = false → PortCompletes (.bistContModeExpiry n) n s fun q =>
      q.rg.bist = .off ∧ q.timerOn .bistCont = false ∧ q.evt = p.evt) ∧
    (∀ m, p.rg.waiting = some m → m.onTimeout = 0#2 → p.timerOn .response = true →
      PortCompletes (.responseTimerExpiry n) n s fun q =>
        q.rg.waiting = none ∧ q.timerOn .response = false ∧ q.flagged .pdTimer = true) ∧
    (∀ id, p.timerOn (.pd id) = true → PortCompletes (.idTimerExpiry n id) n s fun q =>
      q.timerOn (.pd id) = false ∧ q.flagged .pdTimer = true ∧ q.tc = p.tc ∧ q.fe = p.fe)

/-- Soft_Reset, Hard Reset and the ladder (R95 to R97, R120, Tables 3.9 and 3.10). -/
def Obligations.PdResets : Prop :=
  ∀ (s : State) (n : PortId) (p : Port), s.ports[n] = p → s.regionUp n = true →
    let quiet : Prop := p.fe.fdetLatch = false ∧ p.fe.fdetBlank = false
    (p.attached = true → p.rg.latchedPdEn = true → p.pdstat.giveup = false → p.rg.bist = .off →
      PortCompletes (.softResetReceived n) n s fun q =>
        q.rg.txId = 0#3 ∧ q.rg.rxId = none ∧ q.pdstat.srCnt = satInc p.pdstat.srCnt ∧
          q.flagged .pdSoftResetRx = true ∧ q.contract = p.contract ∧ q.fe.path = p.fe.path ∧
          (∃ m, (q.rg.tx = some m ∨ m ∈ q.rg.ownDue) ∧ isCtrl m.header tAccept = true ∧ m.own = true) ∧
          (p.rg.tx = none → p.rg.phase = .idle → p.rg.held = none → p.rg.ownDue = [] → q.rg.ownDue = [])) ∧
    (p.rg.soft = some true → PortCompletes (.softResetAcceptTimeout n) n s fun q =>
      q.rg.soft = none ∧ q.flagged .pdSoftResetDone = true ∧ q.rg.hr = p.rg.hr) ∧
    (p.attached = true → p.rg.hr ≠ .signalling → PortCompletes (.hardResetDetected n) n s fun q =>
        q.contract.contract = 0#29 ∧ q.contract.explicit = false ∧ q.flagged .pdHardReset = true ∧
          (quiet → q.pdstat.hrActive = true ∧
            (p.pdcfg.pdEn = true → p.pdstat.giveup = false → q.timerOn .noResponse = true))) ∧
    (p.rg.hr = .signalling → p.rg.hrSource = true → p.rg.hrSwap = false → quiet → p.rg.latchedPdEn = true →
      p.pdstat.giveup = false → PortCompletes (.hardResetSignallingDone n) n s fun q =>
        q.rg.hr = .srcHold ∧ q.timerOn .psHardReset = true ∧ q.timerOn .noResponse = true ∧ q.fe = p.fe) ∧
    (p.rg.hr = .signalling → p.timerOn .hrComplete = true → p.rg.hrSource = true → p.rg.hrSwap = false → quiet →
      PortCompletes (.hardResetCompleteTimeout n) n s fun q =>
        q.rg.hr = .srcHold ∧ q.timerOn .psHardReset = true ∧ q.timerOn .hrComplete = false ∧ q.fe = p.fe) ∧
    (p.timerOn .psHardReset = true → p.rg.hr = .srcHold → p.cc.vbSafe0 = false →
      PortCompletes (.psHardResetExpiry n) n s fun q =>
        q.rg.hr = .srcSafe0 ∧ q.fe.path = .none ∧ q.vset.duty = 0#12 ∧ q.timerOn .vb0Wait = true) ∧
    (p.timerOn .srcRecover = true → p.rg.hr = .srcRecover → p.fe.path = .none → (s.env n).run = true →
      p.sluice.latched = false → s.holdLine (s.cls n) = false → p.fe.foreign = false →
      (s.polders[polderOf n].stat.hbLost = false ∨ s.cls n = .a) → s.polders[polderOf n].vgdPass = true →
      (s.polders[polderOf n].oscBad = false ∨ s.polders[polderOf n].fallback = true) →
      PortCompletes (.srcRecoverExpiry n) n s fun q =>
        q.fe.path = .source ∧ q.rg.rise = .hardReset ∧ q.vset.duty = 0#12) ∧
    (p.timerOn .hrSink = true → PortCompletes (.hardResetSinkTimeout n) n s fun q =>
      q.tc.detachCause = 4#3 ∧ q.fe.path = .none ∧ q.contract = PContract.reset) ∧
    (p.timerOn .psTransition = true → p.attached = true → p.rg.hr ≠ .signalling →
      PortCompletes (.psTransitionTimeout n) n s fun q =>
        q.rg.hr = .signalling ∧ q.timerOn .hrComplete = true ∧ q.flagged .pdHardReset = true) ∧
    (p.timerOn .noResponse = true → p.pdstat.hrCount ≤ 2#2 → p.attached = true → p.rg.hr ≠ .signalling →
      PortCompletes (.noResponseTimeout n) n s fun q => q.rg.hr = .signalling ∧ q.timerOn .noResponse = false) ∧
    (p.timerOn .noResponse = true → p.pdstat.hrCount = 3#2 → p.pdstat.erCount < p.pdcfg.erLimit →
      PortCompletes (.noResponseTimeout n) n s fun q =>
        q.tc.state = .errorRecovery ∧ q.pdstat.erCount = p.pdstat.erCount + 1#4 ∧ q.pdstat.hrCount = 0#2) ∧
    (p.timerOn .noResponse = true → p.pdstat.hrCount = 3#2 → p.pdcfg.erLimit ≤ p.pdstat.erCount →
      p.pdcfg.erLimit ≠ 15#4 → PortCompletes (.noResponseTimeout n) n s fun q =>
        q.pdstat.giveup = true ∧ q.flagged .pdGiveup = true ∧ q.tc = p.tc)

/-- Transitions, swaps and FRS (R102, R110, R118 to R120, R124, R125, Tables 4.6 and 4.12). -/
def Obligations.PdPowerTransitions : Prop :=
  ∀ (s : State) (n : PortId) (p : Port), s.ports[n] = p → s.regionUp n = true →
    (∀ w, p.rg.armed = some w → p.timerOn .srcTrans = true → p.rg.ramping = false →
      PortCompletes (.transitionStart n) n s fun q =>
        q.rg.ramping = true ∧ q.rg.target = (fld w 0 12).toNat * 20 ∧ q.timerOn .srcTrans = false ∧
          q.rg.armed = some w ∧ q.contract = p.contract ∧ q.fe = p.fe) ∧
    (∀ w mv, p.rg.armed = some w → p.rg.ramping = true → Port.inWindow w mv = true →
      PortCompletes (.settleDone n mv) n s fun q =>
        q.contract = { p.contract with contract := w, transPend := false } ∧ q.rg.armed = none ∧
          q.rg.ramping = false ∧ q.flagged .ppDone = true ∧ q.timerOn .ppTimeout = false) ∧
    (∀ w mv, p.rg.armed = some w → Port.inWindow w mv = false →
      PortCompletes (.settleDone n mv) n s fun q => q = p.bare) ∧
    (p.timerOn .ppTimeout = true → p.rg.armed.isSome = true → p.rg.ramping = true →
      PortCompletes (.tPpTimeoutExpiry n) n s fun q =>
        q.rg.armed = none ∧ q.rg.target = p.rg.prevVolt ∧ q.contract = { p.contract with transPend := false } ∧
          q.flagged .ppTimeout = true) ∧
    (p.rg.srcOffArmed = true → p.timerOn .srcTrans = true → PortCompletes (.srcOffDeferred n) n s fun q =>
      q.rg.srcOffArmed = false ∧ q.fe.path = .none ∧ q.vset.duty = 0#12) ∧
    (p.partner.frsArmed = true → p.tc.state = .attachedSnk → PortCompletes (.frsDetection n) n s fun q =>
      q.fe.path = .none ∧ q.contract.swap = true ∧ q.contract.explicit = false ∧ q.rg.frsSwap = true ∧
        q.flagged .pdFrsDetect = true) ∧
    (∀ mv late, p.rg.frsSwap = true → p.contract.swap = true → p.fe.path = .none → mv < 4750 ∨ late = true →
      (s.env n).run = true → p.sluice.latched = false → s.holdLine (s.cls n) = false → p.fe.foreign = false →
      (s.polders[polderOf n].stat.hbLost = false ∨ s.cls n = .a) → s.polders[polderOf n].vgdPass = true →
      (s.polders[polderOf n].oscBad = false ∨ s.polders[polderOf n].fallback = true) →
      PortCompletes (.frsFastPass n mv late) n s fun q =>
        q.fe = { p.fe with path := .source, fastPass := true, preBias := false } ∧ q.contract = p.contract) ∧
    (p.timerOn .psSourceOn = true → PortCompletes (.psSourceOnTimeout n) n s fun q =>
      q.tc.state = .errorRecovery ∧ q.fe.path = .none) ∧
    (p.timerOn .psSourceOff = true → PortCompletes (.psSourceOffTimeout n) n s fun q =>
      q.tc.state = .errorRecovery ∧ q.fe.path = .none) ∧
    (p.rg.flip = true → PortCompletes (.roleFlipDone n) n s fun q =>
      q.tc.state = (if p.tc.state = .attachedSrc then .attachedSnk else .attachedSrc) ∧ q.rg.flip = false ∧
        q.flagged .ppDone = true ∧ q.fe = p.fe)

/-- Requests, cable discovery, swaps and EPR (R22, R23, R106, R108, R109, R112, R114, R115, R117, R122, R123). -/
def Obligations.PolicyAnswers : Prop :=
  ∀ (s : State) (n : PortId) (r : Port), s.ports[n].trim = r → s.controlUp = true →
    s.roleRuns s.ports[n].q.role = true → s.regionUp n = true → r.free → r.attached = true → r.rg.hr = .idle →
    let done (q : Port) : Prop := q.q.entries = r.q.commitHead.entries ∧ q.q.rd = r.q.commitHead.rd ∧ q.q.held = false
    let inHand (q : Port) (t : BitVec 5) : Prop := ∃ x, q.rg.tx = some x ∧ hType x.header = t ∧ x.own = false
    (∀ m, r.headMsg = some m → m.sop1 = false → m.shape = false → isData m.header 2#5 = true →
      r.tc.state = .attachedSrc → r.busyCore = false →
      let judged := r.evalRequest (s.env n) false (m.objs.headD 0#32) ((m.objs.drop 1).headD 0#32)
      (∀ w, judged = .take w → r.rg.ramping = false → fld w 25 2 ≠ 3#2 → (fld w 0 12).toNat ≤ 2400 →
        (fld w 12 9).toNat ≤ 500 → PortCompletes (.requestEvaluation n) n s fun q =>
          q.rg.armed = some w ∧ q.contract.transPend = true ∧ inHand q tAccept ∧ done q) ∧
      (judged ≠ .budget → (∀ w, judged ≠ .take w) → PortCompletes (.requestEvaluation n) n s fun q =>
        q.rg.armed = r.rg.armed ∧ q.contract = r.contract ∧ inHand q tReject ∧ q.role.setDue = r.role.setDue ∧ done q) ∧
      (judged = .budget → PortCompletes (.requestEvaluation n) n s fun q =>
        q.rg.armed = r.rg.armed ∧ q.contract = r.contract ∧ inHand q tReject ∧ q.role.setDue = true ∧ done q)) ∧
    (∀ m, r.headMsg = some m → m.sop1 = false → m.shape = false → isData m.header 1#5 = true →
      r.tc.state = .attachedSnk → r.role.swap = .none → r.role.await ≠ .psRdy → r.rg.ramping = false →
      PortCompletes (.requestEvaluation n) n s fun q =>
        (∃ w, q.rg.sinkContract = some w ∧ fld w 0 12 = 250#12 ∧
          (fld w 12 9).toNat = min 300 (fld (m.objs.headD 0#32) 0 10).toNat) ∧
        q.contract.transPend = true ∧ inHand q 2#5 ∧ done q) ∧
    (r.headIs .tcAttach = true → r.tc.state = .attachedSrc → r.cableOpen = true → r.role.cableTries < 2 →
      PortCompletes (.cableDiscovery n) n s fun q =>
        q.role.await = .cableId ∧ q.role.cableTries = r.role.cableTries + 1 ∧
          (∃ x, q.rg.tx = some x ∧ x.sop1 = true ∧ hType x.header = 15#5) ∧ done q) ∧
    (∀ m, r.headMsg = some m → m.sop1 = false → m.shape = false → r.busyCore = false →
      (isCtrl m.header 10#5 = true → r.tc.state = .attachedSrc → r.prSwapOk (s.env n) = true →
        PortCompletes (.prSwapAnswer n) n s fun q =>
          q.role.swap = .prSrc ∧ q.rg.srcOffArmed = true ∧ inHand q tAccept ∧ done q) ∧
      (isCtrl m.header 9#5 = true → r.srccap.drd = true → r.role.dpState = 0#2 → r.partner.dockMode = false →
        PortCompletes (.prSwapAnswer n) n s fun q =>
          q.role.swap = .dr ∧ q.role.newDfp = !r.pdstat.drole ∧ inHand q tAccept ∧ done q) ∧
      (isCtrl m.header 9#5 = true → r.srccap.drd = false → PortCompletes (.prSwapAnswer n) n s fun q =>
        q.role.swap = r.role.swap ∧ inHand q tReject ∧ done q)) ∧
    (r.headOk [.accept] = true → r.role.swap = .dr → r.role.setDue = false → PortCompletes (.drSwap n) n s fun q =>
      q.pdstat.drole = r.role.newDfp ∧ q.role.swap = .none ∧ q.contract = r.contract ∧ done q) ∧
    (∀ m late, r.headMsg = some m → m.sop1 = false → isCtrl m.header tPsRdy = true → r.role.swap = .vconnGive →
      r.role.setDue = false → PortCompletes (.vconnSwap n late) n s fun q =>
        q.fe.vcnDriven = false ∧ q.cc.vconnOn = false ∧ q.role.swap = .none ∧ q.flagged .tcVconnOff = true) ∧
    (∀ m, r.headMsg = some m → m.sop1 = false → m.shape = false → isData m.header 10#5 = true →
      r.tc.state = .attachedSrc → r.busyCore = false → r.role.eprMode = false → fld (m.objs.headD 0#32) 24 8 = 1#8 →
      PortCompletes (.eprEntry n) n s fun q => q.role.eprStep = 1 ∧ inHand q 10#5 ∧ done q) ∧
    (∀ m, r.headMsg = some m → m.sop1 = false → r.role.eprMode = true → r.pdstat.rev ≠ 1#2 → hExt m.header = true →
      hType m.header = 16#5 → fld (m.objs.headD 0#32) 0 8 = 3#8 →
      PortCompletes (.eprKeepalive n) n s fun q => q.timerOn (.pd 5#4) = true ∧ inHand q 16#5 ∧ done q)

/-- Status, breaches, errors and alternate modes (R22, R90, R91, R127, R129, R131, R132, R152, Tables 3.7 and 4.17). -/
def Obligations.PolicyService : Prop :=
  ∀ (s : State) (n : PortId) (r : Port), s.ports[n].trim = r → s.controlUp = true →
    s.roleRuns s.ports[n].q.role = true → s.regionUp n = true →
    let done (q : Port) : Prop := q.q.entries = r.q.commitHead.entries ∧ q.q.rd = r.q.commitHead.rd ∧ q.q.held = false
    let inHand (q : Port) (t : BitVec 5) : Prop := ∃ x, q.rg.tx = some x ∧ hType x.header = t ∧ x.own = false
    (r.free → r.attached = true → r.rg.hr = .idle →
      (∀ m, r.headMsg = some m → m.sop1 = false → m.shape = false → isCtrl m.header 18#5 = true → r.pdstat.rev ≠ 1#2 →
        PortCompletes (.statusMessageAnswer n) n s fun q =>
          inHand q 2#5 ∧ (∃ x, q.rg.tx = some x ∧ hExt x.header = true) ∧ q.role.flags = 0#3 ∧ done q) ∧
      (∀ m, r.headMsg = some m → m.sop1 = false → m.shape = true → hExt m.header = false → r.contract.explicit = true →
        r.busyCore = false → r.rg.rx = none →
        PortCompletes (.protocolErrorAnswer n) n s fun q => inHand q tSoftReset ∧ done q) ∧
      (∀ m, r.headMsg = some m → m.sop1 = false → m.shape = false → m.last = true → isCtrl m.header 20#5 = true →
        r.pdstat.rev = 2#2 →
        PortCompletes (.unsupportedMessageAnswer n) n s fun q => inHand q 16#5 ∧ done q) ∧
      (r.headMsg = none → r.busyCore = false → r.rg.lastSeq = none → r.role.dpStep = 0 → r.role.dockStep = 0 →
        r.role.dpState = 0#2 → r.role.dpDone = false → r.alt.dpEn = true → r.alt.muxAddr ≠ 0#7 → r.alt.muxFail = false →
        r.contract.explicit = true → r.pdstat.drole = true → r.srccap.dockEn = false →
        PortCompletes (.displayportEntry n) n s fun q => q.role.dpStep = 1 ∧ inHand q 15#5) ∧
      (r.headMsg = none → r.busyCore = false → r.rg.lastSeq = none → r.role.dockStep = 0 → r.role.dockDone = false →
        r.srccap.dockEn = true → r.contract.explicit = true → r.pdstat.drole = true →
        PortCompletes (.dockModeDiscovery n) n s fun q => q.role.dockStep = 1 ∧ inHand q 15#5 ∧
          (r.partner.identDone = false → q.timerOn .identBound = true))) ∧
    (∀ ms, r.headIs .slBreach = true → r.stg.pending = false → r.tc.state = .attachedSnk → r.role.softDue = false →
      PortCompletes (.breachService n ms) n s fun q =>
        q.role.breach.isSome = true ∧ q.rg = r.rg ∧ q.sluice = r.sluice ∧ done q) ∧
    (∀ ms code, r.headIs .slBreach = false → r.role.breach = some code → code ≠ 1#4 → r.stg.pending = false → r.attached = true →
      r.rg.hr = .idle → r.fe.cond = [] → r.sluice.latched = true → r.sluice.lockout = false →
      (if s.cls n = .a ∧ 3#4 ≤ r.trip.winCnt then 10000 else 1000) ≤ ms →
      PortCompletes (.breachService n ms) n s fun q =>
        q.sluice.latched = false ∧ q.role.breach = none ∧ q.rg.hr = .signalling ∧ q.flagged .pdHardReset = true) ∧
    (r.attached = false → r.stg.pending = false → r.role.dpState ≠ 0#2 → r.alt.muxFail = false → s.sysq[13].fits 2 = true →
      Completes (.displayportExit n false) s fun t =>
        t.ports[n].role.dpState = 0#2 ∧ t.ports[n].alt.dpState = 0#2 ∧ t.ports[n].alt.pinAssign = 0#2 ∧
          t.ports[n].role.dpStep = 0 ∧ (∀ m : PortId, m ≠ n → t.ports[m].ungauged = s.ports[m].ungauged) ∧
          t.sysq[13].entries.length = s.sysq[13].entries.length + 2)

/-- The walk of one sample (R388 to R390). -/
def Obligations.ShedWalk : Prop :=
  ∀ (x : FeedSample) (h : Shed),
    let a := h.stat.stage.toNat
    let h' := Shed.sample x h
    let b := h'.stat.stage.toNat
    (a ≤ 5 →
      (b = a ∧ h'.stat.prev = h.stat.prev ∧ h'.stat.cause = h.stat.cause) ∨
      (b = a + 1 ∧ a < 5 ∧ h.tDn ≤ h.since + 1 ∧ h'.stat.prev = h.stat.stage ∧ h'.since = 0 ∧
        (a < h.cfg.force.toNat ∨ ((h.take x).lowest (h.take x).feedsRatio
          (x.pf.map fun v => Shed.ratioOf v h.nom.pfNom)).1 < h.threshold (a + 1))) ∨
      (a = b + 1 ∧ h.cfg.force.toNat < a ∧ h'.stat.prev = h.stat.stage ∧ h'.stat.cause = h.stat.cause) ∨
      (b = 6 ∧ h'.stat.prev = h.stat.stage ∧
        ((h.berm.vFloor ≠ 0#10 ∧ x.berm ≤ h.berm.vFloor.toNat ∧ h'.stat.cause = 7#3) ∨
          (Shed.ratioOf x.feeds h.nom.feedsNom < h.t6Level ∧ h.tS6 ≤ h.t6 + 1 ∧ h'.stat.cause = 0#3)))) ∧
    (a = 6 → b = 6 ∨ (b = 5 ∧ h'.stat.prev = 6#3 ∧ 3100 ≤ x.vdda ∧ 765 ≤ x.vddc ∧ h.tUp ≤ h.up6 + 1 ∧
      (h.berm.vFloor = 0#10 ∨ h.berm.vFloor.toNat < x.berm)))

/-- Samples and the levels of S6 (R180, R388, R390, R391, R395). -/
def Obligations.ShedSampleAndS6 : Prop :=
  ∀ (s : State),
    (∀ feeds pf berm vdda vddc die, s.shedRuns = true →
      Completes (.shedSample feeds pf berm vdda vddc die) s fun t =>
        let h := Shed.sample { feeds := feeds, pf := pf, berm := berm, vdda := vdda, vddc := vddc } s.sh
        t.sh.stat.stage = h.stat.stage ∧ t.fz = s.fz ∧ t.pcfg = s.pcfg ∧
          (h.stat.stage = s.sh.stat.stage → t.sh = h ∧ t.sys = { s.sys with temp := { s.sys.temp with die := die } } ∧
            { t with sh := s.sh, sys := s.sys, ports := s.ports, kg := s.kg } = s)) ∧
    (∀ feeds pf berm vdda vddc die, s.shedRuns = false →
      exec (.shedSample feeds pf berm vdda vddc die) s = .next s) ∧
    (∀ cause : BitVec 3, s.sys.mode = .run → s.sh.stat.stage ≠ 6#3 →
      (cause = 5#3 ∨ cause = 6#3 ∨ (cause = 7#3 ∧ s.sh.berm.vFloor ≠ 0#10)) →
      Completes (.supplyS6Level cause) s fun t =>
        t.sh.stat = { s.sh.stat with stage := 6#3, prev := s.sh.stat.stage, cause := cause } ∧
          t.sh.sup = { s.sh.sup with s6Seen := true, lastStage := s.sh.stat.stage } ∧ t.sys.mode = .holdDown ∧
          (∀ n : PortId, s.ports[n].pfault.oos = false → t.ports[n].tc.state = .disabled) ∧
          (∀ k : CoreId, s.cores[k].stat.state ≤ 3#3 → t.cores[k].stat.state = 0#3) ∧
          (s.aGuar = true → t.bg.stat.aGuarLost = true) ∧ t.tw.sda = [] ∧ t.fz = s.fz ∧ t.shared = s.shared ∧ t.pcfg = s.pcfg ∧ t.polders = s.polders) ∧
    (∀ cause : BitVec 3, s.sh.stat.stage = 6#3 → exec (.supplyS6Level cause) s = .next s)

/-- Heartbeats and their loss (R32, R424, Table 5.6). -/
def Obligations.Heartbeats : Prop :=
  ∀ (s : State),
    (∀ within10, s.sys.mode = .run → (within10 = true ∧ s.sys.supKicked = false) ∨
        (s.sys.supKicked = true ∧ s.supWatched = true) →
      Completes (.heartbeat true within10) s fun t =>
        { t with polders := s.polders, ports := s.ports, kg := s.kg, sysq := s.sysq } = s ∧
        (∀ i : Fin 64, i.val ≠ 50 → t.sysq[i] = s.sysq[i]) ∧
        (∀ q : PolderId, t.polders[q] =
          if s.polders[q].die && !s.polders[q].pld then { s.polders[q] with stat := { s.polders[q].stat with hbLost := false } }
          else s.polders[q]) ∧
        (∀ n : PortId, s.ports[n].fe.held = false → t.ports[n].ungauged = s.ports[n].ungauged)) ∧
    (∀ within10, exec (.heartbeat false within10) s = .next s) ∧
    (∀ q : PolderId, s.polders[q].die = true → Completes (.heartbeatLoss q) s fun t =>
      { t with polders := s.polders, ports := s.ports, kg := s.kg } = s ∧
      t.polders = s.polders.set q { s.polders[q] with stat := { s.polders[q].stat with hbLost := true, hbSeen := true } } ∧
      (∀ n : PortId, polderOf n = q → s.cls n ≠ .a → t.ports[n].fe.path = .none) ∧
      (∀ n : PortId, polderOf n ≠ q ∨ s.cls n = .a → t.ports[n].ungauged = s.ports[n].ungauged)) ∧
    (∀ q : PolderId, s.polders[q].die = false → exec (.heartbeatLoss q) s = .next s)

/-- Rails and SHELF (R383, R385, R387). -/
def Obligations.RailsAndShelf : Prop :=
  ∀ (s : State),
    (s.sh.vddioOk = true → Completes .vddioLost s fun t =>
      t.sh = { s.sh with vddioOk := false, sup := { s.sh.sup with vddioLost := true } } ∧ t.tw.sda = [] ∧
        t.fl.run = none ∧ t.ports = s.ports ∧ t.cores = s.cores ∧ t.polders = s.polders ∧ t.sys = s.sys ∧ t.fz = s.fz ∧
        t.shared = s.shared) ∧
    (∀ mv, s.sh.vddioOk = false → 1620 ≤ mv → exec (.vddioRestored mv) s = .next { s with
      sh := { s.sh with vddioOk := true },
      sys := { s.sys with stat := { s.sys.stat with vddio3v3 := decide (2500 ≤ mv) } } }) ∧
    (∀ mv, mv < 1620 → exec (.vddioRestored mv) s = .next s) ∧
    (∀ q : PolderId, s.polders[q].die = true → s.sys.mode ≠ .island → Completes (.vgdRestored q) s fun t =>
      { t with polders := s.polders, ports := s.ports, kg := s.kg } = s ∧
      t.polders = s.polders.set q { s.polders[q] with stat := { s.polders[q].stat with vgdLow := false }, vgdPass := true } ∧
      (∀ n : PortId, polderOf n = q → Breach.vgdLow ∉ t.ports[n].fe.cond) ∧
      (∀ n : PortId, polderOf n ≠ q ∨ Breach.vgdLow ∉ s.ports[n].fe.cond → t.ports[n].ungauged = s.ports[n].ungauged)) ∧
    (s.controlUp = true → s.sys.mode ≠ .island →
      ((3#3 ≤ s.fl.upd.phase ∧ s.fl.upd.phase ≤ 7#3) ∨ s.sh.stat.stage = 6#3) →
      exec .shelfReq s = .next { s with sh := { s.sh with pwr := { s.sh.pwr with refused := true } } }) ∧
    (s.controlUp = true → s.sys.mode ≠ .island → (s.fl.upd.phase < 3#3) → s.sh.stat.stage ≠ 6#3 →
      Completes .shelfReq s fun t =>
        t.sys = { s.sys with mode := .shelf } ∧ (∀ q : PolderId, t.polders[q] = { s.polders[q] with die := false }) ∧
          (∀ n : PortId, s.ports[n].pfault.oos = false → t.ports[n].tc.state = .disabled) ∧ t.fz = s.fz ∧
          t.shared = s.shared ∧ t.pcfg = s.pcfg)

/-- Class writes, MAX_CLR and SHARE (R30, R32, R175 to R177, R182, R189). -/
def Obligations.ClassWritesAndShare : Prop :=
  ∀ (s : State), s.controlUp = true → s.sys.mode ≠ .island →
    (∀ n : PortId, exec (.classWrite n 0#2) s = .next s) ∧
    (∀ (n : PortId) (v : BitVec 2), v = 1#2 → s.polders[polderOf n].pld = false → s.ports[n].heldCls = none → s.cls n ≠ .a → 24 ≤ s.classACount →
      exec (.classWrite n v) s = .next { s with pcfg := s.pcfg.set n { s.pcfg[n] with classRef := true } }) ∧
    (∀ (n : PortId) (v : BitVec 2) (cl : SvcClass), SvcClass.ofCode v = some cl → s.ports[n].heldCls = none → s.cls n ≠ cl →
      cl ≠ .a ∨ s.classACount < 24 → s.polders[polderOf n].pld = false →
      ((s.ports[n].place.migrating || s.ports[n].place.prepared) = true →
        Completes (.classWrite n v) s fun t =>
          t = { s with ports := s.ports.set n { s.ports[n] with heldCls := some cl } }) ∧
      ((s.ports[n].place.migrating || s.ports[n].place.prepared) = false → s.holdLine cl = true →
        s.ports[n].pfault.oos = false → Completes (.classWrite n v) s fun t =>
          t.cls n = cl ∧ t.ports[n].tc.state = .disabled ∧ t.ports[n].fe.path = .none) ∧
      ((s.ports[n].place.migrating || s.ports[n].place.prepared) = false → cl ≠ .a →
        s.polders[polderOf n].stat.hbLost = true → Completes (.classWrite n v) s fun t =>
          t.cls n = cl ∧ t.ports[n].fe.path = .none) ∧
      ((s.ports[n].place.migrating || s.ports[n].place.prepared) = false → s.holdLine cl = false →
        s.ports[n].tc.state ≠ .disabled → s.ports[n].fe.reports = [] → s.polders[polderOf n].stat.hbLost = false →
        Completes (.classWrite n v) s fun t =>
          t = { s with
            pcfg := s.pcfg.set n { s.pcfg[n] with cls := cl },
            ports := s.ports.set n { s.ports[n] with
              rebindDue := s.ports[n].q.held,
              q := if s.ports[n].q.held then s.ports[n].q else { s.ports[n].q with role := roleFor n cl } } })) ∧
    (∀ (n : PortId) (v : BitVec 2), s.polders[polderOf n].pld = true → exec (.classWrite n v) s = .next s) ∧
    (exec (.maxClr 1#2) s = .next { s with bg := { s.bg with latA := BgLat.reset } }) ∧
    (exec (.maxClr 2#2) s = .next { s with bg := { s.bg with latB := BgLat.reset } }) ∧
    (exec (.maxClr 3#2) s = .next { s with bg := { s.bg with latC := BgLat.reset } }) ∧
    (∀ (r : Fin 16) (n : PortId) (v : W36) (rest : List W36), s.roleRuns (BitVec.ofNat 5 r.val) = true →
      s.mailHead r = some (1#8, BitVec.ofNat 8 n.val, v :: rest) → Completes (.share r) s fun t =>
        OnlyPort n (s.mailDone r) t ∧ (s.ports[n].attached = true → t.ports[n].role.share = fld v 0 16) ∧
          (s.ports[n].attached = false → t.ports[n].role = s.ports[n].role))

/-- Demand, allocation and leases (R187 to R189, R191, R192). -/
def Obligations.AllocationAndLeases : Prop :=
  ∀ (s : State), s.sys.mode = .run → s.roleRuns 13#5 = true →
    (s.allocates = true → exec .demandReport s = .next { s with bg := { s.bg with
      demand := (s.ownAddr, s.ownDemand) :: s.bg.demand.filter fun x => x.1 ≠ s.ownAddr } }) ∧
    (s.allocates = true → exec .allocatorTick s = .next { s with bg := { s.bg with
      run := some { ship := s.bg.shipLim, lim := s.bg.feedLim, cap := s.bg.feedCap, floor := s.bg.floor,
                    demand := s.bg.demand, tLease := s.bg.cfg.tLease, time := BitVec.ofNat 48 s.treeUs },
      floorNow := s.bg.floor,
      stat := { s.bg.stat with allocOverrun := s.bg.stat.allocOverrun || s.bg.run.isSome } } }) ∧
    (∀ x, s.bg.run = some x → Completes .allocatorRunEnd s fun t =>
      t.bg.run = none ∧ t.bg.stat.island = false ∧ t.bg.stat.leaseValid = false ∧ t.bg.lease = BgLease.reset ∧
        t.ports = s.ports ∧ t.cores = s.cores ∧ t.polders = s.polders ∧ t.sh = s.sh ∧ t.bg.demand = s.bg.demand ∧
        t.fz = s.fz ∧ t.fl = s.fl) ∧
    (exec .budgetAgentTick s = .next s.divide) ∧
    (∀ (n : PortId) (g : Nat), s.bg.stat.island = false → (∀ m : PortId, s.ports[m].attached = true ↔ m = n) →
      ((s.bg.grants.filter fun x => decide (x.feeder = s.pcfg[n].feeder) && decide (x.cls = (s.cls n).code)).map
        fun x => x.g.toNat).sum * 10000 = g →
      let v := BitVec.ofNat 16 (min 65535 (max 5 (min g (s.wantOf n) / 500)))
      exec .budgetAgentTick s = .next (if s.ports[n].role.divided = v then s
        else State.post { s with ports := s.ports.set n { s.ports[n] with role := { s.ports[n].role with divided := v } } } ⟨s.ports[n].q.role.toNat % 16, Nat.mod_lt _ (by decide)⟩
          (State.mbxGroup 13#4 1#8 (BitVec.ofNat 8 n.val) [v.setWidth 36]))) ∧
    (s.isWorker = false → exec .leaseExpiry s = .next s) ∧
    (s.isWorker = true → s.bg.stat.leaseValid = true → Completes .leaseExpiry s fun t =>
      t.bg = { s.bg with grants := [], lease := BgLease.reset,
                         stat := { s.bg.stat with leaseValid := false, island := true, floorOver := t.bg.stat.floorOver } } ∧
        { t with bg := s.bg, sysq := s.sysq, tw := s.tw } = s)

/-- The allocator stays within its limits (R188). -/
def Obligations.AllocatorWithinLimits : Prop :=
  ∀ (ship : Rat) (room : List Rat) (ds : List (BitVec 6 × List Demand)),
    (∀ w ∈ ds, ∀ d ∈ w.2, d.fl ≤ d.want) →
    let x := allocate ship room ds
    let floorA (f : Nat) : Rat := (ds.map fun w => (demandOf w.2 f 1).1).sum
    ship - x.ship = (x.grants.map fun g => g.2.2.2).sum ∧
    (∀ f, f < 32 → room.getD f 0 - x.room.getD f 0 = ((x.grants.filter fun g => g.2.1 = f).map fun g => g.2.2.2).sum) ∧
    (∀ g ∈ x.grants, 0 ≤ g.2.2.2) ∧
    (((List.range 32).map floorA).sum ≤ ship → 0 ≤ x.ship) ∧
    (∀ f, f < 32 → floorA f ≤ room.getD f 0 → 0 ≤ x.room.getD f 0)

/-- LOAD, SWITCH and UNLOAD (R227, R231, R239 to R241, R243, R248, Tables 8.9 and 8.15). -/
def Obligations.LoadSwitchUnload : Prop :=
  ∀ (s : State) (src : Src) (q : PolderId) (r : RegionId) (slot : BitVec 4) (p : PosId),
    let P := s.polders[q]
    let R := P.regions[r]
    let r6 : BitVec 6 := BitVec.ofNat 6 r.val
    let load (j : LoadJob) (st : PlLoadStat) : State := s.onPolder q fun P => { P with
      load := some j, scrubSkip := false, loadStat := st,
      regions := P.regions.set r { R with st := .loading, isolated := true } }
    let half (j : LoadJob) (st : PlLoadStat) : State := s.onPolder q fun P =>
      { P.onStandby (fun H => { H with st := .loading }) with load := some j, scrubSkip := false, loadStat := st }
    let refused (e : BitVec 3) : State := s.onPolder q fun P => { P with
      loadStat := { P.loadStat with refused := true, err := e } }
    (s.fromSup src = true → s.plRegUp q = true →
      (s.slotOk slot false = true → s.isSpoiled 1#4 (regionId q r.val) = false → s.joining q r6 = false →
        R.st = .empty ∨ R.st = .ready → P.load = none → Completes (.plLoad src q r6 slot) s fun t =>
          State.mute { t with ports := s.ports } =
            (load { target := some r, slot := slot, unload := false, purpose := .command }
              { P.loadStat with busy := true, err := 0#3, lastRegion := r6, lastSlot := slot }).mute ∧
          ∀ m : PortId, { t.ports[m] with rg := { t.ports[m].rg with measBefore := s.ports[m].rg.measBefore } } = s.ports[m]) ∧
      (s.slotOk slot false = false → CompletesIn (.plLoad src q r6 slot) s (refused 1#3)) ∧
      (s.slotOk slot false = true → R.st = .serving ∨ s.joining q r6 = true ∨ s.isSpoiled 1#4 (regionId q r.val) = true →
        CompletesIn (.plLoad src q r6 slot) s (refused 2#3)) ∧
      (s.slotOk slot false = true → s.isSpoiled 1#4 (regionId q r.val) = false → s.joining q r6 = false →
        R.st = .empty ∨ R.st = .ready → P.load.isSome = true → CompletesIn (.plLoad src q r6 slot) s (refused 6#3)) ∧
      (R.st = .ready → s.joining q r6 = false → P.load = none → CompletesIn (.plUnload src q r6) s
        (load { target := some r, slot := 0#4, unload := true, purpose := .command }
          { P.loadStat with busy := true, err := 0#3 })) ∧
      (R.st ≠ .ready ∨ s.joining q r6 = true → P.load = none → CompletesIn (.plUnload src q r6) s (refused 2#3)) ∧
      (P.load.isSome = true → CompletesIn (.plUnload src q r6) s (refused 6#3)) ∧
      (R.st = .ready → R.trial = .none → (∀ j ∈ P.load.toList ++ P.waiting, j.target ≠ some r) → 48 ≤ r.val ∨ r.val = p.val → s.isSpoiled 1#4 (regionId q r.val) = false →
        (∀ p' : PosId, p' ≠ p → P.culv[p'].region ≠ r6) → P.switching = [] → (P.regionAt p).st = .serving →
        P.prepared = some (p, r) → CompletesIn (.plSwitch src q (BitVec.ofNat 6 p.val) r6) s (s.onPolder q fun P => { P with
          culv := P.culv.set p { P.culv[p] with switching := true },
          switching := [{ pos := p, region := r, kind := .command, cause := 0#4 }],
          loadStat := { P.loadStat with err := 0#3 } })) ∧
      (R.st ≠ .ready → CompletesIn (.plSwitch src q (BitVec.ofNat 6 p.val) r6) s (refused 5#3)) ∧
      (s.slotOk slot true = true → s.isSpoiled 7#4 (halfId q !P.commonB) = false → P.load = none →
        CompletesIn (.plLoad src q 0x3E#6 slot) s (half { target := none, slot := slot, unload := false, purpose := .command }
          { P.loadStat with busy := true, err := 0#3, lastRegion := 0x3E#6, lastSlot := slot })) ∧
      (s.slotOk slot true = false → CompletesIn (.plLoad src q 0x3E#6 slot) s (refused 1#3)) ∧
      (P.standby.st = .ready → P.load = none → CompletesIn (.plUnload src q 0x3E#6) s
        (half { target := none, slot := 0#4, unload := true, purpose := .command } { P.loadStat with busy := true, err := 0#3 })) ∧
      (P.standby.st ≠ .ready → P.load = none → CompletesIn (.plUnload src q 0x3E#6) s (refused 2#3)) ∧
      (∀ x : BitVec 6, 56 ≤ x.toNat → x ≠ 0x3E#6 →
        (s.slotOk slot false = true → CompletesIn (.plLoad src q x slot) s (refused 2#3)) ∧
        (P.load = none → CompletesIn (.plUnload src q x) s (refused 2#3))) ∧
      (∀ x y : BitVec 6, 48 ≤ x.toNat ∨ 56 ≤ y.toNat → CompletesIn (.plSwitch src q x y) s (refused 5#3))) ∧
    (s.fromSup src = false ∨ s.plRegUp q = false → exec (.plLoad src q r6 slot) s = .next s ∧ exec (.plUnload src q r6) s = .next s ∧
      exec (.plSwitch src q (BitVec.ofNat 6 p.val) r6) s = .next s) ∧
    (∀ tenths, P.die = true → P.waiting = [] → R.ref = false →
      P.load = some { target := some r, slot := slot, unload := false, purpose := .command } →
      (∀ w : StoreRow, foundIn 24 4 0#96 w.upset ≠ .many → slip 24 4 w.upset = 0#96 →
        Completes (.regionLoadComplete q w false tenths) s fun t =>
        let T := t.polders[q]
        T.load = none ∧ T.loadStat = { P.loadStat with busy := false, err := 0#3, done := true,
                                                        loadUs := BitVec.ofNat 8 (min tenths 255) } ∧
          T.regions[r] = { R with st := .ready, slot := slot, frames := (s.store.slots[slot.toNat]).rows, ref := true,
                                  ffInit := initBits (s.store.slots[slot.toNat]).rows, isolated := false, failing := false,
                                  repeated := false, backDue := false, left := if R.slot = slot then R.left else [] } ∧
          t.store.slots[slot.toNat] = { s.store.slots[slot.toNat] with refs := s.store.slots[slot.toNat].refs + 1#8 } ∧
          { t.mute with polders := s.polders, store := s.store, sysq := s.sysq } = { s.mute with sysq := s.sysq }) ∧
      (∀ (w : StoreRow) (readBad : Bool), foundIn 24 4 0#96 w.upset = .many →
        Completes (.regionLoadComplete q w readBad tenths) s fun t =>
        t.polders[q].regions[r].st = .empty ∧ t.polders[q].regions[r].frames = [] ∧ t.polders[q].load = none ∧
          t.polders[q].loadStat = { P.loadStat with busy := false, err := 3#3 } ∧
          t.store.stat.storeUncorr = true ∧
          (s.roleRuns 13#5 = false → t.store.slots[slot.toNat] = { s.store.slots[slot.toNat] with st := .bad }) ∧
          (t.store.slots[slot.toNat].st = .bad ∨
            (t.store.slots[slot.toNat].st = .writing ∧ (⟨slot.toNat, slot.isLt⟩ : SlotId) ∈ t.store.checking))) ∧
      (∀ w : StoreRow, foundIn 24 4 0#96 w.upset ≠ .many → slip 24 4 w.upset = 0#96 →
        Completes (.regionLoadComplete q w true tenths) s fun t =>
        t.polders[q].regions[r].st = .empty ∧ t.isSpoiled 1#4 (regionId q r.val) = true ∧
          t.polders[q].loadStat.err = 4#3 ∧ t.store = s.store)) ∧
    (P.die = true → P.waiting = [] → R.ref = false →
      P.load = some { target := some r, slot := slot, unload := true, purpose := .command } →
      Completes (.unloadComplete q) s fun t =>
        t.polders[q].regions[r] = { R with st := .empty, frames := [], ref := false, failing := false } ∧
          t.polders[q].load = none ∧ t.polders[q].loadStat = { P.loadStat with busy := false } ∧
          { t.mute with polders := s.polders } = s.mute) ∧
    (∀ (tenths : Nat) (w : StoreRow), P.die = true → P.waiting = [] → P.standby.ref = false →
      foundIn 24 4 0#96 w.upset ≠ .many → slip 24 4 w.upset = 0#96 →
      P.load = some { target := none, slot := slot, unload := false, purpose := .command } →
      Completes (.regionLoadComplete q w false tenths) s fun t =>
        t.polders[q].standby = { st := .ready, slot := slot, tid := (s.store.slots[slot.toNat]).tid,
                                 frames := (s.store.slots[slot.toNat]).rows, ref := true } ∧
          t.polders[q].active = P.active ∧ t.polders[q].load = none ∧ t.polders[q].regions = P.regions) ∧
    (P.die = true → P.waiting = [] → P.standby.ref = false →
      P.load = some { target := none, slot := slot, unload := true, purpose := .command } →
      Completes (.unloadComplete q) s fun t => t.polders[q].standby = Half.init ∧ t.polders[q].active = P.active ∧
        t.polders[q].load = none ∧ t.polders[q].regions = P.regions) ∧
    (P.die = true → P.switching = [{ pos := p, region := r, kind := .command, cause := 0#4 }] →
      Completes (.culvertSwitchComplete q p) s fun t =>
        t.polders[q].culv[p].region = r6 ∧ t.polders[q].culv[p].slot = R.slot ∧ t.polders[q].regions[r].st = .serving ∧
          (∀ q' : PolderId, q' ≠ q → t.polders[q'] = s.polders[q']) ∧ t.store = s.store ∧ t.cores = s.cores)

/-- The polder-common halves and the tick (R229, R230, R251, R252, R463, Tables 1.2 and 8.16). -/
def Obligations.CommonHalves : Prop :=
  ∀ (s : State) (q : PolderId), let P := s.polders[q]
    let next (i : Instr) (P' : Polder) : Prop := exec i s = .next { s with polders := s.polders.set q P' }
    (s.plRegUp q = true → P.standby.st = .ready → next (.commonSwitch q) { P with swPend := true }) ∧
    (s.plRegUp q = true → P.standby.st ≠ .ready → next (.commonSwitch q) P) ∧
    (P.die = true → P.swPend = true → P.standby.st = .ready → Completes (.commonSwitchTick q) s fun t =>
      let T := t.polders[q]
      t = { s with polders := s.polders.set q { P with
        swPend := false, commonB := !P.commonB, halfA := T.halfA, halfB := T.halfB } } ∧
      T.active = { P.standby with st := .serving } ∧ T.standby = { P.active with st := .ready }) ∧
    (P.die = true → P.swPend = false → next (.commonSwitchTick q) P) ∧
    (∀ ntc die, P.die = true → P.active.st = .serving → Completes (.polderTick q ntc die) s fun t =>
      { t with sysq := s.sysq } = { s with polders := s.polders.set q (match ntc with
        | none => { P with temp := { P.temp with die := die }, timeUs := P.timeUs + 1000#24 }
        | some v => { P with temp := { P.temp with die := die, ntc := v }, stat := { P.stat with ntcFault := false },
                             timeUs := P.timeUs + 1000#24 }) } ∧
      (∀ i : Fin 64, i.val ≠ 49 → t.sysq[i] = s.sysq[i]) ∧
      (s.controlUp = true → s.sysq[49].fits 1 = true → t.sysq[49].wr = s.sysq[49].wr + 1#16) ∧
      (s.controlUp = false → t.sysq = s.sysq)) ∧
    (∀ die, P.die = true → P.active.st ≠ .serving → next (.polderTick q none die) { P with temp := { P.temp with die := die } }) ∧
    (s.plRegUp q = false → exec (.commonSwitch q) s = .next s ∧ exec (.plScrubCntClr q) s = .next s) ∧
    (s.plRegUp q = true → next (.plScrubCntClr q) { P with scrub := { P.scrub with corr := 0#8, uncorr := 0#4 } })

/-- The template store (R231 to R233, Table 8.12). -/
def Obligations.TemplateStore : Prop :=
  ∀ (s : State) (src : Src) (t : SlotId), let x := s.store.slots[t]
    let err (e : BitVec 4) : SysTplStat := { s.store.stat with err := e }
    let next (i : Instr) (store : TplStore) : Prop := exec i s = .next { s with store := store }
    (s.fromSup src = true →
      (∀ common, x.st = .empty ∨ x.st = .bad → s.store.writing = none → t ∉ s.store.checking → s.slotRead t = false →
        next (.tplBegin src t common) { s.store with
          writing := some t, stat := err 0#4,
          slots := s.store.slots.set t { x with st := .writing, common := common, words := [], srcIdx := 0#4 } }) ∧
      (∀ common, (x.st ≠ .empty ∧ x.st ≠ .bad) ∨ s.store.writing.isSome = true ∨ t ∈ s.store.checking ∨ s.slotRead t = true →
        next (.tplBegin src t common) { s.store with stat := err 1#4 }) ∧
      (∀ w, s.store.writing = some t → next (.tplDataWrite src w) { s.store with
        slots := s.store.slots.set t { x with words := x.words ++ [w] } }) ∧
      (∀ w, s.store.writing = none → exec (.tplDataWrite src w) s = .next s) ∧
      (s.store.writing = some t → next (.tplEnd src t)
        { s.store with writing := none, checking := s.store.checking ++ [t], stat := err 0#4 }) ∧
      (s.store.writing ≠ some t → next (.tplEnd src t) { s.store with stat := err 1#4 }) ∧
      (x.refs = 0#8 → s.slotRead t = false → next (.tplFree src t)
        { s.store with slots := s.store.slots.set t TplSlot.init, stat := err 0#4,
                       writing := s.store.writing.filter (· ≠ t), checking := s.store.checking.filter (· ≠ t) }) ∧
      (x.refs ≠ 0#8 ∨ s.slotRead t = true → next (.tplFree src t) { s.store with stat := err 1#4 })) ∧
    (s.fromSup src = false → (∀ common, exec (.tplBegin src t common) s = .next s) ∧
      (∀ w, exec (.tplDataWrite src w) s = .next s) ∧ exec (.tplEnd src t) s = .next s ∧
      exec (.tplFree src t) s = .next s) ∧
    (∀ rest, s.store.checking = t :: rest → x.check ≠ 0#4 → next .templateCheckDone { s.store with
      checking := rest, stat := err x.check, slots := s.store.slots.set t { x with st := .bad } }) ∧
    (∀ rest, s.store.checking = t :: rest → x.check = 0#4 → Completes .templateCheckDone s fun u =>
      u.store.checking = rest ∧ u.store.stat = err 0#4 ∧ u.store.slots[t].st = .valid ∧
        u.store.slots[t].tid = fld (x.words.getD 0 0#32) 0 16 ∧ u.store.slots[t].words = x.words ∧
        (∀ t' : SlotId, t' ≠ t → u.store.slots[t'] = s.store.slots[t']) ∧ u.cores = s.cores ∧ u.shared = s.shared ∧
        u.fl = s.fl ∧ u.fz = s.fz)

/-- The scrubs (R20, R227, R245 to R247, Table 8.11). -/
def Obligations.FabricScrubs : Prop :=
  ∀ (s : State),
    (∀ (q : PolderId) (upset : BitVec 112) (hour : Bool) (a : Nat), let P := s.polders[q]
      P.die = true → P.scrubNext = a → a < 16384 → P.loadingAt a = false → P.scrubStack = [] →
      let row : BitVec 112 := (match FrameAt.of a with
        | .region r f => rowAt P.regions[r].frames f
        | .half b f => rowAt (if b then P.halfB else P.halfA).frames f) ^^^ upset
      Completes (.fabricScrubRead q upset hour) s fun t =>
        let T := t.polders[q]
        T.scrub.pos = BitVec.ofNat 14 a ∧ T.scrubNext = (a + 1) % 16384 ∧
          (match rowRead 24 4 row with
            | .clean _ => T.scrub.corr = P.scrub.corr ∧ T.scrub.uncorr = P.scrub.uncorr
            | .corrected _ => T.scrub.corr = satInc P.scrub.corr ∧ T.scrub.uncorr = P.scrub.uncorr
            | .bad => T.scrub.corr = P.scrub.corr ∧ T.scrub.uncorr = satInc P.scrub.uncorr) ∧
          (∀ q' : PolderId, q' ≠ q → t.polders[q'] = s.polders[q']) ∧ (P.standby.ref = false → t.store = s.store) ∧
          t.cores = s.cores) ∧
    (∀ upset, foundIn 24 4 0#96 upset ≠ .many → slip 24 4 upset = 0#96 → exec (.storeScrubRead upset) s = .next { s with
      store := { s.store with scrubRow := (s.store.scrubRow + 1) % 4624 } }) ∧
    (∀ (upset : BitVec 112) (t : SlotId), foundIn 24 4 0#96 upset ≠ .many → s.store.scrubRow / 289 = t.val →
      exec (.storeScrubRead upset) s = .next { s with store := { s.store with
        scrubRow := (s.store.scrubRow + 1) % 4624,
        slots := s.store.slots.set t { s.store.slots[t] with
          words := slipRow (s.store.scrubRow % 289) (slip 24 4 upset) s.store.slots[t].words } } }) ∧
    (∀ (upset : BitVec 112) (t : SlotId), foundIn 24 4 0#96 upset = .many → s.store.scrubRow / 289 = t.val →
      s.roleRuns 13#5 = false ∨ s.store.slots[t].st ≠ .valid →
      Completes (.storeScrubRead upset) s fun u =>
        { u with sysq := s.sysq } = { s with store := { s.store with
          scrubRow := (s.store.scrubRow + 1) % 4624,
          writing := s.store.writing.filter (· ≠ t), checking := s.store.checking.filter (· ≠ t), stat := { s.store.stat with storeUncorr := true },
          slots := s.store.slots.set t { s.store.slots[t] with st := .bad } } }) ∧
    (∀ (upset : BitVec 112) (t : SlotId), foundIn 24 4 0#96 upset = .many → s.store.scrubRow / 289 = t.val →
      Completes (.storeScrubRead upset) s fun u =>
        u.store.stat.storeUncorr = true ∧ u.store.scrubRow = (s.store.scrubRow + 1) % 4624 ∧
          (u.store.slots[t].st = .bad ∨ u.store.slots[t].st = .writing) ∧
          (∀ t' : SlotId, t' ≠ t → u.store.slots[t'] = s.store.slots[t']) ∧ u.polders = s.polders ∧ u.cores = s.cores)

/-- Migration, preparation, trial and park (R255, R258, R261, R264 to R267, R272, R285, R287, Table 9.15). -/
def Obligations.MigrationAndTrials : Prop :=
  ∀ (s : State) (n : PortId) (r : RegionId), let q := polderOf n
    let pos := posOf n
    let P := s.polders[q]
    let p := s.ports[n]
    let R := P.regions[r]
    let port : BitVec 8 := BitVec.ofNat 8 n.val
    let r6 : BitVec 6 := BitVec.ofNat 6 r.val
    let mig (m : QyMigStat) (t : State) : State := { t with qy := { t.qy with mig := m } }
    let done : QyMigStat := { s.qy.mig with done := true, err := 0#4, lastPort := port }
    let calm : Prop := p.heldCls = none ∧ p.fe.reports = [] ∧ p.fe.fdetLatch = false ∧ p.fe.foreignOwed = false ∧
      p.fe.disOwed = false ∧ s.parkedWaiting q = none ∧ s.repeatWaiting q = none ∧ (P.region pos.val).backDue = false
    let watched (c : WatchCause) : Prop := match c with
      | .noEcho => P.active.st = .serving
      | .noGoodCrc k => p.attached = true ∧ p.pdcfg.pdEn = true ∧ p.pdstat.giveup = false ∧ p.onAir = false ∧ p.q.fits k = true
      | .badCrc | .badPattern => True
    (s.portRegsUp n →
      (¬(p.pfault.oos = true ∧ p.pfault.oosCause = 1#2) → CompletesIn (.retry n) s
        (s.setPort n { p with pfault := { p.pfault with fe := 0#4 } })) ∧
      (p.pfault.oos = true → p.pfault.oosCause = 1#2 → r.val = pos.val → s.isSpoiled 1#4 (regionId q r.val) = false →
        R.st = .ready → R.trial = .none → R.slot = P.tplMap[pos] → s.queueless n = false → CompletesIn (.retry n) s
          ((s.setPort n { p with pfault := { p.pfault with fe := 0#4 } }).onPolder q fun P => { P with
            culv := P.culv.set pos { P.culv[pos] with switching := true },
            switching := P.switching ++ [{ pos := pos, region := r, kind := .give, cause := 0#4 }] })) ∧
      (PortCompletes (.dropClr n) n s fun q => q = { p with place := { p.place with dropped := 0#8 } }.bare)) ∧
    (s.controlUp = true → p.place.migrating = false → s.stopped (s.cls n) = false → p.pfault.oos = false →
      (P.regionAt pos).st = .serving → P.prepared = none → P.pld = false → P.die = true →
      (P.regionAt pos).isolated = false → P.culv[pos].switching = false →
      (∀ f : WatchFault, watched f.cause → s.store.slots[(P.regionAt pos).slot.toNat].st = .valid →
        s.freeSpareFor q pos = some r → R.st = .ready → R.slot = (P.regionAt pos).slot → r.val ≠ P.culv[pos].region.toNat →
        Completes (.culvertWatchFault q pos f) s fun t =>
          t.ports[n].place.migrating = true ∧ (t.polders[q].regionAt pos).isolated = true ∧
            t.polders[q].culv[pos] = { P.culv[pos] with switching := true } ∧
            t.polders[q].switching = P.switching ++ [{ pos := pos, region := r, kind := .fault, cause := 9#4 }] ∧
            (∀ m : PortId, m ≠ n → t.ports[m] = s.ports[m]) ∧
            (∀ q' : PolderId, q' ≠ q → t.polders[q'] = s.polders[q']) ∧ t.store = s.store) ∧
      (∀ f : WatchFault, watched f.cause → s.store.slots[(P.regionAt pos).slot.toNat].st ≠ .valid →
        Completes (.culvertWatchFault q pos f) s fun t =>
          t.ports[n].pfault.oos = true ∧ t.ports[n].pfault.oosCause = 3#2 ∧ t.ports[n].pfault.migRefused = true ∧
            t.ports[n].tc.state = .disabled ∧
            (∀ m : PortId, m ≠ n → t.ports[m].ungauged = s.ports[m].ungauged) ∧ t.store = s.store)) ∧
    (∀ src, s.fromSup src = true →
      (p.place.migrating = false → p.pfault.oos = false → (P.regionAt pos).st = .serving → R.st = .ready →
        48 ≤ r.val ∨ r.val = pos.val → s.isSpoiled 1#4 (regionId q r.val) = false → R.trial = .none → P.switching = [] →
        R.slot = P.culv[pos].slot ∨ R.slot = P.tplMap[pos] →
        (P.prepared = none → Completes (.qyPrepare src port r6) s fun t =>
          t.polders[q] = { P with prepared := some (pos, r) } ∧ t.ports[n].place.prepared = true ∧ t.qy.mig = done ∧
            (∀ m : PortId, m ≠ n → t.ports[m] = s.ports[m]) ∧ t.store = s.store ∧ t.cores = s.cores) ∧
        (P.prepared.isSome = true → CompletesIn (.qyPrepare src port r6) s
          (mig { s.qy.mig with refused := true, err := 4#4, lastPort := port } s))) ∧
      (P.prepared = some (pos, r) → P.switching = [] → Completes (.qyAbandon src port) s fun t =>
        t.qy.mig = done ∧ t.polders[q].prepared = none) ∧
      (P.prepared = some (pos, r) → P.switching = [] → calm → exec (.qyAbandon src port) s = .next
        (mig done ((s.setPort n { p with place := { p.place with prepared := false } }).onPolder q fun P =>
          { P with prepared := none }))) ∧
      (P.prepared = none → exec (.qyAbandon src port) s = .next
        (mig { s.qy.mig with refused := true, err := 2#4, lastPort := port } s)) ∧
      (R.st = .ready → R.trial = .none → s.isSpoiled 1#4 (regionId q r.val) = false → P.load = none →
        CompletesIn (.qyTrial src port r6) s (mig done (s.onPolder q fun P => { P with
          load := some { target := some r, slot := R.slot, unload := true, purpose := .trial }, scrubSkip := false,
          loadStat := { P.loadStat with busy := true, err := 0#3 },
          regions := P.regions.set r { R with st := .loading, trial := .unloading, isolated := true, idleTrial := true } }))) ∧
      (R.st = .serving ∨ s.isSpoiled 1#4 (regionId q r.val) = true → CompletesIn (.qyTrial src port r6) s
        (mig { s.qy.mig with refused := true, err := 3#4, lastPort := port } s))) ∧
    (P.prepared = some (pos, r) → P.switching = [] → Completes (.prepareLapse q) s fun t =>
      t.qy.mig = { s.qy.mig with lapsed := true } ∧ t.polders[q].prepared = none) ∧
    (P.prepared = some (pos, r) → P.switching = [] → calm → exec (.prepareLapse q) s = .next
      (mig { s.qy.mig with lapsed := true } ((s.setPort n { p with place := { p.place with prepared := false } }).onPolder q
        fun P => { P with prepared := none }))) ∧
    (∀ within, R.trial = .watching true → Completes (.regionTrialEnd q r within) s fun t =>
      t.isSpoiled 1#4 (regionId q r.val) = true ∧ t.polders[q].regions[r] = { R with trial := .none } ∧ t.ports = s.ports) ∧
    (R.trial = .watching false → Completes (.regionTrialEnd q r false) s fun t =>
      t.polders[q].regions[r].trial = .none ∧ t.qy.spoiled = s.qy.spoiled ∧ t.store = s.store)

/-- Core roles (R273 to R275, R320, R334, Table 9.6). -/
def Obligations.CoreTakeovers : Prop :=
  ∀ (s : State), (∃ j : CoreId, s.inService j = true ∧ s.cores[j].role.role = 14#4) →
    (∀ (src : Src) (k x : CoreId) (b : BitVec 4), s.fromSup src = true → b ≤ 11#4 → s.inService k = true →
      s.cores[k].role = { role := b, role2 := 15#4 } →
      (∀ j : CoreId, s.cores[j].role.role = b ∨ s.cores[j].role.role2 = b → j = k) → s.inService x = true →
      s.cores[x].role = { role := 15#4, role2 := 15#4 } →
      Completes (.coreHop src (b.setWidth 8) x) s fun t =>
        t.cores[x].role = { role := b, role2 := 15#4 } ∧ t.cores[x].cfg = s.cores[k].cfg ∧ t.cores[x].pc = 0#14 ∧
          t.cores[x].stat.state = 1#3 ∧ t.cores[k].role = { role := 15#4, role2 := 15#4 } ∧
          t.qy.mig.done = true ∧ t.qy.mig.err = 0#4 ∧ (∀ j : CoreId, j ≠ x → j ≠ k → t.cores[j] = s.cores[j]) ∧
          t.polders = s.polders ∧ t.store = s.store ∧ t.shared = s.shared) ∧
    (∀ (src : Src) (b : BitVec 4) (x : CoreId), s.fromSup src = true → b ≤ 11#4 →
      (∀ j : CoreId, s.inService j = true → s.cores[j].role.role ≠ b ∧ s.cores[j].role.role2 ≠ b) →
      exec (.coreHop src (b.setWidth 8) x) s = .next { s with qy := { s.qy with
        mig := { s.qy.mig with refused := true, err := 2#4, lastPort := b.setWidth 8 } } }) ∧
    (∀ (k x : CoreId) (b : BitVec 4) (within : Bool), s.controlUp = true → b ≤ 11#4 →
      s.cores[k].stat.state = 1#3 ∨ s.cores[k].stat.state = 3#3 → s.cores[k].role = { role := b, role2 := 15#4 } →
      s.freeCore = some x → Completes (.watchdogExpiry k within) s fun t =>
        let again := s.cores[k].expired24 && within
        t.cores[k].stat.wdExp = true ∧ t.cores[k].stat.state = (if again then 5#3 else 4#3) ∧
          t.cores[k].role = { role := 15#4, role2 := 15#4 } ∧ t.cores[x].role = { role := b, role2 := 15#4 } ∧
          t.cores[x].stat.state = 1#3 ∧ (again = true → t.isSpoiled 2#4 (State.coreId k) = true) ∧
          (∀ j : CoreId, j ≠ x → j ≠ k → t.cores[j] = s.cores[j]) ∧ t.polders = s.polders) ∧
    (∀ k : CoreId, s.controlUp = true → s.cores[k].stat.state = 4#3 →
      (Completes (.coreTrialDone k true) s fun t =>
        t.cores[k].role = { role := 15#4, role2 := 15#4 } ∧ t.cores[k].stat.state = 1#3 ∧
          (∀ j : CoreId, j ≠ k → t.cores[j] = s.cores[j]) ∧ t.qy.spoiled = s.qy.spoiled) ∧
      (Completes (.coreTrialDone k false) s fun t =>
        t.cores[k].stat.state = 5#3 ∧ t.isSpoiled 2#4 (State.coreId k) = true ∧
          (∀ j : CoreId, j ≠ k → t.cores[j] = s.cores[j])))

/-- Queues, rows and oscillators (R20, R257, R276 to R278, R294, R335, Table 9.2). -/
def Obligations.RemapsAndScrubs : Prop :=
  ∀ (s : State), s.controlUp = true →
    (∀ (x : QueueId) (pointer : Bool) (i : Nat) (u : BitVec 64), x.val < 244 → (∀ j : Fin 12, s.qy.qmap[j] = none) →
      s.qy.taken = [] → s.isSpoiled 3#4 244#20 = false → pointer = true ∨ foundIn 12 4 0#48 u = .many →
      Completes (.queueFault x pointer ⟨i, u⟩) s fun t =>
        t.qy.qmap[(0 : Fin 12)] = some x ∧ t.isSpoiled 3#4 (BitVec.ofNat 20 x.val) = true ∧ t.cores = s.cores ∧
          t.polders = s.polders ∧
          (∀ n : PortId, n.val ≠ x.val → t.ports[n] = s.ports[n]) ∧
          (∀ n : PortId, n.val = x.val → t.ports[n] = { s.ports[n] with
            q := if pointer then s.ports[n].q else State.loseGroup i s.ports[n].place.epoch s.ports[n].q })) ∧
    (∀ (n : PortId) (x : QueueId) (i : Nat) (u : BitVec 64), x.val = n.val → foundIn 12 4 0#48 u ≠ .many →
      exec (.queueFault x false ⟨i, u⟩) s = .next (s.setPort n { s.ports[n] with
        q := State.slipEntry i (slip 12 4 u) s.ports[n].q })) ∧
    (∀ row, row < 65536 → s.qy.freeRows ≠ 0#7 → Completes (.sramRowFault none false row false) s fun t =>
      t.qy.freeRows = s.qy.freeRows - 1#7 ∧ t.isSpoiled 5#4 (BitVec.ofNat 20 row) = true ∧ t.shared = s.shared ∧
        t.ports = s.ports ∧ t.cores = s.cores) ∧
    (∀ row, row < 65536 → s.qy.freeRows = 0#7 → exec (.sramRowFault none false row false) s = .next { s with
      qy := { s.qy with stat := { s.qy.stat with sramNospare := true } } }) ∧
    (∀ (k : CoreId) (row : Nat), row < 8192 → s.cores[k].ecc.dataSpare ≠ 0#4 →
      Completes (.sramRowFault (some k) true row true) s fun t =>
        t.cores[k] = { s.cores[k] with
          data := Mem.write 0#36 row 0#36 s.cores[k].data,
          ecc := { s.cores[k].ecc with dataUncorr := true, dataSpare := s.cores[k].ecc.dataSpare - 1#4 } } ∧
        t.isSpoiled 4#4 (coreRowId k true row) = true ∧ (∀ j : CoreId, j ≠ k → t.cores[j] = s.cores[j])) ∧
    (s.qy.sharedPos < 65535 → exec (.sharedSramScrubRead 0#48) s = .next { s with
      qy := { s.qy with sharedPos := s.qy.sharedPos + 1 } }) ∧
    (∀ k : CoreId, s.cores[k].scrubPos < 12287 → CoreCompletes (.coreScrubRead k 0#72) k s fun c =>
      c = { s.cores[k] with scrubPos := s.cores[k].scrubPos + 1 }) ∧
    (∀ (k : CoreId) (u : BitVec 72), 4096 ≤ s.cores[k].scrubPos → s.cores[k].scrubPos < 12287 →
      foundIn 9 3 0#36 (u.setWidth 48) = .one → slip 9 3 (u.setWidth 48) = 0#36 →
      s.cores[k].scrubPos ∉ s.cores[k].corrPrev →
      CoreCompletes (.coreScrubRead k u) k s fun c => c = { s.cores[k] with
        scrubPos := s.cores[k].scrubPos + 1, corrCur := s.cores[k].scrubPos :: s.cores[k].corrCur,
        ecc := { s.cores[k].ecc with dataCorr := satInc s.cores[k].ecc.dataCorr } }) ∧
    (∀ (k : CoreId) (u : BitVec 72), 4096 ≤ s.cores[k].scrubPos → s.cores[k].scrubPos < 12287 →
      foundIn 9 3 0#36 (u.setWidth 48) = .clean → slip 9 3 (u.setWidth 48) ≠ 0#36 →
      CoreCompletes (.coreScrubRead k u) k s fun c => c = { s.cores[k] with
        scrubPos := s.cores[k].scrubPos + 1,
        data := Mem.write 0#36 (s.cores[k].scrubPos - 4096)
          (Mem.read 0#36 s.cores[k].data (s.cores[k].scrubPos - 4096) ^^^ slip 9 3 (u.setWidth 48)) s.cores[k].data }) ∧
    (∀ (q : PolderId) (e : Nat), let P := s.polders[q]
      (54 ≤ e → e ≤ 66 → exec (.oscWindowCheck q e false) s = .next (s.onPolder q fun P => { P with oscBad := false })) ∧
      (e < 54 ∨ 66 < e → P.oscBad = false →
        exec (.oscWindowCheck q e false) s = .next (s.onPolder q fun P => { P with oscBad := true })) ∧
      (e < 54 ∨ 66 < e → P.oscBad = true → P.fallback = false → Completes (.oscWindowCheck q e false) s fun t =>
        t.polders[q] = { P with fallback := true } ∧ t.isSpoiled 6#4 (BitVec.ofNat 20 q.val) = true ∧
          t.ports = s.ports ∧ t.cores = s.cores) ∧
      (23520 ≤ e → e ≤ 24480 → exec (.oscWindowCheck q e true) s = .next (s.onPolder q fun P =>
        { P with osc := { P.osc with count := BitVec.ofNat 16 e } })))

/-- Samples, charge and anchors (R200 to R203, R205, R209, R212, R213, R222, R225, R271, Table 7.2). -/
def Obligations.GaugeSamplesAndAnchors : Prop :=
  ∀ (s : State),
    (∀ (n : PortId) (quiet : Bool) (i : Fin 48), let q := polderOf n
      let pos := posOf n
      let k := State.sampleQueue q pos
      let p := s.ports[n]
      let idx := s.polders[q].sampleIdx[pos]
      let s' := s.onPolder q fun P => { P with sampleIdx := P.sampleIdx.set pos (idx + 1#16) }
      s.controlUp = true → s.sys.mode ≠ .island → s.polders[q].die = true → s.slotOf n = some i →
      (s.sysq[k].entries.length ≤ 61 → exec (.gaugeSample n quiet) s = .next (s'.pushSys k
        [(1#6, pay 0 (BitVec.ofNat 6 pos.val) ||| pay 6 idx |||
            payB 22 (quiet && decide (p.ibus.ibus.toInt.natAbs < s.kg.curNow.iQuiet.toNat))), (2#6, State.accWord p),
         (3#6, pay 0 p.vbus.vb ||| pay 13 (p.ibus.ibus.signExtend 17))])) ∧
      (61 < s.sysq[k].entries.length → exec (.gaugeSample n quiet) s = .next
        { s'.onSysq k fun x => { x with ovf := true } with kg := { s.kg with stat := { s.kg.stat with smpLost := true } } })) ∧
    (s.gaugeUp = true →
      (∀ (q : PolderId) (upper : Bool) (pos : PosId) (i : Fin 48) (a b c : Entry) (rest : List Entry),
        let k := State.sampleQueue q (if upper then 24 else 0)
        let idx : BitVec 16 := fld a.payload 6 16
        let u : State := { s.onSysq k Queue.commitHead with
          kg := { s.kg with curNow := s.kg.cur, timeNow := s.kg.time, learnNow := s.kg.learn } }
        s.sysq[k].head = a :: b :: c :: rest → fld a.payload 0 6 = BitVec.ofNat 6 pos.val → s.slotOf (portAt q pos) = some i →
        (∀ l, s.kg.slots[i].lastIdx = some l → State.serialAfter idx l = false →
          exec (.gaugeGroupProcess q upper) s = .next u) ∧
        (∀ acc, (∀ l, s.kg.slots[i].lastIdx = some l → State.serialAfter idx l = true) → s.kg.slots[i].lastAcc = some acc →
          Completes (.gaugeGroupProcess q upper) s fun t =>
            t.kg.slots[i].lastIdx = some idx ∧ t.kg.slots[i].lastAcc = some b.payload ∧
              t.kg.slots[i].q = s.kg.slots[i].q + u.cellCharge i ((((fld c.payload 0 13).toNat * 10 : Nat) : Rat))
                (((b.payload - acc).toInt : Rat) / 3600000) ∧
              (∀ j : Fin 48, j ≠ i → t.kg.slots[j] = s.kg.slots[j]) ∧
              { t with kg := s.kg, ports := s.ports } = s.onSysq k Queue.commitHead)) ∧
      (∀ (i : Fin 48) (g : Int × Int) (gs : List (Int × Int)), let x := s.kg.slots[i]
        let l : Rat := ((gs.length + 1 : Nat) : Rat)
        let soc := s.loadedSoc i ((((g.1 + (gs.map (·.1)).sum) * 10 : Int) : Rat) / l)
          (((g.2 + (gs.map (·.2)).sum : Int) : Rat) / l)
        x.state = 2#2 → s.kg.timeNow.tRest ≠ 0#8 → x.last8 = g :: gs → g.2.natAbs < s.kg.curNow.iRest.toNat →
        x.endIdx = none ∨ x.endIdx ≠ x.lastIdx →
        Completes (.restPoint i) s fun t =>
          t.kg.slots[i].anchor = some (soc, x.q) ∧ t.kg.slots[i].soc = soc ∧ t.kg.slots[i].src = 3#2 ∧
            t.kg.slots[i].rest = true ∧ t.kg.slots[i].conflict = false ∧ t.kg.slots[i].point = some (soc, x.q) ∧
            { t with kg := s.kg, ports := s.ports } = s ∧ (∀ m : PortId, x.port ≠ some m → t.ports[m] = s.ports[m])) ∧
      (∀ (i : Fin 48) (vb ma : Int) (gs : List (Int × Int)), let x := s.kg.slots[i]
        x.state = 2#2 → x.full ≠ 1#2 → x.last8 = (vb, ma) :: gs → ((s.packLimits i).vFull : Int) * 99 ≤ vb * 1000 →
        s.inTaper i ma = true → Completes (.endOfCharge i) s fun t =>
          t.kg.slots[i].full = 1#2 ∧ t.kg.slots[i].anchor = some (1, x.q) ∧ t.kg.slots[i].conflict = false ∧
            { t with kg := s.kg, ports := s.ports, sysq := s.sysq } = s) ∧
      (∀ i : Fin 48, s.kg.slots[i].full = 1#2 → Completes (.topupExpiry i) s fun t =>
        t.kg = { s.kg with slots := s.kg.slots.set i { s.kg.slots[i] with full := 0#2 } } ∧
          { t with kg := s.kg, ports := s.ports, sysq := s.sysq } = s) ∧
      (∀ (i : Fin 48) (vb ma : Int) (gs : List (Int × Int)) (n : PortId), let x := s.kg.slots[i]
        x.state = 3#2 → x.full ≠ 2#2 → x.last8 = (vb, ma) :: gs → vb * 10 ≤ ((s.vFold : Nat) : Int) →
        s.inTaper i (ma.natAbs : Int) = true → x.port = some n → s.ports[n].role.feed ≠ 2 →
        Completes (.endOfDischarge i) s fun t =>
          t.kg.slots[i].full = 2#2 ∧ t.kg.slots[i].anchor = some (0, x.q) ∧ t.kg.slots[i].conflict = false ∧
            { t with kg := s.kg, ports := s.ports, sysq := s.sysq } = s))

/-- Packs (R132, R133, R207, R208, R211, R217, Table 7.4). -/
def Obligations.GaugePacks : Prop :=
  ∀ (s : State) (n : PortId) (r : Port), s.ports[n].trim = r →
    let inHand (q : Port) (t : BitVec 5) : Prop := ∃ x, q.rg.tx = some x ∧ hType x.header = t ∧ x.own = false
    (s.controlUp = true → s.roleRuns s.ports[n].q.role = true → s.regionUp n = true → r.attached = true →
      r.rg.hr = .idle → r.free → r.rg.lastSeq = none →
      (r.role.identStep = 0 → r.srccap.dockEn = true → r.contract.explicit = true → r.partner.identDone = false →
        r.role.dockDone = true → r.busyCore = false → r.partner.dockMode = true →
        PortCompletes (.packIdentification n) n s fun q =>
          q.role.identStep = 1 ∧ q.timerOn .identBound = true ∧ q.partner = r.partner ∧ inHand q 15#5) ∧
      (s.sys.mode ≠ .island → s.roleRuns 13#5 = true → r.headMsg = none → r.headNoAnswer false = false →
        (∀ i, s.slotOf n = some i → r.partner.ident ≠ 0#2 → r.contract.explicit = true → r.pdstat.rev ≠ 1#2 →
          r.busyCore = false →
          PortCompletes (.batteryStatusPoll n) n s fun q =>
            q.role.await = .battStatus ∧ (∃ x, q.rg.tx = some x ∧ hExt x.header = true ∧ hType x.header = 4#5)) ∧
        (∀ i, s.slotOf n = some i → r.partner.dockMode = true → r.contract.explicit = true → r.busyCore = false →
          PortCompletes (.getTempPoll n) n s fun q =>
            q.role.await = (if s.kg.slots[i].limitsAsked then .temp else .limits) ∧ inHand q 15#5))) ∧
    (s.controlUp = true → s.roleRuns s.ports[n].q.role = true → r.stg.pending = false → r.timerOn .identBound = true →
      r.role.idSerial = [] →
      r.role.idMfg = [] → r.role.idCap = [] → PortCompletes (.identBoundExpiry n) n s fun q =>
        q.partner.identDone = true ∧ q.partner.ident = 0#2 ∧ q.partner.identTag = 0#16 ∧ q.role.identStep = 0 ∧
          q.timerOn .identBound = false) ∧
    (s.controlUp = true → s.roleRuns s.ports[n].q.role = true → r.stg.pending = false → r.timerOn .identBound = true →
      r.role.idSerial ≠ [] →
      r.partner.identDone = false → Completes (.identBoundExpiry n) s fun t =>
        t.ports[n].partner.identDone = true ∧ t.ports[n].partner.ident = 2#2 ∧ t.ports[n].role.identStep = 0 ∧
          (∀ m : PortId, m ≠ n → t.ports[m].ungauged = s.ports[m].ungauged) ∧ t.cores = s.cores ∧ t.polders = s.polders) ∧
    (∀ data, s.gaugeUp = true → s.mailHead 13 = some (3#8, BitVec.ofNat 8 n.val, data) →
      s.slotOf n = none → exec .digestReq s = .next ((s.mailDone 13).post
        ⟨s.ports[n].q.role.toNat % 16, Nat.mod_lt _ (by decide)⟩
        (State.mbxGroup 13#4 4#8 (BitVec.ofNat 8 n.val) [s.ports[n].packDigest.setWidth 36])))

/-- The journal and the gauge's commands (R198, R217, R219 to R221, R225, Table 7.11). -/
def Obligations.GaugeJournal : Prop :=
  ∀ (s : State), s.gaugeUp = true →
    (Completes .commitPeriodExpiry s fun t =>
      { t with kg := s.kg } = s ∧ { t.kg with dock := s.kg.dock, packs := s.kg.packs, jstat := s.kg.jstat } = s.kg ∧
        (s.sh.stat.stage ≤ 3#3 → t.kg.jstat = s.kg.jstat) ∧
        (3#3 < s.sh.stat.stage → ∀ i : Fin 112, (t.recOf i).due = true →
          t.kg.jstat = { s.kg.jstat with heldStage := true }) ∧
        (∀ i : Fin 112, t.recOf i = { s.recOf i with due := (s.recOf i).due || (s.recOf i).changed })) ∧
    (∀ i : Fin 112, s.commitOrder.find? (fun i => (s.recOf i).due) = some i →
      (s.sh.stat.stage ≤ 3#3 → s.sh.stat.commitOk = true → s.flashCan = true → Completes .journalCommit s fun t =>
        t.recOf i = { s.recOf i with changed := false, due := false } ∧ (∀ j : Fin 112, j ≠ i → t.recOf j = s.recOf j) ∧
          t.kg.jstat = { s.kg.jstat with heldStage := false, heldBerm := false } ∧
          { t with kg := s.kg, fl := s.fl } = s) ∧
      (3#3 < s.sh.stat.stage → exec .journalCommit s = .next { s with
        kg := { s.kg with jstat := { s.kg.jstat with heldStage := true } } }) ∧
      (s.sh.stat.stage ≤ 3#3 → s.sh.stat.commitOk = false → exec .journalCommit s = .next { s with
        kg := { s.kg with jstat := { s.kg.jstat with heldStage := false, heldBerm := true } } })) ∧
    ((∀ i : Fin 112, (s.recOf i).due = false) → exec .journalCommit s = .next { s with
      kg := { s.kg with jstat := { s.kg.jstat with heldStage := false, heldBerm := false } } }) ∧
    (∀ i : Fin 48, let r := s.owningRec i
      (s.sh.stat.stage ≤ 3#3 → s.sh.stat.commitOk = true → s.flashCan = true →
        Completes (.kgCmdCommit (BitVec.ofNat 6 i.val)) s fun t =>
          t.recOf r = { s.recOf r with changed := false, due := false } ∧
            (∀ j : Fin 112, j ≠ r → t.recOf j = s.recOf j) ∧ { t with kg := s.kg, fl := s.fl } = s) ∧
      (Completes (.kgCmdReset (BitVec.ofNat 6 i.val)) s fun t =>
        (t.recOf r).learned = false ∧ (s.kg.slots[i].owner = none → t.recCap r = mah16 (t.designCap i)) ∧
          (t.recOf r).suspect = false ∧ (t.recOf r).stale = false ∧ (t.recOf r).imp = GaugeRec.init.imp ∧
          (t.recOf r).spanTime = 0#32 ∧ (t.recOf r).changed = true ∧
          (t.recOf r).cycles = (s.recOf r).cycles ∧ (t.recOf r).digest = (s.recOf r).digest ∧
          (∀ j : Fin 112, j ≠ r → t.recOf j = s.recOf j) ∧ { t with kg := s.kg, ports := s.ports } = s) ∧
      (s.kg.cfg[i].port.toNat ≥ 192 → (∀ (m : PortId) (j : Fin 48), s.kg.slots[i].port = some m → j ≠ i →
          s.kg.slots[j].port ≠ some m ∧ (s.kg.cfg[j].en = false ∨ s.kg.cfg[j].port.toNat ≠ m.val)) → Completes (.kgSlotDisable i) s fun t =>
        t.kg.cfg[i].en = false ∧ t.kg.slots[i] = GaugeSlot.off ∧ (∀ j : Fin 48, j ≠ i → t.kg.slots[j] = s.kg.slots[j]) ∧
          (∀ m : PortId, s.kg.slots[i].port ≠ some m → t.ports[m] = s.ports[m]) ∧
          { t with kg := s.kg, ports := s.ports } = s))

/-- Link training (R341 to R344, Table 12.1). -/
def Obligations.LinkTraining : Prop :=
  ∀ (s : State) (i : LinkId) (p : LinkPort), s.lk.ports[i] = p → s.linksUp = true → p.ctrl.en = true →
    let failed (q : LinkPort) : Prop := q.stat.state = 0#3 ∧ q.stat.authFail = true ∧
      q.err = { p.err with authCnt := satInc p.err.authCnt } ∧ q.authOk = false
    (p.stat.state = 0#3 → LinkCompletes (.linkDownWaitExpiry i) i s fun q =>
      q = { p with stat := { p.stat with state := 1#3 } }) ∧
    (p.stat.state = 1#3 → LinkCompletes (.lineEnergyDetected i) i s fun q =>
      q = { p with stat := { p.stat with state := 2#3 } }) ∧
    (∀ inv, p.stat.state = 2#3 → LinkCompletes (.polarityFound i inv) i s fun q =>
      q = { p with only40 := false, stat := { p.stat with state := 3#3, inverted := inv, rate := p.ctrl.rateMax } }) ∧
    (p.stat.state = 2#3 → LinkCompletes (.polarityTimeout i) i s fun q => q.stat.state = 0#3 ∧ q.err = p.err) ∧
    (p.stat.state = 3#3 → LinkCompletes (.rateTrialPass i) i s fun q =>
      q = { p with eqViol := [], stat := { p.stat with state := 4#3 } }) ∧
    (p.stat.state = 3#3 → LinkCompletes (.rateTrialTimeout i) i s fun q =>
      if p.stat.rate then q.stat.state = 0#3 else q = { p with stat := { p.stat with rate := true } }) ∧
    (∀ v, p.stat.state = 4#3 → p.eqViol.length < 7 → LinkCompletes (.eqStep i v) i s fun q =>
      q = { p with eqViol := p.eqViol ++ [v] }) ∧
    (∀ v k, p.stat.state = 4#3 → p.eqViol.length = 7 → LinkPort.eqPick (p.eqViol ++ [v]) = some k →
      Completes (.eqStep i v) s fun t =>
        t.lk.ports[i].stat = { p.stat with state := 5#3, eq := BitVec.ofNat 3 k } ∧
          (∃ nonce, t.lk.ports[i].nonce = nonce ∧ t.lk.ports[i].ctl = [.auth1 (s.upLabel i) s.serial nonce]) ∧
          (∀ j : LinkId, j ≠ i → t.lk.ports[j] = s.lk.ports[j]) ∧
          { t with fresh := s.fresh, lk := { t.lk with ports := s.lk.ports } } = s) ∧
    (∀ serial nonce, p.stat.state = 5#3 →
      (LinkCompletes (.auth1 i (!s.upLabel i) serial nonce) i s fun q =>
        q.stat = p.stat ∧ q.peerNonce = some nonce ∧ q.peerSerial = serial ∧
          Ctl.auth2 (s.authMac (s.upLabel i) p.nonce nonce s.serial serial) ∈ q.ctl) ∧
      (LinkCompletes (.auth1 i (s.upLabel i) serial nonce) i s fun q => failed q ∧ q.stat.roleMismatch = true)) ∧
    (∀ mac n, p.stat.state = 5#3 → p.peerNonce = some n →
      (natBytes 16 mac.toNat = s.authMac (!s.upLabel i) n p.nonce p.peerSerial s.serial →
        LinkCompletes (.auth2 i mac) i s fun q =>
          q = { p with stat := { p.stat with state := 6#3 }, authOk := true, authRun := 0, syncLeft := 4 }) ∧
      (natBytes 16 mac.toNat ≠ s.authMac (!s.upLabel i) n p.nonce p.peerSerial s.serial →
        LinkCompletes (.auth2 i mac) i s failed)) ∧
    (p.stat.state = 5#3 → LinkCompletes (.authTimeout i) i s failed) ∧
    (p.stat.state = 7#3 → LinkCompletes (.helloTimer i) i s fun q => q = { p with ctl := p.ctl ++ [.hello] })

/-- The reliable hop (R339, R344 to R349, R353, Table 12.2). -/
def Obligations.LinkHop : Prop :=
  ∀ (s : State) (i : LinkId) (p : LinkPort), s.lk.ports[i] = p →
    let head : List Byte := [0x80#8 ||| p.stat.peerAddr.setWidth 8, s.ownAddr.setWidth 8, 0#8, 0#8]
    let stamped (c : Ctl) : Ctl := match c with | .sync _ => .sync s.lk.clock | c => c
    (s.linksUp = true → p.stat.state = 7#3 →
      let fell (t : State) : Prop := t.lk.ports[i].stat.state = 0#3 ∧
        t.lk.ports[i].err = { p.err with downCnt := satInc p.err.downCnt } ∧ t.ports = s.ports ∧ t.cores = s.cores ∧
        { t.bg with demand := s.bg.demand } = s.bg ∧ (s.lk.tree.actingMgr = false → t.bg = s.bg) ∧ t.sys = s.sys
      (∀ (raw : BitVec 256) (bad : Bool), let bs := natBytes 32 raw.toNat
        (bad = true ∨ cut 28 4 bs ≠ leBytes (crc32 (cut 0 28 bs)) → LinkCompletes (.cellReceived i raw bad) i s fun q =>
          q.err = { p.err with crcErr := satInc p.err.crcErr } ∧ q.stat = p.stat ∧ q.hopA.rxNext = p.hopA.rxNext ∧
            q.hopB.rxNext = p.hopB.rxNext ∧ q.hopA.unacked = p.hopA.unacked ∧ q.hopA.buffer = p.hopA.buffer) ∧
        (∀ seq, bad = false → cut 28 4 bs = leBytes (crc32 (cut 0 28 bs)) → fld (bs.getD 0 0#8) 6 2 = 1#2 →
          numAt 2 2 bs = seq →
          (seq = p.hopA.rxNext.toNat → p.hopA.buffer.length < 16 → fld (bs.getD 0 0#8) 0 6 = s.ownAddr →
            s.lk.tree.addrOk = true → Completes (.cellReceived i raw false) s fun t =>
              t.lk.ports[i].hopA.rxNext = p.hopA.rxNext + 1#12 ∧ t.lk.ports[i].hopA.naked = false ∧
                t.lk.ports[i].hopA.unacked = p.hopA.unacked ∧ t.lk.ports[i].hopB = p.hopB ∧
                t.lk.ports[i].stat = p.stat ∧ t.ports = s.ports ∧ t.cores = s.cores) ∧
          (seq < 4096 → seq ≠ p.hopA.rxNext.toNat → 2048 ≤ Hop.ahead (BitVec.ofNat 12 seq) p.hopA.rxNext →
            LinkCompletes (.cellReceived i raw false) i s fun q => q.hopA = p.hopA ∧ q.hopB = p.hopB ∧ q.err = p.err ∧
              q.stat = p.stat ∧ Ctl.ack (p.hopA.rxNext - 1#12) (p.hopB.rxNext - 1#12) p.hopA.free p.hopB.free ∈ q.ctl))) ∧
      (∀ a b ca cb, p.ctrl.en = true → LinkCompletes (.linkAck i a b ca cb) i s fun q =>
        q = { p with hopA := p.hopA.ack a ca, hopB := p.hopB.ack b cb }) ∧
      (∀ bulk, (p.hop bulk).unacked ≠ [] →
        ((p.hop bulk).worn = false → ∀ c ∈ [Instr.linkNak i bulk, Instr.ackTimeout i bulk], LinkCompletes c i s fun q =>
          (q.hop bulk).sent = 0 ∧ (q.hop bulk).unacked = (p.hop bulk).unacked ∧ q.hop (!bulk) = p.hop (!bulk) ∧
            q.stat = p.stat ∧ q.err = { p.err with retx := satInc p.err.retx }) ∧
        ((p.hop bulk).worn = true → ∀ c ∈ [Instr.linkNak i bulk, Instr.ackTimeout i bulk], Completes c s fell)) ∧
      (Completes (.linkSilence i) s fell) ∧ (Completes (.codeViolationLimit i) s fell)) ∧
    (∀ c cs, s.linksUp = true → p.stat.state = 5#3 → p.ctl = c :: cs → LinkCompletes (.cellTransmit i) i s fun q =>
      q = { p with ctl := cs, ctlJust := true, last := some (.ctl head (stamped c)) }) ∧
    (∀ c rest pos, s.linksUp = true → p.stat.state = 7#3 → p.ctl = [] → p.hopA.buffer = [] → p.hopB.buffer = [] →
      p.hopA.outbox = [] → p.hopB.outbox = [] → s.sysq[State.txQueue i false].entries = [] →
      s.sysq[State.txQueue i true].entries = [] → p.hopA.unacked = [] → p.hopA.credit ≠ 0 → p.hopA.fwd = (c, pos) :: rest →
      LinkCompletes (.cellTransmit i) i s fun q => q = { p with
        ctlJust := false, last := some (.cell (c.bytes p.hopA.txSeq)),
        hopA := { p.hopA with fwd := rest, unacked := [(p.hopA.txSeq, 1, c)], txSeq := p.hopA.txSeq + 1#12,
                              sent := p.hopA.sent + 1 } }) ∧
    (∀ seq k c, s.linksUp = true → p.stat.state = 7#3 → p.ctl = [] → p.hopA.buffer = [] → p.hopB.buffer = [] →
      p.hopA.outbox = [] → p.hopB.outbox = [] → s.sysq[State.txQueue i false].entries = [] →
      s.sysq[State.txQueue i true].entries = [] → p.hopA.credit ≠ 0 → p.hopA.unacked[p.hopA.sent]? = some (seq, k, c) →
      LinkCompletes (.cellTransmit i) i s fun q => q = { p with
        ctlJust := false, last := some (.cell (c.bytes seq)),
        hopA := { p.hopA with unacked := p.hopA.unacked.set p.hopA.sent (seq, k + 1, c), sent := p.hopA.sent + 1 } }) ∧
    (s.linksUp = true → p.stat.state = 5#3 → p.ctl = [] → LinkCompletes (.cellTransmit i) i s fun q =>
      q = { p with ctlJust := false, last := none }) ∧
    (s.regsUp = true →
      (s.sys.stat.role ≠ 0#2 → Completes (.retrain i) s fun t => t.lk.ports[i].stat.state = 0#3 ∧
        t.lk.ports[i].ctrl = p.ctrl ∧ t.ports = s.ports ∧ t.cores = s.cores ∧
          { t.bg with demand := s.bg.demand } = s.bg ∧ (s.lk.tree.actingMgr = true → ∀ d ∈ t.bg.demand,
            d.1 = s.ownAddr ∨ d.1 ∉ p.subtree ∨ ∃ j : LinkId, j ≠ i ∧ d.1 ∈ s.lk.ports[j].subtree)) ∧
      (s.sys.stat.role ≠ 0#2 → Completes (.lkCtrlEnClear i) s fun t => t.lk.ports[i].stat.state = 0#3 ∧
        t.lk.ports[i].ctrl = { p.ctrl with en := false } ∧ t.ports = s.ports ∧ t.cores = s.cores ∧
          { t.bg with demand := s.bg.demand } = s.bg) ∧
      (s.sys.stat.role = 0#2 → exec (.retrain i) s = .next s ∧ exec (.lkCtrlEnClear i) s = .next s) ∧
      (LinkCompletes (.lkErrCntClr i) i s fun q => q = { p with err := LkErr.reset }))

/-- Messages (R187, R191, R192, R349, R351, R352, R354, R357, R359, R360, Table 12.3). -/
def Obligations.LinkMessages : Prop :=
  ∀ (s : State) (i : LinkId), s.linksUp = true →
    (∀ src bs t, s.takeMsg i false 5#8 = some (src, some bs, t) →
      (t.lk.tree.actingMgr = true → Completes (.linkDemand i) s fun u =>
        (∃ ds, u = { t with bg := { t.bg with demand := (src, ds) :: t.bg.demand.filter fun x => x.1 ≠ src } } ∧
          ds.length = (bs.getD 0 0#8).toNat)) ∧
      (t.lk.tree.actingMgr = false → exec (.linkDemand i) s = .next t)) ∧
    (∀ src bs t, s.takeMsg i false 3#8 = some (src, some bs, t) → t.lk.tree.actingMgr = false →
      bit t.sys.stat.role 1 = true → BitVec.ofNat 64 (numAt 0 8 bs) = t.serial →
      (fld (bs.getD 8 0#8) 0 6 = 0#6 → Completes (.linkAddr i) s fun u =>
        u.lk.tree = { t.lk.tree with addrOk := false } ∧ u.bg.grants = [] ∧ u.bg.stat.leaseValid = false ∧
          u.bg.stat.island = true ∧ u.ports = t.ports ∧ u.cores = t.cores) ∧
      (fld (bs.getD 8 0#8) 0 6 ≠ 0#6 → Completes (.linkAddr i) s fun u =>
        u.lk.tree.addr = fld (bs.getD 8 0#8) 0 6 ∧ u.lk.tree.addrOk = true ∧ u.bg = t.bg ∧ u.ports = t.ports)) ∧
    (∀ src bs t, s.takeMsg i false 4#8 = some (src, some bs, t) → t.lk.tree.actingMgr = false →
      bit t.sys.stat.role 1 = true →
      let late := (t.bg.leaseTime.toNat + 2 ^ 48 - numAt 0 6 bs) % 2 ^ 48
      (t.bg.stat.leaseValid = true → 0 < late → late < 2 ^ 47 → Completes (.linkLease i) s fun u =>
        { u with lk := t.lk } = t) ∧
      (t.bg.stat.leaseValid = false ∨ late = 0 ∨ 2 ^ 47 ≤ late → numAt 6 2 bs = 0 → Completes (.linkLease i) s fun u =>
        u.bg.grants = [] ∧ u.bg.stat.leaseValid = false ∧ u.bg.stat.island = true ∧ u.ports = t.ports ∧ u.cores = t.cores) ∧
      (t.bg.stat.leaseValid = false ∨ late = 0 ∨ 2 ^ 47 ≤ late → numAt 6 2 bs ≠ 0 → numAt 0 6 bs = t.treeUs % 2 ^ 48 →
        Completes (.linkLease i) s fun u =>
        u.bg.grants.length = min 96 (bs.getD 8 0#8).toNat ∧ u.bg.stat.leaseValid = true ∧ u.bg.stat.island = false ∧
          u.bg.lease.remain = BitVec.ofNat 12 (min 4095 (numAt 6 2 bs)) ∧ u.ports = t.ports ∧ u.cores = t.cores)) ∧
    (∀ src bs t, s.takeMsg i false 0x21#8 = some (src, some bs, t) → t.lk.tree.actingMgr = true →
      exec (.linkLife i) s = .next { t with lk := { t.lk with life := (src, bs) :: t.lk.life.filter fun x => x.1 ≠ src } }) ∧
    (∀ src bs t, s.takeMsg i true 0x13#8 = some (src, some bs, t) → t.lk.tree.actingMgr = true →
      exec (.linkLog i) s = .next { t with lk := { t.lk with logs := (src, bs) :: t.lk.logs.filter fun x => x.1 ≠ src } }) ∧
    (∀ src bs t c, s.takeMsg i false 6#8 = some (src, some bs, t) → t.sys.stat.deputy = true →
      bit t.sys.stat.role 1 = true → t.lk.tree.actingMgr = false → exec (.stateCopy i c) s =
        .next { t with lk := { t.lk with copy := some c, copyFresh := true, tree := { t.lk.tree with deputy := true } } }) ∧
    (∀ src bs t, s.takeMsg i true 0x11#8 = some (src, some bs, t) → t.lk.remStat.busy = true →
      t.lk.tree.actingMgr = true → bs.getD 0 0#8 = t.lk.remTag → bs.getD 1 0#8 = 0#8 →
      exec (.remRsp i) s = .next { t with lk := { t.lk with
        remStat := { t.lk.remStat with busy := false, done := true },
        remData := if t.lk.remWr then t.lk.remData else leWord (cut 2 4 bs) } }) ∧
    (∀ src bs t, s.takeMsg i false 2#8 = some (src, some bs, t) → t.lk.tree.actingMgr = true → t.lk.table = [] →
      fld (bs.getD 8 0#8) 0 6 ≠ 0#6 → Completes (.linkTopo i) s fun u =>
        u.lk.table = [(BitVec.ofNat 64 (numAt 0 8 bs), fld (bs.getD 8 0#8) 0 6)] ∧ u.bg = t.bg ∧ u.ports = t.ports) ∧
    (∀ src bs t, s.takeMsg i false 1#8 = some (src, some bs, t) → t.lk.tree.actingMgr = false → t.lk.mgrSerial = 0#64 →
      Completes (.linkBeacon i) s fun u => u.lk.tree.term = bs.getD 0 0#8 ∧
        u.lk.mgrSerial = BitVec.ofNat 64 (numAt 1 8 bs) ∧ u.lk.ports[i].beacon.isSome = true ∧ u.ports = t.ports ∧ u.bg = t.bg) ∧
    (∀ src bs t, s.takeMsg i false 1#8 = some (src, some bs, t) → bs.getD 0 0#8 ≠ t.lk.tree.term →
      t.lk.tree.actingMgr = true ∨ t.lk.mgrSerial ≠ 0#64 →
      State.termAfter (bs.getD 0 0#8) t.lk.tree.term = false → Completes (.linkBeacon i) s fun u =>
        u.lk.tree = t.lk.tree ∧ u.lk.mgrSerial = t.lk.mgrSerial ∧ u.lk.ports[i].beacon.isSome = true ∧
          (∀ j : LinkId, j ≠ i → u.lk.ports[j] = t.lk.ports[j]) ∧ u.ports = t.ports ∧ u.bg = t.bg) ∧
    (s.remWaits i = true → exec (.remReq i) s = .next s) ∧
    (∀ src bs t, s.takeMsg i true 0x10#8 = some (src, some bs, t) → s.remWaits i = false → Completes (.remReq i) s fun u =>
      let t' := if bs.getD 2 0#8 = 1#8 then t.writeReg .remote (BitVec.ofNat 16 (numAt 0 2 bs)) (leWord (cut 3 4 bs)) else t
      { u with lk := { u.lk with ports := t'.lk.ports }, sysq := t'.sysq } = t') ∧
    (∀ src bs t, s.takeMsg i false 1#8 = some (src, some bs, t) → t.lk.tree.actingMgr = true → t.sys.stat.role = 1#2 →
      State.termAfter (bs.getD 0 0#8) t.lk.tree.term = true → BitVec.ofNat 64 (numAt 1 8 bs) ≠ t.serial →
      Completes (.linkBeacon i) s fun u =>
        u.lk.tree.actingMgr = false ∧ u.lk.tree.deposed = true ∧ u.lk.tree.term = bs.getD 0 0#8 ∧ u.bg.run = none ∧
          u.bg.grants = t.bg.grants ∧ u.ports = t.ports ∧ u.cores = t.cores) ∧
    ((∀ c, s.headCell i false = some c → State.listedType c.typ = true) → s.takeMsg i false 1#8 = none →
      exec (.linkBeacon i) s = .next s)

/-- The tree, its manager and its time (R349, R354, R355, R357 to R360, Table 12.9). -/
def Obligations.TreeAndTime : Prop :=
  ∀ (s : State),
    (s.lk.tree.actingMgr = false → exec .beaconTimer s = .next s) ∧
    (s.linksUp = true → s.lk.tree.actingMgr = true → Completes .beaconTimer s fun t =>
      { t with lk := { t.lk with ports := s.lk.ports }, sysq := s.sysq } = s ∧
        (∀ i : LinkId, s.lk.ports[i].stat.state ≠ 7#3 → t.lk.ports[i] = s.lk.ports[i])) ∧
    (∀ r i : LinkId, s.linksUp = true → s.rootLink = some r →
      (s.onLink r fun p => { p with beacon := none }).bestRoot = some i → Completes .beaconLoss s fun t =>
        t.rootLink = some i ∧ t.lk.ports[i].stat.active = true ∧ t.lk.ports[r].beacon = none ∧
          t.lk.tree.depth = BitVec.ofNat 3 (s.beaconDepth i) ∧ t.bg = s.bg ∧ t.ports = s.ports) ∧
    (∀ r : LinkId, s.linksUp = true → s.lk.cfg.revert = true → s.upLabel 0 = true → s.rootLink = some r → r ≠ 0 →
      s.rootable 0 = true → Completes .rootRevertTimer s fun t =>
        t.rootLink = some 0 ∧ t.lk.ports[(0 : LinkId)].stat.active = true ∧ t.bg = s.bg ∧ t.ports = s.ports) ∧
    (∀ c, s.lk.copy = some c → s.lk.tree.deputy = true → s.lk.tree.actingMgr = false → s.sys.mode = .run →
      s.fl.upd.phase < 3#3 → Completes .managerLoss s fun t =>
        t.lk.tree.actingMgr = true ∧ t.lk.tree.term = s.lk.tree.term + 1#8 ∧ t.lk.mgrSerial = s.serial ∧
          t.rootLink = none ∧ t.bg.shipLim = c.ship ∧ t.bg.feedLim = c.lim ∧ t.bg.demand = c.demand ∧
          t.bg.stat.limInherited = true ∧ t.lk.table = c.table ∧ t.ports = s.ports ∧ t.cores = s.cores) ∧
    (s.regsUp = true →
      (s.lk.tree.deposed = true → s.lk.time.synced = true → Completes .reclaim s fun t =>
        t.lk.tree.actingMgr = true ∧ t.lk.tree.deposed = false ∧ t.lk.tree.term = s.lk.highTerm + 1#8 ∧ t.rootLink = none ∧
          t.bg = s.bg ∧ t.ports = s.ports) ∧
      (s.lk.tree.deposed = false ∨ s.lk.time.synced = false → exec .reclaim s = .next s) ∧
      (∀ w, s.lk.tree.actingMgr = false → s.lk.remStat.busy = false → exec (.remGo w) s = .next { s with lk := { s.lk with
        remAddr := s.lk.remAddr.write (w ||| 0x20000#32), remStat := { s.lk.remStat with refused := true } } })) ∧
    (s.lk.remStat.busy = true → exec .remTimeout s = .next { s with lk := { s.lk with
      remStat := { s.lk.remStat with busy := false, timeout := true } } }) ∧
    (s.linksUp = true →
      (∀ i : LinkId, let p := s.lk.ports[i]
        p.stat.state = 7#3 →
        (s.timeMaster i = true → LinkCompletes (.delayReq i) i s fun q => q = { p with ctl := p.ctl ++ [.delayRsp s.lk.clock] }) ∧
        (∀ t1 t2, s.timeMaster i = false → LinkCompletes (.linkSync i t1 t2) i s fun q =>
          q = { p with t1 := t1, t2 := t2, ctl := p.ctl ++ [.delayReq] }) ∧
        (∀ t3 t4, s.timeMaster i = false → s.lk.tree.actingMgr = false → s.rootLink = some i →
          Completes (.delayRsp i t3 t4) s fun t =>
            let d : Int := ((p.t2 - p.t1).toInt - (t4 - t3).toInt) / 2
            t = { s with lk := { s.lk with
              clock := s.lk.clock - BitVec.ofInt 64 d, firstSync := false,
              time := { s.lk.time with stepped := s.lk.time.stepped || (s.lk.firstSync && bit s.sys.stat.role 1) ||
                                         decide (10000 < d.natAbs),
                                       lastCorr := BitVec.ofInt 16 (-d) } } }) ∧
        (s.rootLink = some i → exec .syncedTimer s = .next { s with lk := { s.lk with
          time := { s.lk.time with synced := true } } })) ∧
      (Completes .timeSyncTimer s fun t => { t with lk := { t.lk with ports := s.lk.ports } } = s ∧
        ∀ i : LinkId, t.lk.ports[i] = if (s.lk.ports[i].stat.state = 6#3 ∨ s.lk.ports[i].stat.state = 7#3) ∧
          s.timeMaster i = true then { s.lk.ports[i] with ctl := s.lk.ports[i].ctl ++ [.sync 0#64] } else s.lk.ports[i])) ∧
    (s.lk.time.synced = true → exec .syncLost s = .next { s with lk := { s.lk with
      time := { s.lk.time with synced := false, syncLost := true } } }) ∧
    (s.roleRuns 12#5 = true → s.linksUp = true → s.lk.tree.actingMgr = false → Completes .lifeTimer s fun t =>
      { t with lk := { t.lk with ports := s.lk.ports }, sysq := s.sysq } = s) ∧
    (s.lk.tree.actingMgr = true → exec .lifeTimer s = .next s)

/-- TW_H (R366 to R372, R382, Tables 13.1 and 13.5). -/
def Obligations.TwoWireTransactions : Prop :=
  ∀ (s : State),
    (∀ addr : BitVec 7, s.twUp = true → s.tw.hCfg.pecEn = false → s.sysq[(40 : Fin 64)].entries.length ≤ 55 →
      let m := s.tw.matchOf addr
      let q := s.sysq[(40 : Fin 64)].entries
      let taken (t : State) (ptr : BitVec 16) (n : Nat) : Prop :=
        t.tw.ack = true ∧ t.tw.ptr = ptr ∧ t.tw.seq = s.tw.seq + 1#12 ∧ t.tw.staged = none ∧
          t.sysq[(40 : Fin 64)].entries.length = q.length + n ∧ t.sysq[(40 : Fin 64)].entries.take q.length = q ∧
          { t with tw := s.tw, sysq := s.sysq } = s
      (m ≠ .none → ∀ reg sr, Completes (.twHPointer addr reg none sr) s fun t => taken t (0#1 ++ reg) 1) ∧
      (m ≠ .none → ∀ reg sr (ws : List Word), 1 ≤ ws.length → ws.length ≤ 8 →
        Completes (.twHWrite addr reg (ws.flatMap leBytes) sr) s fun t => taken t (0#1 ++ reg) (ws.length + 1) ∧
          (t.sysq[(40 : Fin 64)].entries.drop (q.length + 1)).map (fun e => fld e.payload 0 32) = ws) ∧
      (m ≠ .none → ∀ reg sr (count : Byte), count ≤ 8#8 → Completes (.twHBlockPointer addr reg count [] sr) s fun t =>
        taken t (1#1 ++ reg) 1) ∧
      (m = .none → ∀ reg sr c, ∀ i ∈ [Instr.twHPointer addr reg none sr, .twHWrite addr reg [] sr,
          .twHBlockPointer addr reg c [] sr, .twHRead addr 1, .twHBlockRead addr 1],
        exec i s = .next { s with tw := { s.tw with ack := false, sda := [], lead := [] } })) ∧
    (∀ (addr : BitVec 7) (n : Nat), s.twUp = true → s.tw.hCfg.pecEn = false → s.tw.matchOf addr = .full →
      (∀ ws, s.tw.staged = some ws → bit s.tw.ptr 15 = false → Completes (.twHRead addr n) s fun t =>
        t.tw.sda = (ws.flatMap leBytes ++ List.replicate n 0xFF#8).take n ∧ t.tw.ack = true ∧ t.tw.stagedRead = true ∧
          t.tw.staged = some ws ∧ { t with tw := s.tw } = s) ∧
      (∀ ws, s.tw.staged = some ws → bit s.tw.ptr 15 = true → Completes (.twHBlockRead addr n) s fun t =>
        t.tw.sda = (BitVec.ofNat 8 (4 * ws.length) :: ws.flatMap leBytes ++ List.replicate n 0xFF#8).take n ∧
          t.tw.ack = true ∧ { t with tw := s.tw } = s) ∧
      (s.tw.staged = none → Completes (.twHRead addr n) s fun t => t.tw.ack = false ∧ t.tw.sda = [] ∧
        t.tw.hStat = { s.tw.hStat with busyNack := true, nackCnt := satInc s.tw.hStat.nackCnt } ∧
        { t with tw := s.tw } = s)) ∧
    (∀ (h : Entry) (rest : List Entry), let s' := s.onSysq 40 Queue.commitHead
      let ptr : BitVec 16 := (fld h.payload 0 15).setWidth 16
      let seq : BitVec 12 := fld h.payload 22 12
      let n := if bit h.payload 16 then (fld h.payload 17 4).toNat else rest.length
      s.twServer = true → s.sysq[(40 : Fin 64)].head = h :: rest →
      ((∃ i < n, s.waits (ptr + BitVec.ofNat 16 i) = true) → exec .twHTransactionServe s = .next s) ∧
      ((∀ i < n, s.waits (ptr + BitVec.ofNat 16 i) = false) →
        (bit h.payload 16 = true → fld h.payload 17 4 = 1#4 → seq + 1#12 = s.tw.seq →
          Completes .twHTransactionServe s fun t => t.tw.staged = some [s'.readReg ptr] ∧ t.tw.stagedRead = false ∧
            t.tw.seq = s.tw.seq ∧ { t with tw := s.tw, sysq := s.sysq } = s) ∧
        (bit h.payload 16 = false → s.tw.applied = some seq → exec .twHTransactionServe s = .next s') ∧
        (bit h.payload 16 = false → s.tw.applied ≠ some seq → ∀ v, rest.map (fun e => fld e.payload 0 32) = [v] →
          exec .twHTransactionServe s = .next
            (({ s' with tw := { s.tw with applied := some seq, haccData := v } }).writeBase .host ptr v)))) ∧
    (∀ (src : Src) (w : Word), s.regsUp = true →
      (s.fromSup src = true → bit w 17 = true → bit w 16 = false → s.waits (fld w 0 16) = false → exec (.hostAccess src w) s = .next { s with
        tw := { s.tw with haccData := s.readReg (fld w 0 16) } }) ∧
      (s.fromSup src = false ∨ bit w 17 = false ∨ s.waits (fld w 0 16) = true → exec (.hostAccess src w) s = .next s))

/-- Alerts and TW_M (R128, R373 to R377, R379, Table 13.5). -/
def Obligations.TwoWireAlertsAndMaster : Prop :=
  ∀ (s : State),
    let onlyTw (i : Instr) (post : TwoWire → Prop) : Prop :=
      Completes i s fun t => post t.tw ∧ { t with tw := s.tw, sysq := s.sysq } = s
    (∀ a rest, s.twUp = true → s.tw.alerts = a :: rest → s.tw.hCfg.alertRetry ≠ 0#4 →
      (s.tw.alertHeld = false →
        onlyTw (.alertRecordSend true) (fun t => t.alerts = rest ∧ t.hStat = s.tw.hStat ∧ t.alertHeld = false) ∧
        (a.tries + 1 < s.tw.hCfg.alertRetry.toNat → onlyTw (.alertRecordSend false) fun t =>
          t.alerts = { a with tries := a.tries + 1 } :: rest ∧ t.alertHeld = true ∧ t.hStat = s.tw.hStat) ∧
        (s.tw.hCfg.alertRetry.toNat ≤ a.tries + 1 → onlyTw (.alertRecordSend false) fun t =>
          t.alerts = rest ∧ t.hStat = { s.tw.hStat with alertFail := true }) ∧
        (onlyTw (.arbitrationLost false) fun t => t.sda = [] ∧ t.hStat = { s.tw.hStat with arbLost := true } ∧
          t.alerts = s.tw.alerts) ∧
        (onlyTw (.arbLostSr false) fun t => t.sda = [] ∧ t.hStat = { s.tw.hStat with arbLostSr := true } ∧
          t.alerts = s.tw.alerts)) ∧
      (s.tw.alertHeld = true → onlyTw (.alertRetryExpiry true) fun t => t.alerts = rest ∧ t.alertHeld = false)) ∧
    (s.tw.alertHeld = true → ∀ acked, exec (.alertRecordSend acked) s = .next s) ∧
    (s.twUp = true → s.tw.hCfg.toEn = true →
      (onlyTw (.sclTo false) fun t => t.sda = [] ∧ t.lead = [] ∧ t.hStat = { s.tw.hStat with sclTo := true }) ∧
      (onlyTw (.sdaTo false true) fun t => t.sda = [] ∧ t.lead = [] ∧ t.hStat.sdaTo = true ∧ t.alerts = s.tw.alerts)) ∧
    (∀ c, s.twmUp = true → s.tw.run = some c →
      (onlyTw (.arbitrationLost true) fun t => t.run = some c ∧ t.mStat = { s.tw.mStat with arbLost := true }) ∧
      (onlyTw (.arbLostSr true) fun t => t.run = some c ∧ t.mStat = { s.tw.mStat with arbLostSr := true }) ∧
      (s.tw.mCfg.toEn = true → onlyTw (.sclTo true) fun t =>
        t.run = some c ∧ t.mStat = { s.tw.mStat with sclTo := true }) ∧
      (s.tw.mCfg.toEn = true → onlyTw (.sdaTo true true) fun t => t.run = some c ∧
        t.mStat = { s.tw.mStat with sdaTo := true, busClrCnt := satInc s.tw.mStat.busClrCnt }) ∧
      (onlyTw (.stuckRetryExpiry true true true) fun t =>
        t = { s.tw with mStat := { s.tw.mStat with busClrCnt := satInc s.tw.mStat.busClrCnt } }) ∧
      (∀ code data, let sent : List Byte := (if c.nw = 0 then [] else (c.addr ++ 0#1) :: c.bytes.take c.nw) ++ [c.addr ++ 1#1]
        let got := (data ++ List.replicate c.nr 0xFF#8).take c.nr
        onlyTw (.twMCommandDone false code data) fun t => t = { s.tw with run := none, mStat := { s.tw.mStat with
          busy := false, pecErr := s.tw.mStat.pecErr || (c.pec && decide (0 < c.nr) && decide (code ≠ pecOf (sent ++ got))) } }) ∧
      (s.roleRuns 13#5 = false → ∀ code data, onlyTw (.twMCommandDone true code data) fun t =>
        t = { s.tw with run := none, mStat := { s.tw.mStat with busy := false, nack := true } })) ∧
    (∀ e rest, s.twmUp = true → s.tw.run = none → s.sysq[(43 : Fin 64)].entries = e :: rest → e.last = true → e.typ = 1#6 →
      Completes (.twMCommand false false) s fun t =>
        t.tw.mStat = { s.tw.mStat with busy := true } ∧ t.sysq[(43 : Fin 64)].entries = rest ∧
          (∃ c, t.tw.run = some c ∧ c.addr = fld e.payload 0 7 ∧ c.read = bit e.payload 7 ∧ c.tag = fld e.payload 16 8) ∧
          { t with tw := s.tw, sysq := s.sysq } = s) ∧
    (∀ (n : PortId) (v : W36) (rest : List W36), s.twmUp = true → s.roleRuns 13#5 = true →
      s.mailHead 13 = some (2#8, BitVec.ofNat 8 n.val, v :: rest) → s.ports[n].alt.muxFail = false →
      s.sysq[(43 : Fin 64)].entries.length ≤ 62 → exec .muxRec s = .next ((s.mailDone 13).pushSys 43
        [(1#6, pay 0 s.ports[n].alt.muxAddr ||| pay 8 2#4 ||| pay 16 (BitVec.ofNat 8 n.val)),
         (2#6, (leWord [s.ports[n].alt.muxReg, fld v 0 8]).setWidth 36)]))

/-- PROGRAM, LOCK and REVOKE (R405 to R411, Tables 15.3 and 15.7). -/
def Obligations.FuseCommands : Prop :=
  ∀ (s : State) (src : Src) (addr : BitVec 9), s.fusesUp = true →
    let f := s.fz
    let next (i : Instr) (f' : Fuses) : Prop := exec i s = .next { s with fz := f' }
    let refused (e : BitVec 4) : Fuses := { f with cmdStat := { f.cmdStat with refused := true, err := e } }
    let runs (f : Fuses) (now : FzStep) (rest : List FzStep) : Fuses :=
      { f with job := some { now := now, next := rest, command := true }, cmdStat := { f.cmdStat with busy := true } }
    let ok : Prop := s.sh.stat.stage ≤ 3#3 ∧ 200 ≤ s.sys.temp.die.toNat ∧ s.sys.temp.die.toNat ≤ 1250 ∧ f.job = none
    let all : List Instr := [.fuseProgram src addr, .fuseLock src addr [], .fuseRevoke src addr]
    let off := addr.toNat % 256
    let v : Word := if regionOf off = some 3 then
      f.wdata ^^^ Config.dieMask ((List.range 32).map f.shadowAt) off else f.wdata
    (3#3 < s.sh.stat.stage → ∀ i ∈ all, next i (refused 3#4)) ∧
    (s.sh.stat.stage ≤ 3#3 → s.sys.temp.die.toNat < 200 ∨ 1250 < s.sys.temp.die.toNat → ∀ i ∈ all, next i (refused 4#4)) ∧
    (s.sh.stat.stage ≤ 3#3 → 200 ≤ s.sys.temp.die.toNat → s.sys.temp.die.toNat ≤ 1250 → f.job.isSome = true →
      ∀ i ∈ all, next i (refused 9#4)) ∧
    (ok → s.fuseSource src false = false → next (.fuseRevoke src addr) (refused 1#4)) ∧
    (ok → s.fuseSource src true = true →
      (∀ r, regionOf off = some r → 2 ≤ r → r ≤ 4 → f.lockedNow 0 r = false → f.lockedNow 1 r = false →
        (f.wdata = 0#32 → next (.fuseProgram src addr)
          { f with cmdStat := { f.cmdStat with busy := false, done := true, err := 0#4 } }) ∧
        (f.wdata ≠ 0#32 → f.programmed off = false → f.programmed (256 + off) = false →
          next (.fuseProgram src addr) (runs f (.word off v) [.word (256 + off) v])) ∧
        (f.wdata ≠ 0#32 → f.programmed off = true → (f.logical off).value = some v → f.programmed (256 + off) = false →
          next (.fuseProgram src addr) (runs f (.word (256 + off) v) [])) ∧
        (f.wdata ≠ 0#32 → f.programmed off = true → (f.logical off).value ≠ some v →
          next (.fuseProgram src addr) (refused 2#4))) ∧
      (∀ r, regionOf off = some r → r = 0 ∨ r = 1 ∨ r = 5 → next (.fuseProgram src addr) (refused 1#4)) ∧
      (regionOf off = none → next (.fuseProgram src addr) (refused 1#4)) ∧
      (∀ up, addr.toNat ≤ 5 → f.lockedNow 0 addr.toNat = true → f.lockedNow 1 addr.toNat = true →
        next (.fuseLock src addr up) (refused 8#4)) ∧
      (∀ up, addr.toNat ≤ 5 → f.lockedNow 0 addr.toNat = false → f.lockedNow 1 addr.toNat = false →
        let read (bank i : Nat) : Option Word := (Fuses.readWith (f.sensed up) (Fuses.spareMap (f.sensed up) bank)
          (bank * 256 + regionBase addr.toNat + i)).value
        ((∃ i < regionLen addr.toNat, read 0 i = none ∨ read 0 i ≠ read 1 i) → next (.fuseLock src addr up) (refused 6#4)) ∧
        (∀ ws : List Word, ws.length = regionLen addr.toNat →
          (∀ i < regionLen addr.toNat, read 0 i = some (ws.getD i 0#32) ∧ read 1 i = some (ws.getD i 0#32)) →
          ∀ now rest, (List.range 2).flatMap (fun bank => ((regionDigest addr.toNat ws).mapIdx fun i w =>
            FzStep.word (bank * 256 + 0xA8 + 4 * addr.toNat + i) w).filter fun x => Fuses.stepValue x ≠ 0#32) = now :: rest →
          next (.fuseLock src addr up) (runs f now rest)))) ∧
    (ok → s.fuseSource src false = true → addr.toNat < 4 →
      let live := f.liveSlots.filter fun i => !(f.programmed (0xC0 + i) || f.programmed (256 + 0xC0 + i))
      (live = [addr.toNat] → next (.fuseRevoke src addr) (refused 7#4)) ∧
      (live ≠ [addr.toNat] → f.programmed (0xC0 + addr.toNat) = false → f.programmed (256 + 0xC0 + addr.toNat) = false →
        next (.fuseRevoke src addr) (runs { f with stat := { f.stat with revokePend := true } }
          (.word (0xC0 + addr.toNat) 0xFFFFFFFF#32) [.word (256 + 0xC0 + addr.toNat) 0xFFFFFFFF#32])))

/-- The rest of the fuse commands (R280, R405, R406, R414, R416). -/
def Obligations.FuseProgramEndsReadsScrub : Prop :=
  ∀ (s : State), s.fusesUp = true →
    let f := s.fz
    let next (i : Instr) (f' : Fuses) : Prop := exec i s = .next { s with fz := f' }
    (∀ (src : Src) (addr : BitVec 9) (upset : BitVec 44), s.fuseSource src true = true → f.job = none →
      let done (f : Fuses) : Fuses := { f with cmdStat := { f.cmdStat with busy := false, done := true, err := 0#4 } }
      ∀ i ∈ [Instr.readNormal src addr upset, .readStrict src addr upset], ∀ r, regionOf (addr.toNat % 256) = some r →
        next i (done { f with
          rawData := if r = 3 then 0#32 else fld (f.word addr.toNat ^^^ upset) 0 32,
          cmdStat := { f.cmdStat with rawChk := if r = 3 then 0#12 else fld (f.word addr.toNat ^^^ upset) 32 12 } })) ∧
    (∀ (a : Nat) (v : Word) (rest : List FzStep) (got : BitVec 44),
      let raw := Mem.write 0#44 a got f.raw
      let blown (t : State) : Prop := t.fz.raw = raw ∧ { t with fz := f } = s
      f.job = some { now := .word a v, next := rest, command := true } →
        (got = fuseRow v → Completes (.fuseProgramDone got) s fun t => blown t ∧
          (∀ x xs, rest = x :: xs → t.fz.job = some { now := x, next := xs, command := true } ∧ t.fz.cmdStat = f.cmdStat) ∧
          (rest = [] → t.fz.job = none ∧ t.fz.cmdStat = { f.cmdStat with busy := false, done := true, err := 0#4 })) ∧
        (got ≠ fuseRow v → Completes (.fuseProgramDone got) s fun t => blown t ∧
          (∀ k ks, ({ f with raw := raw } : Fuses).freeSlots (a / 256) = k :: ks →
            t.fz.job = some { now := .spareVal k a v, next := rest, command := true } ∧ t.fz.cmdStat = f.cmdStat) ∧
          (({ f with raw := raw } : Fuses).freeSlots (a / 256) = [] → t.fz.job = none ∧ t.fz.stat.sparesOut = true ∧
            t.fz.cmdStat = { f.cmdStat with busy := false, refused := true, err := 5#4 }))) ∧
    (∀ (k a : Nat) (v : Word),
      (f.job = some { now := .spareVal k a v, next := [], command := true } →
        Completes (.fuseProgramDone (fuseRow v)) s fun t =>
          t.fz.job = some { now := .spareTag k a v, next := [], command := true } ∧
            t.fz.raw = Mem.write 0#44 (a / 256 * 256 + 0xC4 + 2 * k + 1) (fuseRow v) f.raw ∧ { t with fz := f } = s) ∧
      (f.job = some { now := .spareTag k a v, next := [], command := true } →
        Completes (.fuseProgramDone (fuseRow (spareTagWord a))) s fun t =>
          t.fz.job = none ∧ t.fz.cmdStat = { f.cmdStat with spared := true, busy := false, done := true, err := 0#4 } ∧
            t.fz.raw = Mem.write 0#44 (a / 256 * 256 + 0xC4 + 2 * k) (fuseRow (spareTagWord a)) f.raw ∧
            { t with fz := f } = s)) ∧
    (∀ (normal strict : BitVec 44), f.job = none → f.scrubNext < 512 →
      let a := f.scrubNext
      let n := readFuse (f.word a ^^^ normal)
      let t := readFuse (f.word a ^^^ strict)
      let on : Fuses := { f with scrubNext := (a + 1) % 512, scrub := { f.scrub with pos := BitVec.ofNat 9 a } }
      (normal = strict → n.corrected = false → n.value.isSome = true → next (.fuseScrubRead normal strict) on) ∧
      (normal ≠ strict → n.value = some (f.shadowAt a) → t.value = some (f.shadowAt a) →
        next (.fuseScrubRead normal strict) { on with
          rstat := Mem.write 0#5 a ((f.rstatOf a &&& 0x1C#5) ||| 1#5) f.rstat, stat := { f.stat with weakCorrected := true },
          scrub := { on.scrub with wcorrCnt := satInc f.scrub.wcorrCnt } }) ∧
      (normal ≠ strict → n.value ≠ some (f.shadowAt a) ∨ t.value ≠ some (f.shadowAt a) →
        next (.fuseScrubRead normal strict) { on with
          rstat := Mem.write 0#5 a ((f.rstatOf a &&& 0x1C#5) ||| 2#5) f.rstat, stat := { f.stat with weak := true },
          scrub := { on.scrub with weakCnt := satInc f.scrub.weakCnt } })) ∧
    next .fzScrubCntClr { f with scrub := { f.scrub with weakCnt := 0#8, wcorrCnt := 0#8 } } ∧
    (∀ w ws, s.qy.held = w :: ws → s.qy.ledgerAt < 64 →
      (s.sh.stat.stage ≤ 3#3 → s.fuseTempOk = true → f.job = none → next .spoilEntryWrite { f with
        job := some { now := .ledger (ledgerAddr s.qy.ledgerAt) w, next := [], command := false } }) ∧
      (3#3 < s.sh.stat.stage → exec .spoilEntryWrite s = .next s) ∧
      (∀ a got, f.job = some { now := .ledger a w, next := [], command := false } →
        Completes (.fuseProgramDone got) s fun t => t.fz.raw = Mem.write 0#44 a got f.raw ∧ t.fz.job = none ∧
          (t.qy.ledgerAt = 64 ∨ (s.qy.ledgerAt < t.qy.ledgerAt ∧ t.fz.word (ledgerAddr t.qy.ledgerAt) = 0#44)) ∧
          t.qy = { s.qy with ledgerAt := t.qy.ledgerAt, held := (if got = fuseRow w then ws else w :: ws), spoil := { s.qy.spoil with
            ledgerUsed := if s.qy.spoil.ledgerUsed < 64#7 then s.qy.spoil.ledgerUsed + 1#7 else s.qy.spoil.ledgerUsed,
            badWords := if got = fuseRow w then s.qy.spoil.badWords else satInc s.qy.spoil.badWords } } ∧
          { t with fz := f, qy := s.qy } = s))

/-- The flash controller (R440, Table 17.1). -/
def Obligations.FlashController : Prop :=
  ∀ (s : State), s.flashUp = true → (s.sysq[(44 : Fin 64)]).entries = [] →
    (s.sysq[(45 : Fin 64)]).entries = [] → (s.sysq[(46 : Fin 64)]).entries = [] → (s.sysq[(47 : Fin 64)]).entries = [] →
    let pay (i : Fin 64) (t : State) : List W36 := (t.sysq[i]).entries.map (·.payload)
    let kept (t : State) : Prop := { t with fl := s.fl, sysq := s.sysq } = s
    (s.roleRuns 13#5 = true → s.fl.run = none → ∀ (addr : BitVec 24) (n : BitVec 9) (data : List Byte), n ≤ 256#9 →
      let starts (i : Instr) (op : BitVec 3) (d : List Byte) : Prop := Completes i s fun t =>
        t.fl = { s.fl with run := some { op := op, addr := addr.toNat, n := n.toNat, data := d } } ∧ kept t ∧
          pay 44 t = [] ∧ pay 45 t = [] ∧ pay 46 t = [] ∧ pay 47 t = []
      let refused (i : Instr) (op : BitVec 3) : Prop := Completes i s fun t =>
        t.fl = { s.fl with stat := { s.fl.stat with refused := true } } ∧ kept t ∧
          pay 47 t = [flStatusWord op false true false false]
      let deep : Prop := 4#3 ≤ s.sh.stat.stage ∨ s.sh.sup.vddioLost = true
      starts (.flashRead addr n) 1#3 [] ∧ starts (.readId addr n) 5#3 [] ∧
      (¬deep → starts (.erase4k addr n) 3#3 [] ∧ starts (.erase64k addr n) 4#3 [] ∧
        (addr.toNat % 256 + n.toNat ≤ 256 → starts (.flashProgram addr n data) 2#3
          ((data ++ List.replicate n.toNat 0#8).take n.toNat))) ∧
      (deep → refused (.erase4k addr n) 3#3 ∧ refused (.erase64k addr n) 4#3 ∧ refused (.flashProgram addr n data) 2#3) ∧
      (256 < addr.toNat % 256 + n.toNat → refused (.flashProgram addr n data) 2#3)) ∧
    (∀ x, s.fl.run = some x → Mem.wf 0xFF#8 s.fl.mem = true →
      let ended (verify : Bool) (t : State) : Prop :=
        t.fl = { s.fl with run := none, mem := t.fl.mem, stat := { s.fl.stat with verifyFail := s.fl.stat.verifyFail || verify } } ∧
          kept t ∧ pay 47 t = [flStatusWord x.op true false verify false]
      let read (t : State) (a : Nat) : Byte := Mem.read 0xFF#8 t.fl.mem a
      (x.op = 1#3 → x.n ≤ 256 → Completes .flashCommandDone s fun t =>
        ended false t ∧ t.fl.mem = s.fl.mem ∧ pay 45 t = dataWords (s.fl.bytes x.addr x.n)) ∧
      (x.op = 5#3 → Completes .flashCommandDone s fun t =>
        ended false t ∧ t.fl.mem = s.fl.mem ∧ pay 45 t = [dataWord (natBytes 3 s.fl.id.toNat)]) ∧
      (x.op = 2#3 → Completes .flashCommandDone s fun t =>
        (∀ a, read t a = if x.addr ≤ a ∧ a < x.addr + x.data.length then read s a &&& x.data.getD (a - x.addr) 0#8 else read s a) ∧
          ended (decide (t.fl.bytes x.addr x.data.length ≠ x.data)) t ∧ pay 45 t = []) ∧
      (∀ w size, (x.op, w, size) = (3#3, x.addr / 4096 * 4096, 4096) ∨ (x.op, w, size) = (4#3, x.addr / 65536 * 65536, 65536) →
        Completes .flashCommandDone s fun t =>
          ended false t ∧ (∀ a, read t a = if w ≤ a ∧ a < w + size then 0xFF#8 else read s a) ∧ pay 45 t = []))

/-- Records (R440, R442 to R444, Tables 17.2 and 17.3). -/
def Obligations.SettingsAndLogRecords : Prop :=
  ∀ (s : State), s.roleRuns 13#5 = true →
    (∀ j : Nat, s.settingsOk = true → (s.flashCan = false ∨ s.settingsDue j = false) →
      exec (.settingsRecordWrite j) s = .next s) ∧
    (∀ j : Nat, j ≤ 12 → s.settingsOk = true → s.flashCan = true → s.settingsDue j = true → s.runSchema.1 = 1 →
      s.fl.job.onNew = false → Mem.wf 0xFF#8 s.fl.mem = true → Completes (.settingsRecordWrite j) s fun t =>
        let base := State.settingsBase s.fl.half j
        let k := settingsKind s.fz.flashKey
        let bs := settingsPos s.fz.flashKey (State.settingsId j).1 (State.settingsId j).2 1 (s.fl.nextSeq k base) (s.settingsBody j)
        t = { s with fl := { s.fl with mem := t.fl.mem } } ∧
          (∀ a, a < base ∨ base + 0x2000 ≤ a → Mem.read 0xFF#8 t.fl.mem a = Mem.read 0xFF#8 s.fl.mem a) ∧
          ∃ p < 8, t.fl.bytes (base + 1024 * p) bs.length = bs) ∧
    (s.regsUp = true →
      (∀ v : BitVec 120, let a := 0x1F0000 + 32 * (s.fl.logSeq.toNat % (0x610000 / 32))
        s.flashCan = true → s.lk.tree.actingMgr = true → s.fl.blank a 32 = true → Mem.wf 0xFF#8 s.fl.mem = true →
        ∀ code : Byte, 1#8 ≤ code ∧ code ≤ 8#8 ∨ 0x10#8 ≤ code ∧ code ≤ 0x12#8 → Completes (.logRecordWrite code v) s fun t =>
          let value : List Byte := if code = 0x10#8 then leBytes s.qy.last.read
            else if code = 0x11#8 then leBytes s.sys.rstCause.read else natBytes 15 v.toNat
          t = { s with fl := { s.fl with mem := t.fl.mem, logSeq := s.fl.logSeq + 1#32 } } ∧
            t.fl.bytes a 32 = State.logRecord s.fl.logSeq.toNat s.treeUs code value) ∧
      (∀ code v, code = 0#8 ∨ 9#8 ≤ code ∧ code < 0x10#8 ∨ 0x13#8 ≤ code → exec (.logRecordWrite code v) s = .next s))

/-- Staging (R449 to R451, Tables 17.6 and 17.7). -/
def Obligations.UpdateStaging : Prop :=
  ∀ (s : State), s.updUp = true →
    let f := s.fl
    let j := f.job
    (s.regsUp = true → s.allocates = true →
      (f.upd.phase < 3#3 → s.flashCan = true → CompletesIn .flUpdStageBegin s (s.onFlash fun f => Flash.erase 0x90000 0x40000 { f with
        upd := { FlUpdStat.reset with phase := 1#3, updId := f.upd.updId + 1#8 },
        job := { Update.init with oldSlots := j.oldSlots, onNew := j.onNew, len := f.updLen.len.toNat } })) ∧
      (3#3 ≤ f.upd.phase → exec .flUpdStageBegin s = .next { s with fl := { f with stat := { f.stat with refused := true } } }) ∧
      (f.upd.phase = 1#3 → j.bundleOk = false →
        (∀ w, j.staged + 4 ≤ j.len → j.staged + 4 ≤ 262144 → s.flashCan = true → exec (.flStgDataWrite w) s = .next { s with
          fl := { f.put (0x90000 + j.staged) (leBytes w) with job := { j with staged := j.staged + 4 } } }) ∧
        (∀ w, j.len < j.staged + 4 → exec (.flStgDataWrite w) s = .next s) ∧
        (let bs := f.bytes 0x90000 j.staged
         let r := bundleCheck s.srevNat s.fz j.len bs
         Completes .flUpdStageEnd s fun t => t.fl.upd.updId = f.upd.updId ∧
           if r = 0#5 then t.fl.job.bundleOk = true ∧ t.fl.job.hash = sha256 bs ∧
             t.fl.job.pending = [1#8, f.upd.updId] ++ natBytes 4 j.len ++ sha256 bs ∧
             t.ports = s.ports ∧ t.cores = s.cores ∧ t.polders = s.polders ∧ t.fz = s.fz
           else t.fl.upd.phase = 0#3 ∧ t.fl.upd.result = r ∧ t.fl.mem = f.mem ∧ { t.mute with fl := f } = s.mute)) ∧
      (f.upd.phase ≠ 1#3 → exec .flUpdStageEnd s = .next { s with fl := { f with stat := { f.stat with refused := true } } })) ∧
    (∀ (i : LinkId) src bs t, s.linksUp = true → s.updHead i = some 1#8 → s.takeMsg i false 7#8 = some (src, some bs, t) →
      t.allocates = false → t.flashCan = true → t.fl.upd.phase < 3#3 → bs.getD 1 0#8 ≠ t.fl.upd.updId →
      Completes (.stageBegin i) s fun u =>
        u.fl.upd = { FlUpdStat.reset with phase := 1#3, updId := bs.getD 1 0#8 } ∧
          u.fl.job = { Update.init with oldSlots := t.fl.job.oldSlots, onNew := t.fl.job.onNew, len := numAt 2 4 bs,
                                        hash := cut 6 32 bs } ∧
          (∀ a, Flash.bankBase (!t.runBank) ≤ a → a < Flash.bankBase (!t.runBank) + 0x40000 →
            Mem.read 0xFF#8 u.fl.mem a = 0xFF#8) ∧
          { u.mute with fl := t.fl } = t.mute) ∧
    (∀ (i : LinkId) src bs t, s.linksUp = true → s.takeMsg i true 0x12#8 = some (src, some bs, t) → t.updUp = true →
      t.allocates = false → t.flashCan = true → t.fl.upd.phase = 1#3 → bs.getD 0 0#8 = t.fl.upd.updId →
      let c := numAt 1 1 bs
      let j := t.fl.job
      let f := t.fl.put (Flash.bankBase (!t.runBank) + 2048 * c) ((cut 2 2048 bs).take (min 2048 (j.len - 2048 * c)))
      c < (j.len + 2047) / 2048 →
      (c ∈ j.chunks → exec (.bundle i) s = .next t) ∧
      (c ∉ j.chunks → j.chunks.length + 1 ≠ (j.len + 2047) / 2048 →
        exec (.bundle i) s = .next { t with fl := { f with job := { j with chunks := c :: j.chunks } } }) ∧
      (c ∉ j.chunks → j.chunks.length + 1 = (j.len + 2047) / 2048 → Completes (.bundle i) s fun u =>
        let bank := f.bytes (Flash.bankBase (!t.runBank)) (min 262144 j.len)
        let r := bundleCheck t.srevNat t.fz j.len bank
        let r : BitVec 5 := if r = 0#5 ∧ sha256 bank ≠ j.hash then 4#5 else r
        u.fl.upd.result = r ∧ u.fl.upd.phase = (if r = 0#5 then 2#3 else 0#3) ∧ u.ports = t.ports ∧ u.cores = t.cores ∧
          u.polders = t.polders ∧ u.store = t.store)) ∧
    (f.upd.phase = 1#3 → s.allocates = false →
      (s.linksUp = false ∨ s.routeOf 0#6 = none → exec .stageReportTimer s =
        .next { s with fl := { f with job := { j with report := [2#8, f.upd.updId, 0#8] ++ s.missingMap } } }) ∧
      (∀ r, s.linksUp = true → s.routeOf 0#6 = some r → Completes .stageReportTimer s fun t =>
        { t with fl := { t.fl with job := j }, lk := { t.lk with ports := s.lk.ports }, sysq := s.sysq } = s)) ∧
    (f.upd.phase ≠ 1#3 → exec .stageReportTimer s = .next s) ∧
    (∀ (i : LinkId) src bs t, s.linksUp = true → s.updHead i = some 2#8 → s.takeMsg i false 7#8 = some (src, some bs, t) →
      t.lk.tree.actingMgr = true → bs.getD 1 0#8 = t.fl.upd.updId → t.fl.upd.phase = 1#3 ∨ t.fl.upd.phase = 2#3 →
      let ok := t.fl.job.ok.filter (· ≠ src)
      let bad := t.fl.job.bad.filter (· ≠ src)
      let counts (ok bad : List (BitVec 6)) : State := { t with fl := { t.fl with
        job := { t.fl.job with ok := ok, bad := bad },
        upd := { t.fl.upd with nOk := BitVec.ofNat 6 ok.length, nFail := BitVec.ofNat 6 bad.length } } }
      ((bs.getD 2 0#8).setWidth 5 ≠ 0#5 → exec (.stageReport i) s = .next (counts ok (src :: bad))) ∧
      ((bs.getD 2 0#8).setWidth 5 = 0#5 → (∀ k < 16, bs.getD (3 + k) 0#8 = 0#8) → t.fl.job.len ≤ 262144 →
        exec (.stageReport i) s = .next (counts (src :: ok) bad))) ∧
    (f.upd.phase = 1#3 → Completes .stagingTimeout s fun t => t.fl.upd.phase = 0#3 ∧ t.fl.upd.result = 9#5 ∧
      t.fl.mem = f.mem ∧ t.ports = s.ports ∧ t.cores = s.cores ∧ t.store = s.store) ∧
    (f.upd.phase ≠ 1#3 → j.pending = [] → exec .stagingTimeout s = .next s)

/-- Arming to the end of an update (R449, R452 to R457, Tables 17.6 and 17.8). -/
def Obligations.UpdatePhases : Prop :=
  ∀ (s : State), s.updUp = true →
    let f := s.fl
    let j := f.job
    let ph := f.upd.phase
    let refuses (i : Instr) : Prop := exec i s = .next { s with fl := { f with stat := { f.stat with refused := true } } }
    let reverts (i : Instr) (r : BitVec 5) : Prop := Completes i s fun t =>
      t.fl.upd.result = r ∧ (t.fl.upd.phase = 7#3 ∨ t.fl.upd.phase = 0#3) ∧ t.fl.upd.healthOk = false ∧ t.fl.job.onNew = false
    let disarms (i : Instr) (r : BitVec 5) : Prop := Completes i s fun t =>
      t.fl.upd = { f.upd with phase := 2#3, result := r } ∧ t.fl.job.newSlots = [] ∧ t.fl.mem = f.mem ∧ t.ports = s.ports ∧
        t.cores = s.cores
    (s.regsUp = true → s.sys.stat.role = 0#2 →
      (ph = 2#3 → f.upd.nFail = 0#6 → s.allOk = true →
        let th := s.otherThoelm
        let w := writeImage th s.store
        (s.armErr th = 0#5 → (∀ k ∈ w.2, (w.1.slots[k]).st = .valid) → Completes .flUpdArm s fun t =>
          t.fl.upd.phase = 3#3 ∧ t.fl.upd.result = 0#5 ∧ t.store = w.1 ∧ t.fl.job.newSlots = w.2 ∧
            t.fl.job.active = BitVec.ofNat 48 (s.treeUs + 1000000 * f.updCfg.actDelay.toNat) ∧
            t.fl.job.tConfirm = f.updCfg.tConfirm ∧ { t.mute with fl := f, store := s.store } = s.mute) ∧
        (s.armErr th ≠ 0#5 → Completes .flUpdArm s fun t => t.fl.upd.phase = 2#3 ∧ t.fl.upd.result = s.armErr th ∧
          { t.mute with fl := f } = s.mute)) ∧
      (ph ≠ 2#3 → refuses .flUpdArm) ∧
      (ph = 3#3 → disarms .flUpdAbort 0xE#5) ∧
      (ph = 1#3 → Completes .flUpdAbort s fun t => t.fl.upd = { f.upd with phase := 0#3, result := 0xE#5 } ∧
        { t.mute with fl := f } = s.mute) ∧
      (ph = 0#3 ∨ 4#3 ≤ ph → refuses .flUpdAbort) ∧
      (4#3 ≤ ph → ph ≤ 6#3 → Completes .flUpdRevert s fun t => j.onNew = true → s.settingsOk = true →
        (s.settingsRec f.stat.bootBank 0).isNone = true → t.bg.feedCap = State.reset.bg.feedCap) ∧
      (4#3 ≤ ph → ph ≤ 6#3 → reverts .flUpdRevert 0x11#5) ∧ (ph < 4#3 ∨ ph = 7#3 → refuses .flUpdRevert) ∧
      (ph = 3#3 → s.allOk = false → disarms .armReportTimeout 0xF#5)) ∧
    (s.regsUp = true → s.allocates = false → ∀ i ∈ [Instr.flUpdStageBegin, .flUpdStageEnd, .flUpdArm, .flUpdAbort, .flUpdRevert],
      refuses i) ∧
    (ph ≠ 3#3 → exec .armReportTimeout s = .next s) ∧
    (ph = 3#3 → 2#3 ≤ s.sh.stat.stage → reverts .updActivate 0xD#5) ∧
    (ph = 3#3 → s.sh.stat.stage < 2#3 → s.inService 15 = true → s.cores[(15 : CoreId)].role.role = 15#4 →
      (s.findCore fun k => s.cores[k].role.role = 14#4).isSome = true → Completes .updActivate s fun t =>
        t.fl.job.onNew = true ∧ 4#3 ≤ t.fl.upd.phase ∧ t.fl.upd.phase ≤ 6#3) ∧
    (ph < 3#3 ∨ 4#3 < ph → exec .updActivate s = .next s) ∧
    (ph = 4#3 ∨ ph = 5#3 → reverts .confirmDeadline (if f.upd.healthOk then 0x12#5 else 0x10#5)) ∧
    (ph = 6#3 → Completes .lateWindowExpiry s fun t =>
      t.fl.upd = { f.upd with phase := 0#3 } ∧ t.fl.stat = { f.stat with bootBank := s.runBank, bankFallback := false } ∧
        t.fl.job = { j with pending := [], onNew := false, oldSlots := j.newSlots, newSlots := [] } ∧
        { t.mute with fl := f } = s.mute) ∧
    (ph ≠ 4#3 → ph ≠ 7#3 → f.bankDue = false →
      (s.allocates = true → j.pending = [] → exec .updateMessageRepeat s = .next s) ∧
      (s.allocates = true → s.treeWorkers = [] → exec .updateMessageRepeat s =
        .next { s with fl := { f with job := { j with pending := [] } } }) ∧
      (s.allocates = true → s.treeWorkers ≠ [] → j.pending.head? = some 8#8 →
        exec .updateMessageRepeat s = .next (s.broadcast false 0#6 7#8 j.pending)) ∧
      (s.allocates = false → j.report ≠ [] → s.linksUp = true → s.routeOf 0#6 ≠ none → Completes .updateMessageRepeat s
        fun t => t.fl = { f with job := { j with report := [] } } ∧ t.ports = s.ports ∧ t.cores = s.cores)) ∧
    (∀ (i : LinkId) code src bs t, s.linksUp = true → s.updHead i = some code →
      s.takeMsg i false 7#8 = some (src, some bs, t) → bs.getD 1 0#8 = t.fl.upd.updId →
      let ph := t.fl.upd.phase
      let r : BitVec 5 := (bs.getD 2 0#8).setWidth 5
      let fails (c : Instr) (r : BitVec 5) : Prop := Completes c s fun u => u.fl.upd.result = r ∧
        (u.fl.upd.phase = 7#3 ∨ u.fl.upd.phase = 0#3) ∧ u.fl.job.onNew = false
      let ok := src :: t.fl.job.ok.filter (· ≠ src)
      let bad := t.fl.job.bad.filter (· ≠ src)
      let counted : Flash := { t.fl with
        job := { t.fl.job with ok := ok, bad := bad },
        upd := { t.fl.upd with nOk := BitVec.ofNat 6 ok.length, nFail := BitVec.ofNat 6 bad.length } }
      (t.lk.tree.actingMgr = true →
        (code = 4#8 → ph = 3#3 → r = 0#5 → Completes (.armReport i) s fun u =>
          u.fl.upd = counted.upd ∧ u.fl.job.ok = ok ∧ u.fl.job.bad = bad ∧ { u with fl := t.fl } = t) ∧
        (code = 4#8 → ph = 3#3 → r ≠ 0#5 → Completes (.armReport i) s fun u =>
          u.fl.upd.phase = 2#3 ∧ u.fl.upd.result = 0xE#5 ∧ u.fl.job.newSlots = []) ∧
        (code = 5#8 → ph = 3#3 ∨ ph = 4#3 → r = 0#5 → exec (.updHealth i) s = .next { t with fl := counted }) ∧
        (code = 5#8 → 3#3 ≤ ph → ph ≤ 5#3 → r ≠ 0#5 → fails (.updHealth i) 0xE#5) ∧
        (code = 9#8 → 3#3 ≤ ph → ph ≤ 6#3 → fails (.updReverted i) 0xE#5)) ∧
      (t.allocates = false →
        (code = 3#8 → ph = 2#3 → t.armErr t.otherThoelm = 0#5 →
          (∀ k ∈ (writeImage t.otherThoelm t.store).2, ((writeImage t.otherThoelm t.store).1.slots[k]).st = .valid) →
          Completes (.updArm i) s fun u => u.fl.upd = { t.fl.upd with phase := 3#3, result := 0#5 } ∧
            u.store = (writeImage t.otherThoelm t.store).1 ∧ u.fl.job.active = BitVec.ofNat 48 (numAt 2 6 bs) ∧
            u.fl.job.tConfirm = bs.getD 8 0#8 ∧ u.ports = t.ports ∧ u.cores = t.cores) ∧
        (code = 8#8 → ph = 3#3 → Completes (.updAbort i) s fun u =>
          u.fl.upd = { t.fl.upd with phase := 2#3, result := 0xE#5 } ∧ u.fl.job.newSlots = [] ∧ u.ports = t.ports) ∧
        (code = 6#8 → ph = 5#3 → Completes (.updConfirm i) s fun u => u.fl.upd = { t.fl.upd with phase := 6#3 } ∧
          u.fl.job.oldSlots = [] ∧ u.fl.job.newSlots = t.fl.job.newSlots ∧ u.ports = t.ports ∧ u.cores = t.cores) ∧
        (code = 6#8 → ph ≠ 5#3 → exec (.updConfirm i) s = .next t) ∧
        (code = 7#8 → 3#3 ≤ ph → ph ≤ 6#3 → fails (.updRevert i) 0xE#5)))

/-- ADD, ADC, ADDI, SUB, SBC and CMP (R302). -/
def Obligations.ArithmeticFlags : Prop :=
  ∀ (s : State) (k : CoreId) (cond rd rs : BitVec 3) (c : Core), s.cores[k] = c → s.executes k cond →
    let x := c.reg rd
    let imm := sextLow ((c.chain.acc <<< 3) ||| rs.setWidth 36) (3 + 6 * c.chain.count.toNat)
    let y := if c.chain.count = 0#3 then c.reg rs else imm
    let b (f : Bool) : Nat := if f then 1 else 0
    let flags (r : BitVec 36) (carry : Bool) (exact : Int) : Flags :=
      { z := r = 0#36, n := r.getLsbD 35, c := carry, v := exact < -2 ^ 35 ∨ 2 ^ 35 ≤ exact, p := c.flags.p }
    let writes (i : Instr) (exact : Int) (carry : Bool) (signed : Int) : Prop := CoreCompletes i k s fun q =>
      let r := BitVec.ofInt 36 exact
      q = { (c.setReg rd r).next with flags := flags r carry signed }
    writes (.add k cond rd rs) (x.toNat + y.toNat) (2 ^ 36 ≤ x.toNat + y.toNat) (x.toInt + y.toInt) ∧
    writes (.adc k cond rd rs) (x.toNat + y.toNat + b c.flags.c) (2 ^ 36 ≤ x.toNat + y.toNat + b c.flags.c)
      (x.toInt + y.toInt + b c.flags.c) ∧
    writes (.addi k cond rd rs) (x.toNat + imm.toNat) (2 ^ 36 ≤ x.toNat + imm.toNat) (x.toInt + imm.toInt) ∧
    writes (.sub k cond rd rs) (x.toInt - y.toInt) (y.toNat ≤ x.toNat) (x.toInt - y.toInt) ∧
    writes (.sbc k cond rd rs) (x.toInt - y.toInt - b !c.flags.c) (y.toNat + b (!c.flags.c) ≤ x.toNat)
      (x.toInt - y.toInt - b !c.flags.c) ∧
    CoreCompletes (.cmp k cond rd rs) k s fun q =>
      q = { c.next with flags := flags (x - y) (y ≤ x) (x.toInt - y.toInt) }

/-- The one-cycle instructions that act on registers, A, M and P (R301, R305 to R307, R314, R315). -/
def Obligations.RegisterInstructions : Prop :=
  ∀ (s : State) (k : CoreId) (cond rd rs : BitVec 3) (c : Core), s.cores[k] = c → s.executes k cond →
    let x := c.reg rd
    let y := if c.chain.count = 0#3 then c.reg rs else
      sextLow ((c.chain.acc <<< 3) ||| rs.setWidth 36) (3 + 6 * c.chain.count.toNat)
    let zn (r : BitVec 36) : Flags := { c.flags with z := r = 0#36, n := r.getLsbD 35 }
    let gives (i : Instr) (r : BitVec 36) (fl : Flags) : Prop :=
      CoreCompletes i k s fun q => q = { (c.setReg rd r).next with flags := fl }
    let keeps (i : Instr) (c' : Core) : Prop := CoreCompletes i k s fun q => q = c'.next
    gives (.andI k cond rd rs) (x &&& y) (zn (x &&& y)) ∧ gives (.orI k cond rd rs) (x ||| y) (zn (x ||| y)) ∧
    gives (.xorI k cond rd rs) (x ^^^ y) (zn (x ^^^ y)) ∧ keeps (.tst k cond rd rs) { c with flags := zn (x &&& y) } ∧
    gives (.mov k cond rd rs) y c.flags ∧
    gives (.ldk k cond rd rs) (BitVec.ofNat 36 ((c.chain.acc.toNat * 8 + rs.toNat) % 2 ^ 36 % 2 ^ (3 + 6 * c.chain.count.toNat)))
      c.flags ∧
    (c.chain.seen ≤ 1#3 →
      let n := if c.chain.count = 0#3 then 1 else c.chain.acc.toNat
      let shifts (i : Instr) (r : BitVec 36) (cy : Bool) : Prop := gives i r { zn r with c := cy }
      let wide : BitVec 37 := BitVec.ofBool c.flags.c ++ x
      let j := n % 36
      shifts (.lsl k cond rd) (BitVec.ofNat 36 (x.toNat * 2 ^ n))
        (if n = 0 then c.flags.c else decide (n ≤ 36) && x.getLsbD (36 - n)) ∧
      shifts (.lsr k cond rd) (BitVec.ofNat 36 (x.toNat / 2 ^ n))
        (if n = 0 then c.flags.c else decide (n ≤ 36) && x.getLsbD (n - 1)) ∧
      shifts (.asr k cond rd) (BitVec.ofInt 36 (x.toInt / 2 ^ n))
        (if n = 0 then c.flags.c else x.getLsbD (min (n - 1) 35)) ∧
      shifts (.rol k cond rd) (x.rotateLeft j) (if j = 0 then c.flags.c else x.getLsbD (36 - j)) ∧
      shifts (.ror k cond rd) (x.rotateRight j) (if j = 0 then c.flags.c else x.getLsbD (j - 1)) ∧
      shifts (.rlc k cond rd) ((wide.rotateLeft (n % 37)).setWidth 36) ((wide.rotateLeft (n % 37)).getLsbD 36) ∧
      shifts (.rrc k cond rd) ((wide.rotateRight (n % 37)).setWidth 36) ((wide.rotateRight (n % 37)).getLsbD 36) ∧
      (let m := if c.chain.count = 0#3 then 32 else c.chain.acc.toNat
       CoreCompletes (.sxt k cond rd) k s fun q => let r := q.reg rd
         (∀ i < 36, r.getLsbD i = (decide (0 < m) && x.getLsbD (if m ≤ i then m - 1 else i))) ∧
           q = { (c.setReg rd r).next with flags := zn r })) ∧
    (c.chain.count = 0#3 ∨ c.chain.acc ≤ 3#36 →
      let byte := fld (c.reg rs) (8 * (if c.chain.count = 0#3 then 0 else c.chain.acc.toNat)) 8
      let bitwise (w poly : Nat) : Nat := (List.range 8).foldl (fun r i =>
        (2 * r % 2 ^ w) ^^^ (if (r / 2 ^ (w - 1) + byte.toNat / 2 ^ (7 - i)) % 2 = 1 then poly else 0)) (x.toNat % 2 ^ w)
      let reflected : Nat := (List.range 8).foldl (fun r i =>
        (r / 2) ^^^ (if (r + byte.toNat / 2 ^ i) % 2 = 1 then 0xEDB88320 else 0)) (x.toNat % 2 ^ 32)
      let crc : Nat × Nat × Nat := if c.cfg.crcPoly = 0#2 then (32, reflected, 0xDEBB20E3)
        else if c.cfg.crcPoly = 1#2 then (8, bitwise 8 0x07, 0) else (16, bitwise 16 0x1021, 0)
      let w := if c.chain.count = 0#3 then 32 else [8, 16, 32, 36].getD c.chain.acc.toNat 0
      let odd := ((List.range w).filter fun i => (c.reg rs).getLsbD i).length % 2 = 1
      gives (.crcs k cond rd rs) (BitVec.ofNat 36 (x.toNat / 2 ^ crc.1 * 2 ^ crc.1 + crc.2.1))
        { c.flags with z := crc.2.1 = crc.2.2 } ∧
      gives (.parI k cond rd rs) (if odd then 1#36 else 0#36) { c.flags with z := ¬odd } ∧
      CoreCompletes (.brev k cond rd rs) k s fun q => let r := q.reg rd
        (∀ i < w, r.getLsbD (w - 1 - i) = (c.reg rs).getLsbD i) ∧ (∀ i, w ≤ i → r.getLsbD i = (c.reg rs).getLsbD i) ∧
          q = { (c.setReg rd r).next with flags := zn r }) ∧
    (let a := BitVec.ofNat 72 (x.toNat * y.toNat)
     CoreCompletes (.mulI k cond rd rs) k s fun q => q = { (c.setReg rd (fld a 0 36)).next with
       a := a, flags := { c.flags with z := a = 0#72, c := fld a 36 36 ≠ 0#36, n := a.getLsbD 35 } }) ∧
    (c.chain.seen = 0#3 →
      let signed (sum : Int) : Core := { c with
        a := BitVec.ofInt 72 sum,
        flags := { c.flags with z := BitVec.ofInt 72 sum = 0#72, n := (BitVec.ofInt 72 sum).getLsbD 71,
                                v := sum < -2 ^ 71 ∨ 2 ^ 71 ≤ sum } }
      let sum := c.a.toNat + x.toNat * c.m.toNat
      keeps (.ldm k cond rd) { c with m := x } ∧
      keeps (.macu k cond rd) { c with
        a := BitVec.ofNat 72 sum,
        flags := { c.flags with z := BitVec.ofNat 72 sum = 0#72, n := (BitVec.ofNat 72 sum).getLsbD 71, c := 2 ^ 72 ≤ sum } } ∧
      keeps (.macs k cond rd) (signed (c.a.toInt + x.toInt * c.m.toInt)) ∧
      keeps (.msus k cond rd) (signed (c.a.toInt - x.toInt * c.m.toInt)) ∧
      gives (.rdh k cond rd) (fld c.a 36 36) (zn (fld c.a 36 36)) ∧ gives (.rdl k cond rd) (fld c.a 0 36) (zn (fld c.a 0 36)) ∧
      keeps (.clrI k cond rd) { c with a := 0#72 } ∧
      (let r := BitVec.ofNat 36 ((c.a.toNat + 2 ^ 35) % 2 ^ 72 / 2 ^ 36); gives (.rnd k cond rd) r (zn r)) ∧
      (∀ (comb sub : BitVec 3), comb ≤ 3#3 →
        let f := c.flags
        let v := [f.z, f.c, f.n, f.v, f.n ^^ f.v, f.z || (f.n ^^ f.v), f.c && !f.z, true].getD sub.toNat false
        keeps (.setp k cond comb sub) { c with flags := { f with
          p := [v, f.p && v, f.p || v, f.p ^^ v].getD comb.toNat false } }))

/-- Branches and the return stack (R304, R310). -/
def Obligations.BranchesAndReturnStack : Prop :=
  ∀ (s : State) (k : CoreId) (cond rd rs : BitVec 3) (c : Core), s.cores[k] = c → s.executes k cond →
    let becomes (i : Instr) (c' : Core) : Prop := CoreBecomes i k s c'
    let n := c.chain.count.toNat
    let target : BitVec 14 := if n = 0 then fld (c.reg rs) 0 14 else
      BitVec.ofNat 14 ((c.chain.acc.toNat * 8 + rs.toNat) % 2 ^ 36 % 2 ^ (3 + 6 * n))
    let st := c.stack
    let stops : Core := { c with stat := { c.stat with state := 3#3 }, trap := { c.trap with double := true } }
    let pushed (v : BitVec 14) (d : BitVec 4) : Core := { c with stack :=
      { entries := st.entries.set st.ptr.toNat v st.ptr.isLt, ptr := st.ptr + 1#3, depth := d } }
    let popped (d : BitVec 4) : Core := { c with stack := { st with ptr := st.ptr - 1#3, depth := d } }
    let below : BitVec 14 := st.entries[(st.ptr - 1#3).toNat]'((st.ptr - 1#3).isLt)
    let pushes (i : Instr) (v : BitVec 14) (goes : Core → Core) : Prop :=
      (st.depth < 8#4 → becomes i (goes (pushed v (st.depth + 1#4)))) ∧
      (st.depth = 8#4 → c.cfg.rstkMode = false → becomes i (goes (pushed v 8#4))) ∧
      (st.depth = 8#4 → c.cfg.rstkMode = true → c.tact = false →
        becomes i (c.trapped 2#4 (v.setWidth 36) c.trapAddr)) ∧
      (st.depth = 8#4 → c.cfg.rstkMode = true → c.tact = true → becomes i stops)
    let pops (i : Instr) (goes : Core → Core) : Prop :=
      (1#4 ≤ st.depth → becomes i (goes (popped (st.depth - 1#4)))) ∧
      (st.depth = 0#4 → c.cfg.rstkMode = false → becomes i (goes (popped 0#4))) ∧
      (st.depth = 0#4 → c.cfg.rstkMode = true → c.tact = false → becomes i (c.trapped 3#4 0#36 c.trapAddr)) ∧
      (st.depth = 0#4 → c.cfg.rstkMode = true → c.tact = true → becomes i stops)
    (∀ d6 : BitVec 6, becomes (.bra k cond d6)
      (c.after (c.pc + BitVec.ofInt 14 (sextLow ((c.chain.acc <<< 6) ||| d6.setWidth 36) (6 + 6 * n)).toInt) 2)) ∧
    becomes (.jmp k cond rs) (c.after target 2) ∧
    pushes (.callI k cond rs) (c.pc + 1#14) (fun q => q.after target 2) ∧
    (c.chain.seen = 0#3 →
      pops (.retI k cond ⟨rd, 0#3⟩) (fun q => q.after below 2) ∧ pops (.dropI k cond rd) Core.next ∧
      pushes (.pushI k cond rd) (fld (c.reg rd) 0 14) Core.next ∧
      becomes (.depthI k cond rd) (c.setReg rd (st.depth.setWidth 36)).next ∧
      becomes (.topI k cond rd) (c.setReg rd (below.setWidth 36)).next ∧
      (c.tact = true → becomes (.rett k cond rd) ({ c with
        flags := { z := c.sp.tfl.getLsbD 0, c := c.sp.tfl.getLsbD 1, n := c.sp.tfl.getLsbD 2, v := c.sp.tfl.getLsbD 3,
                   p := c.sp.tfl.getLsbD 4 },
        tact := false, trap := { c.trap with tact := false } }.after c.sp.tpc 2)) ∧
      (c.tact = false → becomes (.rett k cond rd) (c.trapped 1#4 ((cond ++ 0x16#5 ++ rd ++ 1#3).setWidth 36) c.trapAddr)))

/-- Conditions, prefixes, traps and SYS (R296, R297, R299, R309, R311 to R313). -/
def Obligations.ConditionsTrapsAndSys : Prop :=
  ∀ (s : State) (k : CoreId) (cond rd rs : BitVec 3) (c : Core), s.cores[k] = c → s.coreUp k = true →
    let becomes (i : Instr) (c' : Core) : Prop := CoreBecomes i k s c'
    let stops : Core := { c with stat := { c.stat with state := 3#3 }, trap := { c.trap with double := true } }
    let plain : List Instr := [.add k cond rd rs, .cmp k cond rd rs, .mov k cond rd rs, .addi k cond rd rs, .ldk k cond rd rs,
      .mulI k cond rd rs, .ld k cond rd rs 0#48, .st k cond rd rs, .ldx k cond rd rs 0#48, .stx k cond rd rs,
      .jmp k cond rs, .callI k cond rs, .bra k cond 0#6, .inp k cond rd rs, .outp k cond rd rs]
    (c.stat.state ≠ 1#3 → ∀ i ∈ [Instr.trapI k cond rd, .pfx k cond 0#6, .retI k cond ⟨rd, 0#3⟩, .waitI k cond ⟨rd, 0#3⟩] ++ plain,
      exec i s = .next s) ∧
    (c.stat.state = 1#3 → c.chain.suppress = true ∨ c.flags.cond cond = false → ∀ i ∈ plain, becomes i c.next) ∧
    (∀ p6 : BitVec 6, c.stat.state = 1#3 → c.chain.count < 6#3 → c.chain.seen < 7#3 →
      let pfx (ch : Chain) : Core := { c with
        chain := { ch with seen := c.chain.seen + 1#3, first := c.trapAddr },
        pc := c.pc + 1#14, sp := { c.sp with cycle := c.sp.cycle + 1#36 } }
      (c.chain.suppress = false → c.flags.cond cond = true → becomes (.pfx k cond p6)
        (pfx { c.chain with acc := (c.chain.acc <<< 6) ||| p6.setWidth 36, count := c.chain.count + 1#3 })) ∧
      (c.chain.suppress = true ∨ c.flags.cond cond = false → becomes (.pfx k cond p6) (pfx { c.chain with suppress := true }))) ∧
    (s.executes k cond → c.chain.seen = 0#3 → c.tact = false →
      becomes (.trapI k cond rd) (c.trapped 4#4 (c.reg rd) (c.pc + 1#14))) ∧
    (s.executes k cond → c.chain.seen = 0#3 → c.tact = true → becomes (.trapI k cond rd) stops) ∧
    (c.stat.state = 1#3 →
      let ill (op : BitVec 5) (rd rs : BitVec 3) : Core := if c.tact then stops else
        c.trapped 1#4 ((cond ++ op ++ rd ++ rs).setWidth 36) c.trapAddr
      (c.chain.seen ≠ 0#3 → becomes (.retI k cond ⟨rd, 0#3⟩) (ill 0x16#5 rd 0#3) ∧ becomes (.waitI k cond ⟨rd, 0#3⟩) (ill 0x1E#5 rd 0#3) ∧
        becomes (.clrI k cond rd) (ill 0x1C#5 rd 6#3) ∧ becomes (.kick k cond rd) (ill 0x1F#5 rd 2#3) ∧
        becomes (.trapI k cond rd) (ill 0x1F#5 rd 3#3)) ∧
      (6#3 ≤ rs → becomes (.retI k cond ⟨rd, rs⟩) (ill 0x16#5 rd rs)) ∧
      (2#3 ≤ rs → becomes (.waitI k cond ⟨rd, rs⟩) (ill 0x1E#5 rd rs)) ∧
      (5#3 ≤ rs → becomes (.fenceI k cond ⟨rd, rs⟩) (ill 0x1F#5 rd rs)) ∧
      (∀ comb sub : BitVec 3, 4#3 ≤ comb → becomes (.setp k cond comb sub) (ill 0x1D#5 comb sub)) ∧
      (2#3 ≤ c.chain.seen → becomes (.lsl k cond rd) (ill 0x0B#5 rd 0#3)) ∧
      (c.chain.count ≠ 0#3 → 3#36 < c.chain.acc → becomes (.crcs k cond rd rs) (ill 0x18#5 rd rs) ∧
        becomes (.parI k cond rd rs) (ill 0x19#5 rd rs) ∧ becomes (.brev k cond rd rs) (ill 0x1A#5 rd rs)) ∧
      (c.chain.count ≠ 0#3 → 15#36 < c.chain.acc → becomes (.gets k cond rd) (ill 0x1F#5 rd 0#3) ∧
        becomes (.puts k cond rd) (ill 0x1F#5 rd 1#3)) ∧
      (c.tact = false → becomes (.rett k cond rd) (ill 0x16#5 rd 1#3))) ∧
    (s.executes k cond → ∀ sel ≤ 15, (if c.chain.count = 0#3 then 0 else c.chain.acc.toNat) = sel →
      let v := c.reg rd
      let table : List (BitVec 36) := [BitVec.ofNat 36 (c.tact.toNat * 32 + c.flags.word.toNat), c.sp.iob.setWidth 36,
        c.sp.bank.setWidth 36, c.sp.tpc.setWidth 36, c.sp.tfl.setWidth 36, c.sp.tcause.setWidth 36, c.sp.tval,
        BitVec.ofNat 36 (c.role.role.toNat * 16 + k.val), c.sp.cycle, BitVec.ofNat 36 s.treeUs, c.sp.ctim.setWidth 36, fld c.a 36 36,
        fld c.a 0 36, c.m, 0#36, 0#36]
      let flags : Flags :=
        { z := v.getLsbD 0, c := v.getLsbD 1, n := v.getLsbD 2, v := v.getLsbD 3, p := v.getLsbD 4 }
      let written : List Core := [{ c with flags := flags }, { c with sp := { c.sp with iob := fld v 0 16 } },
        { c with sp := { c.sp with bank := fld v 0 3 } }, { c with sp := { c.sp with tpc := fld v 0 14 } },
        { c with sp := { c.sp with tfl := fld v 0 5 } }, c, c, c, c, c, { c with sp := { c.sp with ctim := fld v 0 24 } },
        { c with a := v ++ fld c.a 0 36 }, { c with a := fld c.a 36 36 ++ v }, { c with m := v }, c, c]
      becomes (.gets k cond rd) (c.setReg rd (table.getD sel 0#36)).next ∧
      becomes (.puts k cond rd) (written.getD sel c).next) ∧
    (s.executes k cond → c.chain.seen = 0#3 → becomes (.fenceI k cond ⟨rd, 4#3⟩) c.next ∧
      (s.holds k 13#5 = false → becomes (.kick k cond rd)
        { c with stat := { c.stat with wdLeft := if c.role.role = 12#4 then 300#10 else 1000#10 } }.next)) ∧
    (c.sp.ctim ≠ 0#24 → becomes (.ctimExpiry k) { c with sp := { c.sp with ctim := 0#24 }, ctimPend := true }) ∧
    (c.sp.ctim = 0#24 → exec (.ctimExpiry k) s = .next s) ∧
    becomes (.cTrapCntClr k) { c with trap := { c.trap with count := 0#8 } } ∧
    becomes (.cEccCntClr k) { c with ecc := { c.ecc with codeCorr := 0#8, dataCorr := 0#8 } }

/-- The data space, waiting and commits (R291, R294, R303, R308, R322, R323, R329, R333). -/
def Obligations.DataSpaceAndWaiting : Prop :=
  ∀ (s : State) (k : CoreId) (cond rd rs : BitVec 3) (c : Core), s.cores[k] = c → s.executes k cond →
    let direct := fld (c.reg rs + sextLow c.chain.acc (6 * c.chain.count.toNat)) 0 14
    let indexed := fld (c.reg rs) 0 14
    let stepped := c.reg rs + (if c.chain.count = 0#3 then 1#36 else sextLow c.chain.acc (6 * c.chain.count.toNat))
    (∀ upset, foundIn 9 3 0#36 upset = .clean →
      (∀ v, s.dataRead k direct = v → CoreCompletes (.ld k cond rd rs upset) k s fun q =>
        q = (c.setReg rd v).after (c.pc + 1#14) 2) ∧
      (∀ v, s.dataRead k indexed = v → CoreCompletes (.ldx k cond rd rs upset) k s fun q =>
        q = (if rd = rs then c.setReg rd v else (c.setReg rs stepped).setReg rd v).after (c.pc + 1#14) 2)) ∧
    (∀ upset, foundIn 9 3 0#36 upset = .many → direct.toNat < 0x2000 → c.ecc.dataSpare ≠ 0#4 → c.tact = false →
      Completes (.ld k cond rd rs upset) s fun t => let q := t.cores[k]
        q.w = c.w ∧ q.pc = 4#14 ∧ q.sp.tcause = 6#4 ∧ q.sp.tval = direct.setWidth 36 ∧ q.sp.tpc = c.trapAddr ∧
          q.ecc.dataSpare = c.ecc.dataSpare - 1#4 ∧ q.data = Mem.write 0#36 direct.toNat 0#36 c.data ∧
          t.ports = s.ports ∧ t.shared = s.shared ∧ ∀ j : CoreId, j ≠ k → t.cores[j] = s.cores[j]) ∧
    (∀ form ∈ [(Instr.st k cond rd rs, direct, c), (Instr.stx k cond rd rs, indexed, c.setReg rs stepped)],
      let i : Instr := form.1
      let a : BitVec 14 := form.2.1
      let c' : Core := form.2.2
      (Mem.wf 0#36 c.data = true → a.toNat < 0x2000 → CoreCompletes i k s fun q =>
        { q with data := c.data } = c'.next ∧
          ∀ b, Mem.read 0#36 q.data b = if b = a.toNat then c.reg rd else Mem.read 0#36 c.data b) ∧
      (∀ w, s.dataAt k a = .shared w →
        (Mem.wf 0#36 s.shared = true → s.sharedWriter k w = true → Completes i s fun t =>
          OnlyCore k { s with shared := t.shared } t ∧ t.cores[k] = c'.next ∧
            ∀ b, Mem.read 0#36 t.shared b = if b = w then c.reg rd else Mem.read 0#36 s.shared b) ∧
        (s.sharedWriter k w = false → CoreCompletes i k s fun q => q = c'.next)) ∧
      (∀ (n : PortId) off, s.dataAt k a = .window off → off ≤ 0x42 → c.dwin.sel.toNat = n.val →
        s.ports[n].stg.pending = true → CoreCompletes i k s fun q =>
          q = { c' with stat := { c.stat with stgLost := true } }.next)) ∧
    (c.chain.seen = 0#3 →
      let u := s.clearHeld k
      let woken (t : State) (v : BitVec 36) : Prop :=
        t.cores[k].w = (c.setReg rd v).w ∧ t.cores[k].flags = { c.flags with z := false } ∧ t.cores[k].pc = c.pc + 1#14 ∧
          t.cores[k].stat = { c.stat with state := 1#3 } ∧ ∀ j : CoreId, j ≠ k → t.cores[j] = s.cores[j]
      (∀ x, u.chooseWake k = .queue x → ∀ i ∈ [Instr.waitI k cond ⟨rd, 0#3⟩, .poll k cond rd], Completes i s fun t =>
        woken t (BitVec.ofNat 36 x.val) ∧ t.cores[k].held = some x ∧ t.cores[k].dwin.sel.toNat = x.val ∧
          (t.queueAt x).held = true) ∧
      (u.chooseWake k = .timer → ∀ i ∈ [Instr.waitI k cond ⟨rd, 0#3⟩, .poll k cond rd], Completes i s fun t =>
        woken t 0x100#36 ∧ t.cores[k].ctimPend = false) ∧
      (u.chooseWake k = .none →
        (exec (.waitI k cond ⟨rd, 0#3⟩) s = .next (u.onCore k fun c => { c with
          chain := Chain.none, waitReg := some ⟨rd.toNat, rd.isLt⟩, stat := { c.stat with state := 2#3 } })) ∧
        exec (.poll k cond rd) s = .next (u.onCore k fun c =>
          { (c.setReg rd 0x1FF#36).next with flags := { c.flags with z := true } }))) ∧
    (∀ (r : Fin 8) (x : QueueId), let s' := s.onCore k fun c => { c with
        stat := { c.stat with state := 2#3 }, waitReg := some r }
      s'.chooseWake k = .queue x → Completes (.waitWake k) s' fun t =>
        t.cores[k].stat = { c.stat with state := 1#3 } ∧ t.cores[k].w = (c.setReg (BitVec.ofNat 3 r.val) (BitVec.ofNat 36 x.val)).w ∧
          t.cores[k].held = some x ∧ t.cores[k].waitReg = none ∧ t.cores[k].flags = { c.flags with z := false }) ∧
    (exec (.waitWake k) s = .next s) ∧
    (∀ (x : QueueId) (rdp : BitVec 16), let q := s.queueAt x
      let m := (rdp - q.rd).toNat
      (c.held = some x → 1 ≤ m → m ≤ 64 → m ≤ q.entries.length → Completes (.queueCommit k x rdp) s fun t =>
        t.queueAt x = { q with rd := rdp, entries := q.entries.drop m, held := false, role := (t.queueAt x).role } ∧
          t.cores[k] = { c with held := none } ∧ (∀ y : QueueId, y ≠ x → t.queueAt y = s.queueAt y) ∧
          OnlyCore k { s with sysq := t.sysq, ports := t.ports } t ∧
          (192 ≤ x.val → (t.queueAt x).role = q.role ∧ t.ports = s.ports)) ∧
      (c.held = some x → m = 0 ∨ 64 < m ∨ q.entries.length < m → CoreCompletes (.queueCommit k x rdp) k s fun q =>
        q = { c with stat := { c.stat with ptrErr := true } }) ∧
      (c.held ≠ some x → CoreCompletes (.queueCommit k x rdp) k s fun q =>
        q = { c with stat := { c.stat with ptrErr := true } }))

/-- Resets and starts (R387, R412, R413, R417 to R420, R424 to R426, R446). -/
def Obligations.ResetsAndStarts : Prop :=
  ∀ (s : State), s.fz.job = none → s.fl.run = none →
    let cause (code : Nat) (keepWarm : Bool) (t : State) : Prop :=
      t.sys.rstCause.last = BitVec.ofNat 4 code ∧
        t.sys.rstCause.seen = s.sys.rstCause.seen ||| BitVec.ofNat 8 (2 ^ (code - 1)) ∧
        t.sys.rstCause.warmCnt = if keepWarm then s.sys.rstCause.warmCnt else satInc s.sys.rstCause.warmCnt
    let kept (t : State) : Prop := t.fz.raw = s.fz.raw ∧ t.fl.mem = s.fl.mem ∧ t.pending = s.pending
    let fresh (t : State) : Prop := t.sys.mode = .por ∧ kept t ∧ t.ports = State.reset.ports ∧ t.cores = State.reset.cores ∧
      t.shared = [] ∧ t.bg = Budget.reset ∧ t.kg = Gauge.reset ∧ t.lk = Link.reset ∧ t.tw = TwoWire.reset ∧
      t.sysq = State.reset.sysq ∧ t.qy = Quarry.reset ∧ t.sys.rstCause.warmCnt = 0#7
    (s.sys.mode ≠ .island → s.sys.mode ≠ .harvest →
      (Completes (.por false false false) s fun t => fresh t ∧ t.sys.rstCause.last = 1#4 ∧
        t.sys.rstCause.seen = s.sys.rstCause.seen ||| 1#8 ∧ t.sh.sup = s.sh.sup) ∧
      (Completes (.por true false false) s fun t => fresh t ∧ t.sys.rstCause.last = 1#4 ∧
        t.sys.rstCause.vaoLost = true ∧ t.sys.rstCause.seen = 1#8)) ∧
    (s.sys.mode = .island ∨ s.sys.mode = .harvest → ∀ a b c, exec (.por a b c) s = .next s) ∧
    (s.sys.mode = .shelf → s.sh.pwr.wake ≠ 0#16 → Completes .shelfWake s fun t => fresh t ∧ t.sys.rstCause.last = 6#4) ∧
    (s.sys.mode ≠ .shelf ∨ s.sh.pwr.wake = 0#16 → exec .shelfWake s = .next s) ∧
    (s.sys.mode = .run ∨ s.sys.mode = .provHold → Completes .bor s fun t =>
      t.sys.mode = .bor ∧ cause 2 true t ∧ kept t ∧ t.pcfg = s.pcfg ∧ t.cores = State.reset.cores ∧ t.shared = [] ∧
        (∀ n : PortId, let p := t.ports[n]
          let o := s.ports[n]
          p.cc = o.cc ∧ p.tc = o.tc ∧ p.pdcfg = o.pdcfg ∧ p.srccap = o.srccap ∧ p.contract = o.contract ∧ p.trip = o.trip ∧ p.evt = o.evt ∧
            p.q.entries = [] ∧ p.fences = [] ∧ (s.cls n = .a → p.fe = o.fe) ∧ (s.cls n ≠ .a → p.fe.path = .none))) ∧
    (s.sys.mode = .por ∨ s.sys.mode = .shelf → exec .bor s = .next s) ∧
    (∀ role addr deputy mv jedec up vb tl ta, let i : Instr := .porRelease role addr deputy mv jedec up vb tl ta
      let f := (Fuses.start up s.fz)
      (mv < 1620 → exec i s = .next s) ∧
      (s.sys.mode = .run ∨ s.sys.mode = .warm ∨ s.sys.mode = .island → exec i s = .next s) ∧
      (s.sys.mode = .por ∨ s.sys.mode = .bor → 1620 ≤ mv →
        (∀ r, f.2 = .stay r → Completes i s fun t =>
          t.sys.mode = .stayReset ∧ t.sys.start.phase = 1#4 ∧ t.cores = s.cores ∧ t.fl = s.fl) ∧
        (f.2 = .hold → Completes i s fun t => t.sys.mode = .provHold ∧ t.sys.start.phase = 6#4 ∧ (t.sys.stat.role ≠ 0#2 → t.sys.stat.role ≠ 1#2 → t.bg.stat.island = true) ∧
          ∀ k : CoreId, k.val ≠ 12 → t.cores[k].stat.state ≠ 1#3) ∧
        (f.2 = .ok → Completes i s fun t =>
          t.sys.mode = (if t.fl.stat.noImage then .provHold else .run) ∧
            t.sys.start.phase = (if t.fl.stat.noImage then 6#4 else 5#4) ∧ (jedec = none → s.fl.stat.present = false →
              t.fl.stat.noImage = true) ∧
            (s.sys.mode = .por → t.sys.stat.role = role ∧ t.sys.stat.addr = addr ∧ t.sys.stat.deputy = deputy)))) ∧
    (let warm (code : Nat) (t : State) : Prop :=
      t.sys.mode = .warm ∧ cause code false t ∧ kept t ∧ t.sys.start.phase = 8#4 ∧ t.sys.req = .none ∧
        t.sysq = State.reset.sysq ∧ t.sh.stat = s.sh.stat ∧ (∀ k : CoreId, t.cores[k].stat.state = 0#3 ∨ t.cores[k].stat.state = 5#3) ∧
        ∀ n : PortId, let p := t.ports[n]
          let o := s.ports[n]
          p.cc = o.cc ∧ p.tc = o.tc ∧ p.pdcfg = o.pdcfg ∧ p.srccap = o.srccap ∧ p.sluice = o.sluice ∧ p.trip = o.trip ∧
            p.q.entries = o.q.entries ∧ p.q.rd = o.q.rd ∧ p.q.wr = o.q.wr ∧ p.evt = o.evt ∧ p.fences = []
     (∀ ns, ns < 1000 → exec (.pinReset ns) s = .next { s with fresh := s.fresh + 1 }) ∧
     (s.warmable = true → ∀ ns, 2000 ≤ ns → Completes (.pinReset ns) s fun t => warm 3 t ∧ t.sys.rstN = false) ∧
     (s.sys.mode = .shelf → ∀ ns, 2000 ≤ ns → Completes (.pinReset ns) s fun t =>
       fresh t ∧ t.sys.rstCause.last = 6#4 ∧ t.sys.rstN = false) ∧
     (s.warmable = true → s.sys.req = .sys → Completes .sysResetStart s (warm 4)) ∧
     (s.warmable = true → s.sys.req = .lnk → Completes .sysResetStart s (warm 5)) ∧
     (s.sys.req = .none → exec .sysResetStart s = .next s)) ∧
    (∀ src, s.controlUp = true → s.sys.req = .none →
      (src = .host ∨ s.fromSup src = true → exec (.sysReset src 0xA5#8) s = .next { s with sys := { s.sys with req := .sys } }) ∧
      (src = .remote → exec (.sysReset src 0xA5#8) s = .next { s with sys := { s.sys with req := .lnk } }) ∧
      ((∃ k, src = .core k) → s.fromSup src = false → exec (.sysReset src 0xA5#8) s = .next s) ∧
      (∀ key, key ≠ 0xA5#8 → exec (.sysReset src key) s = .next s)) ∧
    (∀ i, i = Instr.sysResetRelease ∧ s.sys.rstN = true ∨ i = Instr.pinRelease ∧ s.sys.rstN = false →
      let resumes (m : DevMode) (phase : BitVec 4) : Prop := Completes i s fun t =>
        t.sys.mode = m ∧ t.sys.start.phase = phase ∧ t.sys.rstCause = s.sys.rstCause ∧ t.sys.rstN = true ∧ t.fz = s.fz
      (s.sys.mode = .warm → s.sys.stat.island = true → resumes .island 7#4) ∧
      (s.sys.mode = .warm → s.sys.stat.island = false →
        (s.fz.stat.provHold = true ∨ s.fl.stat.noImage = true → resumes .provHold 6#4) ∧
        (s.fz.stat.provHold = false → s.fl.stat.noImage = false → s.sh.stat.stage = 6#3 → resumes .holdDown 8#4) ∧
        (s.fz.stat.provHold = false → s.fl.stat.noImage = false → s.sh.stat.stage ≠ 6#3 → s.fl.upd.phase < 3#3 →
          resumes .run 5#4)) ∧
      (s.sys.mode ≠ .warm → Completes i s fun t => t = { s with sys := { s.sys with rstN := true } })) ∧
    (s.sys.rstN = false → exec .sysResetRelease s = .next s) ∧ (s.sys.rstN = true → exec .pinRelease s = .next s)

/-- PLD and the dead-battery island (R417, R418, R420, R427 to R430, R432). -/
def Obligations.PldAndIsland : Prop :=
  ∀ (s : State) (q : PolderId),
    (let starts (i : Instr) : Prop := Completes i s fun t =>
      t.polders[q] = { s.polders[q] with pld := true } ∧
        t.sys = { s.sys with rstCause := { s.sys.rstCause with pldSeen := s.sys.rstCause.pldSeen ||| (1#4 <<< q.val) } } ∧
        (∀ q' : PolderId, q' ≠ q → t.polders[q'] = s.polders[q']) ∧
        (∀ n : PortId, polderOf n = q → s.cls n ≠ .a → t.ports[n].fe.path = .none) ∧
        (∀ n : PortId, polderOf n ≠ q ∨ s.cls n = .a → t.ports[n] = s.ports[n]) ∧
        { t with polders := s.polders, sys := s.sys, ports := s.ports, kg := s.kg } = s
     (s.controlUp = true → s.polders[q].die = true → s.polders[q].pld = false →
       starts (.dieCheckFail q) ∧ ∀ src, s.fromSup src = true → starts (.pldCommand src 0xA5#8 q)) ∧
     (∀ src key, s.fromSup src = false ∨ key ≠ 0xA5#8 → exec (.pldCommand src key q) s = .next s) ∧
     (s.polders[q].die = false ∨ s.polders[q].pld = true → exec (.dieCheckFail q) s = .next s)) ∧
    (s.polders[q].pld = true → s.controlUp = true → Completes (.pldEnd q) s fun t =>
      t.polders[q].pld = false ∧ (∀ q' : PolderId, q' ≠ q → t.polders[q'].pld = s.polders[q'].pld) ∧
        (∀ n : PortId, polderOf n ≠ q → t.ports[n].bare = s.ports[n].bare) ∧
        (∀ n : PortId, polderOf n = q → t.ports[n].fe.held = false) ∧
        t.cores = s.cores ∧ t.sys = s.sys ∧ t.fz = s.fz) ∧
    (s.polders[q].pld = false → exec (.pldEnd q) s = .next s) ∧
    (∀ n : PortId,
      (s.sys.mode = .por ∨ s.sys.mode = .off → (posOf n).val ≤ 5 → s.sys.harvestOff = false →
        (s.fz.word 0x058).getLsbD 4 = true ∨ (s.fz.word 0x158).getLsbD 4 = true →
        exec (.harvestStart n) s = .next { s with sys := { s.sys with mode := .harvest } }) ∧
      (5 < (posOf n).val ∨ s.sys.harvestOff = true ∨ s.sys.mode = .run → exec (.harvestStart n) s = .next s)) ∧
    (∀ role addr deputy mv up vb tl vao, let i : Instr := .islandRelease role addr deputy mv up vb tl vao
      let f := Fuses.start up s.fz
      (s.sys.mode ≠ .harvest → exec i s = .next s) ∧
      (s.sys.mode = .harvest → s.fl.run = none →
        (∀ r, f.2 = .stay r → Completes i s fun t => t.sys.mode = .stayReset ∧ t.sys.start.phase = 1#4 ∧
          t.sys.rstCause.last = 7#4) ∧
        ((∀ r, f.2 ≠ .stay r) → (f.1.cfgWord 0).getLsbD 4 = true → Completes i s fun t =>
          t.sys.mode = .island ∧ t.sys.stat.island = true ∧ t.sys.start.phase = 7#4 ∧ t.sys.rstCause.last = 7#4 ∧
            t.fz = f.1 ∧ t.fl = s.fl) ∧
        ((∀ r, f.2 ≠ .stay r) → (f.1.cfgWord 0).getLsbD 4 = false → Completes i s fun t =>
          t.sys.mode = .off ∧ t.sys.harvestOff = true ∧ t.fl.mem = s.fl.mem))) ∧
    (∀ mv jedec vb tl ta, let i : Instr := .dbHandover mv jedec vb tl ta
      (s.sys.mode ≠ .island ∨ mv < 1620 → exec i s = .next s) ∧
      (s.sys.mode = .island → 1620 ≤ mv → Completes i s fun t =>
        let held := s.fz.stat.provHold || t.fl.stat.noImage
        t.sys.mode = (if held then .provHold else .run) ∧ t.sys.start.phase = (if held then 6#4 else 5#4) ∧
          t.sys.rstCause.last = 8#4 ∧ t.sys.stat.island = false ∧ t.sys.harvestOff = false ∧ t.fz = s.fz)) ∧
    (s.fz.job = none → s.fl.run = none → s.sys.mode = .island ∨ s.sys.mode = .harvest → Completes .islandPowerDown s fun t =>
      t.sys.mode = .off ∧ t.sys.harvestOff = false ∧ t.fz.raw = s.fz.raw ∧ t.fl.mem = s.fl.mem ∧
        t.cores = State.reset.cores ∧ t.ports = State.reset.ports) ∧
    (s.sys.mode = .run ∨ s.sys.mode = .warm → exec .islandPowerDown s = .next s)

/-- Register accesses, IN and OUT (R11 to R13, R292, R301, R461 to R464). -/
def Obligations.RegisterAccess : Prop :=
  ∀ (s : State),
    (∀ (src : Src) (n : PortId) (w : Word) (p : Port), s.ports[n] = p → s.pRegUp n = true →
      let addr (off : Nat) : BitVec 16 := BitVec.ofNat 16 (0x1000 + 0x20 * n.val + off)
      PortCompletes (.registerWrite src (addr 0x03) w) n s (fun q => q = { p with evt := p.evt &&& ~~~w }.bare) ∧
      PortCompletes (.registerWrite src (addr 0x04) w) n s (fun q => q = { p with evtEn := w }.bare) ∧
      (∀ off ∈ [0x02, 0x06, 0x08, 0x0A, 0x10, 0x11, 0x12, 0x14, 0x15, 0x18, 0x19, 0x1A, 0x1B, 0x1C, 0x1D, 0x1E, 0x1F],
        exec (.registerWrite src (addr off) w) s = .next s)) ∧
    (∀ (src : Src) (addr : BitVec 16) (w : Word),
      (0x300 ≤ addr.toNat ∧ addr.toNat < 0x400) ∨ (0x600 ≤ addr.toNat ∧ addr.toNat < 0x800) ∨
        (0x900 ≤ addr.toNat ∧ addr.toNat < 0xC00) ∨ (0xF00 ≤ addr.toNat ∧ addr.toNat < 0x1000) ∨ 0x2800 ≤ addr.toNat ∨
        s.controlUp = false ∨ (s.sys.mode = .island ∧ 0x100 ≤ addr.toNat ∧ addr.toNat < 0x1000) →
      exec (.registerWrite src addr w) s = .next s) ∧
    (∀ (k : CoreId) (w : Word), s.regsUp = true →
      exec (.registerWrite .host (BitVec.ofNat 16 (0x404 + 0x20 * k.val)) w) s = .next s) ∧
    (∀ (k : CoreId) (cond rd rs : BitVec 3) (c : Core), s.cores[k] = c → s.executes k cond →
      let off := (c.chain.acc.toNat * 8 + rs.toNat) % 2 ^ 36 % 2 ^ (3 + 6 * c.chain.count.toNat)
      let addr : BitVec 16 := c.sp.iob + BitVec.ofNat 16 off
      let reads (v : Word) : Prop := CoreCompletes (.inp k cond rd rs) k s fun q =>
        q = (c.setReg rd (v.setWidth 36)).after (c.pc + 1#14) 2
      (s.waits addr = true → exec (.inp k cond rd rs) s = .next s ∧ exec (.outp k cond rd rs) s = .next s) ∧
      (s.waits addr = false →
      reads (s.readReg addr) ∧
      (s.controlUp = true → addr = 0x0000#16 → reads 0x2E5C0192#32) ∧
      (∀ n : PortId, s.pRegUp n = true → addr = BitVec.ofNat 16 (0x1003 + 0x20 * n.val) → reads s.ports[n].evt) ∧
      ((0x300 ≤ addr.toNat ∧ addr.toNat < 0x400) ∨ 0x2800 ≤ addr.toNat → reads 0#32 ∧
        CoreCompletes (.outp k cond rd rs) k s fun q => q = c.next) ∧
      exec (.outp k cond rd rs) s = exec (.registerWrite (.core k) addr (fld (c.reg rd) 0 32)) (s.onCore k Core.next) ∧
      (∀ n : PortId, s.pRegUp n = true → addr = BitVec.ofNat 16 (0x1004 + 0x20 * n.val) →
        Completes (.outp k cond rd rs) s fun t => t.ports[n].evtEn = fld (c.reg rd) 0 32 ∧ t.cores[k] = c.next ∧
          OnlyPort n (s.onCore k Core.next) t)))

/-- A step runs the command at the front (the model's choice, log entries 51 and 52). -/
def Obligations.StepRunsFront : Prop :=
  (∀ (c : Instr) (s : State), step { s with pending := c :: s.pending } = exec c s) ∧
    (∀ s : State, s.pending = [] → step s = .next s) ∧ ∀ (c : Instr) (s : State), ∃ t, exec c s = .next t

/-- The reset state (R289, R330, R420, Tables 11.9 and 16.2). -/
def Obligations.ResetState : Prop :=
  let s := State.reset
  s.memOk = true ∧ s.pending = [] ∧ s.sys.mode = .por ∧ s.sys.rstCause.read = 0x00010011#32 ∧
    (∀ n : PortId, let q := s.ports[n].q; q.entries = [] ∧ q.rd = 0#16 ∧ q.wr = 0#16) ∧
    (∀ i : Fin 64, let q := s.sysq[i]; q.entries = [] ∧ q.rd = 0#16 ∧ q.wr = 0#16 ∧
      (i.val < 16 → q.role = BitVec.ofNat 5 i.val)) ∧
    (∀ k : CoreId, let c := s.cores[k]; c.pc = 0#14 ∧ c.w = Vector.replicate 8 0#36 ∧ c.a = 0#72 ∧ c.m = 0#36 ∧
      c.role.role = BitVec.ofNat 4 k.val ∧ c.role.role2 = 15#4 ∧ c.stat.state = 1#3 ∧ c.ecc.codeSpare = 8#4 ∧
      c.ecc.dataSpare = 8#4)

/-- Every step keeps the canonical form of the memories (R290, R291, R321, R400, R405, R439, R440). -/
def Obligations.StepKeepsMemoryForm : Prop :=
  ∀ s t : State, s.memOk = true → step s = .next t → t.memOk = true

end
end

