-- ==== Sys2Proof/Laws/Mem.lean ====
section
/-! SUPPORT. The laws of memory: every operation keeps the canonical form, a read after a write gives what was written,
and a write leaves every other address alone. -/

namespace Sys2Proof.Machine.Mem

variable {n : Nat}

/-- Every address of a memory lies above `a`. -/
def above (a : Nat) (m : Mem n) : Prop := ∀ x ∈ m, a < x.1

theorem wf_cons (d : BitVec n) (a : Nat) (v : BitVec n) (m : Mem n) :
    wf d ((a, v) :: m) = true ↔ v ≠ d ∧ above a m ∧ wf d m = true := by
  induction m generalizing a v with
  | nil => simp [wf, above]
  | cons x xs ih =>
    obtain ⟨b, w⟩ := x
    rw [wf]
    simp only [Bool.and_eq_true, decide_eq_true_eq, ih]
    constructor
    · rintro ⟨⟨hv, hab⟩, hw, hb, hx⟩
      refine ⟨hv, ?_, hw, hb, hx⟩
      intro y hy
      rcases List.mem_cons.mp hy with rfl | hy
      · exact hab
      · exact lt_trans hab (hb y hy)
    · rintro ⟨hv, ha, hw, hb, hx⟩
      exact ⟨⟨hv, ha (b, w) (by simp)⟩, hw, hb, hx⟩

theorem above_erase {a : Nat} (b : Nat) {m : Mem n} (h : above a m) : above a (erase b m) := by
  induction m with
  | nil => simpa [erase] using h
  | cons x xs ih =>
    obtain ⟨c, w⟩ := x
    have hxs : above a xs := fun y hy => h y (by simp [hy])
    rw [erase]
    split
    · exact hxs
    · intro y hy
      rcases List.mem_cons.mp hy with rfl | hy
      · exact h _ (by simp)
      · exact ih hxs y hy

theorem above_insert {a b : Nat} (v : BitVec n) {m : Mem n} (hab : a < b) (h : above a m) : above a (insert b v m) := by
  induction m with
  | nil => intro y hy; simp [insert] at hy; simpa [hy] using hab
  | cons x xs ih =>
    obtain ⟨c, w⟩ := x
    have hxs : above a xs := fun y hy => h y (by simp [hy])
    rw [insert]
    split
    · intro y hy
      rcases List.mem_cons.mp hy with rfl | hy
      · exact hab
      · exact h y hy
    · split
      · intro y hy
        rcases List.mem_cons.mp hy with rfl | hy
        · exact hab
        · exact hxs y hy
      · intro y hy
        rcases List.mem_cons.mp hy with rfl | hy
        · exact h _ (by simp)
        · exact ih hxs y hy

theorem wf_erase (d : BitVec n) (a : Nat) {m : Mem n} (h : wf d m = true) : wf d (erase a m) = true := by
  induction m with
  | nil => simpa [erase] using h
  | cons x xs ih =>
    obtain ⟨b, w⟩ := x
    obtain ⟨hw, hb, hx⟩ := (wf_cons d b w xs).mp h
    rw [erase]
    split
    · exact hx
    · exact (wf_cons d b w _).mpr ⟨hw, above_erase a hb, ih hx⟩

theorem wf_insert (d : BitVec n) (a : Nat) {v : BitVec n} {m : Mem n} (hv : v ≠ d) (h : wf d m = true) :
    wf d (insert a v m) = true := by
  induction m with
  | nil => simp [insert, wf, hv]
  | cons x xs ih =>
    obtain ⟨b, w⟩ := x
    obtain ⟨hw, hb, hx⟩ := (wf_cons d b w xs).mp h
    rw [insert]
    split
    · rename_i hab
      refine (wf_cons d a v _).mpr ⟨hv, ?_, h⟩
      intro y hy
      rcases List.mem_cons.mp hy with rfl | hy
      · exact hab
      · exact lt_trans hab (hb y hy)
    · split
      · rename_i hab
        subst hab
        exact (wf_cons d a v _).mpr ⟨hv, hb, hx⟩
      · rename_i h1 h2
        exact (wf_cons d b w _).mpr ⟨hw, above_insert v (by omega) hb, ih hx⟩

/-- A write keeps the canonical form. -/
theorem wf_write (d : BitVec n) (a : Nat) (v : BitVec n) {m : Mem n} (h : wf d m = true) : wf d (write d a v m) = true := by
  rw [write]
  split
  · exact wf_erase d a h
  · rename_i hv
    exact wf_insert d a hv h

/-- A write of several words keeps the canonical form. -/
theorem wf_writeList (d : BitVec n) (a : Nat) (vs : List (BitVec n)) {m : Mem n} (h : wf d m = true) :
    wf d (writeList d a vs m) = true := by
  induction vs generalizing a m with
  | nil => simpa [writeList] using h
  | cons v vs ih => rw [writeList]; exact ih (a + 1) (wf_write d a v h)

/-- Unlisting a range keeps the canonical form. -/
theorem wf_clear (d : BitVec n) (a k : Nat) {m : Mem n} (h : wf d m = true) : wf d (clear a k m) = true := by
  induction m with
  | nil => simpa [clear] using h
  | cons x xs ih =>
    obtain ⟨b, w⟩ := x
    obtain ⟨hw, hb, hx⟩ := (wf_cons d b w xs).mp h
    unfold clear at ih ⊢
    rw [List.filter_cons]
    split
    · exact (wf_cons d b w _).mpr ⟨hw, fun y hy => hb y (List.mem_filter.mp hy).1, ih hx⟩
    · exact ih hx

theorem read_of_above (d : BitVec n) {a : Nat} {m : Mem n} (h : above a m) : read d m a = d := by
  induction m with
  | nil => rfl
  | cons x xs ih =>
    obtain ⟨b, w⟩ := x
    have hb : a < b := h (b, w) (by simp)
    rw [read, if_neg (by omega)]
    exact ih fun y hy => h y (by simp [hy])

theorem read_insert_self (d : BitVec n) (a : Nat) (v : BitVec n) (m : Mem n) : read d (insert a v m) a = v := by
  induction m with
  | nil => simp [insert, read]
  | cons x xs ih =>
    obtain ⟨b, w⟩ := x
    rw [insert]
    split
    · simp [read]
    · split
      · simp [read]
      · rename_i h1 h2
        rw [read, if_neg h2, ih]

theorem read_insert_ne (d : BitVec n) {a b : Nat} (v : BitVec n) (m : Mem n) (h : b ≠ a) :
    read d (insert a v m) b = read d m b := by
  induction m with
  | nil => simp [insert, read, h]
  | cons x xs ih =>
    obtain ⟨c, w⟩ := x
    rw [insert]
    split
    · rw [read, if_neg h]
    · split
      · rename_i h1 h2
        subst h2
        rw [read, if_neg h, read, if_neg h]
      · rw [read, read, ih]

theorem read_erase_self (d : BitVec n) (a : Nat) {m : Mem n} (h : wf d m = true) : read d (erase a m) a = d := by
  induction m with
  | nil => rfl
  | cons x xs ih =>
    obtain ⟨b, w⟩ := x
    obtain ⟨hw, hb, hx⟩ := (wf_cons d b w xs).mp h
    rw [erase]
    split
    · rename_i hba
      subst hba
      exact read_of_above d hb
    · rename_i hba
      rw [read, if_neg (Ne.symm hba), ih hx]

theorem read_erase_ne (d : BitVec n) {a b : Nat} (m : Mem n) (h : b ≠ a) : read d (erase a m) b = read d m b := by
  induction m with
  | nil => rfl
  | cons x xs ih =>
    obtain ⟨c, w⟩ := x
    rw [erase]
    split
    · rename_i hca
      rw [read, if_neg (by omega)]
    · rw [read, read, ih]

/-- A read after a write to the same address gives the word written. -/
theorem read_write_self (d : BitVec n) (a : Nat) (v : BitVec n) {m : Mem n} (h : wf d m = true) :
    read d (write d a v m) a = v := by
  rw [write]
  split
  · rename_i hv
    rw [read_erase_self d a h, hv]
  · exact read_insert_self d a v m

/-- A write leaves every other address as it was. -/
theorem read_write_ne (d : BitVec n) {a b : Nat} (v : BitVec n) (m : Mem n) (h : b ≠ a) :
    read d (write d a v m) b = read d m b := by
  rw [write]
  split
  · exact read_erase_ne d m h
  · exact read_insert_ne d v m h

end Sys2Proof.Machine.Mem
end

