-- ==== Sys2Proof/Laws/State.lean ====
section
/-! SUPPORT. What each update of the state leaves and what it changes: one lemma for each field of each update, so that no
later proof unfolds a record update. -/

-- One theorem after the other: checking them side by side takes a stack for each.
set_option Elab.async false

namespace Sys2Proof.Machine.State

@[simp] theorem setPort_ports (n : PortId) (p : Port) (s : State) : (s.setPort n p).ports = s.ports.set n p := rfl
@[simp] theorem setPort_pcfg (n : PortId) (p : Port) (s : State) : (s.setPort n p).pcfg = s.pcfg := rfl
@[simp] theorem setPort_polders (n : PortId) (p : Port) (s : State) : (s.setPort n p).polders = s.polders := rfl
@[simp] theorem setPort_store (n : PortId) (p : Port) (s : State) : (s.setPort n p).store = s.store := rfl
@[simp] theorem setPort_qy (n : PortId) (p : Port) (s : State) : (s.setPort n p).qy = s.qy := rfl
@[simp] theorem setPort_cores (n : PortId) (p : Port) (s : State) : (s.setPort n p).cores = s.cores := rfl
@[simp] theorem setPort_sysq (n : PortId) (p : Port) (s : State) : (s.setPort n p).sysq = s.sysq := rfl
@[simp] theorem setPort_shared (n : PortId) (p : Port) (s : State) : (s.setPort n p).shared = s.shared := rfl
@[simp] theorem setPort_sys (n : PortId) (p : Port) (s : State) : (s.setPort n p).sys = s.sys := rfl
@[simp] theorem setPort_sh (n : PortId) (p : Port) (s : State) : (s.setPort n p).sh = s.sh := rfl
@[simp] theorem setPort_bg (n : PortId) (p : Port) (s : State) : (s.setPort n p).bg = s.bg := rfl
@[simp] theorem setPort_kg (n : PortId) (p : Port) (s : State) : (s.setPort n p).kg = s.kg := rfl
@[simp] theorem setPort_lk (n : PortId) (p : Port) (s : State) : (s.setPort n p).lk = s.lk := rfl
@[simp] theorem setPort_tw (n : PortId) (p : Port) (s : State) : (s.setPort n p).tw = s.tw := rfl
@[simp] theorem setPort_fz (n : PortId) (p : Port) (s : State) : (s.setPort n p).fz = s.fz := rfl
@[simp] theorem setPort_fl (n : PortId) (p : Port) (s : State) : (s.setPort n p).fl = s.fl := rfl
@[simp] theorem setPort_fresh (n : PortId) (p : Port) (s : State) : (s.setPort n p).fresh = s.fresh := rfl
@[simp] theorem setPort_pending (n : PortId) (p : Port) (s : State) : (s.setPort n p).pending = s.pending := rfl

@[simp] theorem onPolder_ports (q : PolderId) (f : Polder → Polder) (s : State) : (s.onPolder q f).ports = s.ports := rfl
@[simp] theorem onPolder_pcfg (q : PolderId) (f : Polder → Polder) (s : State) : (s.onPolder q f).pcfg = s.pcfg := rfl
@[simp] theorem onPolder_polders (q : PolderId) (f : Polder → Polder) (s : State) : (s.onPolder q f).polders = s.polders.set q (f s.polders[q]) := rfl
@[simp] theorem onPolder_store (q : PolderId) (f : Polder → Polder) (s : State) : (s.onPolder q f).store = s.store := rfl
@[simp] theorem onPolder_qy (q : PolderId) (f : Polder → Polder) (s : State) : (s.onPolder q f).qy = s.qy := rfl
@[simp] theorem onPolder_cores (q : PolderId) (f : Polder → Polder) (s : State) : (s.onPolder q f).cores = s.cores := rfl
@[simp] theorem onPolder_sysq (q : PolderId) (f : Polder → Polder) (s : State) : (s.onPolder q f).sysq = s.sysq := rfl
@[simp] theorem onPolder_shared (q : PolderId) (f : Polder → Polder) (s : State) : (s.onPolder q f).shared = s.shared := rfl
@[simp] theorem onPolder_sys (q : PolderId) (f : Polder → Polder) (s : State) : (s.onPolder q f).sys = s.sys := rfl
@[simp] theorem onPolder_sh (q : PolderId) (f : Polder → Polder) (s : State) : (s.onPolder q f).sh = s.sh := rfl
@[simp] theorem onPolder_bg (q : PolderId) (f : Polder → Polder) (s : State) : (s.onPolder q f).bg = s.bg := rfl
@[simp] theorem onPolder_kg (q : PolderId) (f : Polder → Polder) (s : State) : (s.onPolder q f).kg = s.kg := rfl
@[simp] theorem onPolder_lk (q : PolderId) (f : Polder → Polder) (s : State) : (s.onPolder q f).lk = s.lk := rfl
@[simp] theorem onPolder_tw (q : PolderId) (f : Polder → Polder) (s : State) : (s.onPolder q f).tw = s.tw := rfl
@[simp] theorem onPolder_fz (q : PolderId) (f : Polder → Polder) (s : State) : (s.onPolder q f).fz = s.fz := rfl
@[simp] theorem onPolder_fl (q : PolderId) (f : Polder → Polder) (s : State) : (s.onPolder q f).fl = s.fl := rfl
@[simp] theorem onPolder_fresh (q : PolderId) (f : Polder → Polder) (s : State) : (s.onPolder q f).fresh = s.fresh := rfl
@[simp] theorem onPolder_pending (q : PolderId) (f : Polder → Polder) (s : State) : (s.onPolder q f).pending = s.pending := rfl

@[simp] theorem onCore_ports (k : CoreId) (f : Core → Core) (s : State) : (s.onCore k f).ports = s.ports := rfl
@[simp] theorem onCore_pcfg (k : CoreId) (f : Core → Core) (s : State) : (s.onCore k f).pcfg = s.pcfg := rfl
@[simp] theorem onCore_polders (k : CoreId) (f : Core → Core) (s : State) : (s.onCore k f).polders = s.polders := rfl
@[simp] theorem onCore_store (k : CoreId) (f : Core → Core) (s : State) : (s.onCore k f).store = s.store := rfl
@[simp] theorem onCore_qy (k : CoreId) (f : Core → Core) (s : State) : (s.onCore k f).qy = s.qy := rfl
@[simp] theorem onCore_cores (k : CoreId) (f : Core → Core) (s : State) : (s.onCore k f).cores = s.cores.set k (f s.cores[k]) := rfl
@[simp] theorem onCore_sysq (k : CoreId) (f : Core → Core) (s : State) : (s.onCore k f).sysq = s.sysq := rfl
@[simp] theorem onCore_shared (k : CoreId) (f : Core → Core) (s : State) : (s.onCore k f).shared = s.shared := rfl
@[simp] theorem onCore_sys (k : CoreId) (f : Core → Core) (s : State) : (s.onCore k f).sys = s.sys := rfl
@[simp] theorem onCore_sh (k : CoreId) (f : Core → Core) (s : State) : (s.onCore k f).sh = s.sh := rfl
@[simp] theorem onCore_bg (k : CoreId) (f : Core → Core) (s : State) : (s.onCore k f).bg = s.bg := rfl
@[simp] theorem onCore_kg (k : CoreId) (f : Core → Core) (s : State) : (s.onCore k f).kg = s.kg := rfl
@[simp] theorem onCore_lk (k : CoreId) (f : Core → Core) (s : State) : (s.onCore k f).lk = s.lk := rfl
@[simp] theorem onCore_tw (k : CoreId) (f : Core → Core) (s : State) : (s.onCore k f).tw = s.tw := rfl
@[simp] theorem onCore_fz (k : CoreId) (f : Core → Core) (s : State) : (s.onCore k f).fz = s.fz := rfl
@[simp] theorem onCore_fl (k : CoreId) (f : Core → Core) (s : State) : (s.onCore k f).fl = s.fl := rfl
@[simp] theorem onCore_fresh (k : CoreId) (f : Core → Core) (s : State) : (s.onCore k f).fresh = s.fresh := rfl
@[simp] theorem onCore_pending (k : CoreId) (f : Core → Core) (s : State) : (s.onCore k f).pending = s.pending := rfl

@[simp] theorem onSysq_ports (i : Fin 64) (f : Queue → Queue) (s : State) : (s.onSysq i f).ports = s.ports := rfl
@[simp] theorem onSysq_pcfg (i : Fin 64) (f : Queue → Queue) (s : State) : (s.onSysq i f).pcfg = s.pcfg := rfl
@[simp] theorem onSysq_polders (i : Fin 64) (f : Queue → Queue) (s : State) : (s.onSysq i f).polders = s.polders := rfl
@[simp] theorem onSysq_store (i : Fin 64) (f : Queue → Queue) (s : State) : (s.onSysq i f).store = s.store := rfl
@[simp] theorem onSysq_qy (i : Fin 64) (f : Queue → Queue) (s : State) : (s.onSysq i f).qy = s.qy := rfl
@[simp] theorem onSysq_cores (i : Fin 64) (f : Queue → Queue) (s : State) : (s.onSysq i f).cores = s.cores := rfl
@[simp] theorem onSysq_sysq (i : Fin 64) (f : Queue → Queue) (s : State) : (s.onSysq i f).sysq = s.sysq.set i (f s.sysq[i]) := rfl
@[simp] theorem onSysq_shared (i : Fin 64) (f : Queue → Queue) (s : State) : (s.onSysq i f).shared = s.shared := rfl
@[simp] theorem onSysq_sys (i : Fin 64) (f : Queue → Queue) (s : State) : (s.onSysq i f).sys = s.sys := rfl
@[simp] theorem onSysq_sh (i : Fin 64) (f : Queue → Queue) (s : State) : (s.onSysq i f).sh = s.sh := rfl
@[simp] theorem onSysq_bg (i : Fin 64) (f : Queue → Queue) (s : State) : (s.onSysq i f).bg = s.bg := rfl
@[simp] theorem onSysq_kg (i : Fin 64) (f : Queue → Queue) (s : State) : (s.onSysq i f).kg = s.kg := rfl
@[simp] theorem onSysq_lk (i : Fin 64) (f : Queue → Queue) (s : State) : (s.onSysq i f).lk = s.lk := rfl
@[simp] theorem onSysq_tw (i : Fin 64) (f : Queue → Queue) (s : State) : (s.onSysq i f).tw = s.tw := rfl
@[simp] theorem onSysq_fz (i : Fin 64) (f : Queue → Queue) (s : State) : (s.onSysq i f).fz = s.fz := rfl
@[simp] theorem onSysq_fl (i : Fin 64) (f : Queue → Queue) (s : State) : (s.onSysq i f).fl = s.fl := rfl
@[simp] theorem onSysq_fresh (i : Fin 64) (f : Queue → Queue) (s : State) : (s.onSysq i f).fresh = s.fresh := rfl
@[simp] theorem onSysq_pending (i : Fin 64) (f : Queue → Queue) (s : State) : (s.onSysq i f).pending = s.pending := rfl

@[simp] theorem onSlotG_ports (i : Fin 48) (f : GaugeSlot → GaugeSlot) (s : State) : (s.onSlotG i f).ports = s.ports := rfl
@[simp] theorem onSlotG_pcfg (i : Fin 48) (f : GaugeSlot → GaugeSlot) (s : State) : (s.onSlotG i f).pcfg = s.pcfg := rfl
@[simp] theorem onSlotG_polders (i : Fin 48) (f : GaugeSlot → GaugeSlot) (s : State) : (s.onSlotG i f).polders = s.polders := rfl
@[simp] theorem onSlotG_store (i : Fin 48) (f : GaugeSlot → GaugeSlot) (s : State) : (s.onSlotG i f).store = s.store := rfl
@[simp] theorem onSlotG_qy (i : Fin 48) (f : GaugeSlot → GaugeSlot) (s : State) : (s.onSlotG i f).qy = s.qy := rfl
@[simp] theorem onSlotG_cores (i : Fin 48) (f : GaugeSlot → GaugeSlot) (s : State) : (s.onSlotG i f).cores = s.cores := rfl
@[simp] theorem onSlotG_sysq (i : Fin 48) (f : GaugeSlot → GaugeSlot) (s : State) : (s.onSlotG i f).sysq = s.sysq := rfl
@[simp] theorem onSlotG_shared (i : Fin 48) (f : GaugeSlot → GaugeSlot) (s : State) : (s.onSlotG i f).shared = s.shared := rfl
@[simp] theorem onSlotG_sys (i : Fin 48) (f : GaugeSlot → GaugeSlot) (s : State) : (s.onSlotG i f).sys = s.sys := rfl
@[simp] theorem onSlotG_sh (i : Fin 48) (f : GaugeSlot → GaugeSlot) (s : State) : (s.onSlotG i f).sh = s.sh := rfl
@[simp] theorem onSlotG_bg (i : Fin 48) (f : GaugeSlot → GaugeSlot) (s : State) : (s.onSlotG i f).bg = s.bg := rfl
@[simp] theorem onSlotG_kg (i : Fin 48) (f : GaugeSlot → GaugeSlot) (s : State) : (s.onSlotG i f).kg = { s.kg with slots := s.kg.slots.set i (f s.kg.slots[i]) } := rfl
@[simp] theorem onSlotG_lk (i : Fin 48) (f : GaugeSlot → GaugeSlot) (s : State) : (s.onSlotG i f).lk = s.lk := rfl
@[simp] theorem onSlotG_tw (i : Fin 48) (f : GaugeSlot → GaugeSlot) (s : State) : (s.onSlotG i f).tw = s.tw := rfl
@[simp] theorem onSlotG_fz (i : Fin 48) (f : GaugeSlot → GaugeSlot) (s : State) : (s.onSlotG i f).fz = s.fz := rfl
@[simp] theorem onSlotG_fl (i : Fin 48) (f : GaugeSlot → GaugeSlot) (s : State) : (s.onSlotG i f).fl = s.fl := rfl
@[simp] theorem onSlotG_fresh (i : Fin 48) (f : GaugeSlot → GaugeSlot) (s : State) : (s.onSlotG i f).fresh = s.fresh := rfl
@[simp] theorem onSlotG_pending (i : Fin 48) (f : GaugeSlot → GaugeSlot) (s : State) : (s.onSlotG i f).pending = s.pending := rfl

@[simp] theorem onTw_ports (f : TwoWire → TwoWire) (s : State) : (s.onTw f).ports = s.ports := rfl
@[simp] theorem onTw_pcfg (f : TwoWire → TwoWire) (s : State) : (s.onTw f).pcfg = s.pcfg := rfl
@[simp] theorem onTw_polders (f : TwoWire → TwoWire) (s : State) : (s.onTw f).polders = s.polders := rfl
@[simp] theorem onTw_store (f : TwoWire → TwoWire) (s : State) : (s.onTw f).store = s.store := rfl
@[simp] theorem onTw_qy (f : TwoWire → TwoWire) (s : State) : (s.onTw f).qy = s.qy := rfl
@[simp] theorem onTw_cores (f : TwoWire → TwoWire) (s : State) : (s.onTw f).cores = s.cores := rfl
@[simp] theorem onTw_sysq (f : TwoWire → TwoWire) (s : State) : (s.onTw f).sysq = s.sysq := rfl
@[simp] theorem onTw_shared (f : TwoWire → TwoWire) (s : State) : (s.onTw f).shared = s.shared := rfl
@[simp] theorem onTw_sys (f : TwoWire → TwoWire) (s : State) : (s.onTw f).sys = s.sys := rfl
@[simp] theorem onTw_sh (f : TwoWire → TwoWire) (s : State) : (s.onTw f).sh = s.sh := rfl
@[simp] theorem onTw_bg (f : TwoWire → TwoWire) (s : State) : (s.onTw f).bg = s.bg := rfl
@[simp] theorem onTw_kg (f : TwoWire → TwoWire) (s : State) : (s.onTw f).kg = s.kg := rfl
@[simp] theorem onTw_lk (f : TwoWire → TwoWire) (s : State) : (s.onTw f).lk = s.lk := rfl
@[simp] theorem onTw_tw (f : TwoWire → TwoWire) (s : State) : (s.onTw f).tw = f s.tw := rfl
@[simp] theorem onTw_fz (f : TwoWire → TwoWire) (s : State) : (s.onTw f).fz = s.fz := rfl
@[simp] theorem onTw_fl (f : TwoWire → TwoWire) (s : State) : (s.onTw f).fl = s.fl := rfl
@[simp] theorem onTw_fresh (f : TwoWire → TwoWire) (s : State) : (s.onTw f).fresh = s.fresh := rfl
@[simp] theorem onTw_pending (f : TwoWire → TwoWire) (s : State) : (s.onTw f).pending = s.pending := rfl

@[simp] theorem onFuses_ports (f : Fuses → Fuses) (s : State) : (s.onFuses f).ports = s.ports := rfl
@[simp] theorem onFuses_pcfg (f : Fuses → Fuses) (s : State) : (s.onFuses f).pcfg = s.pcfg := rfl
@[simp] theorem onFuses_polders (f : Fuses → Fuses) (s : State) : (s.onFuses f).polders = s.polders := rfl
@[simp] theorem onFuses_store (f : Fuses → Fuses) (s : State) : (s.onFuses f).store = s.store := rfl
@[simp] theorem onFuses_qy (f : Fuses → Fuses) (s : State) : (s.onFuses f).qy = s.qy := rfl
@[simp] theorem onFuses_cores (f : Fuses → Fuses) (s : State) : (s.onFuses f).cores = s.cores := rfl
@[simp] theorem onFuses_sysq (f : Fuses → Fuses) (s : State) : (s.onFuses f).sysq = s.sysq := rfl
@[simp] theorem onFuses_shared (f : Fuses → Fuses) (s : State) : (s.onFuses f).shared = s.shared := rfl
@[simp] theorem onFuses_sys (f : Fuses → Fuses) (s : State) : (s.onFuses f).sys = s.sys := rfl
@[simp] theorem onFuses_sh (f : Fuses → Fuses) (s : State) : (s.onFuses f).sh = s.sh := rfl
@[simp] theorem onFuses_bg (f : Fuses → Fuses) (s : State) : (s.onFuses f).bg = s.bg := rfl
@[simp] theorem onFuses_kg (f : Fuses → Fuses) (s : State) : (s.onFuses f).kg = s.kg := rfl
@[simp] theorem onFuses_lk (f : Fuses → Fuses) (s : State) : (s.onFuses f).lk = s.lk := rfl
@[simp] theorem onFuses_tw (f : Fuses → Fuses) (s : State) : (s.onFuses f).tw = s.tw := rfl
@[simp] theorem onFuses_fz (f : Fuses → Fuses) (s : State) : (s.onFuses f).fz = f s.fz := rfl
@[simp] theorem onFuses_fl (f : Fuses → Fuses) (s : State) : (s.onFuses f).fl = s.fl := rfl
@[simp] theorem onFuses_fresh (f : Fuses → Fuses) (s : State) : (s.onFuses f).fresh = s.fresh := rfl
@[simp] theorem onFuses_pending (f : Fuses → Fuses) (s : State) : (s.onFuses f).pending = s.pending := rfl

@[simp] theorem onFlash_ports (f : Flash → Flash) (s : State) : (s.onFlash f).ports = s.ports := rfl
@[simp] theorem onFlash_pcfg (f : Flash → Flash) (s : State) : (s.onFlash f).pcfg = s.pcfg := rfl
@[simp] theorem onFlash_polders (f : Flash → Flash) (s : State) : (s.onFlash f).polders = s.polders := rfl
@[simp] theorem onFlash_store (f : Flash → Flash) (s : State) : (s.onFlash f).store = s.store := rfl
@[simp] theorem onFlash_qy (f : Flash → Flash) (s : State) : (s.onFlash f).qy = s.qy := rfl
@[simp] theorem onFlash_cores (f : Flash → Flash) (s : State) : (s.onFlash f).cores = s.cores := rfl
@[simp] theorem onFlash_sysq (f : Flash → Flash) (s : State) : (s.onFlash f).sysq = s.sysq := rfl
@[simp] theorem onFlash_shared (f : Flash → Flash) (s : State) : (s.onFlash f).shared = s.shared := rfl
@[simp] theorem onFlash_sys (f : Flash → Flash) (s : State) : (s.onFlash f).sys = s.sys := rfl
@[simp] theorem onFlash_sh (f : Flash → Flash) (s : State) : (s.onFlash f).sh = s.sh := rfl
@[simp] theorem onFlash_bg (f : Flash → Flash) (s : State) : (s.onFlash f).bg = s.bg := rfl
@[simp] theorem onFlash_kg (f : Flash → Flash) (s : State) : (s.onFlash f).kg = s.kg := rfl
@[simp] theorem onFlash_lk (f : Flash → Flash) (s : State) : (s.onFlash f).lk = s.lk := rfl
@[simp] theorem onFlash_tw (f : Flash → Flash) (s : State) : (s.onFlash f).tw = s.tw := rfl
@[simp] theorem onFlash_fz (f : Flash → Flash) (s : State) : (s.onFlash f).fz = s.fz := rfl
@[simp] theorem onFlash_fl (f : Flash → Flash) (s : State) : (s.onFlash f).fl = f s.fl := rfl
@[simp] theorem onFlash_fresh (f : Flash → Flash) (s : State) : (s.onFlash f).fresh = s.fresh := rfl
@[simp] theorem onFlash_pending (f : Flash → Flash) (s : State) : (s.onFlash f).pending = s.pending := rfl

@[simp] theorem onTree_ports (f : LkTree → LkTree) (s : State) : (s.onTree f).ports = s.ports := rfl
@[simp] theorem onTree_pcfg (f : LkTree → LkTree) (s : State) : (s.onTree f).pcfg = s.pcfg := rfl
@[simp] theorem onTree_polders (f : LkTree → LkTree) (s : State) : (s.onTree f).polders = s.polders := rfl
@[simp] theorem onTree_store (f : LkTree → LkTree) (s : State) : (s.onTree f).store = s.store := rfl
@[simp] theorem onTree_qy (f : LkTree → LkTree) (s : State) : (s.onTree f).qy = s.qy := rfl
@[simp] theorem onTree_cores (f : LkTree → LkTree) (s : State) : (s.onTree f).cores = s.cores := rfl
@[simp] theorem onTree_sysq (f : LkTree → LkTree) (s : State) : (s.onTree f).sysq = s.sysq := rfl
@[simp] theorem onTree_shared (f : LkTree → LkTree) (s : State) : (s.onTree f).shared = s.shared := rfl
@[simp] theorem onTree_sys (f : LkTree → LkTree) (s : State) : (s.onTree f).sys = s.sys := rfl
@[simp] theorem onTree_sh (f : LkTree → LkTree) (s : State) : (s.onTree f).sh = s.sh := rfl
@[simp] theorem onTree_bg (f : LkTree → LkTree) (s : State) : (s.onTree f).bg = s.bg := rfl
@[simp] theorem onTree_kg (f : LkTree → LkTree) (s : State) : (s.onTree f).kg = s.kg := rfl
@[simp] theorem onTree_lk (f : LkTree → LkTree) (s : State) : (s.onTree f).lk = { s.lk with tree := f s.lk.tree } := rfl
@[simp] theorem onTree_tw (f : LkTree → LkTree) (s : State) : (s.onTree f).tw = s.tw := rfl
@[simp] theorem onTree_fz (f : LkTree → LkTree) (s : State) : (s.onTree f).fz = s.fz := rfl
@[simp] theorem onTree_fl (f : LkTree → LkTree) (s : State) : (s.onTree f).fl = s.fl := rfl
@[simp] theorem onTree_fresh (f : LkTree → LkTree) (s : State) : (s.onTree f).fresh = s.fresh := rfl
@[simp] theorem onTree_pending (f : LkTree → LkTree) (s : State) : (s.onTree f).pending = s.pending := rfl

@[simp] theorem onLink_ports (i : LinkId) (f : LinkPort → LinkPort) (s : State) : (s.onLink i f).ports = s.ports := rfl
@[simp] theorem onLink_pcfg (i : LinkId) (f : LinkPort → LinkPort) (s : State) : (s.onLink i f).pcfg = s.pcfg := rfl
@[simp] theorem onLink_polders (i : LinkId) (f : LinkPort → LinkPort) (s : State) : (s.onLink i f).polders = s.polders := rfl
@[simp] theorem onLink_store (i : LinkId) (f : LinkPort → LinkPort) (s : State) : (s.onLink i f).store = s.store := rfl
@[simp] theorem onLink_qy (i : LinkId) (f : LinkPort → LinkPort) (s : State) : (s.onLink i f).qy = s.qy := rfl
@[simp] theorem onLink_cores (i : LinkId) (f : LinkPort → LinkPort) (s : State) : (s.onLink i f).cores = s.cores := rfl
@[simp] theorem onLink_sysq (i : LinkId) (f : LinkPort → LinkPort) (s : State) : (s.onLink i f).sysq = s.sysq := rfl
@[simp] theorem onLink_shared (i : LinkId) (f : LinkPort → LinkPort) (s : State) : (s.onLink i f).shared = s.shared := rfl
@[simp] theorem onLink_sys (i : LinkId) (f : LinkPort → LinkPort) (s : State) : (s.onLink i f).sys = s.sys := rfl
@[simp] theorem onLink_sh (i : LinkId) (f : LinkPort → LinkPort) (s : State) : (s.onLink i f).sh = s.sh := rfl
@[simp] theorem onLink_bg (i : LinkId) (f : LinkPort → LinkPort) (s : State) : (s.onLink i f).bg = s.bg := rfl
@[simp] theorem onLink_kg (i : LinkId) (f : LinkPort → LinkPort) (s : State) : (s.onLink i f).kg = s.kg := rfl
@[simp] theorem onLink_lk (i : LinkId) (f : LinkPort → LinkPort) (s : State) : (s.onLink i f).lk = { s.lk with ports := s.lk.ports.set i (f s.lk.ports[i]) } := rfl
@[simp] theorem onLink_tw (i : LinkId) (f : LinkPort → LinkPort) (s : State) : (s.onLink i f).tw = s.tw := rfl
@[simp] theorem onLink_fz (i : LinkId) (f : LinkPort → LinkPort) (s : State) : (s.onLink i f).fz = s.fz := rfl
@[simp] theorem onLink_fl (i : LinkId) (f : LinkPort → LinkPort) (s : State) : (s.onLink i f).fl = s.fl := rfl
@[simp] theorem onLink_fresh (i : LinkId) (f : LinkPort → LinkPort) (s : State) : (s.onLink i f).fresh = s.fresh := rfl
@[simp] theorem onLink_pending (i : LinkId) (f : LinkPort → LinkPort) (s : State) : (s.onLink i f).pending = s.pending := rfl

end Sys2Proof.Machine.State
end

