-- ==== Sys2Proof/Laws/Ops.lean ====
section
/-! SUPPORT. What the shared operations on a port and on a core can do: everything outside the port and the gauge stays, and
the port takes what the operation gives it, but for its checkpoint copies and its gauge registers. -/

-- One theorem after the other: checking them side by side takes a stack for each.
set_option Elab.async false

namespace Sys2Proof.Machine

namespace State

/-- The state with what the gauge and the checkpoint of port `n` hold blanked: what an operation of the gauge keeps. -/
def blank (n : PortId) (s : State) : State :=
  { s with ports := Vector.ofFn fun m : PortId => if m = n then s.ports[m].bare else s.ports[m].ungauged, kg := Gauge.reset }

variable (s : State)

theorem bare_of_ungauged (p : Port) : p.bare = p.ungauged.bare := rfl

theorem blank_onSlotG (n : PortId) (i : Fin 48) (f : GaugeSlot → GaugeSlot) : (s.onSlotG i f).blank n = s.blank n := rfl

/-- A change of the gauge registers of ports is not seen. -/
theorem blank_ports (n : PortId) (v : Vector Port 192) (h : ∀ m : PortId, v[m].ungauged = s.ports[m].ungauged) :
    { s with ports := v }.blank n = s.blank n := by
  have : (fun m : PortId => if m = n then v[m].bare else v[m].ungauged) =
      fun m : PortId => if m = n then s.ports[m].bare else s.ports[m].ungauged := by
    funext m
    rw [bare_of_ungauged, h m, ← bare_of_ungauged]
  simp only [blank, this]

theorem blank_setPort (n m : PortId) (p : Port) (h : p.ungauged = s.ports[m].ungauged) :
    { s with ports := s.ports.set m p }.blank n = s.blank n := by
  refine blank_ports s n _ fun k => ?_
  by_cases hk : (m : Nat) = k
  · obtain rfl : m = k := Fin.ext hk
    simpa using h
  · simp [hk]

theorem blank_heldAtStage (n : PortId) : s.heldAtStage.blank n = s.blank n := by
  unfold heldAtStage
  split <;> rfl

theorem blank_onGaugeRec (n : PortId) (i : Fin 48) (f : GaugeRec → GaugeRec) :
    (s.onGaugeRec i f).blank n = s.blank n := by
  unfold onGaugeRec
  split <;> rfl

theorem blank_commitDue (n : PortId) (i : Fin 48) : (s.commitDue i).blank n = s.blank n := by
  unfold commitDue
  split
  · exact blank_heldAtStage _ n
  · exact blank_heldAtStage _ n
  · rfl

theorem blank_cycleCharge (n : PortId) (i : Fin 48) (dq : Rat) : (s.cycleCharge i dq).blank n = s.blank n := by
  unfold cycleCharge
  split
  · rfl
  · split
    · rfl
    · exact blank_onGaugeRec s n i _

theorem blank_takeOwner (n : PortId) (i : Fin 48) : (s.takeOwner i).blank n = s.blank n := by
  unfold takeOwner
  simp only
  split
  · rfl
  · repeat' split
    all_goals simp only [blank_commitDue, blank_onGaugeRec, blank_onSlotG, blank_cycleCharge]
    all_goals rfl

/-- What is shown of a slot goes to the gauge registers of the port that the slot serves. -/
theorem blank_showSlot (n : PortId) (i : Fin 48) : (s.showSlot i).blank n = s.blank n := by
  unfold showSlot
  simp only
  split
  · rfl
  · exact blank_setPort s n _ _ rfl

theorem blank_slotOff (n : PortId) (i : Fin 48) : (s.slotOff i).blank n = s.blank n := by
  unfold slotOff
  simp only [blank_onSlotG]
  rw [← blank_commitDue s n i]
  split
  · exact blank_setPort _ n _ _ rfl
  · rfl

theorem blank_slotState (n : PortId) (i : Fin 48) (g : BitVec 2) : (s.slotState i g).blank n = s.blank n := by
  unfold slotState
  split <;> rfl

theorem blank_slotShow (n : PortId) (i : Fin 48) (b : Bool) : (s.slotShow i b).blank n = s.blank n := by
  unfold slotShow
  split
  · rw [blank_showSlot, blank_takeOwner]
  · exact blank_showSlot s n i

theorem blank_slotAttach (n m : PortId) (i : Fin 48) : (s.slotAttach i m).blank n = s.blank n := rfl

theorem blank_markConflict (n m : PortId) : (s.markConflict m).blank n = s.blank n := by
  unfold markConflict
  split <;> rfl

theorem blank_slotKeep (n m : PortId) : (s.slotKeep m).blank n = s.blank n := by
  unfold slotKeep
  simp only
  split
  · split
    · exact blank_slotOff s n _
    · rw [blank_slotShow, blank_onSlotG, blank_slotState]
  · rfl

theorem blank_slotTake (n m : PortId) : (s.slotTake m).blank n = s.blank n := by
  unfold slotTake
  simp only
  split
  · split
    · rw [blank_slotShow, blank_onSlotG, blank_slotAttach, blank_markConflict]
    · rfl
  · rfl

/-- The gauge follows a port: nothing but the gauge and gauge registers change (R198, R199). -/
theorem blank_gaugeFollow (n : PortId) : (s.gaugeFollow n).blank n = s.blank n := by
  unfold gaugeFollow
  simp only
  split
  · rfl
  · repeat' split
    all_goals simp only [blank_slotTake, blank_slotKeep]

/-- States that are equal when blanked differ at most in the port and in the gauge. -/
theorem onlyPort_of_blank {n : PortId} {s t : State} (h : t.blank n = s.blank n) :
    OnlyPort n s t ∧ t.ports[n].bare = s.ports[n].bare := by
  have hp (m : PortId) : (if m = n then t.ports[m].bare else t.ports[m].ungauged) =
      if m = n then s.ports[m].bare else s.ports[m].ungauged := by
    simpa [blank] using congrArg (fun u : State => u.ports[m]) h
  refine ⟨⟨?_, fun m hm => ?_⟩, by simpa using hp n⟩
  · cases s
    cases t
    simp only [blank, State.mk.injEq] at h
    simp only [State.mk.injEq]
    tauto
  · simpa [hm] using hp m

theorem onlyPort_setPort {n : PortId} {s t : State} {p : Port} (h : t.blank n = (s.setPort n p).blank n) :
    OnlyPort n s t ∧ t.ports[n].bare = p.bare := by
  obtain ⟨⟨h1, h2⟩, h3⟩ := onlyPort_of_blank h
  refine ⟨⟨?_, fun m hm => ?_⟩, ?_⟩
  · have := congrArg (fun u : State => { u with ports := s.ports, kg := s.kg }) h1
    exact this
  · have hne : (n : Nat) ≠ m := fun h => hm (Fin.ext h.symm)
    rw [h2 m hm]
    simp [hne]
  · rw [h3]
    simp

/-- A checkpoint changes the checkpoint copies alone (R262). -/
theorem checkpointed_bare (n : PortId) (p : Port) : (s.checkpointed n p).bare = p.bare := by
  unfold checkpointed Port.checkpoint
  simp only
  repeat' split
  all_goals rfl

/-- A command on a port changes that port alone, and leaves it as the operation says (R31, R199, R262). -/
theorem onPort_spec (n : PortId) (f : Env → Port → Port) :
    OnlyPort n s (s.onPort n f) ∧ (s.onPort n f).ports[n].bare = (f (s.env n) s.ports[n]).bare := by
  unfold onPort
  simp only
  obtain ⟨h1, h2⟩ := onlyPort_setPort (blank_gaugeFollow (s.setPort n (if (s.env n).regionUp then
      s.checkpointed n (f (s.env n) s.ports[n]) else f (s.env n) s.ports[n])) n)
  refine ⟨h1, h2.trans ?_⟩
  split
  · exact checkpointed_bare s n _
  · rfl

@[simp] theorem env_regionUp (n : PortId) : (s.env n).regionUp = s.regionUp n := rfl

/-- A region's command completes with what its operation does to the port. -/
theorem onRegionOf_completes {i : Instr} {n : PortId} {s : State} {f : Env → Port → Port} {p : Port}
    {post : Port → Prop}
    (he : exec i s = .next (s.onRegionOf n f)) (h : s.regionUp n = true) (hs : s.ports[n] = p) (hp : post (f (s.env n) p).bare) :
    PortCompletes i n s post := by
  rw [onRegionOf, if_pos h] at he
  subst hs
  obtain ⟨h1, h2⟩ := onPort_spec s n f
  exact ⟨_, he, h1, h2 ▸ hp⟩

/-- A front end's command completes with what its operation does to the port. -/
theorem onFrontEnd_completes {i : Instr} {n : PortId} {s : State} {f : Env → Port → Port} {p : Port}
    {post : Port → Prop}
    (he : exec i s = .next (s.onFrontEnd n f))
    (h : (s.polders[polderOf n].die && (s.sys.mode ≠ .island || s.inIsland n)) = true)
    (hs : s.ports[n] = p) (hp : post (f (s.env n) p).bare) : PortCompletes i n s post := by
  rw [onFrontEnd, if_pos h] at he
  subst hs
  obtain ⟨h1, h2⟩ := onPort_spec s n f
  exact ⟨_, he, h1, h2 ▸ hp⟩

/-- A write of a port's register completes with what its operation does to the port. -/
theorem onPReg_completes {i : Instr} {n : PortId} {s : State} {f : Env → Port → Port} {p : Port}
    {post : Port → Prop}
    (he : exec i s = .next (s.onPReg n f)) (h : s.pRegUp n = true)
    (hs : s.ports[n] = p) (hp : post (f (s.env n) p).bare) : PortCompletes i n s post := by
  rw [onPReg, if_pos h] at he
  subst hs
  obtain ⟨h1, h2⟩ := onPort_spec s n f
  exact ⟨_, he, h1, h2 ▸ hp⟩

/-- A TX_GO completes with what its operation does to the port. -/
theorem onTxGo_completes {i : Instr} {k : CoreId} {n : PortId} {s : State} {f : Env → Port → Port} {p : Port}
    {post : Port → Prop}
    (he : exec i s = .next (s.onTxGo k n f))
    (h : (s.controlUp && !s.polders[polderOf n].pld && s.holds k s.ports[n].q.role && s.inService k) = true)
    (hs : s.ports[n] = p) (hp : post (f (s.env n) p).bare) : PortCompletes i n s post := by
  rw [onTxGo, if_pos h] at he
  subst hs
  obtain ⟨h1, h2⟩ := onPort_spec s n f
  exact ⟨_, he, h1, h2 ▸ hp⟩

theorem onlyPort_refl (n : PortId) : OnlyPort n s s := ⟨rfl, fun _ _ => rfl⟩

/-- A command of a region acts on its port alone, or not at all (R31). -/
theorem onRegionOf_only (n : PortId) (f : Env → Port → Port) : OnlyPort n s (s.onRegionOf n f) := by
  unfold onRegionOf
  split
  · exact (onPort_spec s n f).1
  · exact onlyPort_refl s n

theorem onRegionOf_self {n : PortId} (f : Env → Port → Port) (h : s.regionUp n = true) :
    (s.onRegionOf n f).ports[n].bare = (f (s.env n) s.ports[n]).bare := by
  rw [onRegionOf, if_pos h]
  exact (onPort_spec s n f).2

/-- A command of a front end acts on its port alone, or not at all. -/
theorem onFrontEnd_only (n : PortId) (f : Env → Port → Port) : OnlyPort n s (s.onFrontEnd n f) := by
  unfold onFrontEnd
  split
  · exact (onPort_spec s n f).1
  · exact onlyPort_refl s n

/-- A write of a register of a port acts on that port alone, or not at all (R463). -/
theorem onPReg_only (n : PortId) (f : Env → Port → Port) : OnlyPort n s (s.onPReg n f) := by
  unfold onPReg
  split
  · exact (onPort_spec s n f).1
  · exact onlyPort_refl s n

/-- A TX_GO acts on its port alone, or not at all (R464). -/
theorem onTxGo_only (k : CoreId) (n : PortId) (f : Env → Port → Port) : OnlyPort n s (s.onTxGo k n f) := by
  unfold onTxGo
  split
  · exact (onPort_spec s n f).1
  · exact onlyPort_refl s n

/-- A command on a core changes that core alone. -/
theorem onCore_only (k : CoreId) (f : Core → Core) : OnlyCore k s (s.onCore k f) := by
  refine ⟨rfl, fun j hj => ?_⟩
  have hne : (k : Nat) ≠ j := fun h => hj (Fin.ext h.symm)
  simp [hne]

theorem onCore_self (k : CoreId) (f : Core → Core) : (s.onCore k f).cores[k] = f s.cores[k] := by simp

end State

end Sys2Proof.Machine
end

