-- ==== Sys2Proof/Laws/Port.lean ====
section
/-! SUPPORT. What the shared operations on one port do to the registers that statements speak of: an operation that
branches has one lemma per register that no branch of it touches. -/

-- One theorem after the other: checking them side by side takes a stack for each.
set_option Elab.async false

namespace Sys2Proof.Machine.Port

variable (p : Port)

@[simp] theorem bare_cc : p.bare.cc = p.cc := rfl
@[simp] theorem bare_tc : p.bare.tc = p.tc := rfl
@[simp] theorem bare_pdcfg : p.bare.pdcfg = p.pdcfg := rfl
@[simp] theorem bare_pdstat : p.bare.pdstat = p.pdstat := rfl
@[simp] theorem bare_srccap : p.bare.srccap = p.srccap := rfl
@[simp] theorem bare_contract : p.bare.contract = p.contract := rfl
@[simp] theorem bare_partner : p.bare.partner = p.partner := rfl
@[simp] theorem bare_alt : p.bare.alt = p.alt := rfl
@[simp] theorem bare_vset : p.bare.vset = p.vset := rfl
@[simp] theorem bare_ilim : p.bare.ilim = p.ilim := rfl
@[simp] theorem bare_trip : p.bare.trip = p.trip := rfl
@[simp] theorem bare_sluice : p.bare.sluice = p.sluice := rfl
@[simp] theorem bare_vbus : p.bare.vbus = p.vbus := rfl
@[simp] theorem bare_ibus : p.bare.ibus = p.ibus := rfl
@[simp] theorem bare_place : p.bare.place = p.place := rfl
@[simp] theorem bare_pfault : p.bare.pfault = p.pfault := rfl
@[simp] theorem bare_evt : p.bare.evt = p.evt := rfl
@[simp] theorem bare_evtEn : p.bare.evtEn = p.evtEn := rfl
@[simp] theorem bare_power : p.bare.power = p.power := rfl
@[simp] theorem bare_fe : p.bare.fe = p.fe := rfl
@[simp] theorem bare_rg : p.bare.rg = p.rg := rfl
@[simp] theorem bare_stg : p.bare.stg = p.stg := rfl
@[simp] theorem bare_q : p.bare.q = p.q := rfl
@[simp] theorem bare_role : p.bare.role = p.role := rfl
@[simp] theorem bare_fences : p.bare.fences = p.fences := rfl
@[simp] theorem bare_bank : p.bare.bank = p.bank := rfl
@[simp] theorem bare_heldCls : p.bare.heldCls = p.heldCls := rfl
@[simp] theorem bare_islandSink : p.bare.islandSink = p.islandSink := rfl
@[simp] theorem bare_rebindDue : p.bare.rebindDue = p.rebindDue := rfl

@[simp] theorem flagged_bare (e : PEvent) : p.bare.flagged e = p.flagged e := rfl
@[simp] theorem timerOn_bare (t : TimerId) : p.bare.timerOn t = p.timerOn t := rfl
@[simp] theorem typeOf_bare : p.bare.typeOf = p.typeOf := rfl

@[simp] theorem pushGroup_cc (g : List (BitVec 6 × W36)) : (p.pushGroup g).cc = p.cc := rfl
@[simp] theorem pushGroup_tc (g : List (BitVec 6 × W36)) : (p.pushGroup g).tc = p.tc := rfl
@[simp] theorem pushGroup_pdcfg (g : List (BitVec 6 × W36)) : (p.pushGroup g).pdcfg = p.pdcfg := rfl
@[simp] theorem pushGroup_pdstat (g : List (BitVec 6 × W36)) : (p.pushGroup g).pdstat = p.pdstat := rfl
@[simp] theorem pushGroup_srccap (g : List (BitVec 6 × W36)) : (p.pushGroup g).srccap = p.srccap := rfl
@[simp] theorem pushGroup_contract (g : List (BitVec 6 × W36)) : (p.pushGroup g).contract = p.contract := rfl
@[simp] theorem pushGroup_partner (g : List (BitVec 6 × W36)) : (p.pushGroup g).partner = p.partner := rfl
@[simp] theorem pushGroup_alt (g : List (BitVec 6 × W36)) : (p.pushGroup g).alt = p.alt := rfl
@[simp] theorem pushGroup_vset (g : List (BitVec 6 × W36)) : (p.pushGroup g).vset = p.vset := rfl
@[simp] theorem pushGroup_ilim (g : List (BitVec 6 × W36)) : (p.pushGroup g).ilim = p.ilim := rfl
@[simp] theorem pushGroup_trip (g : List (BitVec 6 × W36)) : (p.pushGroup g).trip = p.trip := rfl
@[simp] theorem pushGroup_sluice (g : List (BitVec 6 × W36)) : (p.pushGroup g).sluice = p.sluice := rfl
@[simp] theorem pushGroup_vbus (g : List (BitVec 6 × W36)) : (p.pushGroup g).vbus = p.vbus := rfl
@[simp] theorem pushGroup_ibus (g : List (BitVec 6 × W36)) : (p.pushGroup g).ibus = p.ibus := rfl
@[simp] theorem pushGroup_kgSoc (g : List (BitVec 6 × W36)) : (p.pushGroup g).kgSoc = p.kgSoc := rfl
@[simp] theorem pushGroup_kgCap (g : List (BitVec 6 × W36)) : (p.pushGroup g).kgCap = p.kgCap := rfl
@[simp] theorem pushGroup_place (g : List (BitVec 6 × W36)) : (p.pushGroup g).place = p.place := rfl
@[simp] theorem pushGroup_pfault (g : List (BitVec 6 × W36)) : (p.pushGroup g).pfault = p.pfault := rfl
@[simp] theorem pushGroup_evt (g : List (BitVec 6 × W36)) : (p.pushGroup g).evt = p.evt := rfl
@[simp] theorem pushGroup_evtEn (g : List (BitVec 6 × W36)) : (p.pushGroup g).evtEn = p.evtEn := rfl
@[simp] theorem pushGroup_power (g : List (BitVec 6 × W36)) : (p.pushGroup g).power = p.power := rfl
@[simp] theorem pushGroup_fe (g : List (BitVec 6 × W36)) : (p.pushGroup g).fe = p.fe := rfl
@[simp] theorem pushGroup_rg (g : List (BitVec 6 × W36)) : (p.pushGroup g).rg = p.rg := rfl
@[simp] theorem pushGroup_stg (g : List (BitVec 6 × W36)) : (p.pushGroup g).stg = p.stg := rfl
@[simp] theorem pushGroup_role (g : List (BitVec 6 × W36)) : (p.pushGroup g).role = p.role := rfl
@[simp] theorem pushGroup_ck0 (g : List (BitVec 6 × W36)) : (p.pushGroup g).ck0 = p.ck0 := rfl
@[simp] theorem pushGroup_ck1 (g : List (BitVec 6 × W36)) : (p.pushGroup g).ck1 = p.ck1 := rfl
@[simp] theorem pushGroup_ckNewer (g : List (BitVec 6 × W36)) : (p.pushGroup g).ckNewer = p.ckNewer := rfl
@[simp] theorem pushGroup_fences (g : List (BitVec 6 × W36)) : (p.pushGroup g).fences = p.fences := rfl
@[simp] theorem pushGroup_bank (g : List (BitVec 6 × W36)) : (p.pushGroup g).bank = p.bank := rfl
@[simp] theorem pushGroup_heldCls (g : List (BitVec 6 × W36)) : (p.pushGroup g).heldCls = p.heldCls := rfl
@[simp] theorem pushGroup_islandSink (g : List (BitVec 6 × W36)) : (p.pushGroup g).islandSink = p.islandSink := rfl
@[simp] theorem pushGroup_rebindDue (g : List (BitVec 6 × W36)) : (p.pushGroup g).rebindDue = p.rebindDue := rfl

@[simp] theorem post_cc (e : PEvent) (pl : W36) : (p.post e pl).cc = p.cc := by unfold post; split <;> rfl
@[simp] theorem post_tc (e : PEvent) (pl : W36) : (p.post e pl).tc = p.tc := by unfold post; split <;> rfl
@[simp] theorem post_pdcfg (e : PEvent) (pl : W36) : (p.post e pl).pdcfg = p.pdcfg := by unfold post; split <;> rfl
@[simp] theorem post_pdstat (e : PEvent) (pl : W36) : (p.post e pl).pdstat = p.pdstat := by unfold post; split <;> rfl
@[simp] theorem post_srccap (e : PEvent) (pl : W36) : (p.post e pl).srccap = p.srccap := by unfold post; split <;> rfl
@[simp] theorem post_contract (e : PEvent) (pl : W36) : (p.post e pl).contract = p.contract := by unfold post; split <;> rfl
@[simp] theorem post_partner (e : PEvent) (pl : W36) : (p.post e pl).partner = p.partner := by unfold post; split <;> rfl
@[simp] theorem post_alt (e : PEvent) (pl : W36) : (p.post e pl).alt = p.alt := by unfold post; split <;> rfl
@[simp] theorem post_vset (e : PEvent) (pl : W36) : (p.post e pl).vset = p.vset := by unfold post; split <;> rfl
@[simp] theorem post_ilim (e : PEvent) (pl : W36) : (p.post e pl).ilim = p.ilim := by unfold post; split <;> rfl
@[simp] theorem post_trip (e : PEvent) (pl : W36) : (p.post e pl).trip = p.trip := by unfold post; split <;> rfl
@[simp] theorem post_sluice (e : PEvent) (pl : W36) : (p.post e pl).sluice = p.sluice := by unfold post; split <;> rfl
@[simp] theorem post_vbus (e : PEvent) (pl : W36) : (p.post e pl).vbus = p.vbus := by unfold post; split <;> rfl
@[simp] theorem post_ibus (e : PEvent) (pl : W36) : (p.post e pl).ibus = p.ibus := by unfold post; split <;> rfl
@[simp] theorem post_kgSoc (e : PEvent) (pl : W36) : (p.post e pl).kgSoc = p.kgSoc := by unfold post; split <;> rfl
@[simp] theorem post_kgCap (e : PEvent) (pl : W36) : (p.post e pl).kgCap = p.kgCap := by unfold post; split <;> rfl
@[simp] theorem post_place (e : PEvent) (pl : W36) : (p.post e pl).place = p.place := by unfold post; split <;> rfl
@[simp] theorem post_pfault (e : PEvent) (pl : W36) : (p.post e pl).pfault = p.pfault := by unfold post; split <;> rfl
@[simp] theorem post_evtEn (e : PEvent) (pl : W36) : (p.post e pl).evtEn = p.evtEn := by unfold post; split <;> rfl
@[simp] theorem post_power (e : PEvent) (pl : W36) : (p.post e pl).power = p.power := by unfold post; split <;> rfl
@[simp] theorem post_fe (e : PEvent) (pl : W36) : (p.post e pl).fe = p.fe := by unfold post; split <;> rfl
@[simp] theorem post_rg (e : PEvent) (pl : W36) : (p.post e pl).rg = p.rg := by unfold post; split <;> rfl
@[simp] theorem post_stg (e : PEvent) (pl : W36) : (p.post e pl).stg = p.stg := by unfold post; split <;> rfl
@[simp] theorem post_role (e : PEvent) (pl : W36) : (p.post e pl).role = p.role := by unfold post; split <;> rfl
@[simp] theorem post_ck0 (e : PEvent) (pl : W36) : (p.post e pl).ck0 = p.ck0 := by unfold post; split <;> rfl
@[simp] theorem post_ck1 (e : PEvent) (pl : W36) : (p.post e pl).ck1 = p.ck1 := by unfold post; split <;> rfl
@[simp] theorem post_ckNewer (e : PEvent) (pl : W36) : (p.post e pl).ckNewer = p.ckNewer := by unfold post; split <;> rfl
@[simp] theorem post_fences (e : PEvent) (pl : W36) : (p.post e pl).fences = p.fences := by unfold post; split <;> rfl
@[simp] theorem post_bank (e : PEvent) (pl : W36) : (p.post e pl).bank = p.bank := by unfold post; split <;> rfl
@[simp] theorem post_heldCls (e : PEvent) (pl : W36) : (p.post e pl).heldCls = p.heldCls := by unfold post; split <;> rfl
@[simp] theorem post_islandSink (e : PEvent) (pl : W36) : (p.post e pl).islandSink = p.islandSink := by unfold post; split <;> rfl
@[simp] theorem post_rebindDue (e : PEvent) (pl : W36) : (p.post e pl).rebindDue = p.rebindDue := by unfold post; split <;> rfl

@[simp] theorem start_cc (t : TimerId) : (p.start t).cc = p.cc := rfl
@[simp] theorem start_tc (t : TimerId) : (p.start t).tc = p.tc := rfl
@[simp] theorem start_pdcfg (t : TimerId) : (p.start t).pdcfg = p.pdcfg := rfl
@[simp] theorem start_pdstat (t : TimerId) : (p.start t).pdstat = p.pdstat := rfl
@[simp] theorem start_srccap (t : TimerId) : (p.start t).srccap = p.srccap := rfl
@[simp] theorem start_contract (t : TimerId) : (p.start t).contract = p.contract := rfl
@[simp] theorem start_partner (t : TimerId) : (p.start t).partner = p.partner := rfl
@[simp] theorem start_alt (t : TimerId) : (p.start t).alt = p.alt := rfl
@[simp] theorem start_vset (t : TimerId) : (p.start t).vset = p.vset := rfl
@[simp] theorem start_ilim (t : TimerId) : (p.start t).ilim = p.ilim := rfl
@[simp] theorem start_trip (t : TimerId) : (p.start t).trip = p.trip := rfl
@[simp] theorem start_sluice (t : TimerId) : (p.start t).sluice = p.sluice := rfl
@[simp] theorem start_vbus (t : TimerId) : (p.start t).vbus = p.vbus := rfl
@[simp] theorem start_ibus (t : TimerId) : (p.start t).ibus = p.ibus := rfl
@[simp] theorem start_kgSoc (t : TimerId) : (p.start t).kgSoc = p.kgSoc := rfl
@[simp] theorem start_kgCap (t : TimerId) : (p.start t).kgCap = p.kgCap := rfl
@[simp] theorem start_place (t : TimerId) : (p.start t).place = p.place := rfl
@[simp] theorem start_pfault (t : TimerId) : (p.start t).pfault = p.pfault := rfl
@[simp] theorem start_evt (t : TimerId) : (p.start t).evt = p.evt := rfl
@[simp] theorem start_evtEn (t : TimerId) : (p.start t).evtEn = p.evtEn := rfl
@[simp] theorem start_power (t : TimerId) : (p.start t).power = p.power := rfl
@[simp] theorem start_fe (t : TimerId) : (p.start t).fe = p.fe := rfl
@[simp] theorem start_stg (t : TimerId) : (p.start t).stg = p.stg := rfl
@[simp] theorem start_q (t : TimerId) : (p.start t).q = p.q := rfl
@[simp] theorem start_role (t : TimerId) : (p.start t).role = p.role := rfl
@[simp] theorem start_ck0 (t : TimerId) : (p.start t).ck0 = p.ck0 := rfl
@[simp] theorem start_ck1 (t : TimerId) : (p.start t).ck1 = p.ck1 := rfl
@[simp] theorem start_ckNewer (t : TimerId) : (p.start t).ckNewer = p.ckNewer := rfl
@[simp] theorem start_fences (t : TimerId) : (p.start t).fences = p.fences := rfl
@[simp] theorem start_bank (t : TimerId) : (p.start t).bank = p.bank := rfl
@[simp] theorem start_heldCls (t : TimerId) : (p.start t).heldCls = p.heldCls := rfl
@[simp] theorem start_islandSink (t : TimerId) : (p.start t).islandSink = p.islandSink := rfl
@[simp] theorem start_rebindDue (t : TimerId) : (p.start t).rebindDue = p.rebindDue := rfl

@[simp] theorem stop_cc (t : TimerId) : (p.stop t).cc = p.cc := rfl
@[simp] theorem stop_tc (t : TimerId) : (p.stop t).tc = p.tc := rfl
@[simp] theorem stop_pdcfg (t : TimerId) : (p.stop t).pdcfg = p.pdcfg := rfl
@[simp] theorem stop_pdstat (t : TimerId) : (p.stop t).pdstat = p.pdstat := rfl
@[simp] theorem stop_srccap (t : TimerId) : (p.stop t).srccap = p.srccap := rfl
@[simp] theorem stop_contract (t : TimerId) : (p.stop t).contract = p.contract := rfl
@[simp] theorem stop_partner (t : TimerId) : (p.stop t).partner = p.partner := rfl
@[simp] theorem stop_alt (t : TimerId) : (p.stop t).alt = p.alt := rfl
@[simp] theorem stop_vset (t : TimerId) : (p.stop t).vset = p.vset := rfl
@[simp] theorem stop_ilim (t : TimerId) : (p.stop t).ilim = p.ilim := rfl
@[simp] theorem stop_trip (t : TimerId) : (p.stop t).trip = p.trip := rfl
@[simp] theorem stop_sluice (t : TimerId) : (p.stop t).sluice = p.sluice := rfl
@[simp] theorem stop_vbus (t : TimerId) : (p.stop t).vbus = p.vbus := rfl
@[simp] theorem stop_ibus (t : TimerId) : (p.stop t).ibus = p.ibus := rfl
@[simp] theorem stop_kgSoc (t : TimerId) : (p.stop t).kgSoc = p.kgSoc := rfl
@[simp] theorem stop_kgCap (t : TimerId) : (p.stop t).kgCap = p.kgCap := rfl
@[simp] theorem stop_place (t : TimerId) : (p.stop t).place = p.place := rfl
@[simp] theorem stop_pfault (t : TimerId) : (p.stop t).pfault = p.pfault := rfl
@[simp] theorem stop_evt (t : TimerId) : (p.stop t).evt = p.evt := rfl
@[simp] theorem stop_evtEn (t : TimerId) : (p.stop t).evtEn = p.evtEn := rfl
@[simp] theorem stop_power (t : TimerId) : (p.stop t).power = p.power := rfl
@[simp] theorem stop_fe (t : TimerId) : (p.stop t).fe = p.fe := rfl
@[simp] theorem stop_stg (t : TimerId) : (p.stop t).stg = p.stg := rfl
@[simp] theorem stop_q (t : TimerId) : (p.stop t).q = p.q := rfl
@[simp] theorem stop_role (t : TimerId) : (p.stop t).role = p.role := rfl
@[simp] theorem stop_ck0 (t : TimerId) : (p.stop t).ck0 = p.ck0 := rfl
@[simp] theorem stop_ck1 (t : TimerId) : (p.stop t).ck1 = p.ck1 := rfl
@[simp] theorem stop_ckNewer (t : TimerId) : (p.stop t).ckNewer = p.ckNewer := rfl
@[simp] theorem stop_fences (t : TimerId) : (p.stop t).fences = p.fences := rfl
@[simp] theorem stop_bank (t : TimerId) : (p.stop t).bank = p.bank := rfl
@[simp] theorem stop_heldCls (t : TimerId) : (p.stop t).heldCls = p.heldCls := rfl
@[simp] theorem stop_islandSink (t : TimerId) : (p.stop t).islandSink = p.islandSink := rfl
@[simp] theorem stop_rebindDue (t : TimerId) : (p.stop t).rebindDue = p.rebindDue := rfl

@[simp] theorem stopAll_cc (t : List TimerId) : (p.stopAll t).cc = p.cc := rfl
@[simp] theorem stopAll_tc (t : List TimerId) : (p.stopAll t).tc = p.tc := rfl
@[simp] theorem stopAll_pdcfg (t : List TimerId) : (p.stopAll t).pdcfg = p.pdcfg := rfl
@[simp] theorem stopAll_pdstat (t : List TimerId) : (p.stopAll t).pdstat = p.pdstat := rfl
@[simp] theorem stopAll_srccap (t : List TimerId) : (p.stopAll t).srccap = p.srccap := rfl
@[simp] theorem stopAll_contract (t : List TimerId) : (p.stopAll t).contract = p.contract := rfl
@[simp] theorem stopAll_partner (t : List TimerId) : (p.stopAll t).partner = p.partner := rfl
@[simp] theorem stopAll_alt (t : List TimerId) : (p.stopAll t).alt = p.alt := rfl
@[simp] theorem stopAll_vset (t : List TimerId) : (p.stopAll t).vset = p.vset := rfl
@[simp] theorem stopAll_ilim (t : List TimerId) : (p.stopAll t).ilim = p.ilim := rfl
@[simp] theorem stopAll_trip (t : List TimerId) : (p.stopAll t).trip = p.trip := rfl
@[simp] theorem stopAll_sluice (t : List TimerId) : (p.stopAll t).sluice = p.sluice := rfl
@[simp] theorem stopAll_vbus (t : List TimerId) : (p.stopAll t).vbus = p.vbus := rfl
@[simp] theorem stopAll_ibus (t : List TimerId) : (p.stopAll t).ibus = p.ibus := rfl
@[simp] theorem stopAll_kgSoc (t : List TimerId) : (p.stopAll t).kgSoc = p.kgSoc := rfl
@[simp] theorem stopAll_kgCap (t : List TimerId) : (p.stopAll t).kgCap = p.kgCap := rfl
@[simp] theorem stopAll_place (t : List TimerId) : (p.stopAll t).place = p.place := rfl
@[simp] theorem stopAll_pfault (t : List TimerId) : (p.stopAll t).pfault = p.pfault := rfl
@[simp] theorem stopAll_evt (t : List TimerId) : (p.stopAll t).evt = p.evt := rfl
@[simp] theorem stopAll_evtEn (t : List TimerId) : (p.stopAll t).evtEn = p.evtEn := rfl
@[simp] theorem stopAll_power (t : List TimerId) : (p.stopAll t).power = p.power := rfl
@[simp] theorem stopAll_fe (t : List TimerId) : (p.stopAll t).fe = p.fe := rfl
@[simp] theorem stopAll_stg (t : List TimerId) : (p.stopAll t).stg = p.stg := rfl
@[simp] theorem stopAll_q (t : List TimerId) : (p.stopAll t).q = p.q := rfl
@[simp] theorem stopAll_role (t : List TimerId) : (p.stopAll t).role = p.role := rfl
@[simp] theorem stopAll_ck0 (t : List TimerId) : (p.stopAll t).ck0 = p.ck0 := rfl
@[simp] theorem stopAll_ck1 (t : List TimerId) : (p.stopAll t).ck1 = p.ck1 := rfl
@[simp] theorem stopAll_ckNewer (t : List TimerId) : (p.stopAll t).ckNewer = p.ckNewer := rfl
@[simp] theorem stopAll_fences (t : List TimerId) : (p.stopAll t).fences = p.fences := rfl
@[simp] theorem stopAll_bank (t : List TimerId) : (p.stopAll t).bank = p.bank := rfl
@[simp] theorem stopAll_heldCls (t : List TimerId) : (p.stopAll t).heldCls = p.heldCls := rfl
@[simp] theorem stopAll_islandSink (t : List TimerId) : (p.stopAll t).islandSink = p.islandSink := rfl
@[simp] theorem stopAll_rebindDue (t : List TimerId) : (p.stopAll t).rebindDue = p.rebindDue := rfl

@[simp] theorem noteCable_tc : (p.noteCable).tc = p.tc := by unfold noteCable; split <;> simp
@[simp] theorem noteCable_pdcfg : (p.noteCable).pdcfg = p.pdcfg := by unfold noteCable; split <;> simp
@[simp] theorem noteCable_pdstat : (p.noteCable).pdstat = p.pdstat := by unfold noteCable; split <;> simp
@[simp] theorem noteCable_srccap : (p.noteCable).srccap = p.srccap := by unfold noteCable; split <;> simp
@[simp] theorem noteCable_contract : (p.noteCable).contract = p.contract := by unfold noteCable; split <;> simp
@[simp] theorem noteCable_partner : (p.noteCable).partner = p.partner := by unfold noteCable; split <;> simp
@[simp] theorem noteCable_alt : (p.noteCable).alt = p.alt := by unfold noteCable; split <;> simp
@[simp] theorem noteCable_vset : (p.noteCable).vset = p.vset := by unfold noteCable; split <;> simp
@[simp] theorem noteCable_ilim : (p.noteCable).ilim = p.ilim := by unfold noteCable; split <;> simp
@[simp] theorem noteCable_trip : (p.noteCable).trip = p.trip := by unfold noteCable; split <;> simp
@[simp] theorem noteCable_sluice : (p.noteCable).sluice = p.sluice := by unfold noteCable; split <;> simp
@[simp] theorem noteCable_vbus : (p.noteCable).vbus = p.vbus := by unfold noteCable; split <;> simp
@[simp] theorem noteCable_ibus : (p.noteCable).ibus = p.ibus := by unfold noteCable; split <;> simp
@[simp] theorem noteCable_kgSoc : (p.noteCable).kgSoc = p.kgSoc := by unfold noteCable; split <;> simp
@[simp] theorem noteCable_kgCap : (p.noteCable).kgCap = p.kgCap := by unfold noteCable; split <;> simp
@[simp] theorem noteCable_place : (p.noteCable).place = p.place := by unfold noteCable; split <;> simp
@[simp] theorem noteCable_pfault : (p.noteCable).pfault = p.pfault := by unfold noteCable; split <;> simp
@[simp] theorem noteCable_evtEn : (p.noteCable).evtEn = p.evtEn := by unfold noteCable; split <;> simp
@[simp] theorem noteCable_power : (p.noteCable).power = p.power := by unfold noteCable; split <;> simp
@[simp] theorem noteCable_fe : (p.noteCable).fe = p.fe := by unfold noteCable; split <;> simp
@[simp] theorem noteCable_rg : (p.noteCable).rg = p.rg := by unfold noteCable; split <;> simp
@[simp] theorem noteCable_stg : (p.noteCable).stg = p.stg := by unfold noteCable; split <;> simp
@[simp] theorem noteCable_role : (p.noteCable).role = p.role := by unfold noteCable; split <;> simp
@[simp] theorem noteCable_ck0 : (p.noteCable).ck0 = p.ck0 := by unfold noteCable; split <;> simp
@[simp] theorem noteCable_ck1 : (p.noteCable).ck1 = p.ck1 := by unfold noteCable; split <;> simp
@[simp] theorem noteCable_ckNewer : (p.noteCable).ckNewer = p.ckNewer := by unfold noteCable; split <;> simp
@[simp] theorem noteCable_fences : (p.noteCable).fences = p.fences := by unfold noteCable; split <;> simp
@[simp] theorem noteCable_bank : (p.noteCable).bank = p.bank := by unfold noteCable; split <;> simp
@[simp] theorem noteCable_heldCls : (p.noteCable).heldCls = p.heldCls := by unfold noteCable; split <;> simp
@[simp] theorem noteCable_islandSink : (p.noteCable).islandSink = p.islandSink := by unfold noteCable; split <;> simp
@[simp] theorem noteCable_rebindDue : (p.noteCable).rebindDue = p.rebindDue := by unfold noteCable; split <;> simp

@[simp] theorem startDebounce_tc : (p.startDebounce).tc = p.tc := by
  unfold startDebounce
  simp only
  repeat' split
  all_goals simp
@[simp] theorem startDebounce_pdcfg : (p.startDebounce).pdcfg = p.pdcfg := by
  unfold startDebounce
  simp only
  repeat' split
  all_goals simp
@[simp] theorem startDebounce_pdstat : (p.startDebounce).pdstat = p.pdstat := by
  unfold startDebounce
  simp only
  repeat' split
  all_goals simp
@[simp] theorem startDebounce_srccap : (p.startDebounce).srccap = p.srccap := by
  unfold startDebounce
  simp only
  repeat' split
  all_goals simp
@[simp] theorem startDebounce_contract : (p.startDebounce).contract = p.contract := by
  unfold startDebounce
  simp only
  repeat' split
  all_goals simp
@[simp] theorem startDebounce_partner : (p.startDebounce).partner = p.partner := by
  unfold startDebounce
  simp only
  repeat' split
  all_goals simp
@[simp] theorem startDebounce_alt : (p.startDebounce).alt = p.alt := by
  unfold startDebounce
  simp only
  repeat' split
  all_goals simp
@[simp] theorem startDebounce_vset : (p.startDebounce).vset = p.vset := by
  unfold startDebounce
  simp only
  repeat' split
  all_goals simp
@[simp] theorem startDebounce_ilim : (p.startDebounce).ilim = p.ilim := by
  unfold startDebounce
  simp only
  repeat' split
  all_goals simp
@[simp] theorem startDebounce_trip : (p.startDebounce).trip = p.trip := by
  unfold startDebounce
  simp only
  repeat' split
  all_goals simp
@[simp] theorem startDebounce_sluice : (p.startDebounce).sluice = p.sluice := by
  unfold startDebounce
  simp only
  repeat' split
  all_goals simp
@[simp] theorem startDebounce_vbus : (p.startDebounce).vbus = p.vbus := by
  unfold startDebounce
  simp only
  repeat' split
  all_goals simp
@[simp] theorem startDebounce_ibus : (p.startDebounce).ibus = p.ibus := by
  unfold startDebounce
  simp only
  repeat' split
  all_goals simp
@[simp] theorem startDebounce_kgSoc : (p.startDebounce).kgSoc = p.kgSoc := by
  unfold startDebounce
  simp only
  repeat' split
  all_goals simp
@[simp] theorem startDebounce_kgCap : (p.startDebounce).kgCap = p.kgCap := by
  unfold startDebounce
  simp only
  repeat' split
  all_goals simp
@[simp] theorem startDebounce_place : (p.startDebounce).place = p.place := by
  unfold startDebounce
  simp only
  repeat' split
  all_goals simp
@[simp] theorem startDebounce_pfault : (p.startDebounce).pfault = p.pfault := by
  unfold startDebounce
  simp only
  repeat' split
  all_goals simp
@[simp] theorem startDebounce_evtEn : (p.startDebounce).evtEn = p.evtEn := by
  unfold startDebounce
  simp only
  repeat' split
  all_goals simp
@[simp] theorem startDebounce_power : (p.startDebounce).power = p.power := by
  unfold startDebounce
  simp only
  repeat' split
  all_goals simp
@[simp] theorem startDebounce_fe : (p.startDebounce).fe = p.fe := by
  unfold startDebounce
  simp only
  repeat' split
  all_goals simp
@[simp] theorem startDebounce_stg : (p.startDebounce).stg = p.stg := by
  unfold startDebounce
  simp only
  repeat' split
  all_goals simp
@[simp] theorem startDebounce_role : (p.startDebounce).role = p.role := by
  unfold startDebounce
  simp only
  repeat' split
  all_goals simp
@[simp] theorem startDebounce_ck0 : (p.startDebounce).ck0 = p.ck0 := by
  unfold startDebounce
  simp only
  repeat' split
  all_goals simp
@[simp] theorem startDebounce_ck1 : (p.startDebounce).ck1 = p.ck1 := by
  unfold startDebounce
  simp only
  repeat' split
  all_goals simp
@[simp] theorem startDebounce_ckNewer : (p.startDebounce).ckNewer = p.ckNewer := by
  unfold startDebounce
  simp only
  repeat' split
  all_goals simp
@[simp] theorem startDebounce_fences : (p.startDebounce).fences = p.fences := by
  unfold startDebounce
  simp only
  repeat' split
  all_goals simp
@[simp] theorem startDebounce_bank : (p.startDebounce).bank = p.bank := by
  unfold startDebounce
  simp only
  repeat' split
  all_goals simp
@[simp] theorem startDebounce_heldCls : (p.startDebounce).heldCls = p.heldCls := by
  unfold startDebounce
  simp only
  repeat' split
  all_goals simp
@[simp] theorem startDebounce_islandSink : (p.startDebounce).islandSink = p.islandSink := by
  unfold startDebounce
  simp only
  repeat' split
  all_goals simp
@[simp] theorem startDebounce_rebindDue : (p.startDebounce).rebindDue = p.rebindDue := by
  unfold startDebounce
  simp only
  repeat' split
  all_goals simp

@[simp] theorem toState_cc (st : TcState) : (p.toState st).cc = p.cc := rfl
@[simp] theorem toState_pdcfg (st : TcState) : (p.toState st).pdcfg = p.pdcfg := rfl
@[simp] theorem toState_pdstat (st : TcState) : (p.toState st).pdstat = p.pdstat := rfl
@[simp] theorem toState_srccap (st : TcState) : (p.toState st).srccap = p.srccap := rfl
@[simp] theorem toState_contract (st : TcState) : (p.toState st).contract = p.contract := rfl
@[simp] theorem toState_partner (st : TcState) : (p.toState st).partner = p.partner := rfl
@[simp] theorem toState_alt (st : TcState) : (p.toState st).alt = p.alt := rfl
@[simp] theorem toState_vset (st : TcState) : (p.toState st).vset = p.vset := rfl
@[simp] theorem toState_ilim (st : TcState) : (p.toState st).ilim = p.ilim := rfl
@[simp] theorem toState_trip (st : TcState) : (p.toState st).trip = p.trip := rfl
@[simp] theorem toState_sluice (st : TcState) : (p.toState st).sluice = p.sluice := rfl
@[simp] theorem toState_vbus (st : TcState) : (p.toState st).vbus = p.vbus := rfl
@[simp] theorem toState_ibus (st : TcState) : (p.toState st).ibus = p.ibus := rfl
@[simp] theorem toState_kgSoc (st : TcState) : (p.toState st).kgSoc = p.kgSoc := rfl
@[simp] theorem toState_kgCap (st : TcState) : (p.toState st).kgCap = p.kgCap := rfl
@[simp] theorem toState_place (st : TcState) : (p.toState st).place = p.place := rfl
@[simp] theorem toState_pfault (st : TcState) : (p.toState st).pfault = p.pfault := rfl
@[simp] theorem toState_evt (st : TcState) : (p.toState st).evt = p.evt := rfl
@[simp] theorem toState_evtEn (st : TcState) : (p.toState st).evtEn = p.evtEn := rfl
@[simp] theorem toState_power (st : TcState) : (p.toState st).power = p.power := rfl
@[simp] theorem toState_fe (st : TcState) : (p.toState st).fe = p.fe := rfl
@[simp] theorem toState_stg (st : TcState) : (p.toState st).stg = p.stg := rfl
@[simp] theorem toState_q (st : TcState) : (p.toState st).q = p.q := rfl
@[simp] theorem toState_role (st : TcState) : (p.toState st).role = p.role := rfl
@[simp] theorem toState_ck0 (st : TcState) : (p.toState st).ck0 = p.ck0 := rfl
@[simp] theorem toState_ck1 (st : TcState) : (p.toState st).ck1 = p.ck1 := rfl
@[simp] theorem toState_ckNewer (st : TcState) : (p.toState st).ckNewer = p.ckNewer := rfl
@[simp] theorem toState_fences (st : TcState) : (p.toState st).fences = p.fences := rfl
@[simp] theorem toState_bank (st : TcState) : (p.toState st).bank = p.bank := rfl
@[simp] theorem toState_heldCls (st : TcState) : (p.toState st).heldCls = p.heldCls := rfl
@[simp] theorem toState_islandSink (st : TcState) : (p.toState st).islandSink = p.islandSink := rfl
@[simp] theorem toState_rebindDue (st : TcState) : (p.toState st).rebindDue = p.rebindDue := rfl

@[simp] theorem toState_tc (st : TcState) :
    (p.toState st).tc = { p.tc with state := st, prevState := p.tc.state, rpProbing := false } := rfl

@[simp] theorem latchCfg_cc : p.latchCfg.cc = p.cc := rfl
@[simp] theorem latchCfg_pdcfg : p.latchCfg.pdcfg = p.pdcfg := rfl
@[simp] theorem latchCfg_pdstat : p.latchCfg.pdstat = p.pdstat := rfl
@[simp] theorem latchCfg_srccap : p.latchCfg.srccap = p.srccap := rfl
@[simp] theorem latchCfg_contract : p.latchCfg.contract = p.contract := rfl
@[simp] theorem latchCfg_partner : p.latchCfg.partner = p.partner := rfl
@[simp] theorem latchCfg_alt : p.latchCfg.alt = p.alt := rfl
@[simp] theorem latchCfg_vset : p.latchCfg.vset = p.vset := rfl
@[simp] theorem latchCfg_ilim : p.latchCfg.ilim = p.ilim := rfl
@[simp] theorem latchCfg_trip : p.latchCfg.trip = p.trip := rfl
@[simp] theorem latchCfg_sluice : p.latchCfg.sluice = p.sluice := rfl
@[simp] theorem latchCfg_vbus : p.latchCfg.vbus = p.vbus := rfl
@[simp] theorem latchCfg_ibus : p.latchCfg.ibus = p.ibus := rfl
@[simp] theorem latchCfg_kgSoc : p.latchCfg.kgSoc = p.kgSoc := rfl
@[simp] theorem latchCfg_kgCap : p.latchCfg.kgCap = p.kgCap := rfl
@[simp] theorem latchCfg_place : p.latchCfg.place = p.place := rfl
@[simp] theorem latchCfg_pfault : p.latchCfg.pfault = p.pfault := rfl
@[simp] theorem latchCfg_evt : p.latchCfg.evt = p.evt := rfl
@[simp] theorem latchCfg_evtEn : p.latchCfg.evtEn = p.evtEn := rfl
@[simp] theorem latchCfg_power : p.latchCfg.power = p.power := rfl
@[simp] theorem latchCfg_fe : p.latchCfg.fe = p.fe := rfl
@[simp] theorem latchCfg_stg : p.latchCfg.stg = p.stg := rfl
@[simp] theorem latchCfg_q : p.latchCfg.q = p.q := rfl
@[simp] theorem latchCfg_role : p.latchCfg.role = p.role := rfl
@[simp] theorem latchCfg_ck0 : p.latchCfg.ck0 = p.ck0 := rfl
@[simp] theorem latchCfg_ck1 : p.latchCfg.ck1 = p.ck1 := rfl
@[simp] theorem latchCfg_ckNewer : p.latchCfg.ckNewer = p.ckNewer := rfl
@[simp] theorem latchCfg_fences : p.latchCfg.fences = p.fences := rfl
@[simp] theorem latchCfg_bank : p.latchCfg.bank = p.bank := rfl
@[simp] theorem latchCfg_heldCls : p.latchCfg.heldCls = p.heldCls := rfl
@[simp] theorem latchCfg_islandSink : p.latchCfg.islandSink = p.islandSink := rfl
@[simp] theorem latchCfg_rebindDue : p.latchCfg.rebindDue = p.rebindDue := rfl
@[simp] theorem latchCfg_tc : p.latchCfg.tc = p.tc := rfl

@[simp] theorem toUnattachedSt_cc (st : TcState) : (p.toUnattachedSt st).cc = p.cc := by
  unfold toUnattachedSt
  simp only
  split <;> simp
@[simp] theorem toUnattachedSt_pdcfg (st : TcState) : (p.toUnattachedSt st).pdcfg = p.pdcfg := by
  unfold toUnattachedSt
  simp only
  split <;> simp
@[simp] theorem toUnattachedSt_pdstat (st : TcState) : (p.toUnattachedSt st).pdstat = p.pdstat := by
  unfold toUnattachedSt
  simp only
  split <;> simp
@[simp] theorem toUnattachedSt_srccap (st : TcState) : (p.toUnattachedSt st).srccap = p.srccap := by
  unfold toUnattachedSt
  simp only
  split <;> simp
@[simp] theorem toUnattachedSt_contract (st : TcState) : (p.toUnattachedSt st).contract = p.contract := by
  unfold toUnattachedSt
  simp only
  split <;> simp
@[simp] theorem toUnattachedSt_partner (st : TcState) : (p.toUnattachedSt st).partner = p.partner := by
  unfold toUnattachedSt
  simp only
  split <;> simp
@[simp] theorem toUnattachedSt_alt (st : TcState) : (p.toUnattachedSt st).alt = p.alt := by
  unfold toUnattachedSt
  simp only
  split <;> simp
@[simp] theorem toUnattachedSt_vset (st : TcState) : (p.toUnattachedSt st).vset = p.vset := by
  unfold toUnattachedSt
  simp only
  split <;> simp
@[simp] theorem toUnattachedSt_ilim (st : TcState) : (p.toUnattachedSt st).ilim = p.ilim := by
  unfold toUnattachedSt
  simp only
  split <;> simp
@[simp] theorem toUnattachedSt_trip (st : TcState) : (p.toUnattachedSt st).trip = p.trip := by
  unfold toUnattachedSt
  simp only
  split <;> simp
@[simp] theorem toUnattachedSt_sluice (st : TcState) : (p.toUnattachedSt st).sluice = p.sluice := by
  unfold toUnattachedSt
  simp only
  split <;> simp
@[simp] theorem toUnattachedSt_vbus (st : TcState) : (p.toUnattachedSt st).vbus = p.vbus := by
  unfold toUnattachedSt
  simp only
  split <;> simp
@[simp] theorem toUnattachedSt_ibus (st : TcState) : (p.toUnattachedSt st).ibus = p.ibus := by
  unfold toUnattachedSt
  simp only
  split <;> simp
@[simp] theorem toUnattachedSt_kgSoc (st : TcState) : (p.toUnattachedSt st).kgSoc = p.kgSoc := by
  unfold toUnattachedSt
  simp only
  split <;> simp
@[simp] theorem toUnattachedSt_kgCap (st : TcState) : (p.toUnattachedSt st).kgCap = p.kgCap := by
  unfold toUnattachedSt
  simp only
  split <;> simp
@[simp] theorem toUnattachedSt_place (st : TcState) : (p.toUnattachedSt st).place = p.place := by
  unfold toUnattachedSt
  simp only
  split <;> simp
@[simp] theorem toUnattachedSt_pfault (st : TcState) : (p.toUnattachedSt st).pfault = p.pfault := by
  unfold toUnattachedSt
  simp only
  split <;> simp
@[simp] theorem toUnattachedSt_evt (st : TcState) : (p.toUnattachedSt st).evt = p.evt := by
  unfold toUnattachedSt
  simp only
  split <;> simp
@[simp] theorem toUnattachedSt_evtEn (st : TcState) : (p.toUnattachedSt st).evtEn = p.evtEn := by
  unfold toUnattachedSt
  simp only
  split <;> simp
@[simp] theorem toUnattachedSt_power (st : TcState) : (p.toUnattachedSt st).power = p.power := by
  unfold toUnattachedSt
  simp only
  split <;> simp
@[simp] theorem toUnattachedSt_fe (st : TcState) : (p.toUnattachedSt st).fe = p.fe := by
  unfold toUnattachedSt
  simp only
  split <;> simp
@[simp] theorem toUnattachedSt_stg (st : TcState) : (p.toUnattachedSt st).stg = p.stg := by
  unfold toUnattachedSt
  simp only
  split <;> simp
@[simp] theorem toUnattachedSt_q (st : TcState) : (p.toUnattachedSt st).q = p.q := by
  unfold toUnattachedSt
  simp only
  split <;> simp
@[simp] theorem toUnattachedSt_role (st : TcState) : (p.toUnattachedSt st).role = p.role := by
  unfold toUnattachedSt
  simp only
  split <;> simp
@[simp] theorem toUnattachedSt_ck0 (st : TcState) : (p.toUnattachedSt st).ck0 = p.ck0 := by
  unfold toUnattachedSt
  simp only
  split <;> simp
@[simp] theorem toUnattachedSt_ck1 (st : TcState) : (p.toUnattachedSt st).ck1 = p.ck1 := by
  unfold toUnattachedSt
  simp only
  split <;> simp
@[simp] theorem toUnattachedSt_ckNewer (st : TcState) : (p.toUnattachedSt st).ckNewer = p.ckNewer := by
  unfold toUnattachedSt
  simp only
  split <;> simp
@[simp] theorem toUnattachedSt_fences (st : TcState) : (p.toUnattachedSt st).fences = p.fences := by
  unfold toUnattachedSt
  simp only
  split <;> simp
@[simp] theorem toUnattachedSt_bank (st : TcState) : (p.toUnattachedSt st).bank = p.bank := by
  unfold toUnattachedSt
  simp only
  split <;> simp
@[simp] theorem toUnattachedSt_heldCls (st : TcState) : (p.toUnattachedSt st).heldCls = p.heldCls := by
  unfold toUnattachedSt
  simp only
  split <;> simp
@[simp] theorem toUnattachedSt_islandSink (st : TcState) : (p.toUnattachedSt st).islandSink = p.islandSink := by
  unfold toUnattachedSt
  simp only
  split <;> simp
@[simp] theorem toUnattachedSt_rebindDue (st : TcState) : (p.toUnattachedSt st).rebindDue = p.rebindDue := by
  unfold toUnattachedSt
  simp only
  split <;> simp

@[simp] theorem toUnattachedSt_tc (st : TcState) : (p.toUnattachedSt st).tc =
    { p.tc with state := st, prevState := p.tc.state, rpProbing := decide (p.cc.rpPeriod ≠ 0#4) } := by
  unfold toUnattachedSt
  simp only
  split <;> rfl

@[simp] theorem endAttach_cc (c : BitVec 3) : (p.endAttach c).cc = p.cc := by
  unfold endAttach
  simp only
  split <;> simp
@[simp] theorem endAttach_pdcfg (c : BitVec 3) : (p.endAttach c).pdcfg = p.pdcfg := by
  unfold endAttach
  simp only
  split <;> simp
@[simp] theorem endAttach_pdstat (c : BitVec 3) : (p.endAttach c).pdstat = p.pdstat := by
  unfold endAttach
  simp only
  split <;> simp
@[simp] theorem endAttach_srccap (c : BitVec 3) : (p.endAttach c).srccap = p.srccap := by
  unfold endAttach
  simp only
  split <;> simp
@[simp] theorem endAttach_contract (c : BitVec 3) : (p.endAttach c).contract = p.contract := by
  unfold endAttach
  simp only
  split <;> simp
@[simp] theorem endAttach_partner (c : BitVec 3) : (p.endAttach c).partner = p.partner := by
  unfold endAttach
  simp only
  split <;> simp
@[simp] theorem endAttach_alt (c : BitVec 3) : (p.endAttach c).alt = p.alt := by
  unfold endAttach
  simp only
  split <;> simp
@[simp] theorem endAttach_vset (c : BitVec 3) : (p.endAttach c).vset = p.vset := by
  unfold endAttach
  simp only
  split <;> simp
@[simp] theorem endAttach_ilim (c : BitVec 3) : (p.endAttach c).ilim = p.ilim := by
  unfold endAttach
  simp only
  split <;> simp
@[simp] theorem endAttach_trip (c : BitVec 3) : (p.endAttach c).trip = p.trip := by
  unfold endAttach
  simp only
  split <;> simp
@[simp] theorem endAttach_sluice (c : BitVec 3) : (p.endAttach c).sluice = p.sluice := by
  unfold endAttach
  simp only
  split <;> simp
@[simp] theorem endAttach_vbus (c : BitVec 3) : (p.endAttach c).vbus = p.vbus := by
  unfold endAttach
  simp only
  split <;> simp
@[simp] theorem endAttach_ibus (c : BitVec 3) : (p.endAttach c).ibus = p.ibus := by
  unfold endAttach
  simp only
  split <;> simp
@[simp] theorem endAttach_kgSoc (c : BitVec 3) : (p.endAttach c).kgSoc = p.kgSoc := by
  unfold endAttach
  simp only
  split <;> simp
@[simp] theorem endAttach_kgCap (c : BitVec 3) : (p.endAttach c).kgCap = p.kgCap := by
  unfold endAttach
  simp only
  split <;> simp
@[simp] theorem endAttach_place (c : BitVec 3) : (p.endAttach c).place = p.place := by
  unfold endAttach
  simp only
  split <;> simp
@[simp] theorem endAttach_pfault (c : BitVec 3) : (p.endAttach c).pfault = p.pfault := by
  unfold endAttach
  simp only
  split <;> simp
@[simp] theorem endAttach_evtEn (c : BitVec 3) : (p.endAttach c).evtEn = p.evtEn := by
  unfold endAttach
  simp only
  split <;> simp
@[simp] theorem endAttach_power (c : BitVec 3) : (p.endAttach c).power = p.power := by
  unfold endAttach
  simp only
  split <;> simp
@[simp] theorem endAttach_fe (c : BitVec 3) : (p.endAttach c).fe = p.fe := by
  unfold endAttach
  simp only
  split <;> simp
@[simp] theorem endAttach_stg (c : BitVec 3) : (p.endAttach c).stg = p.stg := by
  unfold endAttach
  simp only
  split <;> simp
@[simp] theorem endAttach_role (c : BitVec 3) : (p.endAttach c).role = p.role := by
  unfold endAttach
  simp only
  split <;> simp
@[simp] theorem endAttach_ck0 (c : BitVec 3) : (p.endAttach c).ck0 = p.ck0 := by
  unfold endAttach
  simp only
  split <;> simp
@[simp] theorem endAttach_ck1 (c : BitVec 3) : (p.endAttach c).ck1 = p.ck1 := by
  unfold endAttach
  simp only
  split <;> simp
@[simp] theorem endAttach_ckNewer (c : BitVec 3) : (p.endAttach c).ckNewer = p.ckNewer := by
  unfold endAttach
  simp only
  split <;> simp
@[simp] theorem endAttach_fences (c : BitVec 3) : (p.endAttach c).fences = p.fences := by
  unfold endAttach
  simp only
  split <;> simp
@[simp] theorem endAttach_bank (c : BitVec 3) : (p.endAttach c).bank = p.bank := by
  unfold endAttach
  simp only
  split <;> simp
@[simp] theorem endAttach_heldCls (c : BitVec 3) : (p.endAttach c).heldCls = p.heldCls := by
  unfold endAttach
  simp only
  split <;> simp
@[simp] theorem endAttach_islandSink (c : BitVec 3) : (p.endAttach c).islandSink = p.islandSink := by
  unfold endAttach
  simp only
  split <;> simp
@[simp] theorem endAttach_rebindDue (c : BitVec 3) : (p.endAttach c).rebindDue = p.rebindDue := by
  unfold endAttach
  simp only
  split <;> simp

@[simp] theorem endAttach_tc (c : BitVec 3) :
    (p.endAttach c).tc = { p.tc with detachCause := c, dbAttach := false } := by
  unfold endAttach
  simp only
  split <;> simp

/-- A port with what belongs to a session blanked: the registers, front end, region and role that an end of a session
changes. -/
def lasting (p : Port) : Port :=
  { p with cc := PCc.reset, pdstat := PPdstat.reset, contract := PContract.reset, partner := PPartner.reset,
           vset := PVset.reset, ilim := PIlim.reset, sluice := PSluice.reset, fe := FrontEnd.init, rg := Region.init,
           role := RoleState.init }

theorem setLineCode_lasting (a : Bool) (c : BitVec 3) : (p.setLineCode a c).lasting = p.lasting := by
  unfold setLineCode
  split <;> rfl

theorem airEnd_lasting : p.airEnd.lasting = p.lasting := by
  unfold airEnd
  split
  · exact setLineCode_lasting _ _ _
  · rfl

theorem vcnOff_lasting : p.vcnOff.lasting = p.lasting := by
  unfold vcnOff
  split
  · exact setLineCode_lasting p _ _
  · rfl

theorem discharge_lasting : p.discharge.lasting = p.lasting := by
  unfold discharge
  split <;> rfl

theorem autoSlowIdle_lasting : p.autoSlowIdle.lasting = p.lasting := by
  unfold autoSlowIdle
  split <;> rfl

theorem abortTx_lasting : p.abortTx.lasting = p.lasting := airEnd_lasting p

theorem clearPd_lasting : p.clearPd.lasting = p.lasting := abortTx_lasting p

theorem clearContract_lasting : p.clearContract.lasting = p.lasting := autoSlowIdle_lasting _

theorem hold_lasting : p.hold.lasting = p.lasting := rfl

theorem vsetZero_lasting : p.vsetZero.lasting = p.lasting := rfl

theorem roleEnd_lasting : p.roleEnd.lasting = p.lasting := rfl

theorem sessionClear_lasting : p.sessionClear.lasting = p.lasting := rfl

/-- An end of a session leaves every other part of the port. -/
theorem endSession_lasting : p.endSession.lasting = p.lasting := by
  unfold endSession
  simp only [roleEnd_lasting, clearPd_lasting, clearContract_lasting, sessionClear_lasting]
  split <;>
    simp only [discharge_lasting, vcnOff_lasting, vsetZero_lasting, hold_lasting, airEnd_lasting]

@[simp] theorem endSession_tc : p.endSession.tc = p.tc := (congrArg Port.tc (endSession_lasting p) :)
@[simp] theorem endSession_pdcfg : p.endSession.pdcfg = p.pdcfg := (congrArg Port.pdcfg (endSession_lasting p) :)
@[simp] theorem endSession_srccap : p.endSession.srccap = p.srccap := (congrArg Port.srccap (endSession_lasting p) :)
@[simp] theorem endSession_alt : p.endSession.alt = p.alt := (congrArg Port.alt (endSession_lasting p) :)
@[simp] theorem endSession_trip : p.endSession.trip = p.trip := (congrArg Port.trip (endSession_lasting p) :)
@[simp] theorem endSession_vbus : p.endSession.vbus = p.vbus := (congrArg Port.vbus (endSession_lasting p) :)
@[simp] theorem endSession_ibus : p.endSession.ibus = p.ibus := (congrArg Port.ibus (endSession_lasting p) :)
@[simp] theorem endSession_kgSoc : p.endSession.kgSoc = p.kgSoc := (congrArg Port.kgSoc (endSession_lasting p) :)
@[simp] theorem endSession_kgCap : p.endSession.kgCap = p.kgCap := (congrArg Port.kgCap (endSession_lasting p) :)
@[simp] theorem endSession_place : p.endSession.place = p.place := (congrArg Port.place (endSession_lasting p) :)
@[simp] theorem endSession_pfault : p.endSession.pfault = p.pfault := (congrArg Port.pfault (endSession_lasting p) :)
@[simp] theorem endSession_evt : p.endSession.evt = p.evt := (congrArg Port.evt (endSession_lasting p) :)
@[simp] theorem endSession_evtEn : p.endSession.evtEn = p.evtEn := (congrArg Port.evtEn (endSession_lasting p) :)
@[simp] theorem endSession_power : p.endSession.power = p.power := (congrArg Port.power (endSession_lasting p) :)
@[simp] theorem endSession_stg : p.endSession.stg = p.stg := (congrArg Port.stg (endSession_lasting p) :)
@[simp] theorem endSession_q : p.endSession.q = p.q := (congrArg Port.q (endSession_lasting p) :)
@[simp] theorem endSession_ck0 : p.endSession.ck0 = p.ck0 := (congrArg Port.ck0 (endSession_lasting p) :)
@[simp] theorem endSession_ck1 : p.endSession.ck1 = p.ck1 := (congrArg Port.ck1 (endSession_lasting p) :)
@[simp] theorem endSession_ckNewer : p.endSession.ckNewer = p.ckNewer := (congrArg Port.ckNewer (endSession_lasting p) :)
@[simp] theorem endSession_fences : p.endSession.fences = p.fences := (congrArg Port.fences (endSession_lasting p) :)
@[simp] theorem endSession_bank : p.endSession.bank = p.bank := (congrArg Port.bank (endSession_lasting p) :)
@[simp] theorem endSession_heldCls : p.endSession.heldCls = p.heldCls := (congrArg Port.heldCls (endSession_lasting p) :)
@[simp] theorem endSession_islandSink : p.endSession.islandSink = p.islandSink := (congrArg Port.islandSink (endSession_lasting p) :)
@[simp] theorem endSession_rebindDue : p.endSession.rebindDue = p.rebindDue := (congrArg Port.rebindDue (endSession_lasting p) :)

@[simp] theorem start_rg (t : TimerId) :
    (p.start t).rg = { p.rg with timers := t :: p.rg.timers.filter (· ≠ t) } := rfl
@[simp] theorem stop_rg (t : TimerId) : (p.stop t).rg = { p.rg with timers := p.rg.timers.filter (· ≠ t) } := rfl
@[simp] theorem stopAll_rg (ts : List TimerId) :
    (p.stopAll ts).rg = { p.rg with timers := p.rg.timers.filter (· ∉ ts) } := rfl

/-- What the end of a session makes certain: the path, the duty of VSET, VCN, P_PARTNER, POLARITY and VCONN_ON; and whether
the attach was announced. -/
def ended (p : Port) : Path × BitVec 12 × Bool × PPartner × Bool × Bool × Bool :=
  (p.fe.path, p.vset.duty, p.fe.vcnDriven, p.partner, p.cc.polarity, p.cc.vconnOn, p.rg.announced)

theorem setLineCode_ended (a : Bool) (c : BitVec 3) : (p.setLineCode a c).ended = p.ended := by
  unfold setLineCode
  split <;> rfl

theorem airEnd_ended : p.airEnd.ended = p.ended := by
  unfold airEnd
  split
  · exact setLineCode_ended _ _ _
  · rfl

theorem discharge_ended : p.discharge.ended = p.ended := by
  unfold discharge
  split <;> rfl

theorem clearPd_ended : p.clearPd.ended = p.ended := airEnd_ended p

theorem clearContract_ended : p.clearContract.ended = p.ended := by
  unfold clearContract autoSlowIdle
  split <;> rfl

theorem vcnOff_ended : p.vcnOff.ended = (p.fe.path, p.vset.duty, false, p.partner, p.cc.polarity, false, p.rg.announced) := by
  unfold vcnOff setLineCode
  repeat' split
  all_goals rfl

/-- What every end of a session leaves: both pairs hold, VCONN and VSET are off, the contract and P_PARTNER are gone
(R59, R63, R136, R137). -/
theorem endSession_spec :
    p.endSession.ended = (.none, 0#12, false, PPartner.reset, false, false, p.rg.announced) ∧
      p.endSession.contract = PContract.reset := by
  have ha : p.airEnd.rg.announced = p.rg.announced := (congrArg (fun x => x.2.2.2.2.2.2) (airEnd_ended p) :)
  have hv : p.airEnd.hold.vsetZero.vcnOff.ended =
      (.none, 0#12, false, p.airEnd.partner, p.airEnd.cc.polarity, false, p.rg.announced) :=
    (vcnOff_ended _).trans (by rw [← ha]; rfl)
  have hs (q : Port) (h : q.ended =
      (.none, 0#12, false, p.airEnd.partner, p.airEnd.cc.polarity, false, p.rg.announced)) :
      q.sessionClear.clearContract.clearPd.roleEnd.ended =
        (.none, 0#12, false, PPartner.reset, false, false, p.rg.announced) := by
    have hr (q : Port) : q.roleEnd.ended = q.ended := rfl
    rw [hr, clearPd_ended, clearContract_ended]
    simp only [ended, Prod.mk.injEq] at h
    obtain ⟨a, b, c, -, -, d, e⟩ := h
    simp only [ended, sessionClear, a, b, c, d, e]
  have hk (q : Port) : q.clearContract.clearPd.roleEnd.contract = PContract.reset := by
    unfold clearContract autoSlowIdle clearPd abortTx airEnd setLineCode
    repeat' split
    all_goals rfl
  refine ⟨?_, hk _⟩
  unfold endSession
  apply hs
  split
  · exact hv
  · rw [discharge_ended, hv]

/-- An event sets its P_EVT bit (R475). -/
@[simp] theorem flagged_post_self (e : PEvent) (pl : W36) : (p.post e pl).flagged e = e.bit.isSome := by
  cases e <;> simp [post, flagged, PEvent.bit, pushGroup]

/-- An event leaves the bits of the others as they are. -/
theorem flagged_post_of {e f : PEvent} (pl : W36) (h : p.flagged f = true) : (p.post e pl).flagged f = true := by
  unfold post
  split
  · revert h
    unfold flagged
    split
    · simp [pushGroup]
      tauto
    · simp
  · exact h

/-- A timer runs once it is started (R66). -/
@[simp] theorem timerOn_start (t u : TimerId) : (p.start t).timerOn u = (decide (u = t) || p.timerOn u) := by
  by_cases h : u = t <;> simp [timerOn, start, h]

@[simp] theorem timerOn_stop (t u : TimerId) : (p.stop t).timerOn u = (decide (u ≠ t) && p.timerOn u) := by
  by_cases h : u = t <;> simp [timerOn, stop, h]

@[simp] theorem timerOn_stopAll (ts : List TimerId) (u : TimerId) :
    (p.stopAll ts).timerOn u = (decide (u ∉ ts) && p.timerOn u) := by
  by_cases h : u ∈ ts <;> simp [timerOn, stopAll, h]

@[simp] theorem timerOn_post (e : PEvent) (pl : W36) (t : TimerId) : (p.post e pl).timerOn t = p.timerOn t := by
  unfold post
  split <;> rfl

end Sys2Proof.Machine.Port
end

