-- ==== Sys2Proof/WellFormed.lean ====
section
/-! DEFINITION. The operand values that a command admits where its type holds more: ranges that the spec gives and that the
operand types do not. `exec` is total all the same. -/

namespace Sys2Proof

/-- Sense results name words of the fuse array: 512 words (spec/15_fuses_secure_start.md R400). -/
def sensedOk (up : List (Nat × BitVec 44)) : Bool := up.all fun x => decide (x.1 < 512)

/-- A frame carries at most 7 objects, or 260 data bytes in an extended message, under one of the five ordered sets
(spec/03_pd_protocol.md R71, R80). -/
def frameOk (f : Frame) : Bool := decide (f.sop ≤ 4#3 ∧ f.objs.length ≤ 65)

/-- A row of the shared SRAM, or of the code or data array of a core (spec/09_quarry_migration.md R277,
spec/11_cores_queues.md R335). -/
def rowOk (k : Option CoreId) (data : Bool) (row : Nat) : Bool :=
  match k with
  | none => decide (row < 65536)
  | some _ => if data then decide (row < 8192) else decide (row < 4096)

/-- Whether the operands of a command lie in the ranges that the spec gives it. -/
def Instr.wf (i : Instr) : Bool :=
  match i with
  | .registerWrite _ _ _ => true
  | .por _ _ _ => true
  | .porRelease _ _ _ _ _ up vb _ _ => sensedOk up && decide (vb.length ≤ 192)
  | .bor => true
  | .pinReset _ => true
  | .pinRelease => true
  | .sysReset _ _ => true
  | .sysResetStart => true
  | .sysResetRelease => true
  | .pldCommand _ _ _ => true
  | .dieCheckFail _ => true
  | .pldEnd _ => true
  | .harvestStart _ => true
  | .islandRelease _ _ _ _ up vb _ _ => sensedOk up && decide (vb.length ≤ 192)
  | .dbHandover _ _ vb _ _ => decide (vb.length ≤ 192)
  | .islandPowerDown => true
  | .supplyS6Level _ => true
  | .vddioLost => true
  | .heartbeat _ _ => true
  | .heartbeatLoss _ => true
  | .passCommand _ _ => true
  | .holdCommand _ => true
  | .fullEnh _ => true
  | .ccShort _ _ => true
  | .ovp _ _ => true
  | .ocFast _ _ _ => true
  | .revI _ _ => true
  | .ocSlow _ _ _ => true
  | .otpDie _ => true
  | .otpNtc _ => true
  | .vgdLow _ => true
  | .gateI _ => true
  | .sluiceClear _ _ => true
  | .lockClr _ => true
  | .breachWindowExpiry _ => true
  | .senseModeWrite _ _ => true
  | .foreignVbus _ _ _ => true
  | .dischargeTimeout _ => true
  | .vsetLoopUpdate _ _ => true
  | .ronUpdate _ => true
  | .meteringTick _ _ _ _ _ => true
  | .shuntOffsetSample _ _ => true
  | .currentLimitEntry _ _ => true
  | .currentLimitExit _ _ => true
  | .clFloorTimeout _ _ => true
  | .undervoltageTimeout _ _ => true
  | .measureDone _ _ => true
  | .frontEndCheckFail _ _ => true
  | .retry _ => true
  | .ntcFault _ => true
  | .probe _ _ _ => true
  | .drpToggle _ => true
  | .ccLineChange _ _ _ => true
  | .ccDebounceExpiry _ => true
  | .pdDebounceExpiry _ => true
  | .tryCcDebounceExpiry _ => true
  | .drpTryExpiry _ => true
  | .tryTimeoutExpiry _ => true
  | .errorRecoveryExpiry _ => true
  | .vbLevelChange _ _ => true
  | .vsafe5vReached _ => true
  | .vb0WaitExpiry _ => true
  | .vbusonExpiry _ => true
  | .slowDetach _ => true
  | .fastDetachLatch _ => true
  | .fastDetachCurrentFall _ _ => true
  | .fastDetachWindowExpiry _ => true
  | .sinkDetach _ _ => true
  | .vconnLineOk _ => true
  | .vconnFaultTimeout _ => true
  | .errRecovery _ => true
  | .portDisable _ => true
  | .vconnEnClear _ => true
  | .txGoAcknowledge _ _ => true
  | .cmdNone _ _ _ => true
  | .transmitMessage _ _ _ _ objs => decide (objs.length ≤ 65)
  | .hardReset _ _ _ => true
  | .cableReset _ _ _ => true
  | .vconnOn _ _ _ => true
  | .vconnOff _ _ _ => true
  | .setDataRole _ _ _ _ => true
  | .pdTimerCommand _ _ _ _ _ => true
  | .transition _ _ _ _ => true
  | .srcOff _ _ _ _ => true
  | .srcOn _ _ _ => true
  | .snkOff _ _ _ _ => true
  | .snkOn _ _ _ => true
  | .roleFlip _ _ _ => true
  | .frsArm _ _ _ _ => true
  | .vcal _ _ _ _ => true
  | .ronCal _ _ _ _ => true
  | .theta _ _ _ _ => true
  | .shuntCal _ _ _ _ => true
  | .measure _ _ _ => true
  | .zero _ _ _ _ => true
  | .transmitStart _ _ => true
  | .transmitEnd _ => true
  | .goodcrcReceived _ _ _ => true
  | .crcReceiveTimeout _ => true
  | .frameReceived _ f => frameOk f
  | .softResetReceived _ => true
  | .softResetAcceptTimeout _ => true
  | .hardResetDetected _ => true
  | .hardResetSignallingDone _ => true
  | .hardResetCompleteTimeout _ => true
  | .psHardResetExpiry _ => true
  | .srcRecoverExpiry _ => true
  | .hardResetSinkTimeout _ => true
  | .cableResetReceived _ => true
  | .responseTimerExpiry _ => true
  | .idTimerExpiry _ _ => true
  | .sinkTxExpiry _ => true
  | .amsIdleExpiry _ => true
  | .sinkTxOkSeen _ => true
  | .chunkRequestReceived _ _ => true
  | .chunkTimeout _ _ => true
  | .bistReceived _ _ => true
  | .bistContModeExpiry _ => true
  | .psTransitionTimeout _ => true
  | .noResponseTimeout _ => true
  | .transitionStart _ => true
  | .settleDone _ _ => true
  | .tPpTimeoutExpiry _ => true
  | .srcOffDeferred _ => true
  | .frsDetection _ => true
  | .frsFastPass _ _ _ => true
  | .psSourceOnTimeout _ => true
  | .psSourceOffTimeout _ => true
  | .requestEvaluation _ => true
  | .share _ => true
  | .cableDiscovery _ => true
  | .prSwapAnswer _ => true
  | .drSwap _ => true
  | .vconnSwap _ _ => true
  | .eprEntry _ => true
  | .eprKeepalive _ => true
  | .statusMessageAnswer _ => true
  | .batteryStatusPoll _ => true
  | .breachService _ _ => true
  | .protocolErrorAnswer _ => true
  | .unsupportedMessageAnswer _ => true
  | .displayportEntry _ => true
  | .displayportExit _ _ => true
  | .dockModeDiscovery _ => true
  | .packIdentification _ => true
  | .identBoundExpiry _ => true
  | .digestReq => true
  | .muxRec => true
  | .classWrite _ _ => true
  | .allocatorTick => true
  | .allocatorRunEnd => true
  | .demandReport => true
  | .budgetAgentTick => true
  | .leaseExpiry => true
  | .maxClr _ => true
  | .gaugeSample _ _ => true
  | .gaugeGroupProcess _ _ => true
  | .restPoint _ => true
  | .endOfCharge _ => true
  | .topupExpiry _ => true
  | .endOfDischarge _ => true
  | .getTempPoll _ => true
  | .commitPeriodExpiry => true
  | .journalCommit => true
  | .kgSlotDisable _ => true
  | .kgCmdCommit _ => true
  | .kgCmdReset _ => true
  | .plLoad _ _ _ _ => true
  | .regionLoadComplete _ store _ _ => decide (store.row < 289)
  | .plSwitch _ _ _ _ => true
  | .culvertSwitchComplete _ _ => true
  | .plUnload _ _ _ => true
  | .unloadComplete _ => true
  | .commonSwitch _ => true
  | .commonSwitchTick _ => true
  | .polderTick _ _ _ => true
  | .tplBegin _ _ _ => true
  | .tplDataWrite _ _ => true
  | .tplEnd _ _ => true
  | .templateCheckDone => true
  | .tplFree _ _ => true
  | .fabricScrubRead _ _ _ => true
  | .storeScrubRead _ => true
  | .plScrubCntClr _ => true
  | .culvertWatchFault _ _ _ => true
  | .qyPrepare _ _ _ => true
  | .prepareLapse _ => true
  | .qyAbandon _ _ => true
  | .qyTrial _ _ _ => true
  | .regionTrialEnd _ _ _ => true
  | .coreHop _ _ _ => true
  | .watchdogExpiry _ _ => true
  | .coreTrialDone _ _ => true
  | .queueFault _ _ row => decide (row.pos < 64)
  | .sramRowFault k data row _ => rowOk k data row
  | .sharedSramScrubRead _ => true
  | .coreScrubRead _ _ => true
  | .oscWindowCheck _ _ _ => true
  | .spoilEntryWrite => true
  | .dropClr _ => true
  | .add _ _ _ _ => true
  | .adc _ _ _ _ => true
  | .sub _ _ _ _ => true
  | .sbc _ _ _ _ => true
  | .andI _ _ _ _ => true
  | .orI _ _ _ _ => true
  | .xorI _ _ _ _ => true
  | .mov _ _ _ _ => true
  | .addi _ _ _ _ => true
  | .cmp _ _ _ _ => true
  | .tst _ _ _ _ => true
  | .lsl _ _ _ => true
  | .lsr _ _ _ => true
  | .asr _ _ _ => true
  | .rol _ _ _ => true
  | .ror _ _ _ => true
  | .rlc _ _ _ => true
  | .rrc _ _ _ => true
  | .sxt _ _ _ => true
  | .ldk _ _ _ _ => true
  | .ld _ _ _ _ _ => true
  | .st _ _ _ _ => true
  | .ldx _ _ _ _ _ => true
  | .stx _ _ _ _ => true
  | .inp _ _ _ _ => true
  | .outp _ _ _ _ => true
  | .bra _ _ _ => true
  | .jmp _ _ _ => true
  | .callI _ _ _ => true
  | .retI _ _ f => f.rs = 0#3 || decide (6#3 ≤ f.rs)
  | .rett _ _ _ => true
  | .dropI _ _ _ => true
  | .depthI _ _ _ => true
  | .pushI _ _ _ => true
  | .topI _ _ _ => true
  | .pfx _ _ _ => true
  | .crcs _ _ _ _ => true
  | .parI _ _ _ _ => true
  | .brev _ _ _ _ => true
  | .mulI _ _ _ _ => true
  | .ldm _ _ _ => true
  | .macu _ _ _ => true
  | .macs _ _ _ => true
  | .msus _ _ _ => true
  | .rdh _ _ _ => true
  | .rdl _ _ _ => true
  | .clrI _ _ _ => true
  | .rnd _ _ _ => true
  | .setp _ _ _ _ => true
  | .waitI _ _ f => f.rs ≠ 1#3
  | .waitWake _ => true
  | .poll _ _ _ => true
  | .gets _ _ _ => true
  | .puts _ _ _ => true
  | .kick _ _ _ => true
  | .trapI _ _ _ => true
  | .fenceI _ _ f => decide (4#3 ≤ f.rs)
  | .ctimExpiry _ => true
  | .queueCommit _ _ _ => true
  | .cTrapCntClr _ => true
  | .cEccCntClr _ => true
  | .linkDownWaitExpiry _ => true
  | .lineEnergyDetected _ => true
  | .polarityFound _ _ => true
  | .polarityTimeout _ => true
  | .rateTrialPass _ => true
  | .rateTrialTimeout _ => true
  | .eqStep _ _ => true
  | .auth1 _ _ _ _ => true
  | .auth2 _ _ => true
  | .authTimeout _ => true
  | .linkSilence _ => true
  | .codeViolationLimit _ => true
  | .helloTimer _ => true
  | .retrain _ => true
  | .lkCtrlEnClear _ => true
  | .cellReceived _ _ _ => true
  | .cellTransmit _ => true
  | .linkAck _ _ _ creditA creditB => decide (creditA ≤ 16 ∧ creditB ≤ 16)
  | .linkNak _ _ => true
  | .ackTimeout _ _ => true
  | .beaconTimer => true
  | .linkBeacon _ => true
  | .beaconLoss => true
  | .rootRevertTimer => true
  | .linkTopo _ => true
  | .linkAddr _ => true
  | .linkLease _ => true
  | .linkDemand _ => true
  | .stateCopy _ _ => true
  | .lifeTimer => true
  | .linkLife _ => true
  | .linkLog _ => true
  | .managerLoss => true
  | .reclaim => true
  | .timeSyncTimer => true
  | .linkSync _ _ _ => true
  | .delayReq _ => true
  | .delayRsp _ _ _ => true
  | .syncedTimer => true
  | .syncLost => true
  | .remGo _ => true
  | .remReq _ => true
  | .remRsp _ => true
  | .remTimeout => true
  | .lkErrCntClr _ => true
  | .twHPointer _ _ _ _ => true
  | .twHWrite _ _ _ _ => true
  | .twHBlockPointer _ _ _ _ _ => true
  | .twHRead _ _ => true
  | .twHBlockRead _ _ => true
  | .twHTransactionServe => true
  | .hostAccess _ _ => true
  | .alertRecordSend _ => true
  | .alertRetryExpiry _ => true
  | .arbitrationLost _ => true
  | .arbLostSr _ => true
  | .sclTo _ => true
  | .sdaTo _ _ => true
  | .stuckRetryExpiry _ _ _ => true
  | .twMCommand _ _ => true
  | .twMCommandDone _ _ data => decide (data.length ≤ 12)
  | .shedSample _ pf _ _ _ _ => decide (pf.length = 4)
  | .shelfReq => true
  | .shelfWake => true
  | .fuseProgram _ _ => true
  | .fuseLock _ _ up => sensedOk up
  | .readNormal _ _ _ => true
  | .readStrict _ _ _ => true
  | .fuseRevoke _ _ => true
  | .fuseProgramDone _ => true
  | .fuseScrubRead _ _ => true
  | .fzScrubCntClr => true
  | .flashRead _ _ => true
  | .flashProgram _ n data => decide (n.toNat ≤ 256 ∧ data.length = n.toNat)
  | .erase4k _ _ => true
  | .erase64k _ _ => true
  | .readId _ _ => true
  | .flashCommandDone => true
  | .settingsRecordWrite j => decide (j < 14)
  | .logRecordWrite _ _ => true
  | .flUpdStageBegin => true
  | .flStgDataWrite _ => true
  | .flUpdStageEnd => true
  | .flUpdArm => true
  | .flUpdAbort => true
  | .flUpdRevert => true
  | .stageBegin _ => true
  | .bundle _ => true
  | .stageReportTimer => true
  | .stageReport _ => true
  | .stagingTimeout => true
  | .updArm _ => true
  | .armReport _ => true
  | .armReportTimeout => true
  | .updAbort _ => true
  | .updateMessageRepeat => true
  | .updActivate => true
  | .updHealth _ => true
  | .updConfirm _ => true
  | .confirmDeadline => true
  | .updRevert _ => true
  | .updReverted _ => true
  | .lateWindowExpiry => true
  | .roleFlipDone _ => true
  | .breachConditionEnd _ _ => true
  | .vgdRestored _ => true
  | .vddioRestored _ => true

end Sys2Proof
end

