-- ==== Sys2Proof/Tests/Slice0.lean ====
section
/-! SUPPORT. Tests: operands that WellFormed refuses, single steps whose results the spec gives, and for each statement of
Certificates/Slice0/Obligations.lean a state and operands that meet the hypotheses of each of its clauses. -/

namespace Sys2Proof.Tests

open Sys2Proof Sys2Proof.Machine

-- One theorem after the other: checking them side by side takes a stack for each.
set_option Elab.async false
set_option maxRecDepth 40000

-- A device in RUN

/-- A polder that serves: every region SERVING, every culvert at home. -/
def upPolder : Polder :=
  { Polder.reset with die := true, vgdPass := true, regions := Vector.replicate 56 { FabRegion.init with st := .serving } }

/-- A standalone device in RUN: every rail good, every core in service with its own role. -/
def up : State :=
  { State.reset with
    sys := { SysBlk.reset with mode := .run, runSeen := true },
    sh := { Shed.reset with vddioOk := true },
    polders := Vector.replicate 4 upPolder }

/-- The same device with port 0 as given. -/
def withPort (p : Port) : State := { up with ports := up.ports.set 0 p }

theorem withPort_port (p : Port) : (withPort p).ports[(0 : PortId)] = p := by simp [withPort]

theorem up_serves : up.polders[(0 : PolderId)].serves (0 : PosId) = true := by decide

theorem withPort_regionUp (p : Port) (h : p.place.migrating = false) (h2 : p.place.prepared = false)
    (h3 : p.pfault.oos = false) : (withPort p).regionUp 0 = true := by
  have e : (withPort p).ports[(0 : PortId)] = p := withPort_port p
  have e2 : (withPort p).polders[polderOf 0].serves (posOf 0) = true := up_serves
  unfold State.regionUp
  simp only [e, e2, h, h2, h3]
  rfl

/-- Some state has a region, a front end, registers and a serving core for port 0, a sluice that may pass, and a port 0 of
which `h` holds. -/
def PortW (h : Port → Prop) : Prop :=
  ∃ s : State, (s.regionUp 0 = true ∧ s.feUp 0 ∧ s.portRegsUp 0 ∧ s.servedBy 0 0 ∧ s.roleRuns s.ports[(0 : PortId)].q.role = true) ∧
    ((∀ q : Port, q.sluice.latched = false → s.mayPass 0 q) ∧ s.polders[polderOf 0].stat.hbLost = false ∧
      (s.env 0).run = true ∧ s.polders[polderOf 0].oscBad = false) ∧ h s.ports[(0 : PortId)]

theorem up_roleRuns : up.roleRuns 0#5 = true := by decide

theorem portW {h : Port → Prop} (p : Port) (hp : (p.place.migrating = false ∧ p.place.prepared = false ∧
    p.pfault.oos = false ∧ p.q.role = 0#5) ∧ h p) : PortW h := by
  obtain ⟨⟨h1, h2, h3, h4⟩, hp⟩ := hp
  have e : (withPort p).ports[(0 : PortId)] = p := withPort_port p
  refine ⟨withPort p, ⟨withPort_regionUp p h1 h2 h3, ⟨rfl, ?_⟩, ⟨rfl, ?_, rfl⟩, ⟨rfl, rfl, ?_, rfl⟩, ?_⟩,
    ⟨fun q hq => ⟨hq, rfl, .inl rfl, rfl, .inl rfl, .inl rfl⟩, rfl, rfl, rfl⟩, ?_⟩
  · show up.sys.mode ≠ .island; decide
  · show up.sys.mode ≠ .island; decide
  · rw [e, h4]; rfl
  · rw [e, h4]; exact up_roleRuns
  · rw [e]; exact hp

/-- Port 0 after POR. -/
def P : Port := Port.reset 0

/-- A message of the core in hand. -/
def msg : TxMsg :=
  { header := 0x1042#16, extHeader := 0#16, sop1 := false, amsStart := false, amsEnd := false, onFail := 0#2, onTimeout := 0#2,
    resp := 0#3, seq := 1#8, own := false, objs := [0x1#32] }

/-- A port with a received message at the head of its queue. -/
def inbox (h : BitVec 16) (objs : List Word) (p : Port) : Port :=
  p.pushGroup (Port.rxGroup { sop := 0#3, header := h, extHeader := 4#16, objs := objs, crcOk := true, lenOk := true } false true 4)

/-- A port with an event at the head of its queue. -/
def event (e : PEvent) (p : Port) : Port := p.post e 0#36
-- Witnesses: the hypotheses of the statements on ports

theorem witness_TypeCUnattachedExits :
    PortW (fun p => p.onAir = false ∧ p.tc.state = .unattachedSrc ∧ p.tc.rpProbing = true ∧ p.cc.vconnOn = false) ∧
    PortW (fun p => p.onAir = false ∧ p.tc.state = .unattachedSnk ∧ p.tc.rpProbing = true ∧ p.cc.vconnOn = false) ∧
    PortW (fun p => p.onAir = false ∧ p.tc.state = .unattachedSrc ∧ p.tc.rpProbing = false ∧ p.cc.vconnOn = false) ∧
    PortW (fun p => p.onAir = false ∧ p.tc.state = .unattachedSnk ∧ p.tc.rpProbing = false ∧ p.cc.vconnOn = false) ∧
    PortW (fun p => p.onAir = false ∧ p.timerOn .drpHalf = true ∧ p.tc.state = .unattachedSnk) ∧
    PortW (fun p => p.onAir = false ∧ p.timerOn .drpHalf = true ∧ p.tc.state = .unattachedSrc) ∧
    PortW (fun p => p.onAir = false ∧ p.tc.state = .attachedSrc ∧ p.tc.rpProbing = false ∧ p.cc.vconnOn = false ∧ p.cc.polarity = false) :=
  ⟨portW { P with tc.state := .unattachedSrc, tc.rpProbing := true } (by decide),
   portW { P with tc.state := .unattachedSnk, tc.rpProbing := true } (by decide),
   portW { P with tc.state := .unattachedSrc } (by decide), portW { P with tc.state := .unattachedSnk } (by decide),
   portW { P with tc.state := .unattachedSnk, rg.timers := [.drpHalf] } (by decide),
   portW { P with tc.state := .unattachedSrc, rg.timers := [.drpHalf] } (by decide),
   portW { P with tc.state := .attachedSrc } (by decide)⟩

theorem witness_TypeCTimedExits :
    PortW (fun p => p.timerOn .ccDebounce = true ∧ p.tc.state = .attachWaitSnk ∧ p.pattern = .one2 ∧
      p.cc.vbPresent = true ∧ p.trySrcOn = false) ∧
    PortW (fun p => p.timerOn .ccDebounce = true ∧ p.tc.state = .attachWaitSrc ∧ p.pattern = .both) ∧
    PortW (fun p => p.timerOn .pdDebounce = true ∧ p.tc.state = .attachWaitSrc) ∧
    PortW (fun p => p.timerOn .tryCcDebounce = true ∧ p.tc.state = .trySnk ∧ p.pattern = .open) ∧
    PortW (fun p => p.timerOn .tryCcDebounce = true ∧ p.tc.state = .tryWaitSrc ∧ p.cc.vbSafe0 = false) ∧
    PortW (fun p => p.timerOn .drpTry = true ∧ p.tc.state = .trySrc) ∧
    PortW (fun p => p.timerOn .tryTimeout = true ∧ p.tc.state = .tryWaitSrc) ∧
    PortW (fun p => p.timerOn .errorRecovery = true ∧ p.tc.state = .errorRecovery ∧ p.fe.ccIsolated = false) ∧
    PortW (fun p => p.timerOn .errorRecovery = true ∧ p.tc.state = .errorRecovery ∧ p.fe.ccIsolated = true ∧
      p.fe.cond ≠ []) :=
  ⟨portW { P with tc.state := .attachWaitSnk, rg.timers := [.ccDebounce], cc.cc2Line := 3#3, cc.vbPresent := true } (by decide),
   portW { P with tc.state := .attachWaitSrc, rg.timers := [.ccDebounce], cc.cc1Line := 2#3, cc.cc2Line := 2#3 } (by decide),
   portW { P with tc.state := .attachWaitSrc, rg.timers := [.pdDebounce] } (by decide),
   portW { P with tc.state := .trySnk, rg.timers := [.tryCcDebounce] } (by decide),
   portW { P with tc.state := .tryWaitSrc, rg.timers := [.tryCcDebounce] } (by decide),
   portW { P with tc.state := .trySrc, rg.timers := [.drpTry] } (by decide),
   portW { P with tc.state := .tryWaitSrc, rg.timers := [.tryTimeout] } (by decide),
   portW { P with tc.state := .errorRecovery, rg.timers := [.errorRecovery] } (by decide),
   portW { P with tc.state := .errorRecovery, rg.timers := [.errorRecovery], fe.cond := [.ccShort], fe.ccIsolated := true }
     (by decide)⟩

theorem witness_TypeCVbusLevels :
    (∃ s : State, s.feUp 0 ∧ s.regionUp 0 = false ∧ s.ports[(0 : PortId)].fe.dis = .off) ∧
    PortW (fun p => p.tc.state = .attachedSrc ∧ p.rg.noFirstPass = true ∧ p.rg.hr = .idle ∧ p.fe.path = .none ∧
      p.cc.vbSafe0 = false ∧ p.sluice.latched = false) ∧
    PortW (fun p => p.tc.state = .attachWaitSnk ∧ p.rg.ccMet = true ∧ p.trySrcOn = false ∧ p.rg.hr = .idle ∧
      p.cc.vbPresent = false) ∧
    PortW (fun p => p.rg.rise = .attach) ∧ PortW (fun p => p.rg.rise = .hardReset) ∧ PortW (fun p => p.rg.rise = .srcOn) ∧
    PortW (fun p => p.rg.rise = .none ∧ p.timerOn .vb0Wait = true ∧ p.cc.vbSafe0 = false ∧ p.rg.hr ≠ .srcSafe0 ∧
      p.tc.state ≠ .attachedSrc) ∧
    PortW (fun p => p.timerOn .vb0Wait = true ∧ p.cc.vbSafe0 = false ∧ p.rg.hr = .srcSafe0) ∧
    PortW (fun p => p.timerOn .vb0Wait = true ∧ p.cc.vbSafe0 = false ∧ p.tc.state = .attachedSrc ∧ p.rg.noFirstPass = true) ∧
    PortW (fun p => p.timerOn .vbusOn = true ∧ p.rg.rise = .attach) :=
  ⟨⟨{ up with polders := Vector.replicate 4 { Polder.reset with die := true } }, by unfold State.feUp; decide⟩,
   portW { P with tc.state := .attachedSrc, rg.noFirstPass := true } (by decide),
   portW { P with tc.state := .attachWaitSnk, rg.ccMet := true } (by decide),
   portW { P with rg.rise := .attach } (by decide), portW { P with rg.rise := .hardReset } (by decide),
   portW { P with rg.rise := .srcOn } (by decide),
   portW { P with tc.state := .unattachedSrc, rg.timers := [.vb0Wait] } (by decide),
   portW { P with tc.state := .attachedSnk, rg.timers := [.vb0Wait], rg.hr := .srcSafe0 } (by decide),
   portW { P with tc.state := .attachedSrc, rg.timers := [.vb0Wait], rg.noFirstPass := true } (by decide),
   portW { P with rg.timers := [.vbusOn], rg.rise := .attach } (by decide)⟩

theorem witness_TypeCDetachPaths :
    PortW (fun p => p.tc.state = .attachedSrc ∧ p.timerOn .srcDisconnect = true) ∧
    PortW (fun p => p.tc.state = .attachedSrc ∧ p.onAir = false ∧ p.contract.transPend = false ∧ p.contract.swap = false) ∧
    (∃ s : State, s.regionUp 0 = true ∧ s.feUp 0 ∧ s.polders[polderOf 0].stat.hbLost = true ∧
      s.ports[(0 : PortId)].tc.state = .attachedSrc ∧ s.ports[(0 : PortId)].onAir = false) ∧
    PortW (fun p => p.tc.state = .attachedSrc ∧ p.onAir = true) ∧
    PortW (fun p => p.tc.state = .attachedSrc ∧ p.onAir = false ∧ p.contract.transPend = false ∧ p.contract.swap = true) ∧
    PortW (fun p => p.tc.state = .attachedSrc ∧ p.onAir = false ∧ p.contract.transPend = true) ∧
    PortW (fun p => p.rg.fdet = true ∧ p.timerOn .fdetWindow = true) ∧
    PortW (fun p => p.tc.state = .attachedSnk ∧ p.pdstat.vbMask = false ∧ 3669 < p.rg.snkLevel) ∧
    PortW (fun p => p.pfault.oos = false ∧ p.tc.state ≠ .disabled ∧ p.tc.state ≠ .errorRecovery ∧ p.rg.announced = true) :=
  ⟨portW { P with tc.state := .attachedSrc, rg.timers := [.srcDisconnect] } (by decide),
   portW { P with tc.state := .attachedSrc } (by decide),
   ⟨{ up with polders := Vector.replicate 4 { upPolder with stat.hbLost := true },
              ports := up.ports.set 0 { P with tc.state := .attachedSrc } }, by unfold State.feUp; decide⟩,
   portW { P with tc.state := .attachedSrc, cc.cc1Line := 7#3 } (by decide),
   portW { P with tc.state := .attachedSrc, contract.swap := true } (by decide),
   portW { P with tc.state := .attachedSrc, contract.transPend := true } (by decide),
   portW { P with rg.fdet := true, rg.timers := [.fdetWindow] } (by decide),
   portW { P with tc.state := .attachedSnk } (by decide),
   portW { P with tc.state := .attachedSrc, rg.announced := true } (by decide)⟩

theorem witness_TypeCVconnEvents :
    PortW (fun p => p.fe.vcnDriven = true ∧ p.timerOn .vconnLow = true) :=
  portW { P with fe.vcnDriven := true, rg.timers := [.vconnLow] } (by decide)

theorem witness_SluicePassAndHold :
    PortW (fun p => p.sluice.latched = false ∧ p.fe.path = .none ∧ p.fe.foreign = false ∧ p.sluice.senseMode ≠ 1#2) ∧
    PortW (fun p => p.sluice.latched = true ∧ p.fe.path = .none) ∧
    PortW (fun p => p.fe.foreign = true ∧ p.fe.path = .none ∧ p.rg.rise = .attach) ∧
    PortW (fun p => p.sluice.senseMode = 1#2 ∧ p.fe.path = .none) ∧
    PortW (fun p => p.fe.path = .sink ∧ p.rg.rise = .attach) ∧ PortW (fun p => p.fe.path = .sink ∧ p.rg.rise ≠ .attach) ∧
    PortW (fun p => p.fe.path = .source ∧ p.sluice.senseMode = 1#2) ∧
    PortW (fun p => p.fe.path = .source ∧ p.fe.fastPass = false ∧ p.rg.moving = 0) :=
  ⟨portW P (by decide), portW { P with sluice.latched := true } (by decide),
   portW { P with fe.foreign := true, rg.rise := .attach } (by decide), portW { P with sluice.senseMode := 1#2 } (by decide),
   portW { P with fe.path := .sink, rg.rise := .attach } (by decide), portW { P with fe.path := .sink } (by decide),
   portW { P with fe.path := .source, sluice.senseMode := 1#2 } (by decide),
   portW { P with fe.path := .source } (by decide)⟩

/-- Port 0 in on-resistance mode, enhanced, with a fast threshold of 25 mV. -/
def onRes : Port := { P with fe.path := .source, sluice.senseMode := 1#2, sluice.fullEnh := true, fe.vFast := 25000000 }

theorem witness_SluiceBreachesTrip :
    PortW (fun p => p.fe.set.ccShort * 10 = 6000 ∧ p.fe.path = .source ∧ 0 < p.rg.moving ∧ p.vOvp = 6000) ∧
    PortW (fun p => p.vOvp = 6000 ∧ p.rg.moving = 0 ∧ p.sinkSide = false ∧ p.fe.foreign = false) ∧
    PortW (fun p => p.vOvp ≤ 6000 ∧ p.rg.moving = 0 ∧ p.sinkSide = false ∧ 6000 ≤ p.fe.vb) ∧
    PortW (fun p => p.vOvp ≤ 6000 ∧ p.sinkSide = true) ∧
    PortW (fun p => p.sluice.senseMode ≠ 1#2 ∧
      p.threshold (max p.ilim.fast.toNat p.ilim.slow.toNat * 50) ≤ (p.sensed 4000000).natAbs ∧
      (p.sensed 3999999).natAbs < p.threshold (max p.ilim.fast.toNat p.ilim.slow.toNat * 50)) ∧
    PortW (fun p => p.sluice.senseMode = 1#2 ∧ p.sluice.fullEnh = true ∧ min 6250000 (p.fe.vFast / 10) = 2500000 ∧
      (p.sensed 2500000).natAbs = 2500000 ∧ (p.sensed 2499999).natAbs < 2500000) ∧
    PortW (fun p => p.fe.path = .sink ∧ (p.threshold (p.ilim.revI.toNat * 50) : Int) ≤ p.sensed 100000) ∧
    PortW (fun p => p.fe.path = .source ∧ p.sensed (-100000) ≤ -(p.threshold (p.ilim.revI.toNat * 50) : Int) ∧
      (p.sensed (-99999)).natAbs < p.threshold (p.ilim.revI.toNat * 50)) ∧
    PortW (fun p => p.fe.path = .source ∧ (p.ilim.qSlow.toNat * 100000 : Int) ≤
      p.fe.slowInt + (100 : Nat) * ((p.milliamps (p.sensed 3000000)).natAbs - p.ilim.slow.toNat * 50 : Int)) ∧
    PortW (fun p => p.fe.path = .source ∧ 0 < p.ilim.qSlow.toNat ∧ p.fe.slowInt +
      (100 : Nat) * ((p.milliamps (p.sensed 2999500)).natAbs - p.ilim.slow.toNat * 50 : Int) < p.ilim.qSlow.toNat * 100000) :=
  ⟨portW { P with fe.path := .source, rg.moving := 5000 } (by decide),
   portW { P with tc.state := .attachedSrc } (by decide), portW { P with tc.state := .attachedSrc, fe.vb := 6000 } (by decide),
   portW { P with tc.state := .attachedSnk } (by decide), portW P (by decide),
   portW onRes (by decide), portW { P with fe.path := .sink } (by decide), portW { P with fe.path := .source } (by decide),
   portW { P with fe.path := .source } (by decide), portW { P with fe.path := .source } (by decide)⟩
theorem witness_PolderBreachesTrip :
    up.polders[(0 : PolderId)].die = true ∧ up.sys.mode ≠ .island ∧ polderOf 47 = 0 ∧ polderOf 48 ≠ 0 ∧ up.cls 0 ≠ .a ∧
      State.cls { up with pcfg := Vector.replicate 192 { PCfg.reset with cls := .a } } 0 = .a := by decide

theorem witness_SluiceClearing :
    PortW (fun p => p.sluice.latched = true ∧ p.fe.cond = [] ∧ p.sluice.lockout = false) ∧
    PortW (fun p => p.sluice.latched = true ∧ p.fe.cond ≠ []) ∧ PortW (fun p => p.sluice.latched = true ∧ p.sluice.lockout = true) ∧
    PortW (fun p => p.fe.path = .none ∧ p.configNow = true ∧
      Port.typeOf { p with sluice := { p.sluice with senseMode := 1#2 } } ≠ p.typeOf) ∧
    PortW (fun p => p.fe.path = .source) ∧
    PortW (fun p => p.timerOn .breachWindow = true ∧ p.tc.state ≠ .errorRecovery) ∧
    PortW (fun p => p.tc.state = .errorRecovery ∧ p.timerOn .errorRecovery = false ∧ p.fe.cond = [.ccShort]) :=
  ⟨portW { P with sluice.latched := true } (by decide), portW { P with sluice.latched := true, fe.cond := [.ovp] } (by decide),
   portW { P with sluice.latched := true, sluice.lockout := true } (by decide),
   portW { P with tc.state := .unattachedSnk, cc.portType := 2#2, rg.cfgType := 2#2 } (by decide),
   portW { P with fe.path := .source } (by decide),
   portW { P with rg.timers := [.breachWindow] } (by decide),
   portW { P with tc.state := .errorRecovery, fe.cond := [.ccShort] } (by decide)⟩

theorem witness_SluiceSensing :
    PortW (fun p => p.tc.state = .unattachedSrc ∧ p.fe.path = .none ∧ p.fe.dis = .off ∧ p.fe.foreign = false) ∧
    (∃ s : State, s.feUp 0 ∧ s.regionUp 0 = false ∧ s.ports[(0 : PortId)].tc.state = .unattachedSrc ∧
      s.ports[(0 : PortId)].fe.path = .none ∧ s.ports[(0 : PortId)].fe.dis = .off ∧
      s.ports[(0 : PortId)].fe.foreign = false) ∧
    PortW (fun p => p.fe.dis = .toSafe0 ∧ p.cc.vbSafe0 = false) ∧
    (∃ s : State, s.feUp 0 ∧ s.regionUp 0 = false ∧ s.ports[(0 : PortId)].fe.dis = .ramp ∧
      s.ports[(0 : PortId)].cc.vbSafe0 = false) ∧
    PortW (fun p => p.fe.path = .none ∧ p.cc.vbSafe0 = true ∧ p.sluice.senseMode ≠ 1#2) ∧
    (∃ s : State, s.regionUp 0 = true ∧ s.polders[polderOf 0].stat.hbLost = true) ∧
    PortW (fun p => p.rg.moving < p.rg.target ∧ p.rg.coldRamp = false) ∧
    PortW (fun p => p.sluice.senseMode = 1#2) ∧ PortW (fun p => p.sluice.senseMode ≠ 1#2) :=
  ⟨portW { P with tc.state := .unattachedSrc } (by decide),
   ⟨{ up with polders := Vector.replicate 4 { Polder.reset with die := true },
              ports := up.ports.set 0 { P with tc.state := .unattachedSrc } }, by unfold State.feUp; decide⟩,
   portW { P with fe.dis := .toSafe0 } (by decide),
   ⟨{ up with polders := Vector.replicate 4 { Polder.reset with die := true },
              ports := up.ports.set 0 { P with fe.dis := .ramp } }, by unfold State.feUp; decide⟩,
   portW { P with cc.vbSafe0 := true } (by decide),
   ⟨{ up with polders := Vector.replicate 4 { upPolder with stat.hbLost := true } }, by decide⟩,
   portW { P with rg.target := 5000 } (by decide), portW { P with sluice.senseMode := 1#2 } (by decide), portW P (by decide)⟩

/-- A PPS contract for 5.9 V and 2 A. -/
def pps : BitVec 29 := 1#29 <<< 25 ||| 200#29 <<< 12 ||| 295#29

theorem witness_SluiceReports :
    PortW (fun p => p.tc.state = .attachedSrc ∧ p.contract.explicit = true ∧ fld p.contract.contract 25 2 = 1#2 ∧
      p.vset.clActive = false ∧ ((fld p.contract.contract 12 9).toNat * 10 : Int) + 100 ≤ 2100) ∧
    PortW (fun p => p.vset.clActive = true ∧ (fld p.contract.contract 0 12).toNat * 20 ≤ 5900) ∧
    PortW (fun p => p.fe.path = .source ∧ 3999 * 10 < p.rg.moving * 8 ∧ p.vset.clActive = false ∧
      p.pdstat.hrActive = false ∧ p.contract.swap = false) ∧
    PortW (fun p => p.fe.measuring = true) ∧ PortW (fun p => p.pfault.oos = false) :=
  ⟨portW { P with tc.state := .attachedSrc, contract.explicit := true, contract.contract := pps } (by decide),
   portW { P with vset.clActive := true, contract.contract := pps } (by decide),
   portW { P with fe.path := .source, rg.moving := 5000 } (by decide),
   portW { P with fe.measuring := true } (by decide), portW P (by decide)⟩

theorem witness_TxGoProtocolCommands :
    (∃ s : State, s.servedBy 0 0 ∧ s.ports[(0 : PortId)].stg.pending = false ∧ s.regionUp 0 = false) ∧
    PortW (fun p => p.stg.pending = false ∧ p.attached = true ∧ p.pdstat.giveup = false ∧ p.rg.latchedPdEn = true ∧ p.rg.tx = none ∧
      p.rg.phase = .idle ∧ p.rg.lastSeq ≠ some (fld 1#36 0 8) ∧ hExt (fld 0x1042#36 0 16) = false ∧
      isCtrl (fld 0x1042#36 0 16) tSoftReset = false ∧ fld 0x1042#36 16 2 = 0#2 ∧ fld 0x1042#36 18 1 = 0#1 ∧
      fld 0x1042#36 24 3 ≤ 5#3) ∧
    PortW (fun p => p.stg.pending = false ∧ p.pdstat.giveup = true) ∧
    PortW (fun p => p.stg.pending = false ∧ p.attached = true ∧ p.rg.hr ≠ .signalling) ∧
    PortW (fun p => p.stg.pending = false ∧ p.cc.vconnOn = true ∧ p.pdstat.drole = true) ∧
    PortW (fun p => p.stg.pending = false ∧ (p.cc.vconnOn = false ∨ p.pdstat.drole = false)) ∧
    PortW (fun p => p.stg.pending = false ∧ p.attached = false) ∧
    PortW (fun p => p.stg.pending = false ∧ p.cc.vconnOn = true ∧ p.pdstat.drole = true ∧ p.fe.fdetLatch = false ∧
      p.fe.fdetBlank = false ∧ p.rg.tx = some { msg with sop1 := true } ∧ msg.own = false ∧ p.rg.ownDue = []) ∧
    PortW (fun p => p.stg.pending = true ∧ fld (p.stgWord 0) 28 4 = 6#4 ∧ fld (p.stgWord 0) 16 2 ≤ 1#2 ∧
      fld (p.stgWord 0) 24 3 ≤ 5#3) :=
  ⟨⟨{ up with polders := Vector.replicate 4 Polder.reset }, by unfold State.servedBy; decide⟩,
   portW { P with tc.state := .attachedSrc } (by decide), portW { P with pdstat.giveup := true } (by decide),
   portW { P with tc.state := .attachedSrc } (by decide),
   portW { P with cc.vconnOn := true, pdstat.drole := true } (by decide), portW P (by decide), portW P (by decide),
   portW { P with cc.vconnOn := true, pdstat.drole := true, rg.tx := some { msg with sop1 := true }, rg.phase := .onLine } (by decide),
   portW { P with stg := { words := Vector.replicate 67 0x60000000#36, pending := true } } (by decide)⟩

theorem witness_TxGoPowerPathCommands :
    PortW (fun p => p.stg.pending = false ∧ p.attached = true ∧ p.cc.vconnEn = true) ∧
    PortW (fun p => p.stg.pending = false ∧ p.attached = true ∧ p.cc.vconnEn = false) ∧
    PortW (fun p => p.stg.pending = false ∧ p.attached = false) ∧
    PortW (fun p => p.stg.pending = false ∧ p.rg.hr = .idle ∧ p.tc.state = .attachedSrc ∧ p.rg.ramping = false ∧
      fld (pps.setWidth 36) 25 2 ≠ 3#2 ∧ (fld (pps.setWidth 36) 0 12).toNat ≤ 2400 ∧
      (fld (pps.setWidth 36) 12 9).toNat ≤ 500 ∧ p.cc.vbSafe0 = false) ∧
    PortW (fun p => p.stg.pending = false ∧ p.rg.hr = .idle ∧ p.tc.state = .attachedSnk ∧ p.rg.ramping = false ∧
      p.cc.vbPresent = false ∧ p.contract.explicit = true) ∧
    PortW (fun p => p.stg.pending = false ∧ p.rg.hr = .idle ∧ p.tc.state = .attachedSrc ∧ p.cc.vbSafe0 = true ∧
      p.sluice.latched = false ∧ p.fe.foreign = false ∧ p.fe.path = .none) ∧
    PortW (fun p => p.stg.pending = false ∧ p.rg.hr = .idle ∧ p.tc.state = .attachedSnk ∧ p.sluice.senseMode ≠ 1#2 ∧
      p.cc.vbPresent = true ∧ p.sluice.latched = false ∧ p.fe.path = .none) ∧
    PortW (fun p => p.stg.pending = false ∧ p.rg.hr = .idle ∧ p.contract.swap = true ∧ p.attached = true ∧
      p.sluice.senseMode ≠ 1#2) ∧
    PortW (fun p => p.stg.pending = false ∧ p.rg.hr = .idle ∧ p.contract.swap = false ∧ p.tc.state ≠ .attachedSrc) ∧
    PortW (fun p => p.stg.pending = false ∧ p.rg.hr = .idle ∧ p.sluice.senseMode = 1#2) :=
  ⟨portW { P with tc.state := .attachedSrc } (by decide),
   portW { P with tc.state := .attachedSrc, cc.vconnEn := false } (by decide), portW P (by decide),
   portW { P with tc.state := .attachedSrc } (by decide),
   portW { P with tc.state := .attachedSnk, contract.explicit := true } (by decide),
   portW { P with tc.state := .attachedSrc, cc.vbSafe0 := true } (by decide),
   portW { P with tc.state := .attachedSnk, cc.vbPresent := true } (by decide),
   portW { P with tc.state := .attachedSnk, contract.swap := true } (by decide), portW P (by decide),
   portW { P with sluice.senseMode := 1#2 } (by decide)⟩

theorem witness_TxGoSluiceConfig :
    PortW (fun p => p.stg.pending = false ∧ fld 1#36 0 16 ≠ 0#16 ∧ fld (0x10000#36) 0 16 = 0#16 ∧ p.fe.path = .none ∧
      p.cc.vbSafe0 = true) ∧
    PortW (fun p => p.stg.pending = false ∧ (p.fe.path ≠ .none ∨ p.cc.vbSafe0 = false)) :=
  ⟨portW { P with cc.vbSafe0 := true } (by decide), portW P (by decide)⟩

theorem witness_PdTransmission :
    PortW (fun p => p.rg.tx = some msg ∧ p.rg.phase = .ready ∧ p.rg.chunk = 0#4 ∧ msg.own = false ∧ msg.sop1 = false ∧
      p.rg.meas = false ∧ p.cc.polarity = false) ∧
    PortW (fun p => p.rg.phase = .onLine ∧ p.tc.state = .attachedSrc ∧ p.onAir = true ∧ p.fe.fdetBlank = true ∧
      p.contract.transPend = false ∧ p.contract.swap = false) ∧
    PortW (fun p => p.rg.phase = .onLine ∧ p.cc.polarity = false ∧ p.cc.cc1Line = 7#3 ∧ p.fe.fdetLatch = false ∧
      p.fe.fdetBlank = false) ∧
    PortW (fun p => p.rg.tx = some msg ∧ p.rg.phase = .awaitCrc ∧ msg.amsEnd = false ∧ msg.resp = 0#3 ∧
      hExt msg.header = false ∧ hNdo msg.header ≠ 0 ∧ p.rg.held = none ∧ p.rg.ownDue = [] ∧ 1#3 ≠ p.rg.txId) ∧
    PortW (fun p => p.rg.tx = some msg ∧ p.rg.phase = .awaitCrc ∧ p.timerOn .crcReceive = true ∧ p.rg.retries ≠ 0) ∧
    PortW (fun p => p.rg.tx = some msg ∧ p.rg.phase = .awaitCrc ∧ p.timerOn .crcReceive = true ∧ p.rg.retries = 0 ∧
      msg.onFail = 0#2 ∧ p.rg.held = none ∧ p.rg.ownDue = []) ∧
    PortW (fun p => p.rg.phase = .sinkTxWait ∧ p.timerOn .sinkTx = true) ∧
    PortW (fun p => p.tc.state = .attachedSnk ∧ p.pdstat.collAv = true ∧ p.rg.phase = .heldNg) ∧
    PortW (fun p => p.tc.state = .attachedSrc ∧ p.pdstat.collAv = true ∧ p.rg.phase = .idle) ∧
    PortW (fun p => p.attached = true ∧ p.rg.latchedPdEn = true ∧ p.pdstat.giveup = false ∧ p.rg.bist = .off ∧
      p.rg.rx = none ∧ (p.rg.chunk + 1#4).toNat < chunksOf 0x8040#16 ∧ p.rg.phase = .chunkWait ∧ p.rg.tx = some { msg with header := 0x9042#16, extHeader := 0x8040#16 } ∧
      hExt 0x9042#16 = true ∧ 1 < chunksOf 0x8040#16) ∧
    PortW (fun p => p.rg.rx.isSome = true ∧ p.timerOn .chunkResponse = true) :=
  ⟨portW { P with rg.tx := some msg, rg.phase := .ready } (by decide), portW { P with rg.phase := .onLine, tc.state := .attachedSrc, cc.cc1Line := 7#3, fe.fdetBlank := true } (by decide),
   portW { P with rg.phase := .onLine, cc.cc1Line := 7#3 } (by decide),
   portW { P with rg.tx := some msg, rg.phase := .awaitCrc } (by decide),
   portW { P with rg.tx := some msg, rg.phase := .awaitCrc, rg.timers := [.crcReceive], rg.retries := 1 } (by decide),
   portW { P with rg.tx := some msg, rg.phase := .awaitCrc, rg.timers := [.crcReceive] } (by decide),
   portW { P with rg.phase := .sinkTxWait, rg.timers := [.sinkTx] } (by decide),
   portW { P with tc.state := .attachedSnk, pdstat.collAv := true, rg.phase := .heldNg } (by decide),
   portW { P with tc.state := .attachedSrc, pdstat.collAv := true } (by decide),
   portW { P with tc.state := .attachedSrc, rg.phase := .chunkWait, rg.tx := some { msg with header := 0x9042#16, extHeader := 0x8040#16 } } (by decide),
   portW { P with rg.rx := some { header := 0#16, next := 1#4, left := 26 }, rg.timers := [.chunkResponse] } (by decide)⟩

/-- A Request with one object. -/
def frame : Frame := { sop := 0#3, header := 0x1042#16, extHeader := 0#16, objs := [0x1#32], crcOk := true, lenOk := true }

theorem witness_PdReception :
    PortW (fun p => p.attached = true ∧ p.rg.latchedPdEn = true ∧ p.pdstat.giveup = false ∧ p.rg.phase = .idle ∧
      p.rg.bist = .off ∧ p.rg.tx = none ∧ p.rg.held = none ∧ p.rg.waiting = none ∧ p.rg.rx = none ∧ p.onAir = false ∧
      p.q.fits (frame.objs.length + 1) = true ∧ hExt frame.header = false ∧ hNdo frame.header ≠ 0 ∧
      hType frame.header ≠ 3#5 ∧ fld frame.header 6 2 ≠ 0#2 ∧ p.rg.rxId ≠ some (fld frame.header 9 3)) ∧
    PortW (fun p => p.rg.phase = .idle ∧ p.rg.bist = .off ∧ p.q.fits (frame.objs.length + 1) = true ∧
      p.rg.rxId = some (fld frame.header 9 3)) ∧
    PortW (fun p => p.onAir = false ∧ p.rg.phase = .idle ∧ p.rg.bist = .off ∧ p.rg.rxId = some (fld frame.header 9 3) ∧
      p.rg.waiting = some msg ∧ p.attached = true ∧ p.rg.latchedPdEn = true ∧ p.pdstat.giveup = false) ∧
    PortW (fun p => p.onAir = false ∧ p.rg.phase = .idle ∧ p.rg.bist = .off ∧ p.pdstat.giveup = true) ∧
    PortW (fun p => p.rg.latchedPdEn = true ∧ p.pdstat.giveup = false ∧ p.rg.bist = .off ∧ p.pdcfg.bistEn = true ∧ 4750 ≤ p.fe.vb ∧ p.fe.vb ≤ 5500 ∧ p.attached = true) ∧
    PortW (fun p => p.rg.bist = .carrier ∧ p.fe.fdetLatch = false ∧ p.fe.fdetBlank = false) ∧
    PortW (fun p => p.rg.waiting = some msg ∧ msg.onTimeout = 0#2 ∧ p.timerOn .response = true) ∧
    PortW (fun p => p.timerOn (.pd 1#4) = true) :=
  ⟨portW { P with tc.state := .attachedSrc } (by decide), portW { P with rg.rxId := some 0#3 } (by decide),
   portW { P with rg.rxId := some 0#3, rg.waiting := some msg, tc.state := .attachedSrc } (by decide),
   portW { P with pdstat.giveup := true } (by decide),
   portW { P with tc.state := .attachedSrc, pdcfg.bistEn := true, fe.vb := 5500 } (by decide),
   portW { P with rg.bist := .carrier } (by decide),
   portW { P with rg.waiting := some msg, rg.timers := [.response] } (by decide),
   portW { P with rg.timers := [.pd 1#4] } (by decide)⟩

theorem witness_PdResets :
    PortW (fun p => p.rg.bist = .off ∧ p.attached = true ∧ p.rg.latchedPdEn = true ∧ p.pdstat.giveup = false ∧ p.rg.hr ≠ .signalling) ∧
    PortW (fun p => p.rg.soft = some true) ∧
    PortW (fun p => p.rg.hr = .signalling ∧ p.fe.fdetLatch = false ∧ p.fe.fdetBlank = false ∧ p.timerOn .hrComplete = true ∧ p.rg.hrSource = true ∧ p.rg.hrSwap = false) ∧
    PortW (fun p => p.timerOn .psHardReset = true ∧ p.rg.hr = .srcHold ∧ p.cc.vbSafe0 = false) ∧
    PortW (fun p => p.timerOn .srcRecover = true ∧ p.rg.hr = .srcRecover ∧ p.fe.path = .none ∧ p.sluice.latched = false ∧
      p.fe.foreign = false) ∧
    PortW (fun p => p.timerOn .hrSink = true) ∧
    PortW (fun p => p.timerOn .psTransition = true ∧ p.attached = true ∧ p.rg.hr ≠ .signalling) ∧
    PortW (fun p => p.timerOn .noResponse = true ∧ p.pdstat.hrCount ≤ 2#2 ∧ p.attached = true ∧ p.rg.hr ≠ .signalling) ∧
    PortW (fun p => p.timerOn .noResponse = true ∧ p.pdstat.hrCount = 3#2 ∧ p.pdstat.erCount < p.pdcfg.erLimit) ∧
    PortW (fun p => p.timerOn .noResponse = true ∧ p.pdstat.hrCount = 3#2 ∧ p.pdcfg.erLimit ≤ p.pdstat.erCount ∧
      p.pdcfg.erLimit ≠ 15#4) :=
  ⟨portW { P with tc.state := .attachedSrc } (by decide), portW { P with rg.soft := some true } (by decide),
   portW { P with rg.hr := .signalling, rg.timers := [.hrComplete], rg.hrSource := true } (by decide),
   portW { P with rg.hr := .srcHold, rg.timers := [.psHardReset] } (by decide),
   portW { P with rg.hr := .srcRecover, rg.timers := [.srcRecover] } (by decide),
   portW { P with rg.timers := [.hrSink] } (by decide),
   portW { P with tc.state := .attachedSnk, rg.timers := [.psTransition] } (by decide),
   portW { P with tc.state := .attachedSrc, rg.timers := [.noResponse], pdstat.hrCount := 2#2 } (by decide),
   portW { P with rg.timers := [.noResponse], pdstat.hrCount := 3#2, pdcfg.erLimit := 3#4, pdstat.erCount := 2#4 } (by decide),
   portW { P with rg.timers := [.noResponse], pdstat.hrCount := 3#2, pdcfg.erLimit := 3#4, pdstat.erCount := 3#4 } (by decide)⟩

theorem witness_PdPowerTransitions :
    PortW (fun p => p.rg.armed = some pps ∧ p.timerOn .srcTrans = true ∧ p.rg.ramping = false) ∧
    PortW (fun p => p.rg.armed = some pps ∧ p.rg.ramping = true ∧ Port.inWindow pps 5900 = true ∧
      Port.inWindow pps 4000 = false ∧ p.timerOn .ppTimeout = true) ∧
    PortW (fun p => p.rg.srcOffArmed = true ∧ p.timerOn .srcTrans = true) ∧
    PortW (fun p => p.partner.frsArmed = true ∧ p.tc.state = .attachedSnk) ∧
    PortW (fun p => p.rg.frsSwap = true ∧ p.contract.swap = true ∧ p.fe.path = .none ∧ p.sluice.latched = false ∧
      p.fe.foreign = false) ∧
    PortW (fun p => p.timerOn .psSourceOn = true) ∧ PortW (fun p => p.timerOn .psSourceOff = true) ∧
    PortW (fun p => p.rg.flip = true) :=
  ⟨portW { P with rg.armed := some pps, rg.timers := [.srcTrans] } (by decide),
   portW { P with rg.armed := some pps, rg.ramping := true, rg.timers := [.ppTimeout] } (by decide),
   portW { P with rg.srcOffArmed := true, rg.timers := [.srcTrans] } (by decide),
   portW { P with partner.frsArmed := true, tc.state := .attachedSnk } (by decide),
   portW { P with rg.frsSwap := true, contract.swap := true } (by decide),
   portW { P with rg.timers := [.psSourceOn] } (by decide), portW { P with rg.timers := [.psSourceOff] } (by decide),
   portW { P with rg.flip := true } (by decide)⟩
/-- A source in Attached.SRC whose last set offered 5 V at 3 A. -/
def A : Port := { P with tc.state := .attachedSrc, role.lastSet := [0x0001912C#32], pdstat.rev := 2#2 }

theorem witness_PolicyAnswers :
    PortW (fun p => let r := p.trim; r.free ∧ r.attached = true ∧ r.rg.hr = .idle ∧ r.tc.state = .attachedSrc ∧
      r.busyCore = false ∧ r.rg.ramping = false ∧
      (r.headMsg.map fun m => (m.sop1, m.shape, isData m.header 2#5)) = some (false, false, true) ∧
      (r.headMsg.map fun m => match r.evalRequest ((withPort P).env 0) false (m.objs.headD 0#32) 0#32 with
        | .take w => decide (fld w 25 2 ≠ 3#2 ∧ (fld w 0 12).toNat ≤ 2400 ∧ (fld w 12 9).toNat ≤ 500)
        | _ => false) = some true) ∧
    PortW (fun p => let r := p.trim; r.free ∧ r.attached = true ∧ r.rg.hr = .idle ∧ r.tc.state = .attachedSrc ∧
      r.busyCore = false ∧ r.role.lastSet = [] ∧
      (r.headMsg.map fun m => (m.sop1, m.shape, isData m.header 2#5)) = some (false, false, true) ∧
      (r.headMsg.map fun m => match r.evalRequest ((withPort P).env 0) false (m.objs.headD 0#32) 0#32 with
        | .take _ => false | .budget => false | _ => true) = some true) ∧
    PortW (fun p => let r := p.trim; r.free ∧ r.attached = true ∧ r.rg.hr = .idle ∧ r.tc.state = .attachedSrc ∧
      r.busyCore = false ∧ (r.headMsg.map fun m => (m.sop1, m.shape, isData m.header 2#5)) = some (false, false, true) ∧
      (r.headMsg.map fun m => match r.evalRequest ((withPort P).env 0) false (m.objs.headD 0#32) 0#32 with
        | .budget => true | _ => false) = some true) ∧
    PortW (fun p => let r := p.trim; r.free ∧ r.attached = true ∧ r.rg.hr = .idle ∧ r.tc.state = .attachedSnk ∧
      r.role.swap = .none ∧ r.role.await ≠ .psRdy ∧ r.rg.ramping = false ∧
      (r.headMsg.map fun m => (m.sop1, m.shape, isData m.header 1#5)) = some (false, false, true)) ∧
    PortW (fun p => let r := p.trim; r.free ∧ r.attached = true ∧ r.rg.hr = .idle ∧ r.headIs .tcAttach = true ∧ r.tc.state = .attachedSrc ∧
      r.cableOpen = true ∧ r.role.cableTries < 2) ∧
    PortW (fun p => let r := p.trim; r.free ∧ r.attached = true ∧ r.rg.hr = .idle ∧ r.busyCore = false ∧ r.tc.state = .attachedSrc ∧
      r.prSwapOk ((withPort P).env 0) = true ∧
      (r.headMsg.map fun m => (m.sop1, m.shape, isCtrl m.header 10#5)) = some (false, false, true)) ∧
    PortW (fun p => let r := p.trim; r.free ∧ r.attached = true ∧ r.rg.hr = .idle ∧ r.busyCore = false ∧ r.srccap.drd = true ∧
      r.role.dpState = 0#2 ∧ r.partner.dockMode = false ∧
      (r.headMsg.map fun m => (m.sop1, m.shape, isCtrl m.header 9#5)) = some (false, false, true)) ∧
    PortW (fun p => let r := p.trim; r.free ∧ r.attached = true ∧ r.rg.hr = .idle ∧ r.busyCore = false ∧ r.srccap.drd = false ∧
      (r.headMsg.map fun m => (m.sop1, m.shape, isCtrl m.header 9#5)) = some (false, false, true)) ∧
    PortW (fun p => let r := p.trim; r.free ∧ r.attached = true ∧ r.rg.hr = .idle ∧ r.headOk [.accept] = true ∧ r.role.swap = .dr ∧
      r.role.setDue = false) ∧
    PortW (fun p => let r := p.trim; r.free ∧ r.attached = true ∧ r.rg.hr = .idle ∧ r.role.swap = .vconnGive ∧
      r.role.setDue = false ∧ (r.headMsg.map fun m => (m.sop1, isCtrl m.header tPsRdy)) = some (false, true)) ∧
    PortW (fun p => let r := p.trim; r.free ∧ r.attached = true ∧ r.rg.hr = .idle ∧ r.tc.state = .attachedSrc ∧
      r.busyCore = false ∧ r.role.eprMode = false ∧
      (r.headMsg.map fun m => (m.sop1, m.shape, isData m.header 10#5, fld (m.objs.headD 0#32) 24 8)) =
        some (false, false, true, 1#8)) ∧
    PortW (fun p => let r := p.trim; r.free ∧ r.attached = true ∧ r.rg.hr = .idle ∧ r.role.eprMode = true ∧ r.pdstat.rev ≠ 1#2 ∧
      (r.headMsg.map fun m => (m.sop1, hExt m.header, hType m.header, fld (m.objs.headD 0#32) 0 8)) =
        some (false, true, 16#5, 3#8)) :=
  ⟨portW { (inbox 0x1082#16 [0x1004B12C#32] A) with evtEn := 0#32 } (by unfold Port.free; decide),
   portW { (inbox 0x1082#16 [0x1004B12C#32] A) with role.lastSet := [] } (by unfold Port.free; decide),
   portW { (inbox 0x1082#16 [0x2004B12C#32] A) with role.share := 1#16, role.lastSet := [0x0001912C#32, 0x0002D12C#32] } (by unfold Port.free; decide),
   portW { (inbox 0x1181#16 [0x0001912C#32] A) with tc.state := .attachedSnk } (by unfold Port.free; decide),
   portW { (event .tcAttach A) with cc.vconnOn := true, pdcfg.sop1En := true } (by unfold Port.free; decide),
   portW { (inbox 0x008A#16 [] A) with srccap.drpPwr := true, contract.explicit := true, rg.cfgType := 2#2 } (by unfold Port.free; decide),
   portW { (inbox 0x0089#16 [] A) with srccap.drd := true } (by unfold Port.free; decide),
   portW { (inbox 0x0089#16 [] A) with srccap.drd := false } (by unfold Port.free; decide),
   portW { (A.post .pdTxOk 7#36) with role.swap := .dr, role.outs := [⟨7#8, .accept⟩] } (by unfold Port.free; decide),
   portW { (inbox 0x0086#16 [] A) with role.swap := .vconnGive } (by unfold Port.free; decide),
   portW { (inbox 0x108A#16 [0x01000000#32] A) with evtEn := 0#32 } (by unfold Port.free; decide),
   portW { (inbox 0x9090#16 [0x3#32] A) with role.eprMode := true } (by unfold Port.free; decide)⟩

theorem witness_PolicyService :
    PortW (fun p => let r := p.trim; r.free ∧ r.attached = true ∧ r.rg.hr = .idle ∧ r.pdstat.rev ≠ 1#2 ∧
      (r.headMsg.map fun m => (m.sop1, m.shape, isCtrl m.header 18#5)) = some (false, false, true)) ∧
    PortW (fun p => let r := p.trim; r.free ∧ r.attached = true ∧ r.rg.hr = .idle ∧ r.contract.explicit = true ∧
      r.busyCore = false ∧ r.rg.rx = none ∧
      (r.headMsg.map fun m => (m.sop1, m.shape, hExt m.header)) = some (false, true, false)) ∧
    PortW (fun p => let r := p.trim; r.free ∧ r.attached = true ∧ r.rg.hr = .idle ∧ r.pdstat.rev = 2#2 ∧
      (r.headMsg.map fun m => (m.sop1, m.shape, m.last, isCtrl m.header 20#5)) = some (false, false, true, true)) ∧
    PortW (fun p => let r := p.trim; r.free ∧ r.attached = true ∧ r.rg.hr = .idle ∧ r.headMsg = none ∧ r.busyCore = false ∧
      r.rg.lastSeq = none ∧ r.role.dpStep = 0 ∧ r.role.dockStep = 0 ∧ r.role.dpState = 0#2 ∧ r.role.dpDone = false ∧
      r.alt.dpEn = true ∧ r.alt.muxAddr ≠ 0#7 ∧ r.alt.muxFail = false ∧ r.contract.explicit = true ∧
      r.pdstat.drole = true ∧ r.srccap.dockEn = false) ∧
    PortW (fun p => let r := p.trim; r.free ∧ r.attached = true ∧ r.rg.hr = .idle ∧ r.headMsg = none ∧ r.busyCore = false ∧
      r.rg.lastSeq = none ∧ r.role.dockStep = 0 ∧ r.role.dockDone = false ∧ r.srccap.dockEn = true ∧
      r.contract.explicit = true ∧ r.pdstat.drole = true ∧ r.partner.identDone = false) ∧
    PortW (fun p => let r := p.trim; r.headIs .slBreach = true ∧ r.stg.pending = false ∧ r.tc.state = .attachedSnk ∧ r.role.softDue = false) ∧
    PortW (fun p => let r := p.trim; r.headIs .slBreach = false ∧ r.role.breach = some 3#4 ∧ r.stg.pending = false ∧
      r.attached = true ∧ r.rg.hr = .idle ∧ r.fe.cond = [] ∧ r.sluice.latched = true ∧ r.sluice.lockout = false) ∧
    PortW (fun p => let r := p.trim; r.attached = false ∧ r.stg.pending = false ∧ r.role.dpState ≠ 0#2 ∧ r.alt.muxFail = false ∧
      (withPort p).sysq[13].fits 2 = true) :=
  ⟨portW { (inbox 0x0092#16 [] A) with evtEn := 0#32 } (by unfold Port.free; decide),
   portW { (A.pushGroup (Port.rxGroup frame true true 0)) with contract.explicit := true } (by unfold Port.free; decide),
   portW { (inbox 0x0094#16 [] A) with pdstat.rev := 2#2 } (by unfold Port.free; decide),
   portW { A with alt.dpEn := true, alt.muxAddr := 0x40#7, contract.explicit := true, pdstat.drole := true }
     (by unfold Port.free; decide),
   portW { A with srccap.dockEn := true, contract.explicit := true, pdstat.drole := true } (by unfold Port.free; decide),
   portW { (event .slBreach P) with tc.state := .attachedSnk } (by decide),
   portW { A with role.breach := some 3#4, sluice.latched := true } (by decide),
   portW { P with role.dpState := 1#2 } (by decide)⟩

theorem witness_ShedWalk :
    (∃ h : Shed, h.stat.stage.toNat ≤ 5) ∧ (∃ h : Shed, h.stat.stage.toNat = 6) :=
  ⟨⟨Shed.reset, by decide⟩, ⟨{ Shed.reset with stat.stage := 6#3 }, by decide⟩⟩

theorem witness_ShedSampleAndS6 :
    (∃ s : State, s.shedRuns = true ∧ s.sys.mode = .run ∧ s.sh.stat.stage ≠ 6#3 ∧ s.sh.berm.vFloor ≠ 0#10) ∧
    (∃ s : State, s.shedRuns = false) ∧
    (∃ s : State, s.sys.mode = .run ∧ s.sh.stat.stage ≠ 6#3) ∧
    (∃ s : State, s.sh.stat.stage = 6#3) :=
  ⟨⟨{ up with sh.berm.vFloor := 300#10 }, by decide⟩,
   ⟨{ up with sys.mode := .por }, by decide⟩,
   ⟨{ up with sh.stat.stage := 3#3 }, by decide⟩,
   ⟨{ up with sh.stat.stage := 6#3 }, by decide⟩⟩

theorem witness_Heartbeats :
    (∃ s : State, s.sys.mode = .run ∧ s.sys.supKicked = false) ∧
    (∃ s : State, s.sys.mode = .run ∧ s.sys.supKicked = true ∧ s.supWatched = true) ∧
    (∃ s : State, s.polders[(0 : PolderId)].die = true ∧ s.cls 0 ≠ .a ∧ (∃ n : PortId, polderOf n ≠ 0)) ∧
    (∃ s : State, s.polders[(0 : PolderId)].die = false) :=
  ⟨⟨{ up with cores := up.cores }, by decide⟩,
   ⟨{ up with sys.supKicked := true, polders := up.polders.set 1 { upPolder with pld := true } }, by decide⟩,
   ⟨{ up with pcfg := Vector.ofFn fun i => { PCfg.reset with cls := if i.val % 2 = 0 then .b else .a } }, by decide⟩,
   ⟨{ up with polders := up.polders.set 0 { upPolder with die := false } }, by decide⟩⟩

theorem witness_RailsAndShelf :
    (∃ s : State, s.sh.vddioOk = true) ∧
    (∃ s : State, s.sh.vddioOk = false) ∧
    (∃ s : State, s.polders[(0 : PolderId)].die = true ∧ s.sys.mode ≠ .island) ∧
    (∃ s : State, s.controlUp = true ∧ s.sys.mode ≠ .island ∧ 3#3 ≤ s.fl.upd.phase ∧ s.fl.upd.phase ≤ 7#3) ∧
    (∃ s : State, s.controlUp = true ∧ s.sys.mode ≠ .island ∧ s.sh.stat.stage = 6#3) ∧
    (∃ s : State, s.controlUp = true ∧ s.sys.mode ≠ .island ∧ s.fl.upd.phase < 3#3 ∧ s.sh.stat.stage ≠ 6#3) :=
  ⟨⟨{ up with cores := up.cores }, by decide⟩,
   ⟨{ up with sh.vddioOk := false }, by decide⟩,
   ⟨{ up with ports := up.ports.set 0 { P with fe.cond := [.vgdLow], fe.held := true } }, by decide⟩,
   ⟨{ up with fl.upd.phase := 5#3 }, by decide⟩,
   ⟨{ up with sh.stat.stage := 6#3 }, by decide⟩,
   ⟨{ up with fl.upd.phase := 2#3 }, by decide⟩⟩

theorem witness_ClassWritesAndShare :
    (∃ s : State, s.controlUp = true ∧ s.sys.mode ≠ .island ∧ s.ports[(0 : PortId)].heldCls = none ∧ s.cls 0 ≠ .a ∧
      24 ≤ s.classACount) ∧
    (∃ s : State, s.controlUp = true ∧ s.sys.mode ≠ .island ∧ s.ports[(0 : PortId)].heldCls = none ∧ s.cls 0 ≠ .b ∧
      (s.ports[(0 : PortId)].place.migrating || s.ports[(0 : PortId)].place.prepared) = true) ∧
    (∃ s : State, s.controlUp = true ∧ s.sys.mode ≠ .island ∧ s.ports[(0 : PortId)].heldCls = none ∧ s.cls 0 ≠ .a ∧
      s.classACount < 24 ∧ (s.ports[(0 : PortId)].place.migrating || s.ports[(0 : PortId)].place.prepared) = false ∧
      s.holdLine .a = false ∧ s.ports[(0 : PortId)].q.held = true ∧ s.ports[(0 : PortId)].tc.state ≠ .disabled ∧
      s.ports[(0 : PortId)].fe.reports = [] ∧ s.polders[polderOf 0].stat.hbLost = false ∧ s.polders[polderOf 0].pld = false) ∧
    (∃ s : State, s.controlUp = true ∧ s.sys.mode ≠ .island ∧ s.ports[(0 : PortId)].heldCls = none ∧ s.cls 0 ≠ .b ∧
      (s.ports[(0 : PortId)].place.migrating || s.ports[(0 : PortId)].place.prepared) = false ∧
      s.polders[polderOf 0].pld = false ∧ s.holdLine .b = true ∧ s.ports[(0 : PortId)].pfault.oos = false ∧
      s.polders[polderOf 0].stat.hbLost = true) ∧
    (∃ s : State, s.controlUp = true ∧ s.sys.mode ≠ .island ∧ s.polders[polderOf 0].pld = true) ∧
    (∃ s : State, s.controlUp = true ∧ s.sys.mode ≠ .island ∧ s.roleRuns 0#5 = true ∧
      s.mailHead 0 = some (1#8, 5#8, [60#36])) :=
  ⟨⟨{ up with pcfg := Vector.ofFn fun i => { PCfg.reset with cls := if 1 ≤ i.val ∧ i.val ≤ 24 then .a else .c } }, by decide⟩,
   ⟨{ up with ports := up.ports.set 0 { P with place.migrating := true } }, by decide⟩,
   ⟨{ up with ports := up.ports.set 0 { P with q.held := true } }, by decide⟩,
   ⟨{ up with sh.stat.stage := 5#3, polders := up.polders.set 0 { upPolder with stat.hbLost := true } }, by decide⟩,
   ⟨{ up with polders := up.polders.set 0 { upPolder with pld := true } }, by decide⟩,
   ⟨{ up with sysq := (up.post 0 (State.mbxGroup 13#4 1#8 5#8 [60#36])).sysq }, by decide⟩⟩

/-- The inputs of an allocator run. -/
def allocIn : AllocIn :=
  { ship := 100#20, lim := Vector.replicate 32 90#20, cap := Vector.replicate 32 80#20,
    floor := up.bg.floor, demand := [(up.ownAddr, up.ownDemand)], tLease := 5#12, time := 0#48 }

theorem witness_AllocationAndLeases :
    (∃ s : State, s.sys.mode = .run ∧ s.roleRuns 13#5 = true ∧ s.allocates = true ∧ s.bg.run = none) ∧
    (∃ s : State, s.sys.mode = .run ∧ s.roleRuns 13#5 = true ∧ s.allocates = true ∧ s.bg.run.isSome = true) ∧
    (∃ s : State, s.sys.mode = .run ∧ s.roleRuns 13#5 = true ∧ s.bg.stat.island = false ∧
      (∀ m : PortId, s.ports[m].attached = true ↔ m = 0) ∧ s.bg.grants ≠ [] ∧ s.ports[(0 : PortId)].role.divided ≠ 5#16) ∧
    (∃ s : State, s.sys.mode = .run ∧ s.roleRuns 13#5 = true ∧ s.isWorker = false) ∧
    (∃ s : State, s.sys.mode = .run ∧ s.roleRuns 13#5 = true ∧ s.isWorker = true ∧ s.bg.stat.leaseValid = true) :=
  ⟨⟨{ up with bg.demand := [(up.ownAddr, []), (3#6, [])] }, by decide⟩,
   ⟨{ up with bg.run := some allocIn }, by decide⟩,
   ⟨{ up with bg.stat.island := false,
              bg.grants := [{ feeder := up.pcfg[(0 : PortId)].feeder, cls := (up.cls 0).code, g := 7#20 }],
              ports := Vector.ofFn fun n => if n = 0 then { P with tc.state := .attachedSrc, role.divided := 9#16 } else Port.reset n },
    by refine ⟨by decide, by decide, by decide, fun m => ?_, by decide, by decide⟩
       by_cases h : m = 0
       · subst h; simp [Port.attached]
       · simp only [Port.attached, Vector.getElem_ofFn, Fin.getElem_fin, Fin.eta, h, if_false]; simp only [Port.reset]; exact ⟨nofun, nofun⟩⟩,
   ⟨{ up with bg.demand := [] }, by decide⟩,
   ⟨{ up with sys.stat.role := 2#2, bg.stat.leaseValid := true, bg.grants := [{ feeder := 1#5, cls := 2#2, g := 7#20 }] }, by decide⟩⟩

/-- Two feeders, a demand of one worker that the limits cannot meet. -/
def demands : List (BitVec 6 × List Demand) :=
  [(1#6, [{ feeder := 0#5, cls := 1#2, n := 1, fl := 10, want := 90 }, { feeder := 1#5, cls := 3#2, n := 2, fl := 5, want := 60 }])]

theorem witness_AllocatorWithinLimits :
    (∀ w ∈ demands, ∀ d ∈ w.2, d.fl ≤ d.want) ∧
    (((List.range 32).map fun f => (demands.map fun w => (demandOf w.2 f 1).1).sum).sum ≤ 100 ∧
      ∀ f, f < 2 → (demands.map fun w => (demandOf w.2 f 1).1).sum ≤ [(60 : Rat), 40].getD f 0) := by
  refine ⟨by decide, ?_, fun f h => ?_⟩
  · norm_num [demands, demandOf, List.range, List.range.loop]
  · rcases (by omega : f = 0 ∨ f = 1) with rfl | rfl <;> norm_num [demands, demandOf]

/-- A polder with an active common half that serves. -/
def halfPolder : Polder := { upPolder with halfA := { Half.init with st := .serving } }

theorem witness_CommonHalves :
    (∃ s : State, s.plRegUp 0 = true ∧ s.polders[(0 : PolderId)].standby.st = .ready) ∧
    (∃ s : State, s.plRegUp 0 = true ∧ s.polders[(0 : PolderId)].standby.st ≠ .ready) ∧
    (∃ s : State, s.plRegUp 0 = false) ∧
    (∃ s : State, let P := s.polders[(0 : PolderId)]; P.die = true ∧ P.swPend = true ∧ P.standby.st = .ready) ∧
    (∃ s : State, let P := s.polders[(0 : PolderId)]; P.die = true ∧ P.swPend = false ∧ P.active.st = .serving ∧ s.controlUp = true ∧ s.sysq[49].fits 1 = true) ∧
    (∃ s : State, let P := s.polders[(0 : PolderId)]; P.die = true ∧ P.active.st ≠ .serving) :=
  ⟨⟨{ up with polders := up.polders.set 0 { halfPolder with halfB := { Half.init with st := .ready } } }, by decide⟩,
   ⟨{ up with polders := up.polders.set 0 halfPolder }, by decide⟩,
   ⟨{ up with polders := up.polders.set 0 { halfPolder with pld := true } }, by decide⟩,
   ⟨{ up with polders := up.polders.set 0 { halfPolder with halfB := { Half.init with st := .ready }, swPend := true } },
    by decide⟩,
   ⟨{ up with polders := up.polders.set 0 halfPolder }, by decide⟩,
   ⟨{ up with polders := up.polders.set 0 upPolder }, by decide⟩⟩

/-- A store of which slot 1 is as given. -/
def slot1 (x : TplSlot) : TplStore := { TplStore.reset with slots := TplStore.reset.slots.set 1 x }

/-- A VALID region template in slot 1. -/
def validSlot : TplSlot := { TplSlot.init with st := .valid }

/-- A polder whose region 50 is as given. -/
def spare50 (R : FabRegion) : Polder := { upPolder with regions := upPolder.regions.set 50 R }

theorem witness_LoadSwitchUnload :
    (∃ s : State, s.fromSup (.core 13) = true ∧ s.plRegUp 0 = true ∧ s.slotOk 1#4 false = true ∧ s.isSpoiled 1#4 (regionId 0 50) = false ∧
      s.joining 0 50#6 = false ∧
      s.polders[(0 : PolderId)].regions[(50 : RegionId)].st = .empty ∧ s.polders[(0 : PolderId)].load = none) ∧
    (∃ s : State, s.fromSup (.core 13) = true ∧ s.plRegUp 0 = true ∧ s.slotOk 1#4 false = false ∧
      s.polders[(0 : PolderId)].regions[(50 : RegionId)].st ≠ .ready ∧ s.polders[(0 : PolderId)].load = none) ∧
    (∃ s : State, s.fromSup (.core 13) = true ∧ s.plRegUp 0 = true ∧ s.slotOk 1#4 false = true ∧
      s.polders[(0 : PolderId)].regions[(50 : RegionId)].st = .serving) ∧
    (∃ s : State, s.fromSup (.core 13) = true ∧ s.plRegUp 0 = true ∧ s.slotOk 1#4 false = true ∧ s.joining 0 50#6 = true ∧
      s.polders[(0 : PolderId)].load = none) ∧
    (∃ s : State, s.fromSup (.core 13) = true ∧ s.plRegUp 0 = true ∧ s.slotOk 1#4 false = true ∧ s.isSpoiled 1#4 (regionId 0 50) = false ∧
      s.joining 0 50#6 = false ∧
      s.polders[(0 : PolderId)].regions[(50 : RegionId)].st = .ready ∧ s.polders[(0 : PolderId)].load.isSome = true) ∧
    (∃ s : State, s.fromSup (.core 13) = true ∧ s.polders[(0 : PolderId)].regions[(50 : RegionId)].st = .ready ∧
      s.plRegUp 0 = true ∧ s.joining 0 50#6 = false ∧ s.polders[(0 : PolderId)].load = none) ∧
    (∃ s : State, let P := s.polders[(0 : PolderId)]
      s.fromSup (.core 13) = true ∧ s.plRegUp 0 = true ∧ P.regions[(50 : RegionId)].st = .ready ∧
      P.regions[(50 : RegionId)].trial = .none ∧ (∀ j ∈ P.load.toList ++ P.waiting, j.target ≠ some 50) ∧ s.isSpoiled 1#4 (regionId 0 50) = false ∧
      (∀ p' : PosId, p' ≠ 0 → P.culv[p'].region ≠ 50#6) ∧ P.switching = [] ∧ (P.regionAt 0).st = .serving ∧
      P.prepared = some (0, 50)) ∧
    (∃ s : State, s.fromSup (.core 13) = true ∧ s.plRegUp 0 = true ∧ s.slotOk 1#4 true = true ∧ s.slotOk 1#4 false = false ∧
      s.isSpoiled 7#4 (halfId 0 !s.polders[(0 : PolderId)].commonB) = false ∧ s.polders[(0 : PolderId)].load = none ∧
      s.polders[(0 : PolderId)].standby.st = .ready) ∧
    (∃ s : State, let P := s.polders[(0 : PolderId)]
      P.die = true ∧ P.waiting = [] ∧ P.standby.ref = false ∧
      P.load = some { target := none, slot := 1#4, unload := false, purpose := .command }) ∧
    (∃ s : State, let P := s.polders[(0 : PolderId)]
      P.die = true ∧ P.waiting = [] ∧ P.standby.ref = false ∧
      P.load = some { target := none, slot := 1#4, unload := true, purpose := .command }) ∧
    (∃ s : State, s.fromSup (.core 0) = false) ∧ (∃ s : State, s.plRegUp 0 = false) ∧
    (∃ s : State, let P := s.polders[(0 : PolderId)]
      P.die = true ∧ P.waiting = [] ∧ P.regions[(50 : RegionId)].ref = false ∧
      P.load = some { target := some 50, slot := 1#4, unload := false, purpose := .command }) ∧
    (∃ s : State, let P := s.polders[(0 : PolderId)]
      P.die = true ∧ P.waiting = [] ∧ P.regions[(50 : RegionId)].ref = false ∧
      P.load = some { target := some 50, slot := 1#4, unload := true, purpose := .command }) ∧
    (∃ s : State, let P := s.polders[(0 : PolderId)]
      P.die = true ∧ P.switching = [{ pos := 0, region := 50, kind := .command, cause := 0#4 }]) :=
  ⟨⟨{ up with store := slot1 validSlot, polders := up.polders.set 0 (spare50 FabRegion.init) }, by decide⟩,
   ⟨{ up with polders := up.polders.set 0 (spare50 FabRegion.init) }, by decide⟩,
   ⟨{ up with store := slot1 validSlot }, by decide⟩,
   ⟨{ up with store := slot1 validSlot, polders := up.polders.set 0 { spare50 { FabRegion.init with st := .ready } with
       switching := [{ pos := 0, region := 50, kind := .command, cause := 0#4 }] } }, by decide⟩,
   ⟨{ up with store := slot1 validSlot, polders := up.polders.set 0 { spare50 { FabRegion.init with st := .ready } with
       load := some { target := some 51, slot := 1#4, unload := false, purpose := .command } } }, by decide⟩,
   ⟨{ up with polders := up.polders.set 0 (spare50 { FabRegion.init with st := .ready }) }, by decide⟩,
   ⟨{ up with polders := up.polders.set 0 { spare50 { FabRegion.init with st := .ready } with prepared := some (0, 50) } },
    by decide⟩,
   ⟨{ up with store := slot1 { validSlot with common := true },
              polders := up.polders.set 0 { upPolder with halfB := { Half.init with st := .ready } } }, by decide⟩,
   ⟨{ up with store := slot1 { validSlot with common := true }, polders := up.polders.set 0 { upPolder with
       halfB := { Half.init with st := .loading },
       load := some { target := none, slot := 1#4, unload := false, purpose := .command } } }, by decide⟩,
   ⟨{ up with store := slot1 { validSlot with common := true }, polders := up.polders.set 0 { upPolder with
       halfB := { Half.init with st := .loading },
       load := some { target := none, slot := 1#4, unload := true, purpose := .command } } }, by decide⟩,
   ⟨{ up with store := slot1 validSlot }, by decide⟩,
   ⟨{ up with polders := up.polders.set 0 { upPolder with pld := true } }, by decide⟩,
   ⟨{ up with store := slot1 validSlot, polders := up.polders.set 0 { spare50 { FabRegion.init with st := .loading } with
       load := some { target := some 50, slot := 1#4, unload := false, purpose := .command } } }, by decide⟩,
   ⟨{ up with store := slot1 validSlot, polders := up.polders.set 0 { spare50 { FabRegion.init with st := .loading } with
       load := some { target := some 50, slot := 1#4, unload := true, purpose := .command } } }, by decide⟩,
   ⟨{ up with polders := up.polders.set 0 { spare50 { FabRegion.init with st := .ready } with
       switching := [{ pos := 0, region := 50, kind := .command, cause := 0#4 }] } }, by decide⟩⟩

/-- The words of a common image that checks: a body of zeros with its descriptor's first word, and the SHA-256 of it. -/
def imageWords : List Word :=
  let body : List Word := 0x00800005#32 :: List.replicate 391 0#32
  body ++ leWords (sha256 (body.flatMap leBytes))

theorem leWords_sha256_length (bs : List Byte) : (leWords (sha256 bs)).length = 8 := by
  simp [sha256, beBytes, leWords]

theorem imageWords_check : ({ TplSlot.init with common := true, words := imageWords } : TplSlot).check = 0#4 := by
  have e : ∀ b : List Word, b.length = 392 → ∀ h : List Word, (b ++ h).take 392 = b ∧ (b ++ h).drop 392 = h :=
    fun b hb h => ⟨List.take_left' hb, List.drop_left' hb⟩
  have hb : (0x00800005#32 :: List.replicate 391 0#32 : List Word).length = 392 := rfl
  have hl : imageWords.length = 400 := by
    simp only [imageWords, List.length_append, leWords_sha256_length, hb]
  have h0 : imageWords.getD 0 0#32 = 0x00800005#32 := rfl
  have ⟨h1, h2⟩ := e _ hb (leWords (sha256 ((0x00800005#32 :: List.replicate 391 0#32 : List Word).flatMap leBytes)))
  unfold TplSlot.check
  simp only [hl, h0, bodyWords, if_true]
  rw [if_neg (by decide), if_neg (by decide), if_neg (by decide)]
  rw [show imageWords.take 392 = _ from h1, show imageWords.drop 392 = _ from h2, if_neg (by simp)]
  decide

theorem witness_TemplateStore :
    (∃ s : State, s.fromSup (.core 13) = true ∧ s.store.slots[(1 : SlotId)].st = .empty ∧ s.store.writing = none ∧
      1 ∉ s.store.checking ∧ s.slotRead 1 = false) ∧
    (∃ s : State, s.fromSup (.core 13) = true ∧ s.store.slots[(1 : SlotId)].st ≠ .empty ∧
      s.store.slots[(1 : SlotId)].st ≠ .bad ∧ s.store.slots[(1 : SlotId)].st ≠ .writing ∧ s.store.slots[(1 : SlotId)].refs = 0#8 ∧
      s.slotRead 1 = false) ∧
    (∃ s : State, s.fromSup (.core 13) = true ∧ s.store.writing = some 1) ∧
    (∃ s : State, s.fromSup (.core 13) = true ∧ s.store.writing = none ∧ s.store.slots[(1 : SlotId)].refs ≠ 0#8) ∧
    (∃ s : State, s.fromSup (.core 13) = false) ∧
    (∃ s : State, s.store.checking = [1] ∧ s.store.slots[(1 : SlotId)].check ≠ 0#4) ∧
    (∃ s : State, s.store.checking = [1, 2] ∧ s.store.slots[(1 : SlotId)].check = 0#4) :=
  ⟨⟨{ up with store := TplStore.reset }, by decide⟩,
   ⟨{ up with store := slot1 validSlot }, by decide⟩,
   ⟨{ up with store := { slot1 { TplSlot.init with st := .writing } with writing := some 1 } }, by decide⟩,
   ⟨{ up with store := slot1 { validSlot with refs := 2#8 } }, by decide⟩,
   ⟨{ up with sys.mode := .por }, by decide⟩,
   ⟨{ up with store := { slot1 { TplSlot.init with st := .writing } with checking := [1] } }, by decide⟩,
   ⟨{ up with store := { slot1 { TplSlot.init with common := true, words := imageWords } with checking := [1, 2] } },
    rfl, imageWords_check⟩⟩

theorem witness_FabricScrubs :
    (∃ s : State, let P := s.polders[(0 : PolderId)]
      P.die = true ∧ P.scrubNext < 16384 ∧ P.loadingAt P.scrubNext = false ∧ P.scrubStack = []) ∧
    (∃ upset : BitVec 112, foundIn 24 4 0#96 upset ≠ .many ∧ slip 24 4 upset = 0#96) ∧
    (∃ (s : State) (upset : BitVec 112), foundIn 24 4 0#96 upset ≠ .many ∧ slip 24 4 upset ≠ 0#96 ∧ s.store.scrubRow / 289 = 1) ∧
    (∃ (s : State) (upset : BitVec 112), foundIn 24 4 0#96 upset = .many ∧ s.store.scrubRow / 289 = 1 ∧
      s.store.slots[(1 : SlotId)].st ≠ .valid) :=
  ⟨⟨{ up with store := TplStore.reset }, by decide⟩, ⟨0#112, by decide⟩,
   ⟨{ up with store := { TplStore.reset with scrubRow := 300 } }, rowEncode 24 4 1#96, by decide⟩,
   ⟨{ up with store := { TplStore.reset with scrubRow := 300 } }, 0x11#112, by decide⟩⟩

/-- A READY spare, region 50. -/
def ready50 : Polder := spare50 { FabRegion.init with st := .ready }

/-- A polder with port 0's culvert on region 0, whose only READY spare is region 50, with its spare order. -/
theorem witness_MigrationAndTrials :
    (∃ s : State, s.portRegsUp 0 ∧ ¬(s.ports[(0 : PortId)].pfault.oos = true ∧ s.ports[(0 : PortId)].pfault.oosCause = 1#2)) ∧
    (∃ s : State, s.portRegsUp 0 ∧ s.ports[(0 : PortId)].pfault.oos = true ∧ s.ports[(0 : PortId)].pfault.oosCause = 1#2 ∧
      s.isSpoiled 1#4 (regionId 0 0) = false ∧ s.polders[(0 : PolderId)].regions[(0 : RegionId)].st = .ready ∧
      s.polders[(0 : PolderId)].regions[(0 : RegionId)].slot = s.polders[(0 : PolderId)].tplMap[(0 : PosId)] ∧
      s.polders[(0 : PolderId)].regions[(0 : RegionId)].trial = .none ∧ s.queueless 0 = false) ∧
    (∃ s : State, s.controlUp = true ∧ s.polders[(0 : PolderId)].pld = false ∧ s.ports[(0 : PortId)].place.migrating = false ∧ s.stopped (s.cls 0) = false ∧
      s.ports[(0 : PortId)].pfault.oos = false ∧ (s.polders[(0 : PolderId)].regionAt 0).st = .serving ∧
      s.polders[(0 : PolderId)].prepared = none ∧ s.polders[(0 : PolderId)].die = true ∧
      (s.polders[(0 : PolderId)].regionAt 0).isolated = false ∧ s.polders[(0 : PolderId)].culv[(0 : PosId)].switching = false ∧
      s.store.slots[(s.polders[(0 : PolderId)].regionAt 0).slot.toNat].st = .valid ∧ s.freeSpareFor 0 0 = some 50 ∧
      s.polders[(0 : PolderId)].active.st = .serving ∧
      s.polders[(0 : PolderId)].regions[(50 : RegionId)].st = .ready ∧
      s.polders[(0 : PolderId)].regions[(50 : RegionId)].slot = (s.polders[(0 : PolderId)].regionAt 0).slot ∧
      50 ≠ s.polders[(0 : PolderId)].culv[(0 : PosId)].region.toNat) ∧
    (∃ s : State, s.controlUp = true ∧ s.polders[(0 : PolderId)].pld = false ∧ s.ports[(0 : PortId)].place.migrating = false ∧ s.stopped (s.cls 0) = false ∧
      s.ports[(0 : PortId)].pfault.oos = false ∧ (s.polders[(0 : PolderId)].regionAt 0).st = .serving ∧
      s.polders[(0 : PolderId)].prepared = none ∧ s.polders[(0 : PolderId)].die = true ∧
      (s.polders[(0 : PolderId)].regionAt 0).isolated = false ∧ s.polders[(0 : PolderId)].culv[(0 : PosId)].switching = false ∧
      s.store.slots[(s.polders[(0 : PolderId)].regionAt 0).slot.toNat].st ≠ .valid) ∧
    (∃ s : State, s.controlUp = true ∧ s.ports[(0 : PortId)].attached = true ∧ s.ports[(0 : PortId)].pdcfg.pdEn = true ∧
      s.ports[(0 : PortId)].pdstat.giveup = false ∧ s.ports[(0 : PortId)].onAir = false ∧
      s.ports[(0 : PortId)].q.fits 3 = true ∧ (s.polders[(0 : PolderId)].regionAt 0).st = .serving) ∧
    (∃ s : State, let P := s.polders[(0 : PolderId)]; let R := P.regions[(50 : RegionId)]
      s.fromSup (.core 13) = true ∧ s.ports[(0 : PortId)].place.migrating = false ∧ s.ports[(0 : PortId)].pfault.oos = false ∧
      (P.regionAt 0).st = .serving ∧ R.st = .ready ∧ s.isSpoiled 1#4 (regionId 0 50) = false ∧ R.trial = .none ∧
      P.switching = [] ∧ R.slot = P.culv[(0 : PosId)].slot ∧ P.prepared = none ∧ P.load = none) ∧
    (∃ s : State, let P := s.polders[(0 : PolderId)]; let R := P.regions[(50 : RegionId)]
      s.fromSup (.core 13) = true ∧ s.ports[(0 : PortId)].place.migrating = false ∧ s.ports[(0 : PortId)].pfault.oos = false ∧
      (P.regionAt 0).st = .serving ∧ R.st = .ready ∧ s.isSpoiled 1#4 (regionId 0 50) = false ∧ R.trial = .none ∧
      P.switching = [] ∧ R.slot ≠ P.culv[(0 : PosId)].slot ∧ R.slot = P.tplMap[(0 : PosId)] ∧ P.prepared = none) ∧
    (∃ s : State, let P := s.polders[(0 : PolderId)]; let R := P.regions[(50 : RegionId)]
      s.fromSup (.core 13) = true ∧ s.ports[(0 : PortId)].place.migrating = false ∧ s.ports[(0 : PortId)].pfault.oos = false ∧
      (P.regionAt 0).st = .serving ∧ R.st = .ready ∧ s.isSpoiled 1#4 (regionId 0 50) = false ∧ R.trial = .none ∧
      P.switching = [] ∧ R.slot = P.culv[(0 : PosId)].slot ∧ P.prepared.isSome = true) ∧
    (∃ s : State, s.fromSup (.core 13) = true ∧ s.polders[(0 : PolderId)].prepared = some (0, 50) ∧
      s.polders[(0 : PolderId)].switching = [] ∧ s.ports[(0 : PortId)].heldCls = none ∧ s.ports[(0 : PortId)].fe.reports = [] ∧
      s.ports[(0 : PortId)].fe.fdetLatch = false ∧ s.ports[(0 : PortId)].fe.foreignOwed = false ∧
      s.ports[(0 : PortId)].fe.disOwed = false ∧ s.parkedWaiting 0 = none ∧ s.repeatWaiting 0 = none ∧
      (s.polders[(0 : PolderId)].region 0).backDue = false) ∧
    (∃ s : State, s.polders[(0 : PolderId)].regions[(50 : RegionId)].trial = .watching true) ∧
    (∃ s : State, s.polders[(0 : PolderId)].regions[(50 : RegionId)].trial = .watching false) :=
  ⟨⟨{ up with ports := up.ports.set 0 { P with pfault.fe := 3#4 } }, by unfold State.portRegsUp; decide⟩,
   ⟨{ up with ports := up.ports.set 0 { P with pfault.oos := true, pfault.oosCause := 1#2 },
              polders := up.polders.set 0 { upPolder with
                regions := upPolder.regions.set 0 { FabRegion.init with st := .ready } } },
    by unfold State.portRegsUp; decide⟩,
   ⟨{ up with store := { TplStore.reset with slots := TplStore.reset.slots.set 0 validSlot },
              polders := up.polders.set 0 { ready50 with order := [50], halfA := { Half.init with st := .serving } } }, by decide⟩,
   ⟨{ up with polders := up.polders.set 0 { ready50 with order := [50] } }, by decide⟩,
   ⟨{ up with ports := up.ports.set 0 { P with tc.state := .attachedSrc, pdcfg.pdEn := true },
              polders := up.polders.set 0 { ready50 with order := [50] } }, by decide⟩,
   ⟨{ up with polders := up.polders.set 0 ready50 }, by decide⟩,
   ⟨{ up with polders := up.polders.set 0 { spare50 { FabRegion.init with st := .ready, slot := 2#4 } with
       tplMap := Vector.replicate 48 2#4 } }, by decide⟩,
   ⟨{ up with polders := up.polders.set 0 { ready50 with prepared := some (3, 51) } }, by decide⟩,
   ⟨{ up with ports := up.ports.set 0 { P with place.prepared := true },
              polders := up.polders.set 0 { ready50 with prepared := some (0, 50) } }, by decide⟩,
   ⟨{ up with polders := up.polders.set 0 (spare50 { FabRegion.init with st := .ready, trial := .watching true }) }, by decide⟩,
   ⟨{ up with polders := up.polders.set 0 (spare50 { FabRegion.init with st := .ready, trial := .watching false }) },
    by decide⟩⟩

/-- The cores of a device in RUN with core 15 a free spare and core 0 as given. -/
def cores0 (f : Core → Core) : Vector Core 16 := up.cores.set 0 (f up.cores[(0 : CoreId)])

theorem witness_CoreTakeovers :
    (∃ s : State, (s.inService 14 = true ∧ s.cores[(14 : CoreId)].role.role = 14#4) ∧ s.fromSup (.core 13) = true ∧
      s.inService 0 = true ∧ s.cores[(0 : CoreId)].role = { role := 0#4, role2 := 15#4 } ∧
      (∀ j : CoreId, s.cores[j].role.role = 0#4 ∨ s.cores[j].role.role2 = 0#4 → j = 0) ∧ s.inService 15 = true ∧
      s.cores[(15 : CoreId)].role = { role := 15#4, role2 := 15#4 }) ∧
    (∃ s : State, (s.inService 14 = true ∧ s.cores[(14 : CoreId)].role.role = 14#4) ∧ s.fromSup (.core 13) = true ∧
      (∀ j : CoreId, s.inService j = true → s.cores[j].role.role ≠ 0#4 ∧ s.cores[j].role.role2 ≠ 0#4)) ∧
    (∃ s : State, (s.inService 14 = true ∧ s.cores[(14 : CoreId)].role.role = 14#4) ∧ s.controlUp = true ∧
      s.cores[(0 : CoreId)].stat.state = 1#3 ∧ s.cores[(0 : CoreId)].role = { role := 0#4, role2 := 15#4 } ∧
      s.freeCore = some 15 ∧ s.cores[(0 : CoreId)].expired24 = true) ∧
    (∃ s : State, (s.inService 14 = true ∧ s.cores[(14 : CoreId)].role.role = 14#4) ∧ s.controlUp = true ∧
      s.cores[(0 : CoreId)].stat.state = 4#3) :=
  ⟨⟨{ up with cores := cores0 fun c => { c with cfg.crcPoly := 2#2 } }, by decide⟩,
   ⟨{ up with cores := cores0 fun c => { c with role := { role := 15#4, role2 := 15#4 } } }, by decide⟩,
   ⟨{ up with cores := cores0 fun c => { c with expired24 := true } }, by decide⟩,
   ⟨{ up with cores := cores0 fun c => { c with stat.state := 4#3, role := { role := 15#4, role2 := 15#4 } } }, by decide⟩⟩

theorem witness_RemapsAndScrubs :
    (∃ s : State, s.controlUp = true ∧ s.qy.taken = [] ∧ (∀ j : Fin 12, s.qy.qmap[j] = none) ∧ s.isSpoiled 3#4 244#20 = false ∧
      s.qy.freeRows ≠ 0#7 ∧ s.cores[(0 : CoreId)].ecc.dataSpare ≠ 0#4 ∧ s.qy.sharedPos < 65535 ∧
      s.cores[(0 : CoreId)].scrubPos < 12287) ∧
    (∃ s : State, s.controlUp = true ∧ s.qy.freeRows = 0#7) ∧
    (∃ (s : State) (u : BitVec 72), s.controlUp = true ∧ 4096 ≤ s.cores[(0 : CoreId)].scrubPos ∧
      s.cores[(0 : CoreId)].scrubPos < 12287 ∧ foundIn 9 3 0#36 (u.setWidth 48) = .one ∧
      slip 9 3 (u.setWidth 48) = 0#36 ∧ s.cores[(0 : CoreId)].scrubPos ∉ s.cores[(0 : CoreId)].corrPrev) ∧
    (∃ (s : State) (u : BitVec 72), s.controlUp = true ∧ 4096 ≤ s.cores[(0 : CoreId)].scrubPos ∧
      s.cores[(0 : CoreId)].scrubPos < 12287 ∧ foundIn 9 3 0#36 (u.setWidth 48) = .clean ∧ slip 9 3 (u.setWidth 48) ≠ 0#36) ∧
    (∃ u : BitVec 64, foundIn 12 4 0#48 u = .many) ∧ (∃ u : BitVec 64, foundIn 12 4 0#48 u ≠ .many ∧ slip 12 4 u ≠ 0#48) ∧
    (∃ s : State, s.controlUp = true ∧ s.polders[(0 : PolderId)].oscBad = true ∧ s.polders[(0 : PolderId)].fallback = false) ∧
    (∃ s : State, s.controlUp = true ∧ s.polders[(0 : PolderId)].oscBad = false) :=
  ⟨⟨{ up with cores := cores0 fun c => { c with ecc.dataSpare := 4#4 } }, by decide⟩,
   ⟨{ up with qy.freeRows := 0#7 }, by decide⟩,
   ⟨{ up with cores := cores0 fun c => { c with scrubPos := 5000 } }, 0x3#72, by decide⟩,
   ⟨{ up with cores := cores0 fun c => { c with scrubPos := 5000 } }, (rowEncode 9 3 1#36).setWidth 72, by decide⟩,
   ⟨0x11#64, by decide⟩, ⟨rowEncode 12 4 1#48, by decide⟩,
   ⟨{ up with polders := up.polders.set 0 { upPolder with oscBad := true } }, by decide⟩,
   ⟨{ up with polders := up.polders.set 0 upPolder }, by decide⟩⟩

/-- A gauge whose slot 3 serves port 0 in a state. -/
def slot3 (st : BitVec 2) : GaugeSlot := { GaugeSlot.off with port := some 0, cells := 6#4, state := st }

/-- The gauge with slot 3 as given. -/
def withSlot (x : GaugeSlot) : Gauge := { Gauge.reset with slots := Gauge.reset.slots.set 3 x }

/-- The ends of a pack whose limits are 24 V and 18 V, with taper currents of 10 and 90 mA. -/
def limited (st : BitVec 2) (vb ma : Int) : GaugeSlot :=
  { slot3 st with last8 := [(vb, ma)], limits := some { vFull := 24000, vMin := 18000, taperLo := 10, taperHi := 90 } }

/-- The sample queue of position 0 of polder 0 holds one group, with index 7. -/
def sampled : Vector Queue 64 :=
  (up.pushSys 32 [(1#6, pay 6 7#16), (2#6, 3600000#36), (3#6, pay 0 500#13)]).sysq

theorem witness_GaugeSamplesAndAnchors :
    (∃ s : State, s.controlUp = true ∧ s.sys.mode ≠ .island ∧ s.polders[(0 : PolderId)].die = true ∧ s.slotOf 0 = some 3 ∧
      s.sysq[State.sampleQueue 0 0].entries.length ≤ 61) ∧
    (∃ s : State, s.controlUp = true ∧ s.sys.mode ≠ .island ∧ s.polders[(0 : PolderId)].die = true ∧ s.slotOf 0 = some 3 ∧
      61 < s.sysq[State.sampleQueue 0 0].entries.length) ∧
    (∃ s : State, s.gaugeUp = true ∧ (∃ a b c, s.sysq[State.sampleQueue 0 0].head = [a, b, c] ∧
      fld a.payload 0 6 = 0#6 ∧ s.slotOf 0 = some 3 ∧ s.kg.slots[(3 : Fin 48)].lastIdx = some 7#16 ∧ State.serialAfter (fld a.payload 6 16) 7#16 = false)) ∧
    (∃ s : State, s.gaugeUp = true ∧ (∃ a b c, s.sysq[State.sampleQueue 0 0].head = [a, b, c] ∧
      fld a.payload 0 6 = 0#6 ∧ s.slotOf 0 = some 3 ∧ s.kg.slots[(3 : Fin 48)].lastIdx = some 6#16 ∧
      State.serialAfter (fld a.payload 6 16) 6#16 = true ∧ s.kg.slots[(3 : Fin 48)].lastAcc = some 0#36)) ∧
    (∃ s : State, let x := s.kg.slots[(3 : Fin 48)]
      s.gaugeUp = true ∧ x.state = 2#2 ∧ s.kg.timeNow.tRest ≠ 0#8 ∧ x.last8 = [(2100, 0)] ∧ 0 < s.kg.curNow.iRest.toNat ∧
        x.endIdx = none) ∧
    (∃ s : State, let x := s.kg.slots[(3 : Fin 48)]
      s.gaugeUp = true ∧ x.state = 2#2 ∧ x.full ≠ 1#2 ∧ x.last8 = [(2390, 50)] ∧
        ((s.packLimits 3).vFull : Int) * 99 ≤ 2390 * 1000 ∧ s.inTaper 3 50 = true) ∧
    (∃ s : State, s.gaugeUp = true ∧ s.kg.slots[(3 : Fin 48)].full = 1#2) ∧
    (∃ s : State, let x := s.kg.slots[(3 : Fin 48)]
      s.gaugeUp = true ∧ x.state = 3#2 ∧ x.full ≠ 2#2 ∧ x.last8 = [(0, -50)] ∧ (0 : Int) * 10 ≤ ((s.vFold : Nat) : Int) ∧
        s.inTaper 3 50 = true ∧ x.port = some 0 ∧ s.ports[(0 : PortId)].role.feed ≠ 2) :=
  ⟨⟨{ up with kg := withSlot (slot3 1#2) }, by decide⟩,
   ⟨{ up with kg := withSlot (slot3 1#2),
              sysq := (up.pushSys 32 (List.replicate 62 (1#6, 0#36))).sysq }, by decide⟩,
   ⟨{ up with kg := withSlot { slot3 1#2 with lastIdx := some 7#16 }, sysq := sampled },
    by decide, _, _, _, rfl, by decide⟩,
   ⟨{ up with kg := withSlot { slot3 1#2 with lastIdx := some 6#16, lastAcc := some 0#36 }, sysq := sampled },
    by decide, _, _, _, rfl, by decide⟩,
   ⟨{ up with kg := withSlot (limited 2#2 2100 0) }, by decide⟩,
   ⟨{ up with kg := withSlot (limited 2#2 2390 50) }, by decide⟩,
   ⟨{ up with kg := withSlot { slot3 1#2 with full := 1#2 } }, by decide⟩,
   ⟨{ up with kg := withSlot (limited 3#2 0 (-50)) }, by decide⟩⟩

/-- Port 0 attached as source with a contract in dock mode, identified as a dock. -/
def dockPort : Port :=
  { A with srccap.dockEn := true, contract.explicit := true, role.dockDone := true, partner.dockMode := true }

theorem witness_GaugePacks :
    (∃ s : State, let r := s.ports[(0 : PortId)].trim
      s.controlUp = true ∧ s.roleRuns s.ports[(0 : PortId)].q.role = true ∧ s.regionUp 0 = true ∧ r.attached = true ∧
      r.rg.hr = .idle ∧ r.free ∧ r.rg.lastSeq = none ∧ r.role.identStep = 0 ∧ r.srccap.dockEn = true ∧
      r.contract.explicit = true ∧ r.partner.identDone = false ∧ r.role.dockDone = true ∧ r.busyCore = false ∧
      r.partner.dockMode = true) ∧
    (∃ s : State, let r := s.ports[(0 : PortId)].trim
      s.controlUp = true ∧ s.roleRuns s.ports[(0 : PortId)].q.role = true ∧ s.regionUp 0 = true ∧ r.attached = true ∧
      r.rg.hr = .idle ∧ r.free ∧ r.rg.lastSeq = none ∧ s.sys.mode ≠ .island ∧ s.roleRuns 13#5 = true ∧ r.headMsg = none ∧
      r.headNoAnswer false = false ∧ s.slotOf 0 = some 3 ∧ r.partner.ident ≠ 0#2 ∧ r.contract.explicit = true ∧
      r.pdstat.rev ≠ 1#2 ∧ r.partner.dockMode = true ∧ r.busyCore = false) ∧
    (∃ s : State, let r := s.ports[(0 : PortId)].trim
      s.controlUp = true ∧ s.roleRuns s.ports[(0 : PortId)].q.role = true ∧ r.stg.pending = false ∧ r.timerOn .identBound = true ∧
      r.role.idSerial = [] ∧ r.role.idMfg = [] ∧ r.role.idCap = []) ∧
    (∃ s : State, let r := s.ports[(0 : PortId)].trim
      s.controlUp = true ∧ s.roleRuns s.ports[(0 : PortId)].q.role = true ∧ r.stg.pending = false ∧ r.timerOn .identBound = true ∧
      r.role.idSerial ≠ [] ∧ r.partner.identDone = false) ∧
    (∃ s : State, s.gaugeUp = true ∧ s.mailHead 13 = some (3#8, 0#8, []) ∧ s.slotOf 0 = none) :=
  ⟨⟨{ up with ports := up.ports.set 0 dockPort }, by unfold Port.free; decide⟩,
   ⟨{ up with ports := up.ports.set 0 { dockPort with partner.ident := 2#2 }, kg := withSlot (slot3 2#2) },
    by unfold Port.free; decide⟩,
   ⟨{ up with ports := up.ports.set 0 (dockPort.start .identBound) }, by decide⟩,
   ⟨{ up with ports := up.ports.set 0 ({ dockPort with role.idSerial := [0x1234#32] }.start .identBound) }, by decide⟩,
   ⟨{ up with sysq := (up.post 13 (State.mbxGroup 1#4 3#8 0#8 [])).sysq }, by decide⟩⟩

/-- A gauge of which dock record 5 is changed and due. -/
def dueGauge : Gauge :=
  { Gauge.reset with dock := Gauge.reset.dock.set 5 { GaugeRec.init with changed := true, due := true } }

theorem witness_GaugeJournal :
    (∃ s : State, s.gaugeUp = true ∧ s.commitOrder.find? (fun i => (s.recOf i).due) = some 5 ∧ s.sh.stat.stage ≤ 3#3 ∧
      s.sh.stat.commitOk = true ∧ s.flashCan = true) ∧
    (∃ s : State, s.gaugeUp = true ∧ s.commitOrder.find? (fun i => (s.recOf i).due) = some 5 ∧ 3#3 < s.sh.stat.stage) ∧
    (∃ s : State, s.gaugeUp = true ∧ s.commitOrder.find? (fun i => (s.recOf i).due) = some 5 ∧ s.sh.stat.stage ≤ 3#3 ∧
      s.sh.stat.commitOk = false) ∧
    (∃ s : State, s.gaugeUp = true ∧ ∀ i : Fin 112, (s.recOf i).due = false) ∧
    (∃ s : State, s.gaugeUp = true ∧ s.sh.stat.stage ≤ 3#3 ∧ s.sh.stat.commitOk = true ∧ s.flashCan = true) ∧
    (∃ s : State, s.gaugeUp = true ∧ s.kg.cfg[(3 : Fin 48)].port.toNat ≥ 192 ∧ s.kg.slots[(3 : Fin 48)].port = some 0 ∧
      ∀ j : Fin 48, j ≠ 3 → s.kg.slots[j].port ≠ some 0 ∧ s.kg.cfg[j].en = false) :=
  ⟨⟨{ up with kg := dueGauge, sh.stat.commitOk := true, fl.stat.present := true }, by decide⟩,
   ⟨{ up with kg := dueGauge, sh.stat.stage := 4#3 }, by decide⟩,
   ⟨{ up with kg := dueGauge, sh.stat.commitOk := false }, by decide⟩,
   ⟨{ up with kg := Gauge.reset }, by decide⟩,
   ⟨{ up with kg := Gauge.reset, sh.stat.commitOk := true, fl.stat.present := true }, by decide⟩,
   ⟨{ up with kg := { withSlot (slot3 1#2) with cfg := Gauge.reset.cfg.set 3 { KgSlot.reset with port := 0xFF#8 } } }, by decide⟩⟩

/-- A worker's system block in RUN. -/
def worker : SysBlk := { up.sys with stat.role := 2#2 }

/-- The links with port 0 as given. -/
def link0 (p : LinkPort) : Link := { Link.reset with ports := Link.reset.ports.set 0 p }

/-- An enabled link port in a state of Table 12.1. -/
def lport (st : BitVec 3) : LinkPort := { LinkPort.reset with ctrl.en := true, stat.state := st }

/-- Some state has its links running and port 0 enabled, and port 0's link port meets `h`. -/
def LinkW (h : State → LinkPort → Prop) : Prop :=
  ∃ s : State, s.linksUp = true ∧ s.lk.ports[(0 : LinkId)].ctrl.en = true ∧ h s s.lk.ports[(0 : LinkId)]

/-- The AUTH2 that the peer of port 0 owes for the nonces 5 and 6. -/
def peerMac : BitVec 128 := BitVec.ofNat 128 (leNat ({ up with sys := worker }.authMac false 6#128 5#128 0#64 0#64))

theorem witness_LinkTraining :
    LinkW (fun _ p => p.stat.state = 0#3) ∧ LinkW (fun _ p => p.stat.state = 1#3) ∧
    LinkW (fun _ p => p.stat.state = 2#3) ∧ LinkW (fun _ p => p.stat.state = 3#3) ∧
    LinkW (fun _ p => p.stat.state = 4#3 ∧ p.eqViol.length < 7) ∧
    LinkW (fun _ p => p.stat.state = 4#3 ∧ p.eqViol.length = 7 ∧ LinkPort.eqPick (p.eqViol ++ [2]) = some 3) ∧
    LinkW (fun s p => p.stat.state = 5#3 ∧ p.peerNonce = some 6#128 ∧
      natBytes 16 peerMac.toNat = s.authMac (!s.upLabel 0) 6#128 p.nonce p.peerSerial s.serial) ∧
    LinkW (fun s p => p.stat.state = 5#3 ∧ p.peerNonce = some 6#128 ∧
      natBytes 16 (0#128).toNat ≠ s.authMac (!s.upLabel 0) 6#128 p.nonce p.peerSerial s.serial) ∧
    LinkW (fun _ p => p.stat.state = 7#3) :=
  ⟨⟨{ up with sys := worker, lk := link0 (lport 0#3) }, by decide⟩,
   ⟨{ up with sys := worker, lk := link0 (lport 1#3) }, by decide⟩,
   ⟨{ up with sys := worker, lk := link0 (lport 2#3) }, by decide⟩,
   ⟨{ up with sys := worker, lk := link0 (lport 3#3) }, by decide⟩,
   ⟨{ up with sys := worker, lk := link0 { lport 4#3 with eqViol := [9, 0] } }, by decide⟩,
   ⟨{ up with sys := worker, lk := link0 { lport 4#3 with eqViol := [9, 0, 0, 0, 0, 0, 1] } }, by decide⟩,
   ⟨{ up with sys := worker, lk := link0 { lport 5#3 with nonce := 5#128, peerNonce := some 6#128 } },
    by decide, by decide, by decide, by decide, by decide +kernel⟩,
   ⟨{ up with sys := worker, lk := link0 { lport 5#3 with nonce := 5#128, peerNonce := some 6#128 } },
    by decide, by decide, by decide, by decide, by decide +kernel⟩,
   ⟨{ up with sys := worker, lk := link0 (lport 7#3) }, by decide⟩⟩

/-- A cell in class A to address 9 with SEQ 0. -/
def cell (typ : Byte) (body : List Byte) : Cell :=
  { bulk := false, dest := 9#6, bcast := false, src := 3#6, typ := typ, frag := 0#7, last := true,
    body := body ++ List.replicate (22 - body.length) 0#8 }

/-- The cell as the 32 bytes on the line, for a SEQ. -/
def wire (c : Cell) (seq : BitVec 12) : BitVec 256 := BitVec.ofNat 256 (leNat (c.bytes seq))

/-- Port 0 UP with one class-A cell sent `n` times and unacknowledged. -/
def sentCell (n : Nat) : LinkPort :=
  { lport 7#3 with hopA := { Hop.init with unacked := [(0#12, n, cell 5#8 [])], sent := 1, txSeq := 1#12 } }

/-- Port 0's link port is UP and has nothing to send of its own, nothing received to route and no control cell. -/
abbrev quiet (s : State) (p : LinkPort) : Prop :=
  p.stat.state = 7#3 ∧ p.ctl = [] ∧ p.hopA.buffer = [] ∧ p.hopB.buffer = [] ∧ p.hopA.outbox = [] ∧ p.hopB.outbox = [] ∧
    s.sysq[State.txQueue 0 false].entries = [] ∧ s.sysq[State.txQueue 0 true].entries = []

theorem witness_LinkHop :
    LinkW (fun _ p => p.stat.state = 7#3 ∧ cut 28 4 (natBytes 32 (0#256).toNat) ≠ leBytes (crc32 (cut 0 28 (natBytes 32 (0#256).toNat)))) ∧
    LinkW (fun s p => let bs := natBytes 32 (wire (cell 5#8 []) 0#12).toNat
      p.stat.state = 7#3 ∧ cut 28 4 bs = leBytes (crc32 (cut 0 28 bs)) ∧ fld (bs.getD 0 0#8) 6 2 = 1#2 ∧
      numAt 2 2 bs = p.hopA.rxNext.toNat ∧ p.hopA.buffer.length < 16 ∧ fld (bs.getD 0 0#8) 0 6 = s.ownAddr ∧
      s.lk.tree.addrOk = true) ∧
    LinkW (fun _ p => let bs := natBytes 32 (wire (cell 5#8 []) 4095#12).toNat
      p.stat.state = 7#3 ∧ cut 28 4 bs = leBytes (crc32 (cut 0 28 bs)) ∧ fld (bs.getD 0 0#8) 6 2 = 1#2 ∧
      numAt 2 2 bs < 4096 ∧ numAt 2 2 bs ≠ p.hopA.rxNext.toNat ∧
      2048 ≤ Hop.ahead (BitVec.ofNat 12 (numAt 2 2 bs)) p.hopA.rxNext) ∧
    LinkW (fun _ p => p.stat.state = 7#3 ∧ (p.hop false).unacked ≠ [] ∧ (p.hop false).worn = false) ∧
    LinkW (fun _ p => p.stat.state = 7#3 ∧ (p.hop false).unacked ≠ [] ∧ (p.hop false).worn = true) ∧
    LinkW (fun _ p => p.stat.state = 5#3 ∧ p.ctl = [.hello]) ∧
    LinkW (fun _ p => p.stat.state = 5#3 ∧ p.ctl = []) ∧
    LinkW (fun _ p => p.stat.state = 5#3 ∧ p.ctl = [.sync 7#64, .hello]) ∧
    LinkW (fun s p => quiet s p ∧ p.hopA.unacked = [] ∧ p.hopA.credit ≠ 0 ∧ p.hopA.fwd = [(cell 5#8 [], 3)]) ∧
    LinkW (fun s p => quiet s p ∧ p.hopA.credit ≠ 0 ∧ p.hopA.unacked[p.hopA.sent]? = some (0#12, 1, cell 5#8 [])) ∧
    (∃ s : State, s.regsUp = true ∧ s.sys.stat.role ≠ 0#2) ∧
    (∃ s : State, s.regsUp = true ∧ s.sys.stat.role = 0#2) :=
  ⟨⟨{ up with sys := worker, lk := link0 (lport 7#3) }, by decide, by decide, by decide, by decide +kernel⟩,
   ⟨{ up with sys := worker, lk := { link0 (lport 7#3) with tree.addr := 9#6, tree.addrOk := true } },
    by decide, by decide, by decide +kernel⟩,
   ⟨{ up with sys := worker, lk := { link0 { lport 7#3 with hopA.rxNext := 1#12 } with tree.addr := 9#6, tree.addrOk := true } },
    by decide, by decide, by decide +kernel⟩,
   ⟨{ up with sys := worker, lk := link0 (sentCell 15) }, by decide⟩,
   ⟨{ up with sys := worker, lk := link0 (sentCell 16) }, by decide⟩,
   ⟨{ up with sys := worker, lk := link0 { lport 5#3 with ctl := [.hello] } }, by decide⟩,
   ⟨{ up with sys := worker, lk := link0 (lport 5#3) }, by decide⟩,
   ⟨{ up with sys := worker, lk := link0 { lport 5#3 with ctl := [.sync 7#64, .hello] } }, by decide⟩,
   ⟨{ up with sys := worker, lk := link0 { lport 7#3 with hopA := { Hop.init with fwd := [(cell 5#8 [], 3)] } } }, by decide⟩,
   ⟨{ up with sys := worker, lk := link0 { sentCell 1 with hopA.sent := 0 } }, by decide⟩,
   ⟨{ up with sys := worker, lk := link0 (lport 7#3) }, by decide⟩,
   ⟨{ up with lk := link0 (lport 7#3) }, by decide⟩⟩

/-- What a deputy keeps of the manager. -/
def copied : StateCopy :=
  { ship := 100#20, lim := Vector.replicate 32 90#20, cap := Vector.replicate 32 80#20, floor := 0#24,
    tLease := 5#12, demand := [], table := [], leases := [], term := 0#8 }

/-- Whether a whole message of a type is taken from port 0, of whose bytes and of the state after it `f` holds. -/
def took (s : State) (bulk : Bool) (typ : Byte) (f : List Byte → State → Bool) : Bool :=
  s.linksUp && match s.takeMsg 0 bulk typ with
    | some (_, some bs, t) => f bs t
    | _ => false

/-- The queues after a class-A cell has come in on port 0. -/
def arrived (c : Cell) : Vector Queue 64 := (up.deliver 0 c).sysq

/-- The tree of an acting manager. -/
def mgr : Link := { link0 (lport 7#3) with tree.actingMgr := true }

theorem witness_LinkMessages :
    (∃ s, took s false 5#8 (fun _ t => t.lk.tree.actingMgr)) ∧
    (∃ s, took s false 5#8 (fun _ t => !t.lk.tree.actingMgr)) ∧
    (∃ s, took s false 3#8 (fun bs t => !t.lk.tree.actingMgr && bit t.sys.stat.role 1 &&
      BitVec.ofNat 64 (numAt 0 8 bs) = t.serial && fld (bs.getD 8 0#8) 0 6 = 0#6)) ∧
    (∃ s, took s false 3#8 (fun bs t => !t.lk.tree.actingMgr && bit t.sys.stat.role 1 &&
      BitVec.ofNat 64 (numAt 0 8 bs) = t.serial && fld (bs.getD 8 0#8) 0 6 ≠ 0#6)) ∧
    (∃ s, took s false 4#8 (fun bs t => !t.lk.tree.actingMgr && bit t.sys.stat.role 1 && t.bg.stat.leaseValid &&
      decide (0 < (t.bg.leaseTime.toNat + 2 ^ 48 - numAt 0 6 bs) % 2 ^ 48) &&
      decide ((t.bg.leaseTime.toNat + 2 ^ 48 - numAt 0 6 bs) % 2 ^ 48 < 2 ^ 47))) ∧
    (∃ s, took s false 4#8 (fun bs t => !t.lk.tree.actingMgr && bit t.sys.stat.role 1 && !t.bg.stat.leaseValid &&
      numAt 6 2 bs = 0)) ∧
    (∃ s, took s false 4#8 (fun bs t => !t.lk.tree.actingMgr && bit t.sys.stat.role 1 && !t.bg.stat.leaseValid &&
      numAt 6 2 bs ≠ 0 && numAt 0 6 bs = t.treeUs % 2 ^ 48)) ∧
    (∃ s, took s false 0x21#8 (fun _ t => t.lk.tree.actingMgr)) ∧
    (∃ s, took s true 0x13#8 (fun _ t => t.lk.tree.actingMgr)) ∧
    (∃ s, took s false 6#8 (fun _ t => t.sys.stat.deputy && bit t.sys.stat.role 1 && !t.lk.tree.actingMgr)) ∧
    (∃ s, took s true 0x11#8 (fun bs t => t.lk.remStat.busy && t.lk.tree.actingMgr && bs.getD 0 0#8 = t.lk.remTag &&
      bs.getD 1 0#8 = 0#8)) ∧
    (∃ s, took s false 2#8 (fun bs t => t.lk.tree.actingMgr && t.lk.table.isEmpty && fld (bs.getD 8 0#8) 0 6 ≠ 0#6)) ∧
    (∃ s, took s false 1#8 (fun _ t => !t.lk.tree.actingMgr && t.lk.mgrSerial = 0#64)) ∧
    (∃ s, took s false 1#8 (fun bs t => bs.getD 0 0#8 ≠ t.lk.tree.term && t.lk.mgrSerial ≠ 0#64 &&
      !State.termAfter (bs.getD 0 0#8) t.lk.tree.term)) ∧
    (∃ s, took s true 0x10#8 (fun _ _ => !s.remWaits 0)) ∧
    (∃ s : State, s.linksUp = true ∧ s.remWaits 0 = true) ∧
    (∃ s, took s false 1#8 (fun bs t => t.lk.tree.actingMgr && t.sys.stat.role = 1#2 &&
      State.termAfter (bs.getD 0 0#8) t.lk.tree.term && BitVec.ofNat 64 (numAt 1 8 bs) ≠ t.serial)) ∧
    (∃ s : State, s.linksUp = true ∧ s.headCell 0 false = none ∧ s.takeMsg 0 false 1#8 = none) :=
  ⟨⟨{ up with sys := worker, lk := mgr, sysq := arrived (cell 5#8 [0#8]) }, by decide +kernel⟩,
   ⟨{ up with sys := worker, lk := link0 (lport 7#3), sysq := arrived (cell 5#8 [0#8]) }, by decide +kernel⟩,
   ⟨{ up with sys := worker, lk := link0 (lport 7#3), sysq := arrived (cell 3#8 []) }, by decide +kernel⟩,
   ⟨{ up with sys := worker, lk := link0 (lport 7#3), sysq := arrived (cell 3#8 [0#8, 0#8, 0#8, 0#8, 0#8, 0#8, 0#8, 0#8, 7#8]) },
    by decide +kernel⟩,
   ⟨{ up with sys := worker, lk := link0 (lport 7#3), bg.stat.leaseValid := true, bg.leaseTime := 9#48,
              sysq := arrived (cell 4#8 []) }, by decide +kernel⟩,
   ⟨{ up with sys := worker, lk := link0 (lport 7#3), sysq := arrived (cell 4#8 []) }, by decide +kernel⟩,
   ⟨{ up with sys := worker, lk := link0 (lport 7#3),
              sysq := arrived (cell 4#8 [0#8, 0#8, 0#8, 0#8, 0#8, 0#8, 9#8, 0#8, 1#8, 2#8]) }, by decide +kernel⟩,
   ⟨{ up with sys := worker, lk := mgr, sysq := arrived (cell 0x21#8 [1#8]) }, by decide +kernel⟩,
   ⟨{ up with sys := worker, lk := mgr, sysq := arrived { cell 0x13#8 [1#8] with bulk := true } }, by decide +kernel⟩,
   ⟨{ up with sys := { worker with stat.deputy := true }, lk := link0 (lport 7#3), sysq := arrived (cell 6#8 [1#8]) },
    by decide +kernel⟩,
   ⟨{ up with sys := worker, lk := { mgr with remStat.busy := true, remTag := 6#8 },
              sysq := arrived { cell 0x11#8 [6#8, 0#8, 0x12#8, 0x34#8] with bulk := true } }, by decide +kernel⟩,
   ⟨{ up with sys := worker, lk := mgr, sysq := arrived (cell 2#8 [1#8, 2#8, 0#8, 0#8, 0#8, 0#8, 0#8, 0#8, 7#8]) },
    by decide +kernel⟩,
   ⟨{ up with sys := worker, lk := link0 (lport 7#3), sysq := arrived (cell 1#8 [200#8]) }, by decide +kernel⟩,
   ⟨{ up with sys := worker, lk := { link0 (lport 7#3) with tree.term := 5#8, mgrSerial := 5#64 },
              sysq := arrived (cell 1#8 [4#8]) }, by decide +kernel⟩,
   ⟨{ up with sys := worker, lk := link0 (lport 7#3),
              sysq := arrived { cell 0x10#8 [0x10#8, 0x80#8, 1#8, 5#8] with bulk := true } }, by decide +kernel⟩,
   ⟨{ up with sys := worker, lk := link0 (lport 7#3), polders := up.polders.set 0 { upPolder with pld := true },
              sysq := arrived { cell 0x10#8 [0x03#8, 0x10#8, 1#8, 5#8] with bulk := true } }, by decide +kernel⟩,
   ⟨{ up with sys := { worker with stat.role := 1#2 }, lk := mgr, sysq := arrived (cell 1#8 [4#8, 9#8]) }, by decide +kernel⟩,
   ⟨{ up with sys := worker, lk := link0 (lport 7#3) }, by decide⟩⟩

/-- Port 0 UP and root, with a beacon seen at depth 1. -/
def rooted : Link :=
  { link0 { lport 7#3 with beacon := some { term := 0#8, serial := 0#64, depth := 1, loop := false, time := 0#48 } } with
    tree.rootPort := 0#3 }

/-- Port 1 is root; port 0 has a good beacon. -/
def other : Link := { rooted with tree.rootPort := 1#3, cfg.revert := true }

theorem witness_TreeAndTime :
    (∃ s : State, s.lk.tree.actingMgr = false) ∧
    (∃ s : State, s.linksUp = true ∧ s.lk.tree.actingMgr = true) ∧
    (∃ s : State, s.linksUp = true ∧ s.rootLink = some 1 ∧ (s.onLink 1 fun p => { p with beacon := none }).bestRoot = some 0) ∧
    (∃ s : State, s.linksUp = true ∧ s.lk.cfg.revert = true ∧ s.upLabel 0 = true ∧ s.rootLink = some 1 ∧ s.rootable 0 = true) ∧
    (∃ s : State, s.lk.copy = some copied ∧ s.lk.tree.deputy = true ∧ s.lk.tree.actingMgr = false ∧ s.sys.mode = .run ∧
      s.fl.upd.phase < 3#3) ∧
    (∃ s : State, s.regsUp = true ∧ s.lk.tree.deposed = true ∧ s.lk.time.synced = true) ∧
    (∃ s : State, s.regsUp = true ∧ s.lk.tree.deposed = false ∧ s.lk.tree.actingMgr = false ∧ s.lk.remStat.busy = false) ∧
    (∃ s : State, s.lk.remStat.busy = true) ∧
    (∃ s : State, s.linksUp = true ∧ s.lk.ports[(0 : LinkId)].stat.state = 7#3 ∧ s.timeMaster 0 = true) ∧
    (∃ s : State, s.linksUp = true ∧ s.lk.ports[(0 : LinkId)].stat.state = 7#3 ∧ s.timeMaster 0 = false ∧
      s.lk.tree.actingMgr = false ∧ s.rootLink = some 0) ∧
    (∃ s : State, s.lk.time.synced = true) ∧
    (∃ s : State, s.roleRuns 12#5 = true ∧ s.linksUp = true ∧ s.lk.tree.actingMgr = false) :=
  ⟨⟨{ up with lk := Link.reset }, by decide⟩,
   ⟨{ up with sys := worker, lk := mgr }, by decide⟩,
   ⟨{ up with sys := worker, lk := other }, by decide⟩,
   ⟨{ up with sys := worker, lk := other }, by decide⟩,
   ⟨{ up with sys := worker, lk := { rooted with tree.deputy := true, copy := some copied } }, by decide⟩,
   ⟨{ up with sys := worker, lk := { rooted with tree.deposed := true, time.synced := true } }, by decide⟩,
   ⟨{ up with sys := worker, lk := rooted }, by decide⟩,
   ⟨{ up with sys := worker, lk := { mgr with remStat.busy := true } }, by decide⟩,
   ⟨{ up with sys := worker, lk := mgr }, by decide⟩,
   ⟨{ up with sys := worker, lk := rooted }, by decide⟩,
   ⟨{ up with lk := { rooted with time.synced := true } }, by decide⟩,
   ⟨{ up with sys := worker, lk := rooted }, by decide⟩⟩

/-- TW_H answering at address 0x40, with packet error codes off. -/
def twH : TwoWire := { TwoWire.reset with hAddr.primary := 0x40#7, started := true, hCfg.en := true, hCfg.pecEn := false }

/-- The transactions queue 232 with the group of one write transaction, or of a pointer with sequence 0xFFF. -/
def twQueue (vals : List Word) (seq : BitVec 12) : Vector Queue 64 :=
  (up.pushSys 40 (State.twGroup 0x10#16 1 false seq vals)).sysq

/-- Polder 0 in PLD. -/
def pldPolders : Vector Polder 4 := up.polders.set 0 { upPolder with pld := true }

theorem witness_TwoWireTransactions :
    (∃ s : State, s.twUp = true ∧ s.tw.hCfg.pecEn = false ∧ s.sysq[(40 : Fin 64)].entries.length ≤ 55 ∧
      s.tw.matchOf 0x40#7 ≠ .none ∧ s.tw.matchOf 0x41#7 = .none) ∧
    (∃ s : State, s.twUp = true ∧ s.tw.hCfg.pecEn = false ∧ s.tw.matchOf 0x40#7 = .full ∧ s.tw.staged = some [5#32] ∧
      bit s.tw.ptr 15 = false) ∧
    (∃ s : State, s.twUp = true ∧ s.tw.hCfg.pecEn = false ∧ s.tw.matchOf 0x40#7 = .full ∧ s.tw.staged = some [5#32, 6#32] ∧
      bit s.tw.ptr 15 = true) ∧
    (∃ s : State, s.twUp = true ∧ s.tw.hCfg.pecEn = false ∧ s.tw.matchOf 0x40#7 = .full ∧ s.tw.staged = none) ∧
    (∃ (s : State) (h : Entry), s.twServer = true ∧ s.sysq[(40 : Fin 64)].head = [h] ∧ bit h.payload 16 = true ∧
      fld h.payload 17 4 = 1#4 ∧ fld h.payload 22 12 + 1#12 = s.tw.seq ∧ s.waits ((fld h.payload 0 15).setWidth 16) = false) ∧
    (∃ (s : State) (h e : Entry), s.twServer = true ∧ s.sysq[(40 : Fin 64)].head = [h, e] ∧ bit h.payload 16 = false ∧
      s.waits ((fld h.payload 0 15).setWidth 16) = true) ∧
    (∃ (s : State) (h e : Entry), s.twServer = true ∧ s.sysq[(40 : Fin 64)].head = [h, e] ∧ bit h.payload 16 = false ∧
      s.tw.applied = some (fld h.payload 22 12) ∧ s.waits ((fld h.payload 0 15).setWidth 16) = false) ∧
    (∃ (s : State) (h e : Entry), s.twServer = true ∧ s.sysq[(40 : Fin 64)].head = [h, e] ∧ bit h.payload 16 = false ∧
      s.tw.applied ≠ some (fld h.payload 22 12) ∧ s.waits ((fld h.payload 0 15).setWidth 16) = false) ∧
    (∃ (s : State) (w : Word), s.regsUp = true ∧ s.fromSup (.core 13) = true ∧ bit w 17 = true ∧ bit w 16 = false ∧
      s.waits (fld w 0 16) = false) ∧
    (∃ s : State, s.regsUp = true ∧ s.waits 0x1003#16 = true) ∧
    (∃ s : State, s.regsUp = true ∧ s.fromSup .remote = false) :=
  ⟨⟨{ up with tw := twH }, by decide⟩,
   ⟨{ up with tw := { twH with staged := some [5#32], ptr := 0x10#16 } }, by decide⟩,
   ⟨{ up with tw := { twH with staged := some [5#32, 6#32], ptr := 0x8010#16 } }, by decide⟩,
   ⟨{ up with tw := { twH with ptr := 0x10#16 } }, by decide⟩,
   ⟨{ up with tw := twH, sysq := twQueue [] 0xFFF#12 }, _, by decide, rfl, by decide⟩,
   ⟨{ up with tw := twH, sysq := (up.pushSys 40 (State.twGroup 0x1003#16 1 false 7#12 [9#32])).sysq, polders := pldPolders },
    _, _, by decide, rfl, by decide⟩,
   ⟨{ up with tw := { twH with applied := some 7#12 }, sysq := twQueue [9#32] 7#12 }, _, _, by decide, rfl, by decide⟩,
   ⟨{ up with tw := twH, sysq := twQueue [9#32] 7#12 }, _, _, by decide, rfl, by decide⟩,
   ⟨{ up with tw := twH }, 0x20010#32, by decide⟩,
   ⟨{ up with polders := pldPolders }, by decide⟩,
   ⟨{ up with tw := twH }, by decide⟩⟩

/-- An alert record. -/
def alert : Alert := { code := 3#8, value := 5#32, seq := 1#8, tries := 0 }

/-- A TW_M write in progress. -/
def twCmd : TwmCmd := { addr := 0x50#7, read := false, nw := 2, nr := 0, tag := 9#8, pec := false, bytes := [1#8, 2#8] }

theorem witness_TwoWireAlertsAndMaster :
    (∃ s : State, s.twUp = true ∧ s.tw.alerts = [alert] ∧ s.tw.hCfg.alertRetry ≠ 0#4 ∧ s.tw.alertHeld = false ∧
      alert.tries + 1 < s.tw.hCfg.alertRetry.toNat ∧ s.tw.hCfg.toEn = true) ∧
    (∃ s : State, s.twUp = true ∧ s.tw.alerts = [alert] ∧ s.tw.hCfg.alertRetry ≠ 0#4 ∧ s.tw.alertHeld = false ∧
      s.tw.hCfg.alertRetry.toNat ≤ alert.tries + 1) ∧
    (∃ s : State, s.twUp = true ∧ s.tw.alerts = [alert] ∧ s.tw.hCfg.alertRetry ≠ 0#4 ∧ s.tw.alertHeld = true) ∧
    (∃ s : State, s.twmUp = true ∧ s.tw.run = some twCmd ∧ s.tw.mCfg.toEn = true ∧ s.roleRuns 13#5 = false) ∧
    (∃ (s : State) (e : Entry), s.twmUp = true ∧ s.tw.run = none ∧ s.sysq[(43 : Fin 64)].entries = [e] ∧ e.last = true ∧
      e.typ = 1#6) ∧
    (∃ s : State, s.twmUp = true ∧ s.roleRuns 13#5 = true ∧ s.mailHead 13 = some (2#8, 0#8, [6#36]) ∧
      s.ports[(0 : PortId)].alt.muxFail = false ∧ s.sysq[(43 : Fin 64)].entries.length ≤ 62) :=
  ⟨⟨{ up with tw := { twH with alerts := [alert], hCfg.alertRetry := 3#4, hCfg.toEn := true } }, by decide⟩,
   ⟨{ up with tw := { twH with alerts := [alert], hCfg.alertRetry := 1#4 } }, by decide⟩,
   ⟨{ up with tw := { twH with alerts := [alert], hCfg.alertRetry := 3#4, alertHeld := true } }, by decide⟩,
   ⟨{ up with tw := { twH with run := some twCmd },
              cores := up.cores.set 13 { up.cores[(13 : CoreId)] with stat.state := 0#3 } }, by decide⟩,
   ⟨{ up with tw := twH, sysq := (up.pushSys 43 [(1#6, 0x90050#36)]).sysq }, _, by decide, by decide, rfl, by decide⟩,
   ⟨{ up with tw := twH, sysq := (up.post 13 (State.mbxGroup 1#4 2#8 0#8 [6#36])).sysq }, by decide⟩⟩

/-- The system block at 20 °C. -/
def warm : SysBlk := { up.sys with temp.die := 600#12 }

/-- The fuses as delivered, with a value to program. -/
def fz (w : Word) : Fuses := { Fuses.reset with wdata := w }

theorem witness_FuseCommands :
    (∃ s : State, s.fusesUp = true ∧ 3#3 < s.sh.stat.stage) ∧
    (∃ s : State, s.fusesUp = true ∧ s.sh.stat.stage ≤ 3#3 ∧ 1250 < s.sys.temp.die.toNat) ∧
    (∃ s : State, s.fusesUp = true ∧ s.sh.stat.stage ≤ 3#3 ∧ 200 ≤ s.sys.temp.die.toNat ∧ s.sys.temp.die.toNat ≤ 1250 ∧
      s.fz.job.isSome = true) ∧
    (∃ s : State, let f := s.fz
      s.fusesUp = true ∧ (s.sh.stat.stage ≤ 3#3 ∧ 200 ≤ s.sys.temp.die.toNat ∧ s.sys.temp.die.toNat ≤ 1250 ∧ f.job = none) ∧
      s.fuseSource .host false = false ∧ s.fuseSource .host true = true ∧ s.fuseSource (.core 13) false = true ∧
      regionOf 0x48 = some 3 ∧ f.lockedNow 0 3 = false ∧ f.lockedNow 1 3 = false ∧ f.wdata ≠ 0#32 ∧
      f.programmed 0x48 = false ∧ f.programmed 0x148 = false ∧ regionOf 0 = some 0 ∧ regionOf 0xFF = none ∧
      f.lockedNow 0 0 = true ∧ f.lockedNow 1 0 = true) ∧
    (∃ s : State, let f := s.fz
      s.fusesUp = true ∧ (s.sh.stat.stage ≤ 3#3 ∧ 200 ≤ s.sys.temp.die.toNat ∧ s.sys.temp.die.toNat ≤ 1250 ∧ f.job = none) ∧
      s.fuseSource .host true = true ∧ regionOf 0x30 = some 2 ∧ f.lockedNow 0 2 = false ∧ f.lockedNow 1 2 = false ∧
      f.wdata ≠ 0#32 ∧ f.programmed 0x30 = true ∧ (f.logical 0x30).value = some f.wdata ∧ f.programmed 0x130 = false) ∧
    (∃ s : State, let f := s.fz
      s.fusesUp = true ∧ (s.sh.stat.stage ≤ 3#3 ∧ 200 ≤ s.sys.temp.die.toNat ∧ s.sys.temp.die.toNat ≤ 1250 ∧ f.job = none) ∧
      s.fuseSource .host true = true ∧ f.lockedNow 0 2 = false ∧ f.lockedNow 1 2 = false ∧ f.wdata ≠ 0#32 ∧
      f.programmed 0x30 = true ∧ (f.logical 0x30).value ≠ some f.wdata ∧
      (let read (bank i : Nat) : Option Word := (Fuses.readWith (f.sensed []) (Fuses.spareMap (f.sensed []) bank)
          (bank * 256 + regionBase 2 + i)).value
       ∃ i < regionLen 2, read 0 i = none ∨ read 0 i ≠ read 1 i)) ∧
    (∃ s : State, let f := s.fz
      s.fusesUp = true ∧ (s.sh.stat.stage ≤ 3#3 ∧ 200 ≤ s.sys.temp.die.toNat ∧ s.sys.temp.die.toNat ≤ 1250 ∧ f.job = none) ∧
      s.fuseSource .host true = true ∧ f.wdata = 0#32 ∧ f.lockedNow 0 3 = false ∧ f.lockedNow 1 3 = false ∧
      (let read (bank i : Nat) : Option Word := (Fuses.readWith (f.sensed []) (Fuses.spareMap (f.sensed []) bank)
          (bank * 256 + regionBase 3 + i)).value
       ∀ i < regionLen 3, read 0 i = some ((List.replicate 16 0#32).getD i 0#32) ∧
         read 1 i = some ((List.replicate 16 0#32).getD i 0#32)) ∧
      ((regionDigest 3 (List.replicate 16 0#32)).filter fun w => w ≠ 0#32).length = 4) ∧
    (∃ s : State, let f := s.fz
      s.fusesUp = true ∧ (s.sh.stat.stage ≤ 3#3 ∧ 200 ≤ s.sys.temp.die.toNat ∧ s.sys.temp.die.toNat ≤ 1250 ∧ f.job = none) ∧
      s.fuseSource (.core 13) false = true ∧
      (f.liveSlots.filter fun i => !(f.programmed (0xC0 + i) || f.programmed (256 + 0xC0 + i))) = [0]) ∧
    (∃ s : State, let f := s.fz
      s.fusesUp = true ∧ (s.sh.stat.stage ≤ 3#3 ∧ 200 ≤ s.sys.temp.die.toNat ∧ s.sys.temp.die.toNat ≤ 1250 ∧ f.job = none) ∧
      s.fuseSource (.core 13) false = true ∧
      (f.liveSlots.filter fun i => !(f.programmed (0xC0 + i) || f.programmed (256 + 0xC0 + i))) ≠ [0] ∧
      f.programmed 0xC0 = false ∧ f.programmed (256 + 0xC0) = false) :=
  ⟨⟨{ up with sh.stat.stage := 4#3 }, by decide⟩,
   ⟨{ up with sys := { warm with temp.die := 1251#12 } }, by decide⟩,
   ⟨{ up with sys := warm, fz := { fz 5#32 with job := some { now := .word 0x30 5#32, next := [], command := true } } },
    by decide⟩,
   ⟨{ up with sys := warm, fz := fz 5#32 }, by decide +kernel⟩,
   ⟨{ up with sys := warm, fz := { fz 5#32 with raw := Mem.write 0#44 0x30 (fuseRow 5#32) Fuses.factory } },
    by decide +kernel⟩,
   ⟨{ up with sys := warm, fz := { fz 6#32 with raw := Mem.write 0#44 0x30 (fuseRow 5#32) Fuses.factory } },
    by decide +kernel⟩,
   ⟨{ up with sys := warm, fz := fz 0#32 }, by decide +kernel⟩,
   ⟨{ up with sys := warm, fz := { fz 0#32 with stat.keysPresent := 1#4 } }, by decide +kernel⟩,
   ⟨{ up with sys := warm, fz := { fz 0#32 with stat.keysPresent := 3#4 } }, by decide +kernel⟩⟩

/-- Fuses with a job in hand. -/
def job (now : FzStep) : Fuses := { fz 0#32 with job := some { now := now, next := [], command := true } }

theorem witness_FuseProgramEndsReadsScrub :
    (∃ s : State, s.fusesUp = true ∧ s.fuseSource .host true = true ∧ s.fz.job = none ∧ regionOf (0x48 % 256) = some 3 ∧
      s.fz.scrubNext < 512) ∧
    (∃ s : State, s.fusesUp = true ∧ s.fz.job = some { now := .word 0x30 5#32, next := [], command := true }) ∧
    (∃ s : State, s.fusesUp = true ∧
      s.fz.job = some { now := .word 0x30 5#32, next := [.word 0x130 5#32], command := true }) ∧
    (∃ s : State, s.fusesUp = true ∧ s.fz.job = some { now := .spareVal 0 0x30 5#32, next := [], command := true }) ∧
    (∃ s : State, s.fusesUp = true ∧ s.fz.job = some { now := .spareTag 0 0x30 5#32, next := [], command := true }) ∧
    (∃ (s : State) (normal strict : BitVec 44), let a := s.fz.scrubNext
      s.fusesUp = true ∧ s.fz.job = none ∧ a < 512 ∧ normal ≠ strict ∧
      (readFuse (s.fz.word a ^^^ normal)).value = some (s.fz.shadowAt a) ∧
      (readFuse (s.fz.word a ^^^ strict)).value = some (s.fz.shadowAt a)) ∧
    (∃ (s : State) (normal strict : BitVec 44), let a := s.fz.scrubNext
      s.fusesUp = true ∧ s.fz.job = none ∧ a < 512 ∧ normal ≠ strict ∧
      (readFuse (s.fz.word a ^^^ strict)).value ≠ some (s.fz.shadowAt a)) ∧
    (∃ s : State, s.fusesUp = true ∧ s.qy.held = [5#32] ∧ s.qy.spoil.ledgerUsed < 64#7 ∧ s.sh.stat.stage ≤ 3#3 ∧
      s.fuseTempOk = true ∧ s.fz.job = none) ∧
    (∃ s : State, s.fusesUp = true ∧ s.qy.held = [5#32] ∧ s.qy.spoil.ledgerUsed < 64#7 ∧ 3#3 < s.sh.stat.stage) ∧
    (∃ s : State, s.fusesUp = true ∧ s.qy.held = [5#32] ∧ s.qy.spoil.ledgerUsed < 64#7 ∧
      s.fz.job = some { now := .ledger 0x1A0 5#32, next := [], command := false }) :=
  ⟨⟨{ up with fz := fz 0#32 }, by decide⟩,
   ⟨{ up with fz := job (.word 0x30 5#32) }, by decide⟩,
   ⟨{ up with fz := { fz 0#32 with job := some { now := .word 0x30 5#32, next := [.word 0x130 5#32], command := true } } },
    by decide⟩,
   ⟨{ up with fz := job (.spareVal 0 0x30 5#32) }, by decide⟩,
   ⟨{ up with fz := job (.spareTag 0 0x30 5#32) }, by decide⟩,
   ⟨{ up with fz := { fz 0#32 with scrubNext := 511 } }, 0#44, 1#44, by decide +kernel⟩,
   ⟨{ up with fz := { fz 0#32 with scrubNext := 0x22 } }, 0#44, 1#44, by decide +kernel⟩,
   ⟨{ up with sys := warm, qy.held := [5#32] }, by decide⟩,
   ⟨{ up with sh.stat.stage := 4#3, qy.held := [5#32] }, by decide⟩,
   ⟨{ up with qy.held := [5#32],
              fz := { fz 0#32 with job := some { now := .ledger 0x1A0 5#32, next := [], command := false } } }, by decide⟩⟩

/-- A flash that is fitted. -/
def fitted : Flash := { Flash.reset with stat.present := true }

/-- A flash with a command in hand, over bytes that are not blank. -/
def running (op : BitVec 3) (addr n : Nat) (data : List Byte) : Flash :=
  { fitted with run := some { op := op, addr := addr, n := n, data := data }, mem := [(0x1000, 0x0F#8), (0x1FFF, 1#8)] }

theorem witness_FlashController :
    (∃ s : State, s.flashUp = true ∧ (s.sysq[(44 : Fin 64)]).entries = [] ∧ (s.sysq[(45 : Fin 64)]).entries = [] ∧
      (s.sysq[(46 : Fin 64)]).entries = [] ∧ (s.sysq[(47 : Fin 64)]).entries = [] ∧ s.roleRuns 13#5 = true ∧
      s.fl.run = none ∧ ¬(4#3 ≤ s.sh.stat.stage ∨ s.sh.sup.vddioLost = true)) ∧
    (∃ s : State, s.flashUp = true ∧ (s.sysq[(44 : Fin 64)]).entries = [] ∧ (s.sysq[(45 : Fin 64)]).entries = [] ∧
      (s.sysq[(46 : Fin 64)]).entries = [] ∧ (s.sysq[(47 : Fin 64)]).entries = [] ∧ s.roleRuns 13#5 = true ∧
      s.fl.run = none ∧ 4#3 ≤ s.sh.stat.stage) ∧
    (∃ s : State, s.flashUp = true ∧ (s.sysq[(44 : Fin 64)]).entries = [] ∧ (s.sysq[(45 : Fin 64)]).entries = [] ∧
      (s.sysq[(46 : Fin 64)]).entries = [] ∧ (s.sysq[(47 : Fin 64)]).entries = [] ∧ Mem.wf 0xFF#8 s.fl.mem = true ∧
      s.fl.run = some { op := 1#3, addr := 0x1000, n := 9, data := [] }) ∧
    (∃ s : State, s.fl.run = some { op := 5#3, addr := 0, n := 0, data := [] }) ∧
    (∃ s : State, s.fl.run = some { op := 2#3, addr := 0x1000, n := 2, data := [0xF0#8, 1#8] }) ∧
    (∃ s : State, s.fl.run = some { op := 3#3, addr := 0x1234, n := 0, data := [] }) ∧
    (∃ s : State, s.fl.run = some { op := 4#3, addr := 0x1234, n := 0, data := [] }) :=
  ⟨⟨{ up with fl := fitted }, by decide⟩,
   ⟨{ up with sh.stat.stage := 4#3 }, by decide⟩,
   ⟨{ up with fl := running 1#3 0x1000 9 [] }, by decide⟩,
   ⟨{ up with fl := running 5#3 0 0 [] }, rfl⟩,
   ⟨{ up with fl := running 2#3 0x1000 2 [0xF0#8, 1#8] }, rfl⟩,
   ⟨{ up with fl := running 3#3 0x1234 0 [] }, rfl⟩,
   ⟨{ up with fl := running 4#3 0x1234 0 [] }, rfl⟩⟩

/-- Bytes of a flash from an address on. -/
def at_ (a : Nat) (bs : List Byte) : Mem 8 := bs.mapIdx fun i b => (a + i, b)

/-- A flash with two images: bank A, which runs, holds the settings schema; bank B a Thoelm image of one common section.
What is not listed is blank. -/
def imageMem : Mem 8 :=
  at_ 0 (Flash.bankBytes 1 { stateA := 2#2, stateB := 1#2, verA := 1#32, verB := 2#32, lenA := 152, lenB := 1840, upd := 3#8 }) ++
  at_ 0x10014 [1#8, 0#8] ++ at_ 0x10060 [6#8] ++ at_ 0x10068 [144#8, 0#8, 0#8, 0#8, 8#8, 0#8, 0#8, 0#8] ++
  at_ 0x10090 [1#8, 0#8, 1#8, 0#8] ++
  at_ 0x50014 [1#8, 0#8] ++ at_ 0x50060 [4#8] ++ at_ 0x50068 [160#8, 0#8, 0#8, 0#8, 0x90#8, 6#8, 0#8, 0#8] ++
  at_ 0x500B4 [1#8, 0#8] ++ at_ 0x500E0 [2#8, 0#8, 0#8] ++ at_ 0x500E4 [112#8, 0#8, 0#8, 0#8, 0x20#8, 6#8, 0#8, 0#8] ++
  at_ 0x50110 [5#8, 0#8, 0x80#8, 0#8]

/-- The flash with both images. -/
def images : Flash := { fitted with mem := imageMem }

theorem witness_SettingsAndLogRecords :
    (∃ s : State, s.roleRuns 13#5 = true ∧ s.settingsOk = true ∧ s.flashCan = false) ∧
    (∃ s : State, s.roleRuns 13#5 = true ∧ s.settingsOk = true ∧ s.settingsDue 0 = false) ∧
    (∃ s : State, s.roleRuns 13#5 = true ∧ s.settingsOk = true ∧ s.flashCan = true ∧ s.settingsDue 0 = true ∧
      s.runSchema.1 = 1 ∧ s.fl.job.onNew = false ∧ Mem.wf 0xFF#8 s.fl.mem = true) ∧
    (∃ s : State, s.roleRuns 13#5 = true ∧ s.regsUp = true ∧ s.flashCan = true ∧ s.lk.tree.actingMgr = true ∧
      s.fl.blank (0x1F0000 + 32 * (s.fl.logSeq.toNat % (0x610000 / 32))) 32 = true ∧ Mem.wf 0xFF#8 s.fl.mem = true) :=
  ⟨⟨{ up with fl := fitted, sh.stat.stage := 4#3, fz.stat.secretsAbsent := false }, by decide +kernel⟩,
   ⟨{ up with fl := fitted, fz.stat.secretsAbsent := false }, by decide +kernel⟩,
   ⟨{ up with fl := images, sh.nom.feedsNom := 9#12, fz.stat.secretsAbsent := false }, by decide +kernel⟩,
   ⟨{ up with fl := { fitted with logSeq := 128#32 }, lk.tree.actingMgr := true }, by decide⟩⟩

/-- A flash with an update in a phase. -/
def inPhase (ph : BitVec 3) (f : Flash) : Flash := { f with upd.phase := ph, upd.updId := 3#8 }

/-- A device that stages a bundle of 8 bytes, of which none has come. -/
def staging (j : Update) : Flash := { inPhase 1#3 fitted with job := j }

/-- A worker's link with a root port UP, and its route to the manager. -/
def routed : Link := { rooted with tree.addr := 9#6, tree.addrOk := true }

/-- Whether a whole UPDATE message of a name is taken from port 0, of whose bytes and of the state after it `f` holds. -/
def tookUpd (s : State) (code : Byte) (f : List Byte → State → Bool) : Bool :=
  s.updUp && s.updHead 0 = some code && took s false 7#8 f

theorem witness_UpdateStaging :
    (∃ s : State, s.updUp = true ∧ s.regsUp = true ∧ s.allocates = true ∧ s.fl.upd.phase < 3#3 ∧ s.flashCan = true) ∧
    (∃ s : State, s.updUp = true ∧ s.regsUp = true ∧ s.allocates = true ∧ 3#3 ≤ s.fl.upd.phase) ∧
    (∃ s : State, s.updUp = true ∧ s.regsUp = true ∧ s.allocates = true ∧ s.fl.upd.phase = 1#3 ∧ s.fl.job.bundleOk = false ∧
      s.fl.job.staged + 4 ≤ s.fl.job.len ∧ s.fl.job.staged + 4 ≤ 262144 ∧ s.flashCan = true) ∧
    (∃ s : State, s.updUp = true ∧ s.regsUp = true ∧ s.allocates = true ∧ s.fl.upd.phase = 1#3 ∧ s.fl.job.bundleOk = false ∧
      s.fl.job.len < s.fl.job.staged + 4) ∧
    (∃ s : State, tookUpd s 1#8 fun bs t => !t.allocates && t.flashCan && t.fl.upd.phase < 3#3 && bs.getD 1 0#8 ≠ t.fl.upd.updId) ∧
    (∃ s : State, s.updUp = true ∧ took s true 0x12#8 fun bs t => t.updUp && !t.allocates && t.flashCan &&
      t.fl.upd.phase = 1#3 && bs.getD 0 0#8 = t.fl.upd.updId && numAt 1 1 bs < (t.fl.job.len + 2047) / 2048 &&
      t.fl.job.chunks.contains (numAt 1 1 bs)) ∧
    (∃ s : State, s.updUp = true ∧ took s true 0x12#8 fun bs t => t.updUp && !t.allocates && t.flashCan &&
      t.fl.upd.phase = 1#3 && bs.getD 0 0#8 = t.fl.upd.updId && numAt 1 1 bs < (t.fl.job.len + 2047) / 2048 &&
      !t.fl.job.chunks.contains (numAt 1 1 bs) && t.fl.job.chunks.length + 1 ≠ (t.fl.job.len + 2047) / 2048) ∧
    (∃ s : State, s.updUp = true ∧ took s true 0x12#8 fun bs t => t.updUp && !t.allocates && t.flashCan &&
      t.fl.upd.phase = 1#3 && bs.getD 0 0#8 = t.fl.upd.updId && numAt 1 1 bs < (t.fl.job.len + 2047) / 2048 &&
      !t.fl.job.chunks.contains (numAt 1 1 bs) && t.fl.job.chunks.length + 1 = (t.fl.job.len + 2047) / 2048) ∧
    (∃ s : State, s.updUp = true ∧ s.fl.upd.phase = 1#3 ∧ s.allocates = false ∧ s.routeOf 0#6 = none) ∧
    (∃ s : State, s.updUp = true ∧ s.fl.upd.phase = 1#3 ∧ s.allocates = false ∧ s.linksUp = true ∧ s.routeOf 0#6 = some 0) ∧
    (∃ s : State, s.updUp = true ∧ s.fl.upd.phase ≠ 1#3 ∧ s.fl.job.pending = []) ∧
    (∃ s : State, tookUpd s 2#8 fun bs t => t.lk.tree.actingMgr && bs.getD 1 0#8 = t.fl.upd.updId && t.fl.upd.phase = 1#3 &&
      (bs.getD 2 0#8).setWidth 5 ≠ 0#5) ∧
    (∃ s : State, tookUpd s 2#8 fun bs t => t.lk.tree.actingMgr && bs.getD 1 0#8 = t.fl.upd.updId && t.fl.upd.phase = 2#3 &&
      (bs.getD 2 0#8).setWidth 5 = 0#5 && (List.range 16).all (fun k => bs.getD (3 + k) 0#8 = 0#8) &&
      decide (t.fl.job.len ≤ 262144)) :=
  ⟨⟨{ up with fl := fitted }, by decide⟩,
   ⟨{ up with fl := inPhase 3#3 fitted }, by decide⟩,
   ⟨{ up with fl := staging { Update.init with len := 8 } }, by decide⟩,
   ⟨{ up with fl := staging { Update.init with len := 8, staged := 8 } }, by decide⟩,
   ⟨{ up with sys := worker, lk := routed, fl := fitted, sysq := arrived (cell 7#8 [1#8, 4#8, 8#8]) }, by decide +kernel⟩,
   ⟨{ up with sys := worker, lk := routed, fl := staging { Update.init with len := 2050, chunks := [1] },
              sysq := arrived { cell 0x12#8 [3#8, 1#8, 8#8] with bulk := true } }, by decide +kernel⟩,
   ⟨{ up with sys := worker, lk := routed, fl := staging { Update.init with len := 2050 },
              sysq := arrived { cell 0x12#8 [3#8, 1#8, 8#8] with bulk := true } }, by decide +kernel⟩,
   ⟨{ up with sys := worker, lk := routed, fl := staging { Update.init with len := 8 },
              sysq := arrived { cell 0x12#8 [3#8, 0#8, 8#8] with bulk := true } }, by decide +kernel⟩,
   ⟨{ up with sys := worker, lk := link0 (lport 7#3), fl := inPhase 1#3 fitted }, by decide⟩,
   ⟨{ up with sys := worker, lk := routed, fl := inPhase 1#3 fitted }, by decide⟩,
   ⟨{ up with fl := inPhase 2#3 fitted }, by decide⟩,
   ⟨{ up with sys := worker, lk := mgr, fl := inPhase 1#3 fitted, sysq := arrived (cell 7#8 [2#8, 3#8, 8#8]) },
    by decide +kernel⟩,
   ⟨{ up with sys := worker, lk := mgr, fl := inPhase 2#3 fitted, sysq := arrived (cell 7#8 [2#8, 3#8, 0#8]) },
    by decide +kernel⟩⟩

/-- Four polders with a free spare each. -/
def spares : Vector Polder 4 := Vector.replicate 4 (spare50 FabRegion.init)

/-- The staged update of this device, all of its tree good. -/
def staged2 : Flash := { inPhase 2#3 images with job.ok := [0#6] }

theorem leBytes_leWord (a b c d : Byte) : leBytes (leWord [a, b, c, d]) = [a, b, c, d] := by
  simp only [leBytes, leWord, fld, List.cons.injEq, and_true, List.getD_cons_zero, List.getD_cons_succ]
  refine ⟨?_, ?_, ?_, ?_⟩ <;> ext i hi <;> (interval_cases i <;> simp)

theorem flatMap_leWords : ∀ (n : Nat) (b : List Byte), b.length = 4 * n →
    (leWords b).flatMap leBytes = b ∧ (leWords b).length = n
  | 0, [], _ => ⟨rfl, rfl⟩
  | n + 1, a :: b :: c :: d :: rest, h => by
    have := flatMap_leWords n rest (by simp at h; omega)
    simp [leWords, leBytes_leWord, this.1, this.2]
  | 0, _ :: _, h => by simp at h
  | n + 1, [], h => by simp at h
  | n + 1, [_], h => by simp at h; omega
  | n + 1, [_, _], h => by simp at h; omega
  | n + 1, [_, _, _], h => by simp at h; omega

theorem slotOf_common (th b : List Byte) (hb : b.length = 1568) (h0 : fld ((leWords b).getD 0 0#32) 16 16 = 128#16) :
    (slotOf th (true, 0, b)).st = .valid := by
  obtain ⟨hf, hl⟩ := flatMap_leWords 392 b hb
  unfold slotOf
  simp only
  rw [if_pos]
  unfold TplSlot.check
  have h1 : (leWords b ++ leWords (sha256 b)).take 392 = leWords b := List.take_left' hl
  have h2 : (leWords b ++ leWords (sha256 b)).drop 392 = leWords (sha256 b) := List.drop_left' hl
  have h3 : (leWords b ++ leWords (sha256 b)).getD 0 0#32 = (leWords b).getD 0 0#32 := by
    simp [List.getD_eq_getElem?_getD, hl]
  simp only [bodyWords, if_true, List.length_append, hl, leWords_sha256_length, h1, h2, h3, h0, hf]
  simp [TplSlot.init]

/-- The common section of the image in bank B. -/
def commonBody : List Byte := [5#8, 0#8, 0x80#8, 0#8] ++ List.replicate 1564 0xFF#8

theorem image_bodies : imageBodies { up with fl := staged2 }.otherThoelm = [(true, 0, commonBody)] := by decide +kernel

/-- The image in bank B is written to an empty store whole. -/
theorem image_written (s : State) (hf : s.fl = staged2) (hs : s.store = TplStore.reset) :
    ∀ k ∈ (writeImage s.otherThoelm s.store).2, ((writeImage s.otherThoelm s.store).1.slots[k]).st = .valid := by
  have ht : s.otherThoelm = { up with fl := staged2 }.otherThoelm := by
    simp only [State.otherThoelm, State.bankImage, hf]
  have he : emptySlots TplStore.reset = List.finRange 16 := by decide
  have hv := slotOf_common { up with fl := staged2 }.otherThoelm commonBody (by simp [commonBody]) (by decide +kernel)
  rw [ht, hs]
  simp only [writeImage, image_bodies, he]
  intro k hk
  have : k = 0 := by simpa [List.finRange_succ] using hk
  subst this
  simpa [List.finRange_succ] using hv

theorem witness_UpdatePhases :
    (∃ s : State, s.updUp = true ∧ s.regsUp = true ∧ s.sys.stat.role = 0#2 ∧ s.fl.upd.phase = 2#3 ∧ s.fl.upd.nFail = 0#6 ∧
      s.allOk = true ∧ s.armErr s.otherThoelm = 0#5 ∧ s.fl = staged2 ∧ s.store = TplStore.reset) ∧
    (∃ s : State, s.updUp = true ∧ s.regsUp = true ∧ s.sys.stat.role = 0#2 ∧ s.fl.upd.phase = 2#3 ∧ s.fl.upd.nFail = 0#6 ∧
      s.allOk = true ∧ s.armErr s.otherThoelm ≠ 0#5) ∧
    (∀ ph : BitVec 3, ∃ s : State, s.updUp = true ∧ s.regsUp = true ∧ s.sys.stat.role = 0#2 ∧ s.allOk = false ∧
      s.fl.upd.phase = ph ∧ s.fl.job.pending = [] ∧ s.allocates = true ∧ s.treeWorkers = [] ∧ s.fl.bankDue = false) ∧
    (∃ s : State, s.updUp = true ∧ s.fl.upd.phase = 3#3 ∧ 2#3 ≤ s.sh.stat.stage) ∧
    (∃ s : State, s.updUp = true ∧ s.fl.upd.phase = 3#3 ∧ s.sh.stat.stage < 2#3 ∧ s.inService 15 = true ∧
      s.cores[(15 : CoreId)].role.role = 15#4 ∧ (s.findCore fun k => s.cores[k].role.role = 14#4).isSome = true) ∧
    (∃ s : State, s.updUp = true ∧ s.fl.upd.phase = 3#3 ∧ s.fl.bankDue = false ∧ s.allocates = true ∧ s.treeWorkers ≠ [] ∧
      s.fl.job.pending.head? = some 8#8) ∧
    (∃ s : State, s.updUp = true ∧ s.fl.upd.phase = 2#3 ∧ s.fl.bankDue = false ∧ s.allocates = false ∧
      s.fl.job.report ≠ [] ∧ s.linksUp = true ∧ s.routeOf 0#6 ≠ none) ∧
    (∃ s : State, s.updUp = true ∧ s.regsUp = true ∧ s.allocates = false) ∧
    (∃ s : State, s.updUp = true ∧ s.regsUp = true ∧ s.sys.stat.role = 0#2 ∧ s.fl.upd.phase = 5#3 ∧ s.fl.job.onNew = true ∧
      s.settingsOk = true ∧ (s.settingsRec s.fl.stat.bootBank 0).isNone = true) :=
  ⟨⟨{ up with fl := staged2, polders := spares }, by decide +kernel⟩,
   ⟨{ up with fl := staged2 }, by decide +kernel⟩,
   fun ph => ⟨{ up with fl := inPhase ph fitted }, rfl, rfl, rfl, rfl, rfl, rfl, rfl, rfl, rfl⟩,
   ⟨{ up with fl := inPhase 3#3 fitted, sh.stat.stage := 2#3 }, by decide⟩,
   ⟨{ up with fl := inPhase 3#3 images, polders := spares }, by decide⟩,
   ⟨{ up with sys := worker, lk := { mgr with workers := [(9#6, false)] },
              fl := { inPhase 3#3 fitted with job.pending := [8#8, 3#8, 14#8] } }, by decide⟩,
   ⟨{ up with sys := worker, lk := routed, fl := { inPhase 2#3 fitted with job.report := [2#8, 3#8, 0#8] } }, by decide⟩,
   ⟨{ up with sys := worker, lk := routed, fl := fitted }, by decide⟩,
   ⟨{ up with fl := { inPhase 5#3 fitted with job.onNew := true }, fz.stat.secretsAbsent := false }, by decide +kernel⟩⟩

theorem witness_UpdatePhases_messages :
    (∃ s : State, tookUpd s 4#8 fun bs t => t.lk.tree.actingMgr && bs.getD 1 0#8 = t.fl.upd.updId && t.fl.upd.phase = 3#3 &&
      (bs.getD 2 0#8).setWidth 5 = 0#5) ∧
    (∃ s : State, tookUpd s 4#8 fun bs t => t.lk.tree.actingMgr && bs.getD 1 0#8 = t.fl.upd.updId && t.fl.upd.phase = 3#3 &&
      (bs.getD 2 0#8).setWidth 5 ≠ 0#5) ∧
    (∃ s : State, tookUpd s 5#8 fun bs t => t.lk.tree.actingMgr && bs.getD 1 0#8 = t.fl.upd.updId && t.fl.upd.phase = 4#3 &&
      (bs.getD 2 0#8).setWidth 5 = 0#5) ∧
    (∃ s : State, tookUpd s 5#8 fun bs t => t.lk.tree.actingMgr && bs.getD 1 0#8 = t.fl.upd.updId && t.fl.upd.phase = 5#3 &&
      (bs.getD 2 0#8).setWidth 5 ≠ 0#5) ∧
    (∃ s : State, tookUpd s 9#8 fun bs t => t.lk.tree.actingMgr && bs.getD 1 0#8 = t.fl.upd.updId && t.fl.upd.phase = 6#3) ∧
    (∃ s : State, tookUpd s 3#8 fun bs t => !t.allocates && bs.getD 1 0#8 = t.fl.upd.updId && t.fl.upd.phase = 2#3 &&
      t.armErr t.otherThoelm = 0#5 && t.fl = staged2 && t.store = TplStore.reset) ∧
    (∃ s : State, tookUpd s 8#8 fun bs t => !t.allocates && bs.getD 1 0#8 = t.fl.upd.updId && t.fl.upd.phase = 3#3) ∧
    (∃ s : State, tookUpd s 6#8 fun bs t => !t.allocates && bs.getD 1 0#8 = t.fl.upd.updId && t.fl.upd.phase = 5#3) ∧
    (∃ s : State, tookUpd s 6#8 fun bs t => !t.allocates && bs.getD 1 0#8 = t.fl.upd.updId && t.fl.upd.phase = 4#3) ∧
    (∃ s : State, tookUpd s 7#8 fun bs t => !t.allocates && bs.getD 1 0#8 = t.fl.upd.updId && t.fl.upd.phase = 6#3) :=
  ⟨⟨{ up with sys := worker, lk := mgr, fl := inPhase 3#3 fitted, sysq := arrived (cell 7#8 [4#8, 3#8, 0#8]) },
    by decide +kernel⟩,
   ⟨{ up with sys := worker, lk := mgr, fl := inPhase 3#3 fitted, sysq := arrived (cell 7#8 [4#8, 3#8, 12#8]) },
    by decide +kernel⟩,
   ⟨{ up with sys := worker, lk := mgr, fl := inPhase 4#3 fitted, sysq := arrived (cell 7#8 [5#8, 3#8, 0#8]) },
    by decide +kernel⟩,
   ⟨{ up with sys := worker, lk := mgr, fl := inPhase 5#3 fitted, sysq := arrived (cell 7#8 [5#8, 3#8, 12#8]) },
    by decide +kernel⟩,
   ⟨{ up with sys := worker, lk := mgr, fl := inPhase 6#3 fitted, sysq := arrived (cell 7#8 [9#8, 3#8, 12#8]) },
    by decide +kernel⟩,
   ⟨{ up with sys := worker, lk := { routed with time.synced := true }, fl := staged2, polders := spares,
              sysq := arrived (cell 7#8 [3#8, 3#8, 7#8, 0#8, 0#8, 0#8, 0#8, 0#8, 9#8]) }, by decide +kernel⟩,
   ⟨{ up with sys := worker, lk := routed, fl := inPhase 3#3 fitted, sysq := arrived (cell 7#8 [8#8, 3#8, 14#8]) },
    by decide +kernel⟩,
   ⟨{ up with sys := worker, lk := routed, fl := inPhase 5#3 images, sysq := arrived (cell 7#8 [6#8, 3#8]) },
    by decide +kernel⟩,
   ⟨{ up with sys := worker, lk := routed, fl := inPhase 4#3 fitted, sysq := arrived (cell 7#8 [6#8, 3#8]) },
    by decide +kernel⟩,
   ⟨{ up with sys := worker, lk := routed, fl := inPhase 6#3 fitted, sysq := arrived (cell 7#8 [7#8, 3#8, 14#8]) },
    by decide +kernel⟩⟩
/-- A device in RUN with core 0 as given. -/
def core0 (f : Core → Core) : State := { up with cores := up.cores.set 0 (f up.cores[(0 : CoreId)]) }

/-- A chain of one prefix with an accumulator. -/
def pfx1 (acc : BitVec 36) : Chain := { Chain.none with acc := acc, count := 1#3, seen := 1#3 }

/-- Some state has a core 0 that executes an instruction under `cond` 0, of which `h` holds. -/
def CoreW (h : Core → Prop) : Prop := ∃ s : State, s.executes 0 0#3 ∧ h s.cores[(0 : CoreId)]

/-- A core with values in its registers. -/
def busy (c : Core) : Core :=
  { c with w := #v[0x3#36, 0x800000001#36, 0x7FFFFFFFF#36, 0xFFFFFFFFF#36, 0x123456789#36, 0x2000#36, 0x3FFF#36, 0#36],
           a := 0xFFFFFFFFFFFFFFFFFF#72, m := 0x900000001#36, pc := 0x3FFF#14,
           flags := { z := false, c := true, n := true, v := true, p := true } }

theorem witness_ArithmeticFlags : CoreW fun _ => True := ⟨core0 busy, by unfold State.executes; decide⟩

theorem witness_RegisterInstructions :
    (CoreW fun c => c.chain.count = 0#3 ∧ c.chain.seen = 0#3) ∧ (CoreW fun c => c.chain.seen = 1#3 ∧ c.chain.acc = 36#36) ∧
    (CoreW fun c => c.chain.seen = 1#3 ∧ c.chain.acc = 3#36) ∧ (0#3 : BitVec 3) ≤ 3#3 :=
  ⟨⟨core0 busy, by unfold State.executes; decide⟩,
   ⟨core0 fun c => { busy c with chain := pfx1 36#36 }, by unfold State.executes; decide⟩,
   ⟨core0 fun c => { busy c with chain := pfx1 3#36 }, by unfold State.executes; decide⟩, by decide⟩

/-- A return stack of a depth. -/
def deep (d : BitVec 4) (trap tact : Bool) (c : Core) : Core :=
  { busy c with stack := { entries := #v[1#14, 2#14, 3#14, 4#14, 5#14, 6#14, 7#14, 8#14], ptr := fld d 0 3, depth := d },
                cfg.rstkMode := trap, tact := tact }

theorem witness_BranchesAndReturnStack :
    (∀ d : BitVec 4, d = 0#4 ∨ d = 7#4 ∨ d = 8#4 → CoreW fun c => c.stack.depth = d ∧ c.cfg.rstkMode = false ∧ c.chain.seen = 0#3) ∧
    (∀ d : BitVec 4, d = 0#4 ∨ d = 8#4 → CoreW fun c =>
      c.stack.depth = d ∧ c.cfg.rstkMode = true ∧ c.tact = false ∧ c.chain.seen = 0#3) ∧
    (∀ d : BitVec 4, d = 0#4 ∨ d = 8#4 → CoreW fun c =>
      c.stack.depth = d ∧ c.cfg.rstkMode = true ∧ c.tact = true ∧ c.chain.seen = 0#3) := by
  refine ⟨?_, ?_, ?_⟩ <;> intro d h
  · rcases h with h | h | h <;> subst h
    · exact ⟨core0 (deep 0#4 false false), by unfold State.executes; decide⟩
    · exact ⟨core0 (deep 7#4 false false), by unfold State.executes; decide⟩
    · exact ⟨core0 (deep 8#4 false true), by unfold State.executes; decide⟩
  · rcases h with h | h <;> subst h
    · exact ⟨core0 (deep 0#4 true false), by unfold State.executes; decide⟩
    · exact ⟨core0 (deep 8#4 true false), by unfold State.executes; decide⟩
  · rcases h with h | h <;> subst h
    · exact ⟨core0 (deep 0#4 true true), by unfold State.executes; decide⟩
    · exact ⟨core0 (deep 8#4 true true), by unfold State.executes; decide⟩

theorem witness_ConditionsTrapsAndSys :
    (∃ s : State, s.coreUp 0 = true ∧ s.cores[(0 : CoreId)].stat.state ≠ 1#3) ∧
    (∃ s : State, s.coreUp 0 = true ∧ s.cores[(0 : CoreId)].stat.state = 1#3 ∧ s.cores[(0 : CoreId)].chain.suppress = true ∧
      s.cores[(0 : CoreId)].chain.count < 6#3 ∧ s.cores[(0 : CoreId)].chain.seen < 7#3) ∧
    (∃ s : State, s.coreUp 0 = true ∧ s.cores[(0 : CoreId)].stat.state = 1#3 ∧ s.cores[(0 : CoreId)].chain.count < 6#3 ∧
      s.cores[(0 : CoreId)].chain.seen < 7#3 ∧ s.cores[(0 : CoreId)].chain.suppress = false ∧
      s.cores[(0 : CoreId)].flags.cond 1#3 = false ∧ s.cores[(0 : CoreId)].flags.cond 3#3 = true) ∧
    (CoreW fun c => c.chain.seen = 0#3 ∧ c.tact = false) ∧ (CoreW fun c => c.chain.seen = 0#3 ∧ c.tact = true) ∧
    (CoreW fun c => c.chain.seen = 2#3) ∧ (CoreW fun c => c.chain.count ≠ 0#3 ∧ 15#36 < c.chain.acc) ∧
    (CoreW fun c => c.chain.count ≠ 0#3 ∧ c.chain.acc.toNat = 15) ∧
    (∃ s : State, s.executes 0 0#3 ∧ s.cores[(0 : CoreId)].chain.seen = 0#3 ∧ s.holds 0 13#5 = false) ∧
    (∃ s : State, s.coreUp 0 = true ∧ s.cores[(0 : CoreId)].sp.ctim ≠ 0#24) ∧
    (∃ s : State, s.coreUp 0 = true ∧ s.cores[(0 : CoreId)].sp.ctim = 0#24) ∧ (4#3 : BitVec 3) ≤ 4#3 :=
  ⟨⟨core0 fun c => { busy c with stat.state := 2#3 }, by decide⟩,
   ⟨core0 fun c => { busy c with chain := { pfx1 5#36 with suppress := true } }, by decide⟩,
   ⟨core0 busy, by decide⟩,
   ⟨core0 busy, by unfold State.executes; decide⟩,
   ⟨core0 fun c => { busy c with tact := true }, by unfold State.executes; decide⟩,
   ⟨core0 fun c => { busy c with chain := { pfx1 1#36 with seen := 2#3 } }, by unfold State.executes; decide⟩,
   ⟨core0 fun c => { busy c with chain := pfx1 16#36 }, by unfold State.executes; decide⟩,
   ⟨core0 fun c => { busy c with chain := pfx1 15#36 }, by unfold State.executes; decide⟩,
   ⟨core0 busy, by unfold State.executes; decide⟩,
   ⟨core0 fun c => { busy c with sp.ctim := 1#24 }, by decide⟩,
   ⟨core0 busy, by decide⟩, by decide⟩

/-- A group of one entry waits in port 0's queue. -/
def inQueue0 (s : State) : State := { s with ports := s.ports.set 0 (event .tcAttach P) }

/-- Core 0 holds the head group of port 0's queue. -/
def holding0 : State :=
  inQueue0 (core0 fun c => { busy c with held := some 0 })

theorem witness_DataSpaceAndWaiting :
    foundIn 9 3 0#36 0#48 = .clean ∧ foundIn 9 3 0#36 0xFFFF0000FFFF#48 = .many ∧
    (CoreW fun c => (fld (c.reg 0#3 + sextLow c.chain.acc (6 * c.chain.count.toNat)) 0 14).toNat < 0x2000 ∧
      c.ecc.dataSpare ≠ 0#4 ∧ c.tact = false) ∧
    (∃ s : State, s.executes 0 0#3 ∧ Mem.wf 0#36 s.shared = true ∧ Mem.wf 0#36 s.cores[(0 : CoreId)].data = true ∧
      s.dataAt 0 (fld (s.cores[(0 : CoreId)].reg 5#3) 0 14) = .shared 0xC000 ∧ s.sharedWriter 0 0xC000 = true) ∧
    (∃ s : State, s.executes 0 0#3 ∧ s.dataAt 0 (fld (s.cores[(0 : CoreId)].reg 5#3) 0 14) = .shared 0 ∧
      s.sharedWriter 0 0 = false) ∧
    (∃ s : State, s.executes 0 0#3 ∧ s.dataAt 0 (fld (s.cores[(0 : CoreId)].reg 6#3) 0 14) = .window 0x42 ∧
      s.cores[(0 : CoreId)].dwin.sel.toNat = 0 ∧ s.ports[(0 : PortId)].stg.pending = true) ∧
    (∃ s : State, s.executes 0 0#3 ∧ s.cores[(0 : CoreId)].chain.seen = 0#3 ∧ (s.clearHeld 0).chooseWake 0 = .queue 0) ∧
    (∃ s : State, s.executes 0 0#3 ∧ s.cores[(0 : CoreId)].chain.seen = 0#3 ∧ (s.clearHeld 0).chooseWake 0 = .timer) ∧
    (∃ s : State, s.executes 0 0#3 ∧ s.cores[(0 : CoreId)].chain.seen = 0#3 ∧ (s.clearHeld 0).chooseWake 0 = .none) ∧
    (∃ s : State, s.executes 0 0#3 ∧ (s.onCore 0 fun c => { c with
      stat := { c.stat with state := 2#3 }, waitReg := some 1 }).chooseWake 0 = .queue 0) ∧
    (∃ s : State, s.executes 0 0#3 ∧ s.cores[(0 : CoreId)].held = some 0 ∧
      1 ≤ (1#16 - (s.queueAt 0).rd).toNat ∧ (1#16 - (s.queueAt 0).rd).toNat ≤ (s.queueAt 0).entries.length) ∧
    (∃ s : State, s.executes 0 0#3 ∧ s.cores[(0 : CoreId)].held = some 0 ∧
      (s.queueAt 0).entries.length < (0xFFFF#16 - (s.queueAt 0).rd).toNat) :=
  ⟨by decide +kernel, by decide +kernel,
   ⟨core0 busy, by unfold State.executes; decide⟩,
   ⟨core0 fun c => { busy c with sp.bank := 6#3 }, by unfold State.executes; decide⟩,
   ⟨core0 busy, by unfold State.executes; decide⟩,
   ⟨{ core0 fun c => { busy c with dwin.winOpen := true, w := (busy c).w.set 6 0x3C42#36 } with
      ports := up.ports.set 0 { P with stg.pending := true } }, by unfold State.executes; decide⟩,
   ⟨inQueue0 (core0 busy), by unfold State.executes; decide +kernel⟩,
   ⟨core0 fun c => { busy c with ctimPend := true }, by unfold State.executes; decide +kernel⟩,
   ⟨core0 busy, by unfold State.executes; decide +kernel⟩,
   ⟨inQueue0 (core0 busy), by unfold State.executes; decide +kernel⟩,
   ⟨holding0, by unfold State.executes; decide⟩,
   ⟨holding0, by unfold State.executes; decide⟩⟩
/-- Words blown into the factory array. -/
def blown (ws : List (Nat × Word)) : Mem 44 := ws.foldl (fun m x => Mem.write 0#44 x.1 (fuseRow x.2) m) Fuses.factory

/-- The factory array with key 0 and HARVEST_EN programmed, the keys locked. -/
def keyed : Fuses :=
  { Fuses.reset with raw := blown [(0x28, 0x1#32), (0x58, 0x10#32), (0xB0, 0x8B67C148#32), (0xB1, 0xAAF44165#32), (0xB2, 0x42B219E6#32), (0xB3, 0x537C82B8#32)] }

theorem keyed_start : (Fuses.start [] keyed).2 = .ok := by decide +kernel

theorem blank_start : (Fuses.start [] { Fuses.reset with raw := [] }).2 = .stay 0 := by decide +kernel

theorem factory_start : (Fuses.start [] Fuses.reset).2 = .hold := by decide +kernel

theorem keyed_harvest : ((Fuses.start [] keyed).1.cfgWord 0).getLsbD 4 = true := by decide +kernel

theorem factory_harvest : ((Fuses.start [] Fuses.reset).1.cfgWord 0).getLsbD 4 = false := by decide +kernel

/-- Nothing of the fuse block or the flash is under way, and `h` holds. -/
def QuietW (h : State → Prop) : Prop := ∃ s : State, s.fz.job = none ∧ s.fl.run = none ∧ h s

/-- The reset state with the fuses as given. -/
def burnt (f : Fuses) : State := { State.reset with fz := f }

/-- The device in a mode. -/
def inMode (m : DevMode) : State := { up with sys.mode := m }

/-- The device in a warm reset, with the fields of its start. -/
def inWarm (rstN island noImage : Bool) (stage : BitVec 3) : State :=
  { inMode .warm with
    sys.rstN := rstN, sys.stat.island := island, fl.stat.noImage := noImage, fz.stat.provHold := false, sh.stat.stage := stage }

theorem witness_ResetsAndStarts :
    (QuietW fun s => s.sys.mode ≠ .island ∧ s.sys.mode ≠ .harvest) ∧ (QuietW fun s => s.sys.mode = .island) ∧
    (QuietW fun s => s.sys.mode = .shelf ∧ s.sh.pwr.wake ≠ 0#16) ∧ (QuietW fun s => s.sh.pwr.wake = 0#16) ∧
    (QuietW fun s => s.sys.mode = .run) ∧ (QuietW fun s => s.sys.mode = .por) ∧
    (QuietW fun s => s.sys.mode = .bor ∧ (Fuses.start [] s.fz).2 = .stay 0) ∧
    (QuietW fun s => s.sys.mode = .por ∧ (Fuses.start [] s.fz).2 = .hold) ∧
    (QuietW fun s => s.sys.mode = .por ∧ (Fuses.start [] s.fz).2 = .ok ∧ s.fl.stat.present = false) ∧
    (QuietW fun s => s.warmable = true ∧ s.sys.req = .sys) ∧ (QuietW fun s => s.warmable = true ∧ s.sys.req = .lnk) ∧
    (QuietW fun s => s.controlUp = true ∧ s.sys.req = .none ∧ s.fromSup (.core 13) = true ∧ s.fromSup (.core 0) = false) ∧
    (QuietW fun s => s.sys.rstN = true ∧ s.sys.mode = .warm ∧ s.sys.stat.island = true) ∧
    (QuietW fun s => s.sys.rstN = false ∧ s.sys.mode = .warm ∧ s.sys.stat.island = false ∧ s.fl.stat.noImage = true) ∧
    (QuietW fun s => s.sys.rstN = true ∧ s.sys.mode = .warm ∧ s.sys.stat.island = false ∧ s.fz.stat.provHold = false ∧
      s.fl.stat.noImage = false ∧ s.sh.stat.stage = 6#3) ∧
    (QuietW fun s => s.sys.rstN = false ∧ s.sys.mode = .warm ∧ s.sys.stat.island = false ∧ s.fz.stat.provHold = false ∧
      s.fl.stat.noImage = false ∧ s.sh.stat.stage ≠ 6#3 ∧ s.fl.upd.phase < 3#3) ∧
    (QuietW fun s => s.sys.rstN = true ∧ s.sys.mode ≠ .warm) ∧ (QuietW fun s => s.sys.rstN = false ∧ s.sys.mode ≠ .warm) :=
  ⟨⟨up, by decide⟩, ⟨inMode .island, by decide⟩, ⟨{ inMode .shelf with sh.pwr.wake := 1#16 }, by decide⟩,
   ⟨up, by decide⟩, ⟨up, by decide⟩, ⟨State.reset, by decide⟩,
   ⟨{ burnt { Fuses.reset with raw := [] } with sys.mode := .bor }, rfl, rfl, rfl, blank_start⟩,
   ⟨State.reset, rfl, rfl, rfl, factory_start⟩,
   ⟨burnt keyed, rfl, rfl, rfl, keyed_start, rfl⟩,
   ⟨{ up with sys.req := .sys }, by decide⟩, ⟨{ up with sys.req := .lnk }, by decide⟩, ⟨up, by decide⟩,
   ⟨inWarm true true false 0#3, by decide⟩, ⟨inWarm false false true 0#3, by decide⟩, ⟨inWarm true false false 6#3, by decide⟩,
   ⟨inWarm false false false 2#3, by decide⟩, ⟨up, by decide⟩, ⟨{ up with sys.rstN := false }, by decide⟩⟩

theorem witness_PldAndIsland :
    (∃ s : State, s.controlUp = true ∧ s.polders[(0 : PolderId)].die = true ∧ s.polders[(0 : PolderId)].pld = false ∧
      s.fromSup (.core 13) = true) ∧
    (∃ s : State, s.polders[(0 : PolderId)].die = false) ∧
    (∃ s : State, s.polders[(0 : PolderId)].pld = true ∧ s.controlUp = true) ∧
    (∃ s : State, s.sys.mode = .por ∧ (posOf 5).val ≤ 5 ∧ s.sys.harvestOff = false ∧ (s.fz.word 0x058).getLsbD 4 = true) ∧
    (∃ s : State, s.sys.mode = .off ∧ s.sys.harvestOff = true) ∧ 5 < (posOf 6).val ∧
    (∃ s : State, s.sys.mode = .harvest ∧ s.fl.run = none ∧ (Fuses.start [] s.fz).2 = .stay 0) ∧
    (∃ s : State, s.sys.mode = .harvest ∧ s.fl.run = none ∧ (∀ r, (Fuses.start [] s.fz).2 ≠ .stay r) ∧
      ((Fuses.start [] s.fz).1.cfgWord 0).getLsbD 4 = true) ∧
    (∃ s : State, s.sys.mode = .harvest ∧ s.fl.run = none ∧ (∀ r, (Fuses.start [] s.fz).2 ≠ .stay r) ∧
      ((Fuses.start [] s.fz).1.cfgWord 0).getLsbD 4 = false) ∧
    (∃ s : State, s.sys.mode ≠ .harvest ∧ s.sys.mode = .island) ∧
    (∃ s : State, s.fz.job = none ∧ s.fl.run = none ∧ s.sys.mode = .harvest) ∧ (∃ s : State, s.sys.mode = .run) :=
  ⟨⟨up, by decide⟩, ⟨State.reset, by decide⟩,
   ⟨{ up with polders := up.polders.set 0 { upPolder with pld := true } }, by decide⟩,
   ⟨burnt keyed, by decide +kernel⟩,
   ⟨{ inMode .off with sys.harvestOff := true }, by decide⟩, by decide,
   ⟨{ burnt { Fuses.reset with raw := [] } with sys.mode := .harvest }, rfl, rfl, blank_start⟩,
   ⟨{ burnt keyed with sys.mode := .harvest }, rfl, rfl, fun _ h => (nomatch keyed_start.symm.trans h), keyed_harvest⟩,
   ⟨{ State.reset with sys.mode := .harvest }, rfl, rfl, fun _ h => (nomatch factory_start.symm.trans h), factory_harvest⟩,
   ⟨inMode .island, by decide⟩, ⟨inMode .harvest, by decide⟩, ⟨up, rfl⟩⟩

theorem witness_RegisterAccess :
    (∃ s : State, s.pRegUp 0 = true) ∧ (∃ s : State, s.controlUp = false) ∧
    (∃ s : State, s.sys.mode = .island ∧ 0x100 ≤ (0xF00#16).toNat ∧ (0xF00#16).toNat < 0x1000) ∧ (∃ s : State, s.regsUp = true) ∧
    (∃ s : State, s.executes 0 0#3 ∧ s.controlUp = true ∧ s.pRegUp 0 = true ∧
      s.cores[(0 : CoreId)].sp.iob + BitVec.ofNat 16 3 = 0x1003#16 ∧ s.waits 0x1003#16 = false) ∧
    (∃ s : State, s.executes 0 0#3 ∧ s.controlUp = true ∧ s.pRegUp 0 = true ∧
      s.cores[(0 : CoreId)].sp.iob + BitVec.ofNat 16 3 = 0x1004#16) ∧
    (∃ s : State, s.executes 0 0#3 ∧ s.controlUp = true ∧ s.cores[(0 : CoreId)].sp.iob + BitVec.ofNat 16 3 = 0x0000#16) ∧
    (∃ s : State, s.executes 0 0#3 ∧ 0x2800 ≤ (s.cores[(0 : CoreId)].sp.iob + BitVec.ofNat 16 3).toNat) ∧
    (∃ s : State, s.executes 0 0#3 ∧ s.waits (s.cores[(0 : CoreId)].sp.iob + BitVec.ofNat 16 3) = true) :=
  ⟨⟨up, by decide⟩, ⟨State.reset, by decide⟩, ⟨inMode .island, by decide⟩, ⟨up, by decide⟩,
   ⟨core0 fun c => { busy c with sp.iob := 0x1000#16 }, by unfold State.executes; decide⟩,
   ⟨core0 fun c => { busy c with sp.iob := 0x1001#16 }, by unfold State.executes; decide⟩,
   ⟨core0 fun c => { busy c with sp.iob := 0xFFFD#16 }, by unfold State.executes; decide⟩,
   ⟨core0 fun c => { busy c with sp.iob := 0x27FD#16 }, by unfold State.executes; decide⟩,
   ⟨{ core0 (fun c => { busy c with sp.iob := 0x1000#16 }) with polders := up.polders.set 0 { upPolder with pld := true } },
    by unfold State.executes; decide⟩⟩

theorem witness_StepRunsFront : ∃ s : State, s.pending = [] := ⟨up, rfl⟩

theorem witness_StepKeepsMemoryForm : ∃ s t : State, s.memOk = true ∧ s.pending ≠ [] ∧ step s = .next t :=
  ⟨{ State.reset with pending := [.supplyS6Level 0] }, _, by decide +kernel, List.cons_ne_nil _ _, rfl⟩

theorem witness_ResetState : ∃ i : Fin 64, i.val < 16 ∧ 0 < i.val := ⟨15, by decide⟩
-- Operands that WellFormed refuses, one for each check

theorem test_wf_sensed_word : (Instr.fuseLock .host 0#9 [(512, 0#44)]).wf = false := by decide

theorem test_wf_release_vb : (Instr.porRelease 0#2 0#3 false 1800 none [] (List.replicate 193 (0, 0)) 0 0).wf = false := by decide

theorem test_wf_island_sensed : (Instr.islandRelease 0#2 0#3 false 1800 [(600, 0#44)] [] 0 false).wf = false := by decide

theorem test_wf_handover_vb : (Instr.dbHandover 1800 none (List.replicate 193 (0, 0)) 0 0).wf = false := by decide

theorem test_wf_message_objects : (Instr.transmitMessage 0 0 0#36 0#36 (List.replicate 66 0#32)).wf = false := by decide

theorem test_wf_frame_sop :
    (Instr.frameReceived 0 { sop := 5#3, header := 0#16, extHeader := 0#16, objs := [], crcOk := true, lenOk := true }).wf = false := by
  decide

theorem test_wf_queue_position : (Instr.queueFault 0 false ⟨64, 0#64⟩).wf = false := by decide

theorem test_wf_sram_row : (Instr.sramRowFault none true 65536 false).wf = false ∧
    (Instr.sramRowFault (some 0) true 8192 false).wf = false ∧ (Instr.sramRowFault (some 0) false 4096 false).wf = false := by decide

theorem test_wf_credit : (Instr.linkAck 0 0#12 0#12 17 0).wf = false ∧ (Instr.linkAck 0 0#12 0#12 16 16).wf = true := by decide

theorem test_wf_master_data : (Instr.twMCommandDone false 0#8 (List.replicate 13 0#8)).wf = false := by decide

theorem test_wf_polder_feeds : (Instr.shedSample 0 [0, 0, 0] 0 0 0 0#12).wf = false := by decide

theorem test_wf_program_data : (Instr.flashProgram 0#24 257#9 (List.replicate 257 0#8)).wf = false ∧
    (Instr.flashProgram 0#24 2#9 [0#8]).wf = false := by decide

theorem test_wf_store_row : (Instr.regionLoadComplete 0 ⟨289, 0#112⟩ true 0).wf = false ∧
    (Instr.regionLoadComplete 0 ⟨288, 0#112⟩ true 0).wf = true := by decide

theorem test_wf_ret_form : (Instr.retI 0 0#3 ⟨1#3, 2#3⟩).wf = false ∧ (Instr.retI 0 0#3 ⟨1#3, 7#3⟩).wf = true := by decide

theorem test_wf_wait_form : (Instr.waitI 0 0#3 ⟨1#3, 1#3⟩).wf = false ∧ (Instr.waitI 0 0#3 ⟨1#3, 2#3⟩).wf = true := by decide

theorem test_wf_fence_form : (Instr.fenceI 0 0#3 ⟨1#3, 3#3⟩).wf = false ∧ (Instr.fenceI 0 0#3 ⟨1#3, 5#3⟩).wf = true := by decide

theorem test_wf_settings_index : (Instr.settingsRecordWrite 14).wf = false ∧ (Instr.settingsRecordWrite 13).wf = true := by decide

-- Words of the CRC-32 routine and of the charge conversion (spec/10_cenan_isa.md Tables 10.16 and 10.18)

theorem test_decode_crc_routine : ([0x05FF#14, 0x01CF#14, 0x03E2#14, 0x060C#14, 0x029B#14, 0x0CCB#14, 0x021F#14, 0x14F7#14,
      0x018F#14].map fun w => decodeCenan 0 0#48 w) =
    [.pfx 0 0#3 0x3F#6, .mov 0 0#3 1#3 7#3, .ldx 0 0#3 4#3 2#3 0#48, .crcs 0 0#3 1#3 4#3, .tst 0 0#3 3#3 3#3,
     .bra 0 1#3 11#6, .addi 0 0#3 3#3 7#3, .bra 0 2#3 0x37#6, .xorI 0 0#3 1#3 7#3] := by decide

theorem test_decode_reserved : decodeCenan 0 0#48 0x058F#14 = .retI 0 0#3 ⟨1#3, 7#3⟩ ∧
    decodeCenan 0 0#48 0x078A#14 = .waitI 0 0#3 ⟨1#3, 2#3⟩ ∧ decodeCenan 0 0#48 0x07CD#14 = .fenceI 0 0#3 ⟨1#3, 5#3⟩ := by
  decide

-- Single steps; the expected values are those of the worked examples of spec/10_cenan_isa.md, of Table 0.5, and of FIPS 180-4

/-- What a step of one instruction leaves of core 0. -/
def stepCore {α : Type} (i : Instr) (c : Core → Core) (f : Core → α) : Option α :=
  match step { core0 c with pending := [i] } with
  | .next t => some (f t.cores[(0 : CoreId)])
  | _ => none

/-- A core whose registers 1 to 4 are given. -/
def regs4 (a b c d : BitVec 36) (q : Core) : Core := { q with w := #v[0#36, a, b, c, d, 0#36, 0#36, 0#36] }

theorem test_crcs_byte0 : stepCore (.crcs 0 0#3 1#3 4#3) (regs4 0xFFFFFFFFF#36 0#36 0#36 0x5A3#36) (·.reg 1#3) =
    some 0xF6222E220#36 := by decide

theorem test_crcs_byte1 : stepCore (.crcs 0 0#3 1#3 4#3)
    (fun c => { regs4 0xF6222E220#36 0#36 0#36 0x5A3#36 c with chain := pfx1 1#36 }) (·.reg 1#3) = some 0xF4B66F6A5#36 := by decide

theorem test_brev_pdo : stepCore (.brev 0 0#3 5#3 4#3) (regs4 0#36 0#36 0#36 0x2201912C#36) (·.reg 5#3) =
    some 0x034898044#36 := by decide

theorem test_sub_wraps : stepCore (.sub 0 0#3 1#3 2#3) (regs4 0x0E2CC3100#36 0xF00000000#36 0#36 0#36)
    (fun c => (c.reg 1#3, c.flags.c, c.flags.n)) = some (0x1E2CC3100#36, false, false) := by decide

theorem test_ldk_chain : stepCore (.ldk 0 0#3 3#3 7#3)
    (fun c => { c with chain := { Chain.none with acc := 0x5D34#36, count := 3#3, seen := 3#3 } }) (·.reg 3#3) =
    some 190887#36 := by decide

theorem test_macs_charge : stepCore (.macs 0 0#3 1#3) (fun c => { regs4 8100000000#36 0#36 0#36 0#36 c with m := 190887#36 })
    (·.a) = some 1546184700000000#72 := by decide

theorem test_rnd_charge : stepCore (.rnd 0 0#3 4#3) (fun c => { c with a := 1546184700000000#72 }) (·.reg 4#3) =
    some 22500#36 := by decide

theorem test_bra_back : stepCore (.bra 0 0#3 0x37#6) (fun c => { c with pc := 0x211#14 }) (·.pc) = some 0x208#14 := by decide

theorem test_trap_entry : stepCore (.trapI 0 0#3 1#3) (fun c => { regs4 9#36 0#36 0#36 0#36 c with pc := 7#14 })
    (fun c => (c.pc, c.sp.tpc, c.sp.tcause, c.sp.tval, c.tact)) = some (4#14, 8#14, 4#4, 9#36, true) := by decide

/-- What a step of one command leaves of port 0. -/
def stepPort {α : Type} (i : Instr) (p : Port) (f : Port → α) : Option α :=
  match step { withPort p with pending := [i] } with
  | .next t => some (f t.ports[(0 : PortId)])
  | _ => none

theorem test_evt_clears_ones : stepPort (.registerWrite .host 0x1003#16 5#32) { P with evt := 7#32 } (·.evt) = some 2#32 := by
  decide +kernel

theorem test_sys_id : up.readReg 0x0000#16 = 0x2E5C0192#32 := by decide +kernel

theorem test_port_place : polderOf 150 = 3 ∧ posOf 150 = 6 ∧ roleFor 150 .b = 9#5 ∧ roleFor 150 .a = 12#5 := by decide

theorem test_ron_cal_word : (P.ronCal 0xA02D813B0#36).fe.rCal.toNat = 5040 ∧ (P.ronCal 0xA02D813B0#36).fe.tCal.toNat = 728 ∧
    (P.ronCal 0xA02D813B0#36).fe.alpha.toNat = 160 := by decide

theorem test_sha256_abc : sha256 [0x61#8, 0x62#8, 0x63#8] =
    [0xBA#8, 0x78#8, 0x16#8, 0xBF#8, 0x8F#8, 0x01#8, 0xCF#8, 0xEA#8, 0x41#8, 0x41#8, 0x40#8, 0xDE#8, 0x5D#8, 0xAE#8, 0x22#8,
     0x23#8, 0xB0#8, 0x03#8, 0x61#8, 0xA3#8, 0x96#8, 0x17#8, 0x7A#8, 0x9C#8, 0xB4#8, 0x10#8, 0xFF#8, 0x61#8, 0xF2#8, 0x00#8,
     0x15#8, 0xAD#8] := by decide +kernel

end Sys2Proof.Tests
end

section
/-! The state of the cores across a register write. A write of a register reaches nearly every block of the device, and
an OUT of a core is such a write (R292): the lemmas say, operation by operation, that the blocks leave the cores as they
are, and that those which do act on cores stop none at a double trap. -/

namespace Sys2Proof.Machine

theorem OnlyPort.cores_eq {n : PortId} {s t : State} (h : OnlyPort n s t) : t.cores = s.cores := by
  have hcores := congrArg State.cores h.1
  exact hcores

namespace State

theorem foldl_cores {α : Type} {f : State → α → State} (h : ∀ s a, (f s a).cores = s.cores) (l : List α) (s : State) :
    (l.foldl f s).cores = s.cores := by
  induction l generalizing s with
  | nil => rfl
  | cons a l ih => rw [List.foldl_cons, ih, h]

theorem blank_cores (n : PortId) (s : State) : (s.blank n).cores = s.cores := by
  unfold blank
  rfl

theorem cores_of_blank {n : PortId} {s t : State} (h : t.blank n = s.blank n) : t.cores = s.cores := by
  rw [← blank_cores n t, h, blank_cores]

variable (s : State)

theorem onPolderPorts_cores {f : PortId → State → State} (h : ∀ n s, (f n s).cores = s.cores) (q : PolderId) :
    (s.onPolderPorts q f).cores = s.cores :=
  foldl_cores (fun _ _ => h _ _) _ _

theorem onAllPorts_cores {f : PortId → State → State} (h : ∀ n s, (f n s).cores = s.cores) :
    (s.onAllPorts f).cores = s.cores :=
  foldl_cores (fun _ _ => h _ _) _ _

/-! Operations that change one port and the gauge that follows it (R31, R199). -/

@[simp] theorem heldAtStage_cores : s.heldAtStage.cores = s.cores := cores_of_blank (s.blank_heldAtStage 0)
@[simp] theorem showSlot_cores (i : Fin 48) : (s.showSlot i).cores = s.cores := cores_of_blank (s.blank_showSlot 0 i)
@[simp] theorem slotOff_cores (i : Fin 48) : (s.slotOff i).cores = s.cores := cores_of_blank (s.blank_slotOff 0 i)
@[simp] theorem markConflict_cores (n : PortId) : (s.markConflict n).cores = s.cores :=
  cores_of_blank (s.blank_markConflict 0 n)
@[simp] theorem gaugeFollow_cores (n : PortId) : (s.gaugeFollow n).cores = s.cores :=
  cores_of_blank (s.blank_gaugeFollow n)
@[simp] theorem onPort_cores (n : PortId) (f : Env → Port → Port) : (s.onPort n f).cores = s.cores :=
  (s.onPort_spec n f).1.cores_eq
@[simp] theorem onRegionOf_cores (n : PortId) (f : Env → Port → Port) : (s.onRegionOf n f).cores = s.cores :=
  (s.onRegionOf_only n f).cores_eq
@[simp] theorem onPReg_cores (n : PortId) (f : Env → Port → Port) : (s.onPReg n f).cores = s.cores :=
  (s.onPReg_only n f).cores_eq
@[simp] theorem onTxGo_cores (k : CoreId) (n : PortId) (f : Env → Port → Port) : (s.onTxGo k n f).cores = s.cores :=
  (s.onTxGo_only k n f).cores_eq

/-! Ports and classes (R30, R32, R65, R177). -/

@[simp] theorem rebind_cores (n : PortId) : (s.rebind n).cores = s.cores := by
  dsimp only [rebind]
  split <;> simp

@[simp] theorem shedPort_cores (n : PortId) : (s.shedPort n).cores = s.cores := by
  unfold shedPort
  split <;> simp

@[simp] theorem unshedPort_cores (n : PortId) : (s.unshedPort n).cores = s.cores := by
  unfold unshedPort
  split <;> simp

@[simp] theorem holdForHb_cores (n : PortId) : (s.holdForHb n).cores = s.cores := by
  unfold holdForHb
  split <;> simp

@[simp] theorem classActs_cores (n : PortId) : (s.classActs n).cores = s.cores := by
  dsimp only [classActs]
  (repeat' split) <;> simp

@[simp] theorem applyClass_cores (n : PortId) : (s.applyClass n).cores = s.cores := by
  dsimp only [applyClass]
  (repeat' split) <;> simp

@[simp] theorem onOffer_cores (n : PortId) : (s.onOffer n).cores = s.cores := by
  unfold onOffer
  split <;> simp

/-! Queues, alerts and quarry events (R325, R373). -/

@[simp] theorem pushSys_cores (i : Fin 64) (g : List (BitVec 6 × W36)) : (s.pushSys i g).cores = s.cores := rfl
@[simp] theorem fabEvent_cores (typ : BitVec 6) (pl : W36) : (s.fabEvent typ pl).cores = s.cores := rfl

@[simp] theorem alert_cores (code : BitVec 8) (value : Word) : (s.alert code value).cores = s.cores := by
  dsimp only [alert]
  split <;> simp

@[simp] theorem parkNote_cores (n : PortId) : (s.parkNote n).cores = s.cores := by
  unfold parkNote
  split <;> simp

@[simp] theorem quarryEvent_cores (action kind : BitVec 4) (id : BitVec 20) (cause : BitVec 4) :
    (s.quarryEvent action kind id cause).cores = s.cores := rfl

@[simp] theorem spoil_cores (kind : BitVec 4) (id : BitVec 20) (cause : BitVec 4) :
    (s.spoil kind id cause).cores = s.cores := by
  unfold spoil
  split <;> rfl

/-! Regions, spares and parks (R248, R261 to R272). -/

@[simp] theorem startLoad_cores (q : PolderId) (j : LoadJob) : (s.startLoad q j).cores = s.cores := rfl
@[simp] theorem startSwitch_cores (q : PolderId) (j : SwitchJob) : (s.startSwitch q j).cores = s.cores := rfl

@[simp] theorem startTrial_cores (q : PolderId) (r : RegionId) (idle : Bool) :
    (s.startTrial q r idle).cores = s.cores := by
  unfold startTrial
  split <;> rfl

@[simp] theorem repeatLeft_cores (q : PolderId) (r : Nat) : (s.repeatLeft q r).cores = s.cores := by
  unfold repeatLeft
  split <;> simp

@[simp] theorem parkMove_cores (n : PortId) : (s.parkMove n).cores = s.cores := by simp [parkMove]

@[simp] theorem parkPort_cores (n : PortId) (cause : BitVec 2) : (s.parkPort n cause).cores = s.cores := by
  simp [parkPort]

@[simp] theorem migrateTo_cores (q : PolderId) (pos : PosId) (r : RegionId) (slot cause : BitVec 4) :
    (s.migrateTo q pos r slot cause).cores = s.cores := by
  dsimp only [migrateTo]
  split <;> simp

@[simp] theorem dropPrepare_cores (q : PolderId) : (s.dropPrepare q).cores = s.cores := by
  unfold dropPrepare
  split <;> simp

@[simp] theorem parkFailing_cores (q : PolderId) (pos : PosId) (cause : BitVec 4) (idle : Bool) :
    (s.parkFailing q pos cause idle).cores = s.cores := by
  dsimp only [parkFailing]
  split <;> simp

@[simp] theorem findRegion_cores (q : PolderId) (pos : PosId) (slot cause : BitVec 4) :
    (s.findRegion q pos slot cause).cores = s.cores := by
  dsimp only [findRegion]
  (repeat' split) <;> simp

@[simp] theorem migRefuse_cores (q : PolderId) (pos : PosId) (cause : BitVec 4) :
    (s.migRefuse q pos cause).cores = s.cores := by
  dsimp only [migRefuse]
  (repeat' split) <;> simp

@[simp] theorem giveRegion_cores (q : PolderId) (pos : PosId) (r : RegionId) :
    (s.giveRegion q pos r).cores = s.cores := by
  dsimp only [giveRegion]
  (repeat' split) <;> rfl

@[simp] theorem plannedSwitch_cores (q : PolderId) (pos : PosId) (r : RegionId) (kind : SwitchKind) :
    (s.plannedSwitch q pos r kind).cores = s.cores := rfl

@[simp] theorem leaveRepeat_cores (q : PolderId) : (s.leaveRepeat q).cores = s.cores := by
  dsimp only [leaveRepeat]
  (repeat' split) <;> rfl

@[simp] theorem spareFreed_cores (q : PolderId) : (s.spareFreed q).cores = s.cores := by
  unfold spareFreed
  split <;> simp

@[simp] theorem takeBack_cores (q : PolderId) (pos : PosId) : (s.takeBack q pos).cores = s.cores := by
  dsimp only [takeBack]
  split <;> simp

@[simp] theorem unprepare_cores (q : PolderId) : (s.unprepare q).cores = s.cores := by
  unfold unprepare
  split <;> simp

/-! The template store (R232, R233). -/

@[simp] theorem onSlot_cores (t : SlotId) (f : TplSlot → TplSlot) : (s.onSlot t f).cores = s.cores := rfl
@[simp] theorem tplErr_cores (e : BitVec 4) : (s.tplErr e).cores = s.cores := rfl
@[simp] theorem slotLeft_cores (t : SlotId) : (s.slotLeft t).cores = s.cores := rfl

@[simp] theorem tplBegin_cores (t : SlotId) (common : Bool) : (s.tplBegin t common).cores = s.cores := by
  dsimp only [tplBegin]
  split <;> simp

@[simp] theorem tplData_cores (w : Word) : (s.tplData w).cores = s.cores := by
  unfold tplData
  split <;> rfl

@[simp] theorem tplEnd_cores (t : SlotId) : (s.tplEnd t).cores = s.cores := by
  unfold tplEnd
  split <;> rfl

@[simp] theorem tplFree_cores (t : SlotId) : (s.tplFree t).cores = s.cores := by
  dsimp only [tplFree]
  split <;> simp

@[simp] theorem refUp_cores (t : BitVec 4) : (s.refUp t).cores = s.cores := rfl
@[simp] theorem refDown_cores (t : BitVec 4) : (s.refDown t).cores = s.cores := rfl

/-! Loads and culvert switches (R240 to R243). -/

@[simp] theorem measOld_cores (q : PolderId) (region : BitVec 6) : (s.measOld q region).cores = s.cores := by
  unfold measOld
  split
  · rfl
  · exact onPolderPorts_cores s (fun n s => by dsimp only; split <;> rfl) q

@[simp] theorem plLoad_cores (q : PolderId) (region : BitVec 6) (slot : BitVec 4) :
    (s.plLoad q region slot).cores = s.cores := by
  dsimp only [plLoad]
  split <;> simp

@[simp] theorem plUnload_cores (q : PolderId) (region : BitVec 6) : (s.plUnload q region).cores = s.cores := by
  dsimp only [plUnload]
  split <;> simp

@[simp] theorem plSwitch_cores (q : PolderId) (pos region : BitVec 6) :
    (s.plSwitch q pos region).cores = s.cores := by
  dsimp only [plSwitch]
  (repeat' split) <;> rfl

@[simp] theorem plLoadWrite_cores (q : PolderId) (w : Word) : (s.plLoadWrite q w).cores = s.cores := by
  unfold plLoadWrite
  (repeat' split) <;> simp

@[simp] theorem loadEvent_cores (q : PolderId) (target : Option RegionId) (slot : BitVec 4) (err : BitVec 3) :
    (s.loadEvent q target slot err).cores = s.cores := by
  dsimp only [loadEvent]
  split <;> simp

@[simp] theorem install_cores (q : PolderId) (target : Option RegionId) (slot : BitVec 4) (rows : List (BitVec 112)) :
    (s.install q target slot rows).cores = s.cores := by
  dsimp only [install]
  (repeat' split) <;> rfl

@[simp] theorem wipe_cores (q : PolderId) (target : Option RegionId) : (s.wipe q target).cores = s.cores := by
  dsimp only [wipe]
  (repeat' split) <;> rfl

@[simp] theorem commonSwitch_cores (q : PolderId) : (s.commonSwitch q).cores = s.cores := rfl

@[simp] theorem loadedFor_cores (q : PolderId) (r : RegionId) (purpose : Purpose) :
    (s.loadedFor q r purpose).cores = s.cores := by
  dsimp only [loadedFor]
  (repeat' split) <;> simp

@[simp] theorem retryLoad_cores (q : PolderId) (j : LoadJob) : (s.retryLoad q j).cores = s.cores := by
  unfold retryLoad
  (repeat' split) <;> simp

theorem loadIdle_cores (q : PolderId) (j : LoadJob) {t : State} (h : s.loadIdle q j = some t) : t.cores = s.cores := by
  unfold loadIdle at h
  split at h
  · cases h
  · dsimp only at h
    split at h
    · cases h
      simp
    · split at h
      · cases h
        simp
      · cases h

theorem nextLoad_go_cores (q : PolderId) (m : Nat) : (nextLoad.go q m s).cores = s.cores := by
  induction m generalizing s with
  | zero => rfl
  | succ m ih =>
    rw [nextLoad.go]
    dsimp only
    repeat' split
    · rfl
    · rfl
    next t h => rw [ih, loadIdle_cores _ q _ h, onPolder_cores]
    · simp

@[simp] theorem nextLoad_cores (q : PolderId) : (s.nextLoad q).cores = s.cores := nextLoad_go_cores s q 64

@[simp] theorem loadRow_cores (slot : BitVec 4) (x : StoreRow) : (s.loadRow slot x).2.cores = s.cores := by
  unfold loadRow
  split <;> simp

@[simp] theorem loadStoreBad_cores (q : PolderId) (j : LoadJob) : (s.loadStoreBad q j).cores = s.cores := by
  unfold loadStoreBad
  split <;> simp

@[simp] theorem loadComplete_cores (q : PolderId) (store : StoreRow) (readBad : Bool) (tenths : Nat) :
    (s.loadComplete q store readBad tenths).cores = s.cores := by
  unfold loadComplete
  split
  · rfl
  · split
    · rfl
    · dsimp only
      (repeat' split) <;> simp

@[simp] theorem startOn_cores (n : PortId) (r : BitVec 6) : (s.startOn n r).cores = s.cores := rfl
@[simp] theorem giveOn_cores (n : PortId) (r : BitVec 6) : (s.giveOn n r).cores = s.cores := rfl

@[simp] theorem switchDropped_cores (q : PolderId) (j : SwitchJob) : (s.switchDropped q j).cores = s.cores := by
  dsimp only [switchDropped]
  (repeat' split) <;> simp

@[simp] theorem regionLeft_cores (q : PolderId) (j : SwitchJob) (o : RegionId) :
    (s.regionLeft q j o).cores = s.cores := by
  dsimp only [regionLeft]
  (repeat' split) <;> simp

@[simp] theorem switchComplete_cores (q : PolderId) (pos : PosId) : (s.switchComplete q pos).cores = s.cores := by
  unfold switchComplete
  split
  · rfl
  · simp [apply_ite State.cores, apply_dite State.cores]

@[simp] theorem commonSwitchTick_cores (q : PolderId) : (s.commonSwitchTick q).cores = s.cores := rfl

/-! Fuses, and the images of a bundle (R404 to R416, R453). -/

@[simp] theorem fuseProgram_cores (src : Src) (addr : BitVec 9) : (s.fuseProgram src addr).cores = s.cores := by
  dsimp only [fuseProgram]
  (repeat' split) <;> rfl

@[simp] theorem fuseLock_cores (src : Src) (region : BitVec 9) (up : List (Nat × BitVec 44)) :
    (s.fuseLock src region up).cores = s.cores := by
  dsimp only [fuseLock]
  (repeat' split) <;> rfl

@[simp] theorem fuseRevoke_cores (src : Src) (slot : BitVec 9) : (s.fuseRevoke src slot).cores = s.cores := by
  dsimp only [fuseRevoke]
  (repeat' split) <;> rfl

@[simp] theorem fuseRead_cores (src : Src) (addr : BitVec 9) (upset : BitVec 44) :
    (s.fuseRead src addr upset).cores = s.cores := by
  unfold fuseRead
  (repeat' split) <;> rfl

@[simp] theorem cacheFill_cores : s.cacheFill.cores = s.cores := rfl
@[simp] theorem takeSets_cores (th : List Byte) : (s.takeSets th).cores = s.cores := rfl

/-! Links, the tree and the budget (R177, R182, R187, R345 to R360). -/

@[simp] theorem pumpTx_cores (m : Nat) (i : LinkId) (bulk : Bool) : (pumpTx m i bulk s).cores = s.cores := by
  induction m generalizing s with
  | zero => rfl
  | succ m ih =>
    rw [pumpTx]
    (repeat' split) <;> simp [ih]

@[simp] theorem sendOn_cores (i : LinkId) (bulk : Bool) (dest : BitVec 6) (bcast : Bool) (typ : Byte)
    (bs : List Byte) :
    (s.sendOn i bulk dest bcast typ bs).cores = s.cores := by
  simp [sendOn]

@[simp] theorem sendTo_cores (bulk : Bool) (dest : BitVec 6) (typ : Byte) (bs : List Byte) :
    (s.sendTo bulk dest typ bs).cores = s.cores := by
  unfold sendTo
  (repeat' split) <;> simp

@[simp] theorem broadcast_cores (bulk : Bool) (dest : BitVec 6) (typ : Byte) (bs : List Byte) :
    (s.broadcast bulk dest typ bs).cores = s.cores := by
  unfold broadcast
  split
  · rfl
  · exact foldl_cores (fun s i => by split <;> simp) _ s

@[simp] theorem sendTopo_cores : s.sendTopo.cores = s.cores := by
  unfold sendTopo
  (repeat' split) <;> simp

@[simp] theorem linkDown_cores (i : LinkId) : (s.linkDown i).cores = s.cores := rfl

@[simp] theorem classWrite_cores (n : PortId) (v : BitVec 2) : (s.classWrite n v).cores = s.cores := by
  dsimp only [classWrite]
  (repeat' split) <;> simp

@[simp] theorem dropDemand_cores (i : LinkId) : (s.dropDemand i).cores = s.cores := by
  unfold dropDemand
  split <;> rfl

@[simp] theorem latClear_cores (cl : SvcClass) : (s.latClear cl).cores = s.cores := by
  unfold latClear
  split <;> rfl

@[simp] theorem clearRoot_cores : s.clearRoot.cores = s.cores := rfl
@[simp] theorem moveCells_cores (a b : LinkId) : (s.moveCells a b).cores = s.cores := rfl

@[simp] theorem setRoot_cores (i : LinkId) : (s.setRoot i).cores = s.cores := by
  dsimp only [setRoot]
  (repeat' split) <;> simp

@[simp] theorem beaconsAged_cores : s.beaconsAged.cores = s.cores := rfl

@[simp] theorem portDown_cores (i : LinkId) : (s.portDown i).cores = s.cores := by
  dsimp only [portDown]
  (repeat' split) <;> simp

@[simp] theorem beaconSend_cores : s.beaconSend.cores = s.cores := s.broadcast_cores _ _ _ _

@[simp] theorem retrain_cores (i : LinkId) : (s.retrain i).cores = s.cores := by
  unfold retrain
  split <;> simp

@[simp] theorem linkDisable_cores (i : LinkId) : (s.linkDisable i).cores = s.cores := by
  unfold linkDisable
  split <;> simp

@[simp] theorem takeManager_cores (term : BitVec 8) : (s.takeManager term).cores = s.cores := by
  unfold takeManager
  simp

@[simp] theorem reclaim_cores : s.reclaim.cores = s.cores := by
  unfold reclaim
  split <;> simp

@[simp] theorem remGo_cores : s.remGo.cores = s.cores := by
  dsimp only [remGo]
  (repeat' split) <;> simp

@[simp] theorem remAddrWrite_cores (w : Word) : (s.remAddrWrite w).cores = s.cores := by
  unfold remAddrWrite
  (repeat' split) <;> simp

/-! Settings (R438, R456). -/

@[simp] theorem deviceValues_cores (b : List Byte) : (s.deviceValues b).cores = s.cores :=
  onAllPorts_cores _ fun n s => markConflict_cores s n

@[simp] theorem restoreDevice_cores : s.restoreDevice.cores = s.cores := by
  unfold restoreDevice
  split <;> simp

@[simp] theorem restorePorts_cores : s.restorePorts.cores = s.cores := by
  refine foldl_cores (fun s b => ?_) _ s
  split
  · rfl
  · exact onAllPorts_cores s fun n s => by split <;> rfl

@[simp] theorem restoreTree_cores : s.restoreTree.cores = s.cores := by
  unfold restoreTree
  (repeat' split) <;> rfl

@[simp] theorem settingsRestore_cores (ports : Bool) : (s.settingsRestore ports).cores = s.cores := by
  unfold settingsRestore
  split <;> simp

@[simp] theorem settingsDrop_cores : s.settingsDrop.cores = s.cores := by
  unfold settingsDrop
  split
  · rfl
  · dsimp only
    rw [settingsRestore_cores, onAllPorts_cores]
    · split <;> simp
    · exact fun n s => rfl

/-! The gauge (R197 to R221). -/

@[simp] theorem onRec_cores (i : Fin 112) (f : GaugeRec → GaugeRec) : (s.onRec i f).cores = s.cores := by
  unfold onRec
  split <;> rfl

@[simp] theorem journalWrite_cores (i : Fin 112) : (s.journalWrite i).cores = s.cores := by simp [journalWrite]

@[simp] theorem commitRec_cores (i : Fin 112) : (s.commitRec i).cores = s.cores := by
  unfold commitRec
  (repeat' split) <;> simp

@[simp] theorem commitAll_cores : s.commitAll.cores = s.cores := by
  unfold commitAll
  split
  · exact foldl_cores (fun s i => commitRec_cores s i) _ s
  · rfl

@[simp] theorem kgCommit_cores (slot : BitVec 6) : (s.kgCommit slot).cores = s.cores := by
  unfold kgCommit
  (repeat' split) <;> simp

@[simp] theorem kgReset_cores (slot : BitVec 6) : (s.kgReset slot).cores = s.cores := by
  unfold kgReset
  (repeat' split) <;> simp

@[simp] theorem kgSlotWrite_cores (i : Fin 48) (w : Word) : (s.kgSlotWrite i w).cores = s.cores := by
  dsimp only [kgSlotWrite]
  (repeat' split) <;> simp

/-! Migrations and hops (R261, R266, R272). -/

@[simp] theorem migEnd_cores (port : BitVec 8) (err : BitVec 4) : (s.migEnd port err).cores = s.cores := rfl

@[simp] theorem prepare_cores (port : BitVec 8) (t : BitVec 6) : (s.prepare port t).cores = s.cores := by
  dsimp only [prepare]
  (repeat' split) <;> rfl

@[simp] theorem abandon_cores (port : BitVec 8) : (s.abandon port).cores = s.cores := by
  dsimp only [abandon]
  (repeat' split) <;> simp

@[simp] theorem tryRegion_cores (port : BitVec 8) (t : BitVec 6) : (s.tryRegion port t).cores = s.cores := by
  dsimp only [tryRegion]
  (repeat' split) <;> simp

@[simp] theorem retryPark_cores (n : PortId) : (s.retryPark n).cores = s.cores := by
  dsimp only [retryPark]
  (repeat' split) <;> simp

@[simp] theorem coreMap_cores : s.coreMap.cores = s.cores := rfl

/-! The update (R449 to R456). -/

@[simp] theorem onJob_cores (f : Update → Update) : (s.onJob f).cores = s.cores := rfl
@[simp] theorem onUpd_cores (f : FlUpdStat → FlUpdStat) : (s.onUpd f).cores = s.cores := rfl

@[simp] theorem setPhase_cores (p : BitVec 3) : (s.setPhase p).cores = s.cores := by
  unfold setPhase
  split <;> simp

@[simp] theorem setResult_cores (r : BitVec 5) : (s.setResult r).cores = s.cores := rfl
@[simp] theorem flRefuse_cores : s.flRefuse.cores = s.cores := rfl

@[simp] theorem tell_cores (code : Byte) (rest : List Byte) : (s.tell code rest).cores = s.cores := by
  unfold tell
  simp

@[simp] theorem report_cores (code : Byte) (rest : List Byte) : (s.report code rest).cores = s.cores := by
  unfold report
  (repeat' split) <;> simp

@[simp] theorem counted_cores (a : BitVec 6) (r : BitVec 5) : (s.counted a r).cores = s.cores := rfl
@[simp] theorem countAfresh_cores : s.countAfresh.cores = s.cores := rfl

@[simp] theorem stagingEnds_cores (r : BitVec 5) : (s.stagingEnds r).cores = s.cores := by
  dsimp only [stagingEnds]
  (repeat' split) <;> simp

@[simp] theorem newStaging_cores (id : BitVec 8) (len : Nat) (hash : List Byte) :
    (s.newStaging id len hash).cores = s.cores := by
  simp [newStaging]

@[simp] theorem prepareBank_cores : s.prepareBank.cores = s.cores := by
  unfold prepareBank
  split <;> simp

@[simp] theorem chunksDone_cores : s.chunksDone.cores = s.cores := by
  dsimp only [chunksDone]
  (repeat' split) <;> simp

@[simp] theorem chunkTaken_cores (c : Nat) (data : List Byte) : (s.chunkTaken c data).cores = s.cores := by
  dsimp only [chunkTaken]
  (repeat' split) <;> simp

@[simp] theorem updStageBegin_cores : s.updStageBegin.cores = s.cores := by
  dsimp only [updStageBegin]
  (repeat' split) <;> simp

@[simp] theorem stgData_cores (w : Word) : (s.stgData w).cores = s.cores := by
  unfold stgData
  (repeat' split) <;> simp

@[simp] theorem updStageEnd_cores : s.updStageEnd.cores = s.cores := by
  unfold updStageEnd
  dsimp only
  repeat' split
  · rfl
  · simp
  · simp
  · rw [foldl_cores fun s c => by simp, prepareBank_cores, foldl_cores fun s c => by simp]
    simp

@[simp] theorem follow_cores (th : List Byte) (slots : List (Fin 16)) : (s.follow th slots).cores = s.cores :=
  foldl_cores (fun s q => s.onPolder_cores q _) _ s

@[simp] theorem ownLoad_cores (q : PolderId) (region : BitVec 6) (slot : BitVec 4) :
    (s.ownLoad q region slot).cores = s.cores := by
  unfold ownLoad
  split <;> simp

@[simp] theorem planHop_cores (n : PortId) (r : RegionId) (slot : BitVec 4) :
    (s.planHop n r slot).cores = s.cores := by
  dsimp only [planHop]
  (repeat' split) <;> simp

@[simp] theorem rehome_cores (n : PortId) : (s.rehome n).cores = s.cores := by
  dsimp only [rehome]
  (repeat' split) <;> simp

@[simp] theorem emptyIdle_cores (q : PolderId) : (s.emptyIdle q).cores = s.cores :=
  foldl_cores (fun s r => by dsimp only; split <;> simp) _ s

@[simp] theorem commonTo_cores (q : PolderId) (slot : BitVec 4) : (s.commonTo q slot).cores = s.cores := by
  dsimp only [commonTo]
  split <;> simp

@[simp] theorem portsTo_cores (th : List Byte) (slots : List (Fin 16)) : (s.portsTo th slots).cores = s.cores := by
  unfold portsTo
  dsimp only
  rw [foldl_cores, foldl_cores, follow_cores]
  · exact fun s cl => onAllPorts_cores s fun n s => by split <;> simp
  · intro s q
    split <;> simp

@[simp] theorem bundleInForce_cores (bank : Bool) : (s.bundleInForce bank).cores = s.cores := rfl

@[simp] theorem freeImage_cores (slots : List (Fin 16)) : (s.freeImage slots).cores = s.cores :=
  foldl_cores (fun s t => tplFree_cores s t) slots s

@[simp] theorem bankWriteDue_cores : s.bankWriteDue.cores = s.cores := by
  unfold bankWriteDue
  split
  · exact s.onFlash_cores _
  · rfl

@[simp] theorem revertGoesOn_cores : s.revertGoesOn.cores = s.cores := by
  dsimp only [revertGoesOn]
  (repeat' split) <;> simp

@[simp] theorem disarm_cores (r : BitVec 5) : (s.disarm r).cores = s.cores := by simp [disarm]

@[simp] theorem abortTree_cores (r own : BitVec 5) : (s.abortTree r own).cores = s.cores := by
  dsimp only [abortTree]
  split <;> simp

@[simp] theorem armSelf_cores (active : BitVec 48) (tConfirm : BitVec 8) :
    (s.armSelf active tConfirm).cores = s.cores := by
  dsimp only [armSelf]
  (repeat' split) <;> simp

@[simp] theorem updArm_cores : s.updArm.cores = s.cores := by
  dsimp only [updArm]
  (repeat' split) <;> simp

@[simp] theorem abortSelf_cores : s.abortSelf.cores = s.cores := by
  unfold abortSelf
  (repeat' split) <;> simp

@[simp] theorem updAbort_cores : s.updAbort.cores = s.cores := by
  unfold updAbort
  (repeat' split) <;> simp

/-! Supplies and resets (R387, R417, R420). -/

@[simp] theorem onQueue_cores (x : QueueId) (f : Queue → Queue) : (s.onQueue x f).cores = s.cores := by
  unfold onQueue
  split <;> rfl

@[simp] theorem holdLower_cores (q : PolderId) : (s.holdLower q).cores = s.cores :=
  onPolderPorts_cores s (fun n s => holdForHb_cores s n) q

@[simp] theorem linksIdle_cores : s.linksIdle.cores = s.cores := foldl_cores (fun s i => portDown_cores s i) _ s

@[simp] theorem shelfReq_cores : s.shelfReq.cores = s.cores := by
  unfold shelfReq
  split
  · rfl
  · split
    · rfl
    · dsimp only
      rw [foldl_cores, linksIdle_cores, commitAll_cores, onAllPorts_cores]
      · exact fun n s => s.onPort_cores n _
      · exact fun s q => rfl

@[simp] theorem pldStart_cores (q : PolderId) : (s.pldStart q).cores = s.cores := by
  unfold pldStart
  split <;> simp

@[simp] theorem rstCtrl_cores (src : Src) (w : Word) : (s.rstCtrl src w).cores = s.cores := by
  unfold rstCtrl
  (repeat' split) <;> simp

/-! The writes of the blocks of Table 18.1. -/

@[simp] theorem tplCmd_cores (w : Word) : (s.tplCmd w).cores = s.cores := by
  unfold tplCmd
  split <;> simp

@[simp] theorem writeSys_cores (src : Src) (a : Nat) (w : Word) : (s.writeSys src a w).cores = s.cores := by
  unfold writeSys
  (repeat' split) <;> simp

@[simp] theorem kgCmd_cores (w : Word) : (s.kgCmd w).cores = s.cores := by
  unfold kgCmd
  split <;> simp

@[simp] theorem writeKg_cores (a : Nat) (w : Word) : (s.writeKg a w).cores = s.cores := by
  unfold writeKg
  (repeat' split) <;> simp

@[simp] theorem limWritten_cores (src : Src) : (s.limWritten src).cores = s.cores := by
  unfold limWritten
  split <;> rfl

@[simp] theorem writeAlloc_cores (src : Src) (a : Nat) (w : Word) : (s.writeAlloc src a w).cores = s.cores := by
  unfold writeAlloc
  (repeat' split) <;> simp

@[simp] theorem writeBg_cores (src : Src) (a : Nat) (w : Word) : (s.writeBg src a w).cores = s.cores := by
  unfold writeBg
  (repeat' split) <;> simp

@[simp] theorem writeRem_cores (a : Nat) (w : Word) : (s.writeRem a w).cores = s.cores := by
  unfold writeRem
  split <;> simp

@[simp] theorem writeSh_cores (a : Nat) (w : Word) : (s.writeSh a w).cores = s.cores := by
  unfold writeSh
  (repeat' split) <;> simp

@[simp] theorem fzCmd_cores (src : Src) (w : Word) : (s.fzCmd src w).cores = s.cores := by
  unfold fzCmd
  split <;> simp

@[simp] theorem writeFz_cores (src : Src) (a : Nat) (w : Word) : (s.writeFz src a w).cores = s.cores := by
  unfold writeFz
  (repeat' split) <;> simp

@[simp] theorem writePl_cores (src : Src) (q : PolderId) (off : Nat) (w : Word) :
    (s.writePl src q off w).cores = s.cores := by
  unfold writePl
  (repeat' split) <;> simp

@[simp] theorem writeLkCtrl_cores (i : LinkId) (w : Word) : (s.writeLkCtrl i w).cores = s.cores := by
  unfold writeLkCtrl
  (repeat' split) <;> simp

@[simp] theorem writeLk_cores (off : Nat) (w : Word) : (s.writeLk off w).cores = s.cores := by
  dsimp only [writeLk]
  (repeat' split) <;> simp

@[simp] theorem writeTw_cores (src : Src) (a : Nat) (w : Word) : (s.writeTw src a w).cores = s.cores := by
  unfold writeTw
  (repeat' split) <;> rfl

@[simp] theorem writePCfg_cores (n : PortId) (w : Word) : (s.writePCfg n w).cores = s.cores := by
  unfold writePCfg
  split <;> simp

@[simp] theorem writePCtrl_cores (src : Src) (n : PortId) (w : Word) : (s.writePCtrl src n w).cores = s.cores := by
  unfold writePCtrl
  (repeat' split) <;> simp

@[simp] theorem writePort_cores (src : Src) (n : PortId) (off : Nat) (w : Word) :
    (s.writePort src n off w).cores = s.cores := by
  dsimp only [writePort]
  (repeat' split) <;> simp

/-! The operations that do change cores. None of them stops one: a core comes to STATE 3 at a double trap alone (R312). -/

/-- Every core that stands stopped at a double trap (C_STAT.STATE 3) in `y` does so in `x` already. -/
structure NoneStops (x y : Vector Core 16) : Prop where
  stopped : ∀ k : CoreId, y[k].stat.state = 3#3 → x[k].stat.state = 3#3

theorem NoneStops.refl (x : Vector Core 16) : NoneStops x x := ⟨fun _ h => h⟩

theorem NoneStops.trans {x y z : Vector Core 16} (hxy : NoneStops x y) (hyz : NoneStops y z) : NoneStops x z :=
  ⟨fun k h => hxy.stopped k (hyz.stopped k h)⟩

theorem noneStops_of_cores {s t : State} (h : t.cores = s.cores) : NoneStops s.cores t.cores := by
  rw [h]
  exact NoneStops.refl _

theorem onCore_noneStops (k : CoreId) {f : Core → Core}
    (h : (f s.cores[k]).stat.state = 3#3 → s.cores[k].stat.state = 3#3) : NoneStops s.cores (s.onCore k f).cores := by
  refine ⟨fun j hj => ?_⟩
  by_cases hk : j = k
  · subst hk
    exact h (by simpa using hj)
  · rwa [(s.onCore_only k f).2 j hk] at hj

theorem foldl_noneStops {α : Type} {f : State → α → State} (h : ∀ s a, NoneStops s.cores (f s a).cores) (l : List α) :
    NoneStops s.cores (l.foldl f s).cores := by
  induction l generalizing s with
  | nil => exact NoneStops.refl _
  | cons a l ih => exact (h s a).trans (ih _)

theorem clearHeld_noneStops (k : CoreId) : NoneStops s.cores (s.clearHeld k).cores := by
  unfold clearHeld
  split
  · exact NoneStops.refl _
  · dsimp only
    split <;> simpa using s.onCore_noneStops k (f := fun x => { x with held := none }) fun h => h

/-- A core gives its held group back and changes then, without being stopped by the change. -/
theorem clearHeld_onCore_noneStops (k : CoreId) {f : Core → Core}
    (h : ∀ c : Core, (f c).stat.state = 3#3 → c.stat.state = 3#3) :
    NoneStops s.cores ((s.clearHeld k).onCore k f).cores :=
  (s.clearHeld_noneStops k).trans (onCore_noneStops _ k (h _))

theorem seat_noneStops (k : CoreId) (role : BitVec 4) (cfg : CCfg) : NoneStops s.cores (s.seat k role cfg).cores :=
  s.clearHeld_onCore_noneStops k fun _ h => nomatch (show (1#3 : BitVec 3) = 3#3 from h)

theorem seatStandby_noneStops (cfg : Option CCfg) : NoneStops s.cores (s.seatStandby cfg).cores := by
  unfold seatStandby
  split
  · exact NoneStops.refl _
  · split
    · exact seat_noneStops ..
    · exact NoneStops.refl _

theorem coreHop_noneStops (role : BitVec 8) (target : CoreId) : NoneStops s.cores (s.coreHop role target).cores := by
  unfold coreHop
  dsimp only
  split
  · exact NoneStops.refl _
  split
  · exact NoneStops.refl _
  next k _ =>
    split
    · exact NoneStops.refl _
    rw [migEnd_cores, coreMap_cores]
    refine NoneStops.trans ?_ (seatStandby_noneStops _ _)
    refine NoneStops.trans (s.seat_noneStops target (role.setWidth 4) s.cores[k].cfg) ?_
    split
    · split
      · exact seat_noneStops ..
      · exact clearHeld_onCore_noneStops _ k fun _ h => h
    · exact onCore_noneStops _ k fun h => h

theorem qyMigWrite_noneStops (w : Word) : NoneStops s.cores (s.qyMigWrite w).cores := by
  unfold qyMigWrite
  dsimp only
  split
  · split
    · split
      · exact NoneStops.refl _
      · exact coreHop_noneStops ..
    · apply noneStops_of_cores
      split <;> simp
  · exact NoneStops.refl _

theorem writeQy_noneStops (src : Src) (a : Nat) (w : Word) : NoneStops s.cores (s.writeQy src a w).cores := by
  unfold writeQy
  split
  case h_2 =>
    split
    · exact s.qyMigWrite_noneStops w
    · exact NoneStops.refl _
  all_goals exact NoneStops.refl _

theorem rolesHop_noneStops : NoneStops s.cores s.rolesHop.cores := by
  refine foldl_noneStops s (fun s k => ?_) _
  split
  · exact s.clearHeld_onCore_noneStops k fun _ h => nomatch (show (1#3 : BitVec 3) = 3#3 from h)
  · exact NoneStops.refl _

@[simp] theorem noteGuar_cores (s t : State) : (s.noteGuar t).cores = t.cores := by
  dsimp only [noteGuar]
  split <;> simp

theorem revert_noneStops (r : BitVec 5) : NoneStops s.cores (s.revert r).cores := by
  unfold revert
  dsimp only
  rw [noteGuar_cores, revertGoesOn_cores]
  split
  · rw [settingsDrop_cores, bundleInForce_cores]
    have hop {t : State} (h : t.cores = s.cores) : NoneStops s.cores t.rolesHop.cores :=
      (noneStops_of_cores h).trans t.rolesHop_noneStops
    split
    · rw [onJob_cores]
      dsimp only
      exact hop (by simp)
    · exact hop (by simp)
  · exact noneStops_of_cores (by simp)

theorem updRevert_noneStops : NoneStops s.cores s.updRevert.cores := by
  unfold updRevert
  split
  · exact NoneStops.refl _
  split
  · exact NoneStops.refl _
  unfold revertTree
  dsimp only
  split
  · exact (noneStops_of_cores (s.tell_cores _ _)).trans (revert_noneStops _ _)
  · exact noneStops_of_cores (s.tell_cores _ _)

theorem writeFl_noneStops (a : Nat) (w : Word) : NoneStops s.cores (s.writeFl a w).cores := by
  have hop : NoneStops s.cores (s.flUpd w).cores := by
    unfold flUpd
    split
    case h_5 => exact s.updRevert_noneStops
    all_goals exact noneStops_of_cores (by simp)
  unfold writeFl
  split
  · exact noneStops_of_cores (by simp)
  split
  case h_2 =>
    split
    · exact NoneStops.refl _
    · split
      · exact hop
      · exact NoneStops.refl _
  all_goals exact NoneStops.refl _

theorem commit_noneStops (k : CoreId) (x : QueueId) (rd : BitVec 16) : NoneStops s.cores (s.commit k x rd).cores := by
  unfold commit
  split
  · exact NoneStops.refl _
  split
  next q _ =>
    have hq : NoneStops s.cores ((s.onQueue x fun _ => q).onCore k fun c => { c with held := none }).cores := by
      simpa using s.onCore_noneStops k (f := fun c => { c with held := none }) fun h => h
    dsimp only
    split <;> simpa using hq
  · exact s.onCore_noneStops k fun h => h

theorem writeQueue_noneStops (src : Src) (x : QueueId) (ptr : Bool) (w : Word) :
    NoneStops s.cores (s.writeQueue src x ptr w).cores := by
  unfold writeQueue
  split
  · exact NoneStops.refl _
  split
  · unfold writePtr
    split
    · exact commit_noneStops ..
    · apply noneStops_of_cores
      split <;> simp
  · exact noneStops_of_cores (s.onQueue_cores x _)

theorem writeCore_noneStops (src : Src) (k : CoreId) (off : Nat) (w : Word) :
    NoneStops s.cores (s.writeCore src k off w).cores := by
  unfold writeCore
  split
  case h_1 => exact s.onCore_noneStops k fun h => h
  case h_2 => exact s.onCore_noneStops k fun h => by split at h <;> exact h
  case h_3 => exact s.onCore_noneStops k fun h => h
  case h_4 =>
    split
    · exact s.onCore_noneStops k fun h => h
    · exact NoneStops.refl _
  case h_5 => exact s.onCore_noneStops k fun h => by split at h <;> exact h
  case h_6 => exact NoneStops.refl _

@[simp] theorem noted_cores (s t : State) : (s.noted t).cores = t.cores := by
  refine foldl_cores (fun t q => ?_) _ t
  split <;> simp

theorem writeBase_noneStops (src : Src) (addr : BitVec 16) (w : Word) :
    NoneStops s.cores (s.writeBase src addr w).cores := by
  unfold writeBase
  dsimp only
  split
  · rw [noted_cores]
    split
    case h_4 => exact writeQy_noneStops ..
    case h_8 => exact writeCore_noneStops ..
    case h_10 => exact writeQueue_noneStops ..
    case h_13 => exact writeFl_noneStops ..
    all_goals exact noneStops_of_cores (by simp)
  · exact NoneStops.refl _

/-- No write of a register stops a core at a double trap, whatever its source. -/
theorem writeReg_noneStops (src : Src) (addr : BitVec 16) (w : Word) :
    NoneStops s.cores (s.writeReg src addr w).cores := by
  unfold writeReg
  split
  · unfold haccWrite
    split
    · unfold hostAccess
      split
      · exact writeBase_noneStops ..
      · exact NoneStops.refl _
    · exact NoneStops.refl _
  · exact writeBase_noneStops ..

/-! The register map: where a number leads (Table 18.1), and which numbers are served (R463). -/

/-- The numbers of Table 18.1 that lead to no block. -/
def unmapped (a : Nat) : Prop :=
  (0x300 ≤ a ∧ a < 0x400) ∨ (0x600 ≤ a ∧ a < 0x800) ∨ (0x900 ≤ a ∧ a < 0xC00) ∨ (0xF00 ≤ a ∧ a < 0x1000) ∨ 0x2800 ≤ a

theorem regAt_unmapped {addr : BitVec 16} (h : unmapped addr.toNat) : regAt addr = .unassigned := by
  rcases h with h | h | h | h | h
  all_goals unfold regAt; dsimp only; repeat first | rw [if_neg (by omega)] | rw [dif_neg (by omega)]
  all_goals rw [if_pos h.2]

theorem regAt_core (k : CoreId) {off : Nat} (h : off < 0x20) :
    regAt (BitVec.ofNat 16 (0x400 + 0x20 * k.val + off)) = .core k off := by
  have hk := k.isLt
  have ha : (BitVec.ofNat 16 (0x400 + 0x20 * k.val + off)).toNat = 0x400 + 0x20 * k.val + off := by
    rw [BitVec.toNat_ofNat]
    omega
  unfold regAt
  dsimp only
  iterate 8 rw [if_neg (by omega)]
  rw [dif_pos (by omega)]
  simp only [RegAt.core.injEq, Fin.ext_iff]
  omega

theorem regAt_port (n : PortId) {off : Nat} (h : off < 0x20) :
    regAt (BitVec.ofNat 16 (0x1000 + 0x20 * n.val + off)) = .port n off := by
  have hn := n.isLt
  have ha : (BitVec.ofNat 16 (0x1000 + 0x20 * n.val + off)).toNat = 0x1000 + 0x20 * n.val + off := by
    rw [BitVec.toNat_ofNat]
    omega
  unfold regAt
  dsimp only
  repeat first | rw [if_neg (by omega)] | rw [dif_neg (by omega)]
  rw [dif_pos (by omega)]
  simp only [RegAt.port.injEq, Fin.ext_iff]
  omega

theorem served_of_controlDown (h : s.controlUp = false) (r : RegAt) : s.served r = false := by
  cases r <;> simp [served, regsUp, pRegUp, plRegUp, h]

/-- In the island a number between the SYS_ block and the P_ registers is not served (R463). -/
theorem served_of_island {addr : BitVec 16} (h : s.sys.mode = .island) (h1 : 0x100 ≤ addr.toNat)
    (h2 : addr.toNat < 0x1000) : s.served (regAt addr) = false := by
  unfold regAt
  dsimp only
  rw [if_neg (by omega)]
  simp only [apply_ite s.served, apply_dite s.served, if_pos h2]
  simp [served, regsUp, plRegUp, h]

/-! Writes (R461 to R464). -/

theorem freeCount_congr {s t : State} (hp : t.polders = s.polders) (hq : t.qy = s.qy) (q : PolderId) :
    t.freeCount q = s.freeCount q := by
  simp only [freeCount, spareFree, isSpoiled, hp, hq]

/-- No alert of a last free spare where no spare is taken (R282). -/
theorem noted_of_freeCount {s t : State} (h : ∀ q, t.freeCount q = s.freeCount q) : s.noted t = t := by
  unfold noted
  refine List.foldlRecOn (motive := fun x => x = t) _ _ rfl fun x hx q _ => ?_
  rw [hx, if_neg (by rw [h q]; tauto)]

@[simp] theorem noted_self : s.noted s = s := noted_of_freeCount fun _ => rfl

theorem noted_of_onlyPort {n : PortId} {s t : State} (h : OnlyPort n s t) : s.noted t = t := by
  have hpolders := congrArg State.polders h.1
  have hqy := congrArg State.qy h.1
  exact noted_of_freeCount (freeCount_congr hpolders hqy)

/-- A write of a register that is not served has no effect (R462, R463, log entry 74). -/
theorem writeReg_unserved (src : Src) {addr : BitVec 16} (w : Word) (h : s.served (regAt addr) = false) :
    s.writeReg src addr w = s := by
  unfold writeReg
  split
  next ha =>
    subst ha
    have hr : s.regsUp = false := h
    simp [haccWrite, hr]
  · simp [writeBase, h]

theorem readReg_unserved {addr : BitVec 16} (h : s.served (regAt addr) = false) : s.readReg addr = 0#32 := by
  simp [readReg, h]

/-- TW_HACC_ADDR, whose write makes an access of its own (R382), lies in the TW_ block. -/
theorem ne_haccAddr {addr : BitVec 16} (h : regAt addr ≠ .tw 0xE85) : addr ≠ 0xE85#16 := by
  rintro rfl
  exact h rfl

/-- A write of a register of a port that is served (Table 18.7). -/
theorem writeReg_port (src : Src) (n : PortId) {off : Nat} (hoff : off < 0x20) (w : Word) (h : s.pRegUp n = true) :
    s.writeReg src (BitVec.ofNat 16 (0x1000 + 0x20 * n.val + off)) w = s.noted (s.writePort src n off w) := by
  have hr := regAt_port n hoff
  rw [writeReg, if_neg (ne_haccAddr (by simp [hr])), writeBase]
  simp [hr, served, h]

/-- A write that acts as an operation on the registers of one port. -/
theorem writeReg_onPReg (src : Src) (n : PortId) {off : Nat} (hoff : off < 0x20) (w : Word) (h : s.pRegUp n = true)
    {f : Env → Port → Port} (hf : s.writePort src n off w = s.onPReg n f) :
    s.writeReg src (BitVec.ofNat 16 (0x1000 + 0x20 * n.val + off)) w = s.onPReg n f := by
  rw [s.writeReg_port src n hoff w h, hf, noted_of_onlyPort (s.onPReg_only n f)]

theorem readReg_port (n : PortId) {off : Nat} (hoff : off < 0x20) (h : s.pRegUp n = true) :
    s.readReg (BitVec.ofNat 16 (0x1000 + 0x20 * n.val + off)) = s.readPort n off := by
  simp [readReg, regAt_port n hoff, served, h]

/-- C_DWIN takes no write but the OUT of its own core (R337). -/
theorem writeReg_dwin_host (k : CoreId) (w : Word) (h : s.regsUp = true) :
    s.writeReg .host (BitVec.ofNat 16 (0x400 + 0x20 * k.val + 4)) w = s := by
  have hr := regAt_core k (off := 4) (by omega)
  rw [writeReg, if_neg (ne_haccAddr (by simp [hr])), writeBase]
  simp [hr, served, h, writeCore]

/-! IN and OUT (R292). -/

/-- No alert of the class-A guarantee where no core stops (R180, R312). -/
theorem noteStop_of_noneStops (k : CoreId) {s t : State} (h : NoneStops s.cores t.cores) : s.noteStop k t = t := by
  unfold noteStop
  rw [if_neg]
  simpa using h.stopped k

/-- An instruction that reaches outside its core, where the core executes it and none stops: its effect is `f`. -/
theorem runOut_executes {k : CoreId} {op : Op} {cond rd rs : BitVec 3} {f : State → State} (hx : s.executes k cond)
    (hill : s.cores[k].isIll op rd rs = false) (hf : NoneStops s.cores (f s).cores) :
    s.runOut k op cond rd rs f = f s := by
  obtain ⟨hup, hrun, hsup, hcond⟩ := hx
  have hgate : s.cores[k].gate op cond rd rs = .go := by
    rw [Core.gate, Core.running, hrun, hill, hsup, hcond]
    rfl
  rw [runOut, if_pos hup, hgate]
  exact noteStop_of_noneStops k hf

theorem coreIn_waits {k : CoreId} {cond rd rs : BitVec 3} (hx : s.executes k cond)
    (hw : s.waits (s.cores[k].ioAddr rs) = true) : s.coreIn k cond rd rs = s := by
  rw [coreIn, s.runOut_executes hx rfl]
  · exact if_pos hw
  · dsimp only
    rw [if_pos hw]
    exact NoneStops.refl _

theorem coreOut_waits {k : CoreId} {cond rd rs : BitVec 3} (hx : s.executes k cond)
    (hw : s.waits (s.cores[k].ioAddr rs) = true) : s.coreOut k cond rd rs = s := by
  rw [coreOut, s.runOut_executes hx rfl]
  · exact if_pos hw
  · dsimp only
    rw [if_pos hw]
    exact NoneStops.refl _

theorem coreIn_executes {k : CoreId} {cond rd rs : BitVec 3} (hx : s.executes k cond)
    (hw : s.waits (s.cores[k].ioAddr rs) = false) :
    s.coreIn k cond rd rs = s.onCore k fun c =>
      (c.setReg rd ((s.readReg (s.cores[k].ioAddr rs)).setWidth 36)).after (c.pc + 1#14) 2 := by
  rw [coreIn, s.runOut_executes hx rfl]
  · simp only [hw, Bool.false_eq_true, if_false]
    rfl
  · simp only [hw, Bool.false_eq_true, if_false]
    exact s.onCore_noneStops k fun h => h

/-- OUT: the core goes on, then the write acts (log entry 83). -/
theorem coreOut_executes {k : CoreId} {cond rd rs : BitVec 3} (hx : s.executes k cond)
    (hw : s.waits (s.cores[k].ioAddr rs) = false) :
    s.coreOut k cond rd rs =
      (s.onCore k Core.next).writeReg (.core k) (s.cores[k].ioAddr rs) (fld (s.cores[k].reg rd) 0 32) := by
  rw [coreOut, s.runOut_executes hx rfl]
  · simp only [hw, Bool.false_eq_true, if_false]
    rfl
  · simp only [hw, Bool.false_eq_true, if_false]
    exact (s.onCore_noneStops k fun h => h).trans (writeReg_noneStops _ _ _ _)

end State

theorem zextLow_toNat (x : BitVec 36) (w : Nat) : (zextLow x w).toNat = x.toNat % 2 ^ w := by
  unfold zextLow
  split
  next h => rw [Nat.mod_eq_of_lt (x.isLt.trans_le (Nat.pow_le_pow_right (by norm_num) h))]
  next h =>
    have hw : 36 = (36 - w) + w := by omega
    rw [BitVec.toNat_ushiftRight, BitVec.toNat_shiftLeft, Nat.shiftLeft_eq, Nat.shiftRight_eq_div_pow]
    conv_lhs => rw [show 2 ^ 36 = 2 ^ w * 2 ^ (36 - w) by rw [← pow_add]; congr 1; omega]
    rw [Nat.mul_mod_mul_right, Nat.mul_div_cancel _ (by positivity)]

theorem Core.acc8_toNat (c : Core) (rs : BitVec 3) : (c.acc8 rs).toNat = (c.chain.acc.toNat * 8 + rs.toNat) % 2 ^ 36 := by
  have hrs : rs.toNat < 2 ^ 3 := rs.isLt
  have hshift : c.chain.acc.toNat <<< 3 % 2 ^ 36 = 2 ^ 3 * (c.chain.acc.toNat % 2 ^ 33) := by
    rw [Nat.shiftLeft_eq]
    omega
  rw [Core.acc8, BitVec.toNat_or, BitVec.toNat_shiftLeft, hshift, BitVec.toNat_setWidth,
    Nat.mod_eq_of_lt (a := rs.toNat) (by omega), ← Nat.two_pow_add_eq_or_of_lt hrs]
  omega

/-- The I/O address in the numbers of R292: IOB plus the unsigned immediate of the chain. -/
theorem Core.ioAddr_eq (c : Core) (rs : BitVec 3) :
    c.ioAddr rs = c.sp.iob +
      BitVec.ofNat 16 ((c.chain.acc.toNat * 8 + rs.toNat) % 2 ^ 36 % 2 ^ (3 + 6 * c.chain.count.toNat)) := by
  rw [Core.ioAddr, fld, Core.unsImm, Core.n, ← c.acc8_toNat rs, ← zextLow_toNat]
  congr 1

/-! The clauses of O57. -/

/-- P_EVT clears the bits written as 1, P_EVT_EN takes the value (Table 0.5). -/
theorem registerWrite_evt_completes (src : Src) {s : State} {n : PortId} (w : Word) {p : Port} (hp : s.ports[n] = p)
    (h : s.pRegUp n = true) :
    PortCompletes (.registerWrite src (BitVec.ofNat 16 (0x1000 + 0x20 * n.val + 0x03)) w) n s
      fun q => q = { p with evt := p.evt &&& ~~~w }.bare :=
  State.onPReg_completes (f := fun _ p => { p with evt := p.evt &&& ~~~w })
    (congrArg Host.Outcome.next (s.writeReg_onPReg src n (by omega) w h rfl)) h hp rfl

theorem registerWrite_evtEn_completes (src : Src) {s : State} {n : PortId} (w : Word) {p : Port} (hp : s.ports[n] = p)
    (h : s.pRegUp n = true) :
    PortCompletes (.registerWrite src (BitVec.ofNat 16 (0x1000 + 0x20 * n.val + 0x04)) w) n s
      fun q => q = { p with evtEn := w }.bare :=
  State.onPReg_completes (f := fun _ p => { p with evtEn := w })
    (congrArg Host.Outcome.next (s.writeReg_onPReg src n (by omega) w h rfl)) h hp rfl

/-- The P_ numbers that a write does not reach: those that are read only, and those that Table 18.7 does not assign. -/
def readOnlyP : List Nat :=
  [0x02, 0x06, 0x08, 0x0A, 0x10, 0x11, 0x12, 0x14, 0x15, 0x18, 0x19, 0x1A, 0x1B, 0x1C, 0x1D, 0x1E, 0x1F]

theorem State.writePort_readOnly (s : State) (src : Src) (n : PortId) (w : Word) :
    ∀ off ∈ readOnlyP, s.writePort src n off w = s := by
  intro off hoff
  unfold readOnlyP at hoff
  fin_cases hoff <;> rfl

theorem registerWrite_readOnlyP (src : Src) {s : State} {n : PortId} (w : Word) (h : s.pRegUp n = true) :
    ∀ off ∈ readOnlyP, exec (.registerWrite src (BitVec.ofNat 16 (0x1000 + 0x20 * n.val + off)) w) s = .next s := by
  intro off hoff
  have hlt : off < 0x20 := by revert off; decide
  refine congrArg Host.Outcome.next ?_
  rw [s.writeReg_port src n hlt w h, s.writePort_readOnly src n w off hoff, State.noted_self]

/-- A number of no block, one without the control die, and one outside SYS_ and P_ in the island are not served. -/
theorem State.served_eq_false {s : State} {addr : BitVec 16}
    (h : (0x300 ≤ addr.toNat ∧ addr.toNat < 0x400) ∨ (0x600 ≤ addr.toNat ∧ addr.toNat < 0x800) ∨
      (0x900 ≤ addr.toNat ∧ addr.toNat < 0xC00) ∨ (0xF00 ≤ addr.toNat ∧ addr.toNat < 0x1000) ∨ 0x2800 ≤ addr.toNat ∨
      s.controlUp = false ∨ (s.sys.mode = .island ∧ 0x100 ≤ addr.toNat ∧ addr.toNat < 0x1000)) :
    s.served (State.regAt addr) = false := by
  have hun (hu : State.unmapped addr.toNat) : s.served (State.regAt addr) = false := by rw [State.regAt_unmapped hu]; rfl
  rcases h with h | h | h | h | h | h | ⟨hi, h1, h2⟩
  · exact hun (.inl h)
  · exact hun (.inr (.inl h))
  · exact hun (.inr (.inr (.inl h)))
  · exact hun (.inr (.inr (.inr (.inl h))))
  · exact hun (.inr (.inr (.inr (.inr h))))
  · exact s.served_of_controlDown h _
  · exact s.served_of_island hi h1 h2

theorem State.readReg_sysId {s : State} (h : s.controlUp = true) : s.readReg 0x0000#16 = 0x2E5C0192#32 := by
  simp [readReg, regAt, served, h, readSys]

/-- An executed IN leaves its core with the word that the register reads as. -/
theorem inp_completes {s : State} {k : CoreId} {cond rd rs : BitVec 3} (hx : s.executes k cond)
    (hw : s.waits (s.cores[k].ioAddr rs) = false) {v : Word} (hv : s.readReg (s.cores[k].ioAddr rs) = v) :
    CoreCompletes (.inp k cond rd rs) k s
      fun q => q = (s.cores[k].setReg rd (v.setWidth 36)).after (s.cores[k].pc + 1#14) 2 := by
  subst hv
  exact ⟨_, congrArg Host.Outcome.next (s.coreIn_executes hx hw), s.onCore_only k _, s.onCore_self k _⟩

theorem exec_outp {s : State} {k : CoreId} {cond rd rs : BitVec 3} (hx : s.executes k cond)
    (hw : s.waits (s.cores[k].ioAddr rs) = false) :
    exec (.outp k cond rd rs) s = exec (.registerWrite (.core k) (s.cores[k].ioAddr rs) (fld (s.cores[k].reg rd) 0 32))
      (s.onCore k Core.next) :=
  congrArg Host.Outcome.next (s.coreOut_executes hx hw)

/-- An OUT to a number that is not served does nothing but go on. -/
theorem outp_unserved {s : State} {k : CoreId} {cond rd rs : BitVec 3} (hx : s.executes k cond)
    (hw : s.waits (s.cores[k].ioAddr rs) = false) (hu : State.unmapped (s.cores[k].ioAddr rs).toNat) :
    CoreCompletes (.outp k cond rd rs) k s fun q => q = s.cores[k].next := by
  have hs : (s.onCore k Core.next).served (State.regAt (s.cores[k].ioAddr rs)) = false := by
    rw [State.regAt_unmapped hu]
    rfl
  exact ⟨_, (exec_outp hx hw).trans (congrArg Host.Outcome.next (State.writeReg_unserved _ _ _ hs)), s.onCore_only k _,
    s.onCore_self k _⟩

theorem outp_evtEn {s : State} {k : CoreId} {cond rd rs : BitVec 3} (hx : s.executes k cond)
    (hw : s.waits (s.cores[k].ioAddr rs) = false) {n : PortId} (hn : s.pRegUp n = true)
    (ha : s.cores[k].ioAddr rs = BitVec.ofNat 16 (0x1000 + 0x20 * n.val + 0x04)) :
    Completes (.outp k cond rd rs) s fun t =>
      t.ports[n].evtEn = fld (s.cores[k].reg rd) 0 32 ∧ t.cores[k] = s.cores[k].next ∧ OnlyPort n (s.onCore k Core.next) t := by
  obtain ⟨t, ht, honly, hport⟩ := registerWrite_evtEn_completes (.core k) (s := s.onCore k Core.next)
    (fld (s.cores[k].reg rd) 0 32) rfl hn
  refine ⟨t, (exec_outp hx hw).trans (ha ▸ ht), congrArg Port.evtEn hport, ?_, honly⟩
  rw [honly.cores_eq]
  exact s.onCore_self k _

end Sys2Proof.Machine
end

section
open Sys2Proof Sys2Proof.Machine

/-- Settles O57: a register access acts at the number that Table 18.1 leads to, and the OUT of a core is the write of that
register, since no write stops a core and so raises no alert of the class-A guarantee. -/
theorem registerAccess : Obligations.RegisterAccess := by
  unfold Obligations.RegisterAccess
  intro s
  refine ⟨?ports, ?unserved, ?dwin, ?inOut⟩
  case ports =>
    exact fun src n w p hp hn => ⟨registerWrite_evt_completes src w hp hn, registerWrite_evtEn_completes src w hp hn,
      registerWrite_readOnlyP src w hn⟩
  case unserved =>
    exact fun src addr w h => congrArg Host.Outcome.next (s.writeReg_unserved src w (State.served_eq_false h))
  case dwin =>
    intro k w h
    have haddr : 0x404 + 0x20 * k.val = 0x400 + 0x20 * k.val + 4 := by omega
    rw [haddr]
    exact congrArg Host.Outcome.next (s.writeReg_dwin_host k w h)
  case inOut =>
    intro k cond rd rs c hc hx
    subst hc
    dsimp only
    rw [← Core.ioAddr_eq]
    constructor
    · exact fun hw => ⟨congrArg Host.Outcome.next (s.coreIn_waits hx hw), congrArg Host.Outcome.next (s.coreOut_waits hx hw)⟩
    intro hw
    refine ⟨inp_completes hx hw rfl, fun hup ha => inp_completes hx hw (ha ▸ State.readReg_sysId hup), ?evt, ?unmapped,
      exec_outp hx hw, ?evtEn⟩
    case evt =>
      intro n hn ha
      have haddr : 0x1003 + 0x20 * n.val = 0x1000 + 0x20 * n.val + 3 := by omega
      refine inp_completes hx hw ?_
      rw [ha, haddr, s.readReg_port n (by omega) hn]
      rfl
    case unmapped =>
      intro h
      have hu : State.unmapped (s.cores[k].ioAddr rs).toNat := by
        unfold State.unmapped
        omega
      refine ⟨inp_completes hx hw (s.readReg_unserved ?_), outp_unserved hx hw hu⟩
      rw [State.regAt_unmapped hu]
      rfl
    case evtEn =>
      exact fun n hn ha => outp_evtEn hx hw hn (ha.trans (congrArg _ (by omega)))

end

section
/-! The clauses of O9: what a write of P_SLUICE, the breach window and the end of a condition do to one port. -/

namespace Sys2Proof.Machine

/-! What the conditions of the statements are as the shared operations of a port test them. -/

theorem State.feUp.frontEnd {s : State} {n : PortId} (h : s.feUp n) :
    (s.polders[polderOf n].die && (s.sys.mode ≠ .island || s.inIsland n)) = true := by
  obtain ⟨hdie, hmode⟩ := h
  rw [hdie, decide_eq_true hmode]
  rfl

theorem State.portRegsUp.pReg {s : State} {n : PortId} (h : s.portRegsUp n) : s.pRegUp n = true := by
  obtain ⟨hup, hmode, hpld⟩ := h
  rw [State.pRegUp, hup, hpld, decide_eq_true hmode]
  rfl

theorem State.onFrontEnd_eq_onPort {s : State} {n : PortId} (h : s.feUp n) (f : Env → Port → Port) :
    s.onFrontEnd n f = s.onPort n f := if_pos h.frontEnd

namespace Port

theorem breachOfCode_code (b : Breach) : breachOfCode b.code = some b := by cases b <;> rfl

theorem clearBreach_eq {p : Port} (h : p.sluice.latched = true) :
    p.clearBreach = if p.fe.cond = [] ∧ p.sluice.lockout = false then
      { p with sluice := { p.sluice with latched := false }, fe := { p.fe with ccIsolated := false } } else p := by
  simp [clearBreach, h]

@[simp] theorem toUnattached_sluice (p : Port) : p.toUnattached.sluice = p.sluice := by simp [toUnattached]
@[simp] theorem toUnattached_fe (p : Port) : p.toUnattached.fe = p.fe := by simp [toUnattached]
@[simp] theorem toUnattached_state (p : Port) :
    p.toUnattached.tc.state = if p.latchCfg.typeOf = 0#2 then .unattachedSrc else .unattachedSnk := by
  simp [toUnattached]

/-- SENSE_MODE is taken while both pairs hold, with one of its two values; where it changes the type that an unattached port
is treated as, the port starts again in Unattached (R64, R141). -/
theorem writeSenseMode_restarts {p : Port} {v : BitVec 2} (hpath : p.fe.path = .none) (hv : v = 0#2 ∨ v = 1#2)
    (h : ({ p with sluice := { p.sluice with senseMode := v } } : Port).typeOf ≠ p.typeOf ∧ p.configNow = true) :
    p.writeSenseMode v = { p with sluice := { p.sluice with senseMode := v } }.toUnattached :=
  (if_pos ⟨hpath, by rcases hv with rfl | rfl <;> decide⟩).trans (if_pos h)

theorem writeSenseMode_stays {p : Port} {v : BitVec 2} (hpath : p.fe.path = .none) (hv : v = 0#2 ∨ v = 1#2)
    (h : ¬ (({ p with sluice := { p.sluice with senseMode := v } } : Port).typeOf ≠ p.typeOf ∧ p.configNow = true)) :
    p.writeSenseMode v = { p with sluice := { p.sluice with senseMode := v } } :=
  (if_pos ⟨hpath, by rcases hv with rfl | rfl <;> decide⟩).trans (if_neg h)

theorem writeSenseMode_refused {p : Port} {v : BitVec 2} (h : ¬ (p.fe.path = .none ∧ (v = 0#2 ∨ v = 1#2))) :
    p.writeSenseMode v = p := by
  refine if_neg fun ⟨hpath, hv⟩ => h ⟨hpath, ?_⟩
  bv_omega

/-- The end of the last condition lets the region leave an ErrorRecovery whose time has elapsed (R155). -/
theorem condEnd_last {e : Env} {b : Breach} {p : Port} (he : e.regionUp = true) (hst : p.tc.state = .errorRecovery)
    (ht : p.timerOn .errorRecovery = false) (hc : p.fe.cond = [b]) :
    p.condEnd e b = { p with fe := { p.fe with cond := [] } }.toUnattached := by
  have hstands : ({ p with fe := { p.fe with cond := [] } } : Port).shortStands = false := by simp [shortStands]
  have hcond : p.fe.cond.filter (· ≠ b) = [] := by simp [hc]
  rw [condEnd, hcond, he]
  refine if_pos (c := _ ∧ _ ∧ _) ⟨hst, ?_, ?_⟩
  · exact congrArg not ht
  · exact congrArg not hstands

/-- Elsewhere the end of a condition takes it from COND and does no more. -/
theorem condEnd_elsewhere (e : Env) (b : Breach) {p : Port} (h : p.tc.state ≠ .errorRecovery) :
    p.condEnd e b = { p with fe := { p.fe with cond := p.fe.cond.filter (· ≠ b) } } := by
  simp [condEnd, recoveryOver, h]

end Port

/-- BREACH_CONDITION_END of a breach acts on its port as `condEnd` says, and on nothing but the polder beside it. -/
theorem breachConditionEnd_completes {s : State} {n : PortId} (b : Breach) (h : s.feUp n) {post : State → Prop}
    (hp : ∀ t, t.ports[n].bare = (s.ports[n].condEnd (s.env n) b).bare →
      (∀ m : PortId, m ≠ n → t.ports[m].ungauged = s.ports[m].ungauged) → post t) :
    Completes (.breachConditionEnd n b.code) s post := by
  have hexec : exec (.breachConditionEnd n b.code) s = execBreachConditionEnd n b.code s := rfl
  simp only [execBreachConditionEnd, Port.breachOfCode_code] at hexec
  rw [State.onFrontEnd_eq_onPort h] at hexec
  obtain ⟨hothers, hself⟩ := State.onPort_spec s n fun e p => p.condEnd e b
  exact ⟨_, hexec, hp _ hself hothers.2⟩

/-- Settles O9: each command is one operation of the sluice, whose branches are the clauses. -/
theorem sluiceClearing : Obligations.SluiceClearing := by
  unfold Obligations.SluiceClearing
  intro s n p hs
  refine ⟨?clear, ?lockClr, ?senseMode, ?window, ?lastCondition, ?condition⟩
  case clear =>
    intro k hregs hcore hserv hlatched
    have hexec : exec (.sluiceClear k n) s = .next (s.onPReg n fun _ p => p.clearBreach) := by
      change execSluiceClear k n s = _
      simp [execSluiceClear, hcore, hserv]
    refine State.onPReg_completes hexec hregs.pReg hs ?_
    rw [Port.clearBreach_eq hlatched]
    split <;> rfl
  case lockClr => exact fun hregs => State.onPReg_completes rfl hregs.pReg hs rfl
  case senseMode =>
    intro v hregs
    refine State.onPReg_completes rfl hregs.pReg hs ?_
    dsimp only
    split
    case isTrue h =>
      obtain ⟨hpath, hv⟩ := h
      split
      case isTrue hmoves =>
        rw [Port.writeSenseMode_restarts hpath hv hmoves]
        exact ⟨Port.toUnattached_sluice _, Port.toUnattached_fe _, Port.toUnattached_state _⟩
      case isFalse hstays => rw [Port.writeSenseMode_stays hpath hv hstays]
    case isFalse h => rw [Port.writeSenseMode_refused h]
  case window =>
    intro hfe ht
    refine State.onFrontEnd_completes rfl hfe.frontEnd hs ?_
    simp [Port.breachWindow, ht]
  case lastCondition =>
    intro b hfe hup hst ht hc
    refine breachConditionEnd_completes b hfe fun t hself _ => ?_
    rw [hs, Port.condEnd_last hup hst ht hc] at hself
    have hfe' := congrArg Port.fe hself
    have htc := congrArg Port.tc hself
    simp only [Port.bare_fe, Port.bare_tc] at hfe' htc
    rw [hfe', htc]
    exact ⟨by simp, Port.toUnattached_state _⟩
  case condition =>
    intro b hfe hst
    refine breachConditionEnd_completes b hfe fun t hself hothers => ⟨?_, hothers⟩
    rw [hself, hs, Port.condEnd_elsewhere _ b hst]

end Sys2Proof.Machine
end

section
/-! Commands that act on several ports in turn (R27, R30, R32): every port that takes a turn takes it on what the ones before
left it, and the others keep their registers but for those of the gauge. -/

namespace Sys2Proof.Machine

/-- Two states differ at most in the ports that `S` names and in the gauge: `OnlyPort` for more ports than one. -/
def OnlyPorts (S : PortId → Prop) (s t : State) : Prop :=
  { t with ports := s.ports, kg := s.kg } = s ∧ ∀ m : PortId, ¬ S m → t.ports[m].ungauged = s.ports[m].ungauged

theorem OnlyPort.ports {n : PortId} {s t : State} (h : OnlyPort n s t) : OnlyPorts (· = n) s t := h

namespace OnlyPorts

variable {S T : PortId → Prop} {s t u : State}

theorem refl (S : PortId → Prop) (s : State) : OnlyPorts S s s := ⟨rfl, fun _ _ => rfl⟩

theorem mono (h : OnlyPorts S s t) (hST : ∀ m, S m → T m) : OnlyPorts T s t := ⟨h.1, fun m hm => h.2 m (hm ∘ hST m)⟩

theorem trans (h : OnlyPorts S s t) (k : OnlyPorts S t u) : OnlyPorts S s u := by
  obtain ⟨hrest, hports⟩ := h
  obtain ⟨krest, kports⟩ := k
  refine ⟨?_, fun m hm => (kports m hm).trans (hports m hm)⟩
  have hu := congrArg (fun x : State => { x with ports := s.ports, kg := s.kg }) krest
  exact hu.trans hrest

theorem polders_eq (h : OnlyPorts S s t) : t.polders = s.polders := (congrArg State.polders h.1 :)
theorem sys_eq (h : OnlyPorts S s t) : t.sys = s.sys := (congrArg State.sys h.1 :)
theorem sh_eq (h : OnlyPorts S s t) : t.sh = s.sh := (congrArg State.sh h.1 :)
theorem pcfg_eq (h : OnlyPorts S s t) : t.pcfg = s.pcfg := (congrArg State.pcfg h.1 :)
theorem sysq_eq (h : OnlyPorts S s t) : t.sysq = s.sysq := (congrArg State.sysq h.1 :)

theorem cls_eq (h : OnlyPorts S s t) (n : PortId) : t.cls n = s.cls n := by rw [State.cls, h.pcfg_eq, State.cls]

theorem holdLine_eq (h : OnlyPorts S s t) (cl : SvcClass) : t.holdLine cl = s.holdLine cl := by
  unfold State.holdLine
  rw [h.sh_eq]

theorem feUp (h : OnlyPorts S s t) {n : PortId} (hfe : s.feUp n) : t.feUp n := by
  rw [State.feUp, h.polders_eq, h.sys_eq]
  exact hfe

theorem regionUp_eq (h : OnlyPorts S s t) {n : PortId} (hn : ¬ S n) : t.regionUp n = s.regionUp n := by
  have hplace : t.ports[n].place = s.ports[n].place := (congrArg Port.place (h.2 n hn) :)
  have hfault : t.ports[n].pfault = s.ports[n].pfault := (congrArg Port.pfault (h.2 n hn) :)
  rw [State.regionUp, hplace, hfault, h.polders_eq, h.sys_eq, State.controlUp, State.inIsland, State.stopped, h.cls_eq,
    h.sh_eq, h.sys_eq]
  rfl

/-- What a port sees of the rest of the device does not lie in other ports. -/
theorem env_eq (h : OnlyPorts S s t) {n : PortId} (hn : ¬ S n) : t.env n = s.env n := by
  rw [State.env, h.regionUp_eq hn, h.polders_eq, h.sys_eq, State.inIsland, h.holdLine_eq, h.cls_eq, h.sh_eq, h.sys_eq]
  rfl

end OnlyPorts

/-- Ports that act one after the other, each but once. -/
theorem foldl_onlyPorts {f : PortId → State → State} (hf : ∀ n s, OnlyPort n s (f n s)) (l : List PortId) (hl : l.Nodup)
    (s : State) :
    let t := l.foldl (fun s n => f n s) s
    OnlyPorts (· ∈ l) s t ∧
      ∀ n ∈ l, ∃ u, OnlyPorts (· ≠ n) s u ∧ u.ports[n].ungauged = s.ports[n].ungauged ∧
        t.ports[n].ungauged = (f n u).ports[n].ungauged := by
  induction l generalizing s with
  | nil => exact ⟨OnlyPorts.refl _ s, fun n hn => absurd hn List.not_mem_nil⟩
  | cons a l ih =>
    obtain ⟨hal, hnodup⟩ := List.nodup_cons.mp hl
    obtain ⟨hrest, hturns⟩ := ih hnodup (f a s)
    have ha : OnlyPorts (· ∈ a :: l) s (f a s) := (hf a s).ports.mono fun m hm => hm ▸ List.mem_cons_self
    refine ⟨ha.trans (hrest.mono fun m hm => List.mem_cons_of_mem a hm), fun n hn => ?_⟩
    rcases List.mem_cons.mp hn with rfl | hn
    · exact ⟨s, OnlyPorts.refl _ s, rfl, hrest.2 n hal⟩
    · have hne : n ≠ a := fun h => hal (h ▸ hn)
      obtain ⟨u, hu, hself, hturn⟩ := hturns n hn
      have hau : OnlyPorts (· ≠ n) s (f a s) := (hf a s).ports.mono fun m hm h => hne (h.symm.trans hm)
      exact ⟨u, hau.trans hu, hself.trans ((hf a s).2 n hne), hturn⟩

theorem portAt_injective (q : PolderId) : Function.Injective (portAt q) := by
  intro a b h
  simpa [portAt, Fin.ext_iff] using h

theorem mem_portsOf {q : PolderId} {n : PortId} : n ∈ (List.finRange 48).map (portAt q) ↔ polderOf n = q := by
  simp only [List.mem_map, List.mem_finRange, true_and, polderOf, portAt, Fin.ext_iff]
  constructor
  · rintro ⟨p, hp⟩
    omega
  · exact fun h => ⟨⟨n.val % 48, by omega⟩, by simp only; omega⟩

/-- The ports of a polder act in turn. -/
theorem onPolderPorts_spec {f : PortId → State → State} (hf : ∀ n s, OnlyPort n s (f n s)) (q : PolderId) (s : State) :
    OnlyPorts (polderOf · = q) s (s.onPolderPorts q f) ∧
      ∀ n, polderOf n = q → ∃ u, OnlyPorts (· ≠ n) s u ∧ u.ports[n].ungauged = s.ports[n].ungauged ∧
        (s.onPolderPorts q f).ports[n].ungauged = (f n u).ports[n].ungauged := by
  have hnodup : ((List.finRange 48).map (portAt q)).Nodup := (List.nodup_finRange 48).map (portAt_injective q)
  have hfold : s.onPolderPorts q f = ((List.finRange 48).map (portAt q)).foldl (fun s n => f n s) s := by
    rw [List.foldl_map]
    rfl
  obtain ⟨hothers, hturns⟩ := foldl_onlyPorts hf _ hnodup s
  rw [hfold]
  exact ⟨hothers.mono fun m hm => mem_portsOf.mp hm, fun n hn => hturns n (mem_portsOf.mpr hn)⟩

/-- The front ends of a polder that is up act in turn, each as what it sees of the rest asks. -/
theorem onPolderPorts_frontEnds (g : Env → Port → Port) {q : PolderId} {s : State}
    (hfe : ∀ n, polderOf n = q → s.feUp n) :
    let t := s.onPolderPorts q fun n s => s.onFrontEnd n g
    OnlyPorts (polderOf · = q) s t ∧
      ∀ n, polderOf n = q → ∃ p, p.ungauged = s.ports[n].ungauged ∧ t.ports[n].bare = (g (s.env n) p).bare := by
  obtain ⟨hothers, hturns⟩ := onPolderPorts_spec (fun n s => s.onFrontEnd_only n g) q s
  refine ⟨hothers, fun n hn => ?_⟩
  obtain ⟨u, hu, hself, hturn⟩ := hturns n hn
  refine ⟨u.ports[n], hself, ?_⟩
  rw [State.onFrontEnd_eq_onPort (hu.feUp (hfe n hn))] at hturn
  rw [State.bare_of_ungauged, hturn, ← State.bare_of_ungauged, (State.onPort_spec u n g).2, hu.env_eq (by simp)]

end Sys2Proof.Machine
end

section
/-! The clauses of O8: what a breach of a polder leaves in each of its ports (R27, R148, Table 5.3). -/

namespace Sys2Proof.Machine

namespace Port

@[simp] theorem reportBreach_sluice (e : Env) (b : Breach) (p : Port) : (p.reportBreach e b).sluice = p.sluice := by
  unfold reportBreach
  split
  · exact post_sluice _ _ _
  · rfl

@[simp] theorem reportBreach_path (e : Env) (b : Breach) (p : Port) : (p.reportBreach e b).fe.path = p.fe.path := by
  unfold reportBreach
  split
  · rw [post_fe]
  · rfl

@[simp] theorem recordBreach_latched (e : Env) (b : Breach) (p : Port) : (p.recordBreach e b).sluice.latched = true := rfl
@[simp] theorem hold_path (p : Port) : p.hold.fe.path = .none := rfl
@[simp] theorem hold_latched (p : Port) : p.hold.sluice.latched = p.sluice.latched := rfl

/-- The breaches of a polder have no action of the front end but the latch and the hold (Table 5.3). -/
theorem breach_ofPolder (e : Env) {b : Breach} (hb : b = .otpDie ∨ b = .otpNtc ∨ b = .vgdLow) (p : Port) :
    p.breach e b = ((p.recordBreach e b).hold).reportBreach e b := by
  rcases hb with rfl | rfl | rfl <;> simp only [breach, reduceCtorEq, false_and, if_false]

theorem breach_ofPolder_trips (e : Env) {b : Breach} (hb : b = .otpDie ∨ b = .otpNtc ∨ b = .vgdLow) (p : Port) :
    (p.breach e b).sluice.latched = true ∧ (p.breach e b).fe.path = .none := by
  rw [breach_ofPolder e hb]
  simp

theorem otpDie_trips (e : Env) (p : Port) : (p.otpDie e).sluice.latched = true ∧ (p.otpDie e).fe.path = .none :=
  breach_ofPolder_trips e (.inl rfl) p

theorem otpNtc_classA {e : Env} (h : e.cls = .a) (p : Port) : p.otpNtc e = p := if_pos h

theorem otpNtc_trips {e : Env} (h : e.cls ≠ .a) (p : Port) :
    (p.otpNtc e).sluice.latched = true ∧ (p.otpNtc e).fe.path = .none := by
  rw [otpNtc, if_neg h]
  exact breach_ofPolder_trips e (.inr (.inl rfl)) p

theorem vgdLow_trips {mv : Nat} (h : mv < 9000) (e : Env) (p : Port) :
    (p.vgdLow e mv).sluice.latched = true ∧ (p.vgdLow e mv).fe.path = .none := by
  rw [vgdLow, if_pos h]
  exact breach_ofPolder_trips e (.inr (.inr rfl)) p

/-- Below v_gd_pass, and not below the level of the breach, a pair that passes holds (log entry 203). -/
theorem vgdLow_holds {mv : Nat} (h9 : 9000 ≤ mv) (h10 : mv < 10000) (e : Env) (p : Port) :
    (p.vgdLow e mv).fe.path = .none ∧ (p.vgdLow e mv).sluice.latched = p.sluice.latched := by
  rw [vgdLow, if_neg (by omega)]
  split
  case isTrue => exact ⟨rfl, rfl⟩
  case isFalse hpath => exact ⟨not_not.mp fun hne => hpath ⟨h10, hne⟩, rfl⟩

theorem vgdLow_stays {mv : Nat} (h10 : 10000 ≤ mv) (e : Env) (p : Port) : p.vgdLow e mv = p := by
  rw [vgdLow, if_neg (by omega), if_neg fun h => absurd h.1 (by omega)]

theorem latched_of_ungauged {p q : Port} (h : p.ungauged = q.ungauged) : p.sluice.latched = q.sluice.latched :=
  (congrArg (fun x => x.sluice.latched) h :)

end Port

namespace State

theorem feUp_of_polder {s t : State} {q : PolderId} (hdie : t.polders[q].die = true) (hsys : t.sys = s.sys)
    (hmode : s.sys.mode ≠ .island) : ∀ n, polderOf n = q → t.feUp n := by
  rintro n rfl
  exact ⟨hdie, hsys ▸ hmode⟩

theorem onPolder_self (q : PolderId) (f : Polder → Polder) (s : State) : (s.onPolder q f).polders[q] = f s.polders[q] := by
  simp

end State

/-- A breach of a powered polder: `mark` in the polder, then every port of it in turn. The clauses of the statement speak of
each of its ports as `g` leaves it, of the others, and of the rest. -/
theorem polderBreach_completes {i : Instr} {s s₁ : State} {q : PolderId} (g : Env → Port → Port)
    (he : exec i s = .next (s₁.onPolderPorts q fun n s => s.onFrontEnd n g)) (hdie : s₁.polders[q].die = true)
    (hmode : s₁.sys.mode ≠ .island) {post : State → Prop}
    (hp : ∀ t, OnlyPorts (polderOf · = q) s₁ t →
      (∀ n, polderOf n = q → ∃ p, p.ungauged = s₁.ports[n].ungauged ∧ t.ports[n].bare = (g (s₁.env n) p).bare) → post t) :
    Completes i s post := by
  obtain ⟨hothers, hturns⟩ := onPolderPorts_frontEnds g (State.feUp_of_polder hdie rfl hmode)
  exact ⟨_, he, hp _ hothers hturns⟩

theorem tripped_of_turn (g : Env → Port → Port) {e : Env} {p₀ q : Port}
    (hg : ∀ p, (g e p).sluice.latched = true ∧ (g e p).fe.path = .none)
    (h : ∃ p, p.ungauged = p₀.ungauged ∧ q.bare = (g e p).bare) : q.sluice.latched = true ∧ q.fe.path = .none := by
  obtain ⟨p, -, hq⟩ := h
  have hsluice : q.sluice = (g e p).sluice := (congrArg Port.sluice hq :)
  have hfe : q.fe = (g e p).fe := (congrArg Port.fe hq :)
  rw [hsluice, hfe]
  exact hg p

/-- What VGD at `mv` mV marks in its polder. -/
def Polder.vgdMark (mv : Nat) (P : Polder) : Polder :=
  { P with stat := { P.stat with vgdLow := P.stat.vgdLow || decide (mv < 9000) }, vgdPass := P.vgdPass && decide (10000 ≤ mv) }

/-- The state that VGD at `mv` mV leaves before the ports of the polder act on it. -/
def State.vgdMarked (s : State) (q : PolderId) (mv : Nat) : State :=
  { s.onPolder q (Polder.vgdMark mv) with
    sh := { s.sh with sup := { s.sh.sup with vgdLow := s.sh.sup.vgdLow || decide (mv < 9000) } } }

theorem State.vgdMarked_self (s : State) (q : PolderId) (mv : Nat) :
    (s.vgdMarked q mv).polders[q] = s.polders[q].vgdMark mv := s.onPolder_self q _

/-- VGD at a powered polder: the ports act in turn on the marked state. -/
theorem exec_vgdLow {s : State} {q : PolderId} (hdie : s.polders[q].die = true) (mv : Nat) :
    exec (.vgdLow ⟨q, mv⟩) s = .next ((s.vgdMarked q mv).onPolderPorts q fun n s => s.onFrontEnd n fun e p => p.vgdLow e mv) := by
  refine congrArg Host.Outcome.next (if_pos ?_)
  exact (congrArg Polder.die (s.vgdMarked_self q mv)).trans hdie

theorem exec_otpDie {s : State} {q : PolderId} (hdie : s.polders[q].die = true) :
    exec (.otpDie q) s = .next ((s.onPolder q fun P => { P with stat := { P.stat with otpDie := true } }).onPolderPorts q
      fun n s => s.onFrontEnd n fun e p => p.otpDie e) := by
  refine congrArg Host.Outcome.next (if_pos ?_)
  rw [s.onPolder_self]
  exact hdie

theorem exec_otpNtc {s : State} {q : PolderId} (hdie : s.polders[q].die = true) :
    exec (.otpNtc q) s = .next ((s.onPolder q fun P => { P with stat := { P.stat with otpNtc := true } }).onPolderPorts q
      fun n s => s.onFrontEnd n fun e p => p.otpNtc e) := by
  refine congrArg Host.Outcome.next (if_pos ?_)
  rw [s.onPolder_self]
  exact hdie

/-- VGD at v_gd_pass or above marks nothing. -/
theorem Polder.vgdMark_high {mv : Nat} (h : 10000 ≤ mv) (P : Polder) : P.vgdMark mv = P := by
  rw [vgdMark, decide_eq_false (by omega : ¬ mv < 9000), decide_eq_true h, Bool.or_false, Bool.and_true]

theorem State.vgdMarked_high (s : State) (q : PolderId) {mv : Nat} (h : 10000 ≤ mv) : s.vgdMarked q mv = s := by
  have hpolders : s.polders.set q (s.polders[q].vgdMark mv) = s.polders := by
    rw [Polder.vgdMark_high h]
    exact Vector.set_getElem_self _
  rw [vgdMarked, onPolder, hpolders, decide_eq_false (by omega : ¬ mv < 9000), Bool.or_false]

/-- Settles O8: a breach of a polder marks the polder, and each of its ports then acts on it as Table 5.3 says. -/
theorem polderBreachesTrip : Obligations.PolderBreachesTrip := by
  unfold Obligations.PolderBreachesTrip
  intro s q hdie hmode
  have hdieV (mv : Nat) : (s.vgdMarked q mv).polders[q].die = true := by rw [s.vgdMarked_self]; exact hdie
  refine ⟨?otpDie, ?vgdHigh, ?vgdHold, ?vgdLow, ?otpNtc, ?ntcFault⟩
  case otpDie =>
    refine polderBreach_completes (fun e p => p.otpDie e) (exec_otpDie hdie) (by rw [s.onPolder_self]; exact hdie) hmode
      fun t hothers hturns => ⟨?_, fun n hn => tripped_of_turn (fun e p => p.otpDie e) (Port.otpDie_trips _) (hturns n hn), hothers.2⟩
    rw [hothers.polders_eq, s.onPolder_self]
  case vgdHigh =>
    intro mv h
    have hexec := exec_vgdLow hdie mv
    rw [s.vgdMarked_high q h] at hexec
    refine polderBreach_completes (fun e p => p.vgdLow e mv) hexec hdie hmode
      fun t hothers hturns => ⟨hothers.polders_eq, hothers.sh_eq, fun n => ?_⟩
    by_cases hn : polderOf n = q
    · obtain ⟨p, hp, ht⟩ := hturns n hn
      rw [ht, Port.vgdLow_stays h, State.bare_of_ungauged, hp]
      rfl
    · rw [State.bare_of_ungauged, hothers.2 n hn]
      rfl
  case vgdHold =>
    intro mv h9 h10
    refine polderBreach_completes (fun e p => p.vgdLow e mv) (exec_vgdLow hdie mv) (hdieV mv) hmode
      fun t hothers hturns => ⟨?_, ?_, ?_, fun n => ?_⟩
    · rw [hothers.polders_eq, s.vgdMarked_self, Polder.vgdMark, decide_eq_false (by omega : ¬ 10000 ≤ mv), Bool.and_false]
    · rw [hothers.polders_eq, s.vgdMarked_self, Polder.vgdMark, decide_eq_false (by omega : ¬ mv < 9000), Bool.or_false]
    · rw [hothers.sh_eq, State.vgdMarked, decide_eq_false (by omega : ¬ mv < 9000), Bool.or_false]
    split
    case isTrue hn =>
      obtain ⟨p, hp, ht⟩ := hturns n hn
      obtain ⟨hpath, hlatched⟩ := Port.vgdLow_holds h9 h10 ((s.vgdMarked q mv).env n) p
      exact ⟨(congrArg (fun x => x.fe.path) ht).trans hpath,
        (congrArg (fun x => x.sluice.latched) ht).trans (hlatched.trans (Port.latched_of_ungauged hp))⟩
    case isFalse hn => exact hothers.2 n hn
  case vgdLow =>
    intro mv h
    refine polderBreach_completes (fun e p => p.vgdLow e mv) (exec_vgdLow hdie mv) (hdieV mv) hmode
      fun t hothers hturns => ⟨?_, ?_, ?_, fun n hn => tripped_of_turn (fun e p => p.vgdLow e mv) (Port.vgdLow_trips h _) (hturns n hn), hothers.2⟩
    · rw [hothers.polders_eq, s.vgdMarked_self, Polder.vgdMark, decide_eq_true h, Bool.or_true]
    · rw [hothers.polders_eq, s.vgdMarked_self, Polder.vgdMark, decide_eq_false (by omega : ¬ 10000 ≤ mv), Bool.and_false]
    · rw [hothers.sh_eq, State.vgdMarked, decide_eq_true h, Bool.or_true]
  case otpNtc =>
    refine polderBreach_completes (fun e p => p.otpNtc e) (exec_otpNtc hdie) (by rw [s.onPolder_self]; exact hdie) hmode
      fun t hothers hturns => ⟨?_, fun n hn hcls => tripped_of_turn (fun e p => p.otpNtc e) (Port.otpNtc_trips hcls) (hturns n hn),
        fun n hn hcls => ?_, hothers.2⟩
    · rw [hothers.polders_eq, s.onPolder_self]
    · obtain ⟨p, hp, ht⟩ := hturns n hn
      rw [ht, Port.otpNtc_classA hcls, State.bare_of_ungauged, hp]
      rfl
  case ntcFault =>
    refine ⟨_, rfl, ?_, ?_, rfl, fun r hr => ?_⟩
    · rw [s.onPolder_self]
    · rw [s.onPolder_self]
    · have hne : (q : Nat) ≠ r := fun h => hr (Fin.ext h.symm)
      simp [hne]

end Sys2Proof.Machine
end

section
/-! The clauses of O23: heartbeats and their loss, polder by polder (R32, Table 5.6). -/

namespace Sys2Proof.Machine

theorem Port.path_of_ungauged {p q : Port} (h : p.ungauged = q.ungauged) : p.fe.path = q.fe.path :=
  (congrArg (fun x => x.fe.path) h :)

namespace State

theorem setPort_only (s : State) (n : PortId) (p : Port) : OnlyPort n s (s.setPort n p) := by
  refine ⟨rfl, fun m hm => ?_⟩
  have hne : (n : Nat) ≠ m := fun h => hm (Fin.ext h.symm)
  simp [hne]

theorem heldPortOn_only (n : PortId) (s : State) : OnlyPort n s (s.heldPortOn n) := by
  unfold heldPortOn
  split
  · exact (s.setPort_only n _).ports.trans (onRegionOf_only _ n _).ports
  · exact onlyPort_refl s n

theorem heldPortOn_of_free {n : PortId} {s : State} (h : s.ports[n].fe.held = false) : s.heldPortOn n = s :=
  if_neg (Bool.eq_false_iff.mp h)

theorem holdForHb_only (n : PortId) (s : State) : OnlyPort n s (s.holdForHb n) := by
  unfold holdForHb
  split
  · exact (s.onPort_spec n _).1
  · exact onlyPort_refl s n

/-- Without heartbeats a sluice of class B or C holds (R32). -/
theorem holdForHb_path {n : PortId} {s : State} (h : s.cls n ≠ .a) : (s.holdForHb n).ports[n].fe.path = .none := by
  unfold holdForHb
  split
  case isTrue =>
    have hport := (s.onPort_spec n fun _ p => let p := p.holdBy; { p with fe := { p.fe with held := true } }).2
    exact (congrArg (fun p => p.fe.path) hport :)
  case isFalse hpath => exact not_not.mp fun hne => hpath ⟨h, hne⟩

theorem holdForHb_classA {n : PortId} {s : State} (h : s.cls n = .a) : s.holdForHb n = s := if_neg fun hbc => hbc.1 h

end State

/-! One polder's turn of a heartbeat. -/

/-- What a heartbeat marks in a polder die that takes it. -/
def Polder.beat (P : Polder) : Polder :=
  if P.die && !P.pld then { P with stat := { P.stat with hbLost := false } } else P

/-- A polder takes a heartbeat and returns it: one turn of the loop of `State.heartbeat`. -/
def State.beatAt (s : State) (q : PolderId) : State :=
  if s.polders[q].die && !s.polders[q].pld then
    ((s.onPolder q fun P => { P with stat := { P.stat with hbLost := false } }).onPolderPorts q fun n s =>
      if s.regionUp n then s.heldPortOn n else s).supNote 2
  else s

theorem State.heartbeat_sent {s : State} {good within10 : Bool} (h : s.sendsHeartbeat good within10 = true) :
    s.heartbeat good within10 = (List.finRange 4).foldl State.beatAt s := if_pos h

/-- What a heartbeat leaves as it is, beside the polders: all but the returns in queue 242 and the ports that it lets go on. -/
def BeatLeaves (s t : State) : Prop :=
  { t with polders := s.polders, ports := s.ports, kg := s.kg, sysq := s.sysq } = s ∧
    (∀ i : Fin 64, i.val ≠ 50 → t.sysq[i] = s.sysq[i]) ∧
    ∀ n : PortId, s.ports[n].fe.held = false → t.ports[n].ungauged = s.ports[n].ungauged

namespace BeatLeaves

variable {s t u : State}

theorem refl (s : State) : BeatLeaves s s := ⟨rfl, fun _ _ => rfl, fun _ _ => rfl⟩

theorem trans (h : BeatLeaves s t) (k : BeatLeaves t u) : BeatLeaves s u := by
  obtain ⟨hrest, hqueues, hports⟩ := h
  obtain ⟨krest, kqueues, kports⟩ := k
  refine ⟨?_, fun i hi => (kqueues i hi).trans (hqueues i hi), fun n hn => ?_⟩
  · have hu := congrArg (fun x : State =>
      { x with polders := s.polders, ports := s.ports, kg := s.kg, sysq := s.sysq }) krest
    exact hu.trans hrest
  · have hheld : t.ports[n].fe.held = s.ports[n].fe.held := (congrArg (fun p => p.fe.held) (hports n hn) :)
    exact (kports n (hheld.trans hn)).trans (hports n hn)

end BeatLeaves

theorem OnlyPorts.beatLeaves {S : PortId → Prop} {s t : State} (h : OnlyPorts S s t)
    (hfree : ∀ n, S n → s.ports[n].fe.held = false → t.ports[n].ungauged = s.ports[n].ungauged) : BeatLeaves s t := by
  refine ⟨?_, fun i _ => by rw [h.sysq_eq], fun n hn => ?_⟩
  · have hrest := congrArg (fun x : State => { x with polders := s.polders, sysq := s.sysq }) h.1
    exact hrest
  · by_cases hS : S n
    · exact hfree n hS hn
    · exact h.2 n hS

theorem State.onSysq_beatLeaves (f : Queue → Queue) (s : State) : BeatLeaves s (s.onSysq 50 f) := by
  refine ⟨rfl, fun i hi => ?_, fun _ _ => rfl⟩
  have hne : ¬ 50 = (i : Nat) := fun h => hi h.symm
  simp [hne]

theorem State.supNote_beatLeaves (s : State) : BeatLeaves s (s.supNote 2) := by
  unfold supNote pushSys
  dsimp only
  split
  · split
    · exact (onSysq_beatLeaves _ s).trans (onSysq_beatLeaves _ _)
    · exact onSysq_beatLeaves _ s
  · exact BeatLeaves.refl s

theorem State.supNote_polders (i : Fin 3) (s : State) : (s.supNote i).polders = s.polders := by
  unfold supNote pushSys
  dsimp only
  repeat' split
  all_goals rfl

/-- The ports that held for a loss go on; the others stay as they are (Table 5.6). -/
theorem State.portsOn_beatLeaves (q : PolderId) (s : State) :
    BeatLeaves s (s.onPolderPorts q fun n s => if s.regionUp n then s.heldPortOn n else s) ∧
      (s.onPolderPorts q fun n s => if s.regionUp n then s.heldPortOn n else s).polders = s.polders := by
  have honly (n : PortId) (s : State) : OnlyPort n s (if s.regionUp n then s.heldPortOn n else s) := by
    split
    · exact s.heldPortOn_only n
    · exact s.onlyPort_refl n
  obtain ⟨hothers, hturns⟩ := onPolderPorts_spec honly q s
  refine ⟨hothers.beatLeaves fun n hn hheld => ?_, hothers.polders_eq⟩
  obtain ⟨u, -, hself, hturn⟩ := hturns n hn
  have hfree : u.ports[n].fe.held = false := (congrArg (fun p => p.fe.held) hself).trans hheld
  rw [hturn, u.heldPortOn_of_free hfree, ite_self, hself]

theorem State.beatAt_spec (s : State) (q : PolderId) :
    BeatLeaves s (s.beatAt q) ∧ (s.beatAt q).polders = s.polders.set q s.polders[q].beat := by
  unfold beatAt
  split
  case isTrue h =>
    obtain ⟨hports, hpolders⟩ := State.portsOn_beatLeaves q
      (s.onPolder q fun P => { P with stat := { P.stat with hbLost := false } })
    have hmark : BeatLeaves s (s.onPolder q fun P => { P with stat := { P.stat with hbLost := false } }) :=
      ⟨rfl, fun _ _ => rfl, fun _ _ => rfl⟩
    refine ⟨(hmark.trans hports).trans (supNote_beatLeaves _), ?_⟩
    rw [supNote_polders, hpolders, Polder.beat, if_pos h]
    rfl
  case isFalse h =>
    rw [Polder.beat, if_neg h]
    exact ⟨BeatLeaves.refl s, (Vector.set_getElem_self _).symm⟩

/-- The polders take the heartbeat one after the other, each but once. -/
theorem State.foldl_beatAt (l : List PolderId) (hl : l.Nodup) (s : State) :
    BeatLeaves s (l.foldl State.beatAt s) ∧
      ∀ q, (l.foldl State.beatAt s).polders[q] = if q ∈ l then s.polders[q].beat else s.polders[q] := by
  induction l generalizing s with
  | nil => exact ⟨BeatLeaves.refl s, fun q => by simp⟩
  | cons a l ih =>
    obtain ⟨hal, hnodup⟩ := List.nodup_cons.mp hl
    obtain ⟨hleaves, hpolders⟩ := s.beatAt_spec a
    obtain ⟨ihleaves, ihpolders⟩ := ih hnodup (s.beatAt a)
    refine ⟨hleaves.trans ihleaves, fun q => ?_⟩
    rw [List.foldl_cons, ihpolders q, hpolders]
    by_cases hq : q = a
    · subst hq
      simp [hal]
    · have hne : (a : Nat) ≠ q := fun h => hq (Fin.ext h.symm)
      simp [hq, hne]

theorem OnlyPorts.unmarked {S : PortId → Prop} {s t : State} {q : PolderId} {f : Polder → Polder}
    (h : OnlyPorts S (s.onPolder q f) t) : { t with polders := s.polders, ports := s.ports, kg := s.kg } = s := by
  have hrest := congrArg (fun x : State => { x with polders := s.polders }) h.1
  exact hrest

/-- Settles O23: a heartbeat is one turn of each powered polder, and a loss holds what Table 5.6 names. -/
theorem heartbeats : Obligations.Heartbeats := by
  unfold Obligations.Heartbeats
  intro s
  refine ⟨?sent, fun _ => rfl, ?loss, ?dark⟩
  case sent =>
    intro within10 hmode hsup
    have hsends : s.sendsHeartbeat true within10 = true := by
      rcases hsup with ⟨hwithin, hkicked⟩ | ⟨hkicked, hwatched⟩
      · simp [State.sendsHeartbeat, hmode, hwithin, hkicked]
      · simp [State.sendsHeartbeat, hmode, hkicked, hwatched]
    have hexec : exec (.heartbeat true within10) s = .next ((List.finRange 4).foldl State.beatAt s) :=
      congrArg Host.Outcome.next (State.heartbeat_sent hsends)
    obtain ⟨⟨hrest, hqueues, hports⟩, hpolders⟩ := State.foldl_beatAt _ (List.nodup_finRange 4) s
    refine ⟨_, hexec, hrest, hqueues, fun q => ?_, hports⟩
    rw [hpolders q, if_pos (List.mem_finRange q), Polder.beat]
  case loss =>
    intro q hdie
    have hexec : exec (.heartbeatLoss q) s = .next (State.onPolderPorts q State.holdForHb
      (s.onPolder q fun P => { P with stat := { P.stat with hbLost := true, hbSeen := true } })) :=
      congrArg Host.Outcome.next (if_pos hdie)
    obtain ⟨hothers, hturns⟩ := onPolderPorts_spec State.holdForHb_only q
      (s.onPolder q fun P => { P with stat := { P.stat with hbLost := true, hbSeen := true } })
    refine ⟨_, hexec, hothers.unmarked, hothers.polders_eq, fun n hn hcls => ?_, fun n hn => ?_⟩
    · obtain ⟨u, hu, -, hturn⟩ := hturns n hn
      have hbc : u.cls n ≠ .a := by rw [hu.cls_eq]; exact hcls
      rw [Port.path_of_ungauged hturn]
      exact State.holdForHb_path hbc
    · by_cases hq : polderOf n = q
      · obtain ⟨u, hu, hself, hturn⟩ := hturns n hq
        have hcls : s.cls n = .a := hn.resolve_left (not_not.mpr hq)
        rw [hturn, State.holdForHb_classA (by rw [hu.cls_eq]; exact hcls), hself]
        rfl
      · exact hothers.2 n hq
  case dark => exact fun q hdie => congrArg Host.Outcome.next (if_neg (Bool.eq_false_iff.mp hdie))

end Sys2Proof.Machine
end

section
/-! A state for refutations: a device in RUN whose regions serve, with one port as a refutation wants it. -/

namespace Sys2Proof.Machine

/-- A standalone device in RUN, every region SERVING at home and every core in service with its own role, with port 0 as
given. -/
def State.serving (p : Port) : State :=
  { State.reset with
    sys := { SysBlk.reset with mode := .run }
    polders := Vector.replicate 4
      { Polder.reset with die := true, regions := Vector.replicate 56 { FabRegion.init with st := .serving } }
    ports := State.reset.ports.set 0 p }

namespace State

theorem serving_port (p : Port) : (serving p).ports[(0 : PortId)] = p := by simp [serving]

theorem serving_up {p : Port} (hm : p.place.migrating = false) (hp : p.place.prepared = false) (ho : p.pfault.oos = false) :
    (serving p).regionUp 0 = true := by
  have hserves : (serving p).polders[polderOf 0].serves (posOf 0) = true :=
    (by decide : (serving (Port.reset 0)).polders[polderOf 0].serves (posOf 0) = true)
  rw [regionUp, serving_port, hserves, hm, hp, ho]
  rfl

theorem serving_servedBy {p : Port} (hq : p.q.role = 0#5) : (serving p).servedBy 0 0 := by
  refine ⟨rfl, rfl, ?_, rfl⟩
  rw [serving_port, hq]
  rfl

theorem serving_roleRuns {p : Port} (hq : p.q.role = 0#5) :
    (serving p).roleRuns (serving p).ports[(0 : PortId)].q.role = true := by
  rw [serving_port, hq]
  exact (Bool.and_eq_true _ _).mpr ⟨rfl, List.any_eq_true.mpr ⟨0, List.mem_finRange 0, rfl⟩⟩

/-- A command of the core that serves the port, with no request pending, acts on the port (R464). -/
theorem servedBy.onStaged_eq {s : State} {k : CoreId} {n : PortId} (h : s.servedBy k n)
    (hpend : s.ports[n].stg.pending = false) (f : Env → Port → Port) : s.onStaged k n f = s.onPort n f := by
  obtain ⟨hup, hpld, hholds, hserves⟩ := h
  rw [onStaged, hpend, onTxGo, hup, hpld, hholds, hserves]
  rfl

/-- A rebind changes the queue of the port alone (R177). -/
theorem rebind_rg_role (n : PortId) (s : State) :
    (s.rebind n).ports[n].rg = s.ports[n].rg ∧ (s.rebind n).ports[n].role = s.ports[n].role := by
  unfold rebind
  dsimp only
  split
  · exact ⟨rfl, rfl⟩
  · simp

/-- A turn leaves the region and the role state of its port as the firmware's action does, or, where it waits, as they
were. -/
theorem onTurn_rg_role (n : PortId) (f : Env → Port → Port) (s : State) :
    ∃ p, (p = s.ports[n] ∨ p = f (s.env n) s.ports[n].trim) ∧
      (s.onTurn n f).ports[n].rg = p.rg ∧ (s.onTurn n f).ports[n].role = p.role := by
  unfold onTurn turned
  split
  · split
    · exact ⟨_, .inl rfl, rfl, rfl⟩
    · have hport := (s.onPort_spec n fun e p => f e p.trim).2
      obtain ⟨hrg, hrole⟩ := rebind_rg_role n (s.onPort n fun e p => f e p.trim)
      exact ⟨_, .inr rfl, hrg.trans (congrArg Port.rg hport :), hrole.trans (congrArg Port.role hport :)⟩
  · exact ⟨_, .inl rfl, rfl, rfl⟩

end State

/-- A port whose queue holds one message group, as the region writes it (Table 3.5): the header entry, then the data. -/
def Port.withMessage (header : BitVec 16) (objs : List Word) (p : Port) : Port :=
  p.pushGroup (Port.rxGroup { sop := 0#3, header := header, extHeader := 0#16, objs := objs, crcOk := true, lenOk := true }
    false true 0)

end Sys2Proof.Machine
end

section
/-! The refutation of O12: a Cable Reset that clears the MessageIDCounter of SOP. -/

namespace Sys2Proof.Machine

/-- A port that sends a message of the core on SOP, behind which a Soft_Reset of the region itself waits; VCONN source and
DFP. -/
def Port.softWaiting : Port :=
  let p := Port.reset 0
  { p with
    tc := { p.tc with state := .attachedSrc }, cc := { p.cc with vconnOn := true }, pdstat := { p.pdstat with drole := true },
    rg := { p.rg with
      phase := .onLine, tx := some { Port.ownMsg 0x1042#16 0#16 false with own := false },
      ownDue := [Port.ownMsg (p.ownHeader tSoftReset) 0#16 false], txId := 3#3 } }

/-- The Cable Reset ends the message on the line, and the Soft_Reset that waited behind it goes next (R79): it clears the
MessageIDCounter of SOP (R99). -/
theorem Port.softWaiting_cableReset {e : Env} (he : e.regionUp = true) :
    (Port.softWaiting.txGo e (cmdWords 3#4 0#8 0#36 0#36) 0).rg.txId = 0#3 := by
  cases e
  subst he
  rfl

/-- Refutes O12: on a port whose region sends a message on SOP, with a Soft_Reset of its own waiting behind it, a Cable Reset
lets that Soft_Reset go, so the MessageIDCounter of SOP does not stay. -/
theorem not_txGoProtocolCommands : ¬ Obligations.TxGoProtocolCommands := by
  unfold Obligations.TxGoProtocolCommands
  intro h
  have hserves : (State.serving Port.softWaiting).servedBy 0 0 := State.serving_servedBy rfl
  have hregion : (State.serving Port.softWaiting).regionUp 0 = true := State.serving_up rfl rfl rfl
  obtain ⟨hserved, -⟩ := h (State.serving Port.softWaiting) 0 0 Port.softWaiting (State.serving_port _)
  obtain ⟨-, hup⟩ := hserved hserves rfl
  obtain ⟨-, -, -, -, hcable, -⟩ := hup hregion
  obtain ⟨t, hexec, -, -, -, hstays⟩ := hcable 0#8 rfl rfl
  obtain ⟨hid, -⟩ := hstays rfl rfl
  have hturn : exec (.cableReset 0 0 0#8) (State.serving Port.softWaiting) =
      .next ((State.serving Port.softWaiting).onPort 0 fun e p => p.txGo e (cmdWords 3#4 0#8 0#36 0#36) 0) :=
    congrArg Host.Outcome.next (hserves.onStaged_eq (by rw [State.serving_port]; rfl) _)
  have hport := ((State.serving Port.softWaiting).onPort_spec 0 fun e p => p.txGo e (cmdWords 3#4 0#8 0#36 0#36) 0).2
  rw [← Host.Outcome.next.inj (hexec.symm.trans hturn), (State.serving_port _)] at hport
  have hclear := Port.softWaiting_cableReset (((State.serving Port.softWaiting).env_regionUp 0).trans hregion)
  rw [hport, Port.bare_rg, hclear] at hid
  exact absurd hid (by decide)

end Sys2Proof.Machine
end

section
/-! The refutation of O19: EPR_Mode (Enter) at Revision 2.0. -/

namespace Sys2Proof.Machine

/-- An attached source at Revision 2.0 with EPR_Mode (Enter) at the head of its queue. -/
def Port.enterAtRev2 : Port :=
  let p := Port.reset 0
  { p with tc := { p.tc with state := .attachedSrc }, pdstat := { p.pdstat with rev := 1#2 } }.withMessage 0x100A#16
    [0x01000000#32]

theorem Port.enterAtRev2_turn (e : Env) : (Port.enterAtRev2.trim.eprTurn e).role.eprStep = 0 := rfl

theorem Port.enterAtRev2_free : Port.enterAtRev2.trim.free :=
  ⟨rfl, rfl, rfl, rfl, rfl, rfl, rfl, rfl, by decide, by decide⟩

theorem Port.enterAtRev2_role : Port.enterAtRev2.q.role = 0#5 := rfl

/-- Refutes O19: EPR_Mode is a message of Revision 3.x alone, and a port at Revision 2.0 does not acknowledge Enter (R91,
R114); the clause of EPR_ENTRY does not ask for the revision. -/
theorem not_policyAnswers : ¬ Obligations.PolicyAnswers := by
  unfold Obligations.PolicyAnswers
  intro h
  have hport := State.serving_port Port.enterAtRev2
  have hup : (State.serving Port.enterAtRev2).controlUp = true := rfl
  have hrole := State.serving_roleRuns Port.enterAtRev2_role
  have hregion : (State.serving Port.enterAtRev2).regionUp 0 = true := State.serving_up rfl rfl rfl
  generalize State.serving Port.enterAtRev2 = s at hport hup hrole hregion
  obtain ⟨-, -, -, -, -, -, hepr, -⟩ := h s 0 Port.enterAtRev2.trim (congrArg Port.trim hport) hup hrole hregion
    Port.enterAtRev2_free rfl rfl
  obtain ⟨t, hexec, -, hstep, -⟩ := hepr _ rfl rfl rfl rfl rfl rfl rfl rfl
  have hturn : exec (.eprEntry 0) s = .next (s.onTurn 0 fun e p => p.eprTurn e) := rfl
  obtain ⟨p, hp, -, hrole⟩ := State.onTurn_rg_role 0 (fun e p => p.eprTurn e) s
  rw [← Host.Outcome.next.inj (hexec.symm.trans hturn)] at hrole
  rw [Port.bare_role, hrole] at hstep
  rw [hport] at hp
  have hzero : p.role.eprStep = 0 := by
    rcases hp with rfl | rfl
    · rfl
    · exact Port.enterAtRev2_turn _
  exact absurd (hzero.symm.trans hstep) (by decide)

end Sys2Proof.Machine
end

section
/-! The refutation of O20: Get_Status before a revision is agreed. -/

namespace Sys2Proof.Machine

/-- An attached source on which no revision is agreed, REV 0b00 as after a Hard Reset, with Get_Status at the head of its
queue. -/
def Port.statusAtRev0 : Port :=
  let p := Port.reset 0
  { p with tc := { p.tc with state := .attachedSrc } }.withMessage 0x0012#16 []

theorem Port.statusAtRev0_turn (e : Env) (t : Nat) : (Port.statusAtRev0.trim.statusTurn e t sysVid).rg.tx = none := rfl

theorem Port.statusAtRev0_free : Port.statusAtRev0.trim.free :=
  ⟨rfl, rfl, rfl, rfl, rfl, rfl, rfl, rfl, by decide, by decide⟩

theorem Port.statusAtRev0_role : Port.statusAtRev0.q.role = 0#5 := rfl

/-- Refutes O20: Get_Status is a message of Revision 3.x alone, which the core answers at REV 0b10 only (R74, R91); the clause
of STATUS_MESSAGE_ANSWER asks for a REV other than 0b01, and with 0b00 the core puts nothing in hand. -/
theorem not_policyService : ¬ Obligations.PolicyService := by
  unfold Obligations.PolicyService
  intro h
  have hport := State.serving_port Port.statusAtRev0
  have hup : (State.serving Port.statusAtRev0).controlUp = true := rfl
  have hrole := State.serving_roleRuns Port.statusAtRev0_role
  have hregion : (State.serving Port.statusAtRev0).regionUp 0 = true := State.serving_up rfl rfl rfl
  generalize State.serving Port.statusAtRev0 = s at hport hup hrole hregion
  obtain ⟨hfree, -⟩ := h s 0 Port.statusAtRev0.trim (congrArg Port.trim hport) hup hrole hregion
  obtain ⟨hstatus, -⟩ := hfree Port.statusAtRev0_free rfl rfl
  obtain ⟨t, hexec, -, ⟨x, hx, -⟩, -⟩ := hstatus _ rfl rfl rfl rfl (by decide)
  have hturn : ∃ c, exec (.statusMessageAnswer 0) s = .next (s.onTurn 0 fun e p => p.statusTurn e c sysVid) := ⟨_, rfl⟩
  obtain ⟨c, hturn⟩ := hturn
  obtain ⟨p, hp, hrg, -⟩ := State.onTurn_rg_role 0 (fun e p => p.statusTurn e c sysVid) s
  rw [← Host.Outcome.next.inj (hexec.symm.trans hturn)] at hrg
  rw [Port.bare_rg, hrg] at hx
  rw [hport] at hp
  have hnone : p.rg.tx = none := by
    rcases hp with rfl | rfl
    · rfl
    · exact Port.statusAtRev0_turn _ _
  exact absurd (hnone.symm.trans hx) (by simp)

end Sys2Proof.Machine
end

section
/-! The refutation of O25: a class that is shed, written on a Disabled port whose path passes. -/

namespace Sys2Proof.Machine

namespace State

/-- A port that is Disabled already takes the cause of a shed and keeps its path (R65). -/
theorem shedPort_path_of_disabled {n : PortId} {s : State} (h : s.ports[n].tc.state = .disabled) :
    (s.shedPort n).ports[n].fe.path = s.ports[n].fe.path := by
  unfold shedPort
  split
  · have hport := (s.onPort_spec n fun _ p => p.toDisabled 6#3).2
    rw [Port.toDisabled, if_pos h] at hport
    exact (congrArg (fun p => p.fe.path) hport :)
  · rfl

theorem shedPort_only (n : PortId) (s : State) : OnlyPort n s (s.shedPort n) := by
  unfold shedPort
  split
  · exact (s.onPort_spec n _).1
  · exact onlyPort_refl s n

/-- A rebind leaves the front end and the connection state of the port (R177). -/
theorem rebind_fe_tc (n : PortId) (s : State) :
    (s.rebind n).ports[n].fe = s.ports[n].fe ∧ (s.rebind n).ports[n].tc = s.ports[n].tc := by
  unfold rebind
  dsimp only
  split
  · exact ⟨rfl, rfl⟩
  · simp

/-- A rebind changes ports alone. -/
theorem rebind_only (n : PortId) (s : State) : OnlyPort n s (s.rebind n) := by
  unfold rebind
  dsimp only
  split
  · exact onlyPort_refl s n
  · exact setPort_only s n _

/-- A class that has taken effect, before it acts (R177). -/
def withClass (n : PortId) (cl : SvcClass) (s : State) : State :=
  rebind n (setPort n { s.ports[n] with heldCls := none, rebindDue := true }
    { s with pcfg := s.pcfg.set n { s.pcfg[n] with cls := cl } })

theorem applyClass_eq {n : PortId} {s : State} {cl : SvcClass} (hheld : s.ports[n].heldCls = some cl)
    (hplace : (s.ports[n].place.migrating || s.ports[n].place.prepared) = false) :
    s.applyClass n = (s.withClass n cl).classActs n := by
  rw [applyClass, hheld]
  exact if_neg (Bool.eq_false_iff.mp hplace)

theorem withClass_only (n : PortId) (cl : SvcClass) (s : State) :
    OnlyPort n { s with pcfg := s.pcfg.set n { s.pcfg[n] with cls := cl } } (s.withClass n cl) :=
  (setPort_only _ n _).ports.trans (rebind_only n _).ports

theorem withClass_fe_tc (n : PortId) (cl : SvcClass) (s : State) :
    (s.withClass n cl).ports[n].fe = s.ports[n].fe ∧ (s.withClass n cl).ports[n].tc = s.ports[n].tc := by
  obtain ⟨hfe, htc⟩ := rebind_fe_tc n (setPort n { s.ports[n] with heldCls := none, rebindDue := true }
    { s with pcfg := s.pcfg.set n { s.pcfg[n] with cls := cl } })
  exact ⟨hfe.trans (by simp [setPort]), htc.trans (by simp [setPort])⟩

/-- A class that the stage sheds leaves the path of a Disabled port as it was. -/
theorem applyClass_path_of_disabled {n : PortId} {s : State} {cl : SvcClass} (hheld : s.ports[n].heldCls = some cl)
    (hplace : (s.ports[n].place.migrating || s.ports[n].place.prepared) = false) (hline : s.holdLine cl = true)
    (hbeat : s.polders[polderOf n].stat.hbLost = false) (hdis : s.ports[n].tc.state = .disabled) :
    (s.applyClass n).ports[n].fe.path = s.ports[n].fe.path := by
  have honly := s.withClass_only n cl
  obtain ⟨hfe, htc⟩ := s.withClass_fe_tc n cl
  have hcls : (s.withClass n cl).cls n = cl := (honly.ports.cls_eq n).trans (by simp [State.cls])
  have hheldUp : (s.withClass n cl).holdLine cl = true := (honly.ports.holdLine_eq cl).trans hline
  have hshed : (s.withClass n cl).shedPort n = (s.withClass n cl).classActs n := by
    have hbeat' : ((s.withClass n cl).shedPort n).polders[polderOf n].stat.hbLost = false := by
      rw [(shedPort_only n _).ports.polders_eq, honly.ports.polders_eq]
      exact hbeat
    rw [classActs, hcls, if_pos hheldUp]
    exact (if_neg (Bool.eq_false_iff.mp hbeat')).symm
  rw [applyClass_eq hheld hplace, ← hshed, shedPort_path_of_disabled (by rw [htc, hdis]), hfe]

/-- So does the write of that class. -/
theorem classWrite_path_of_disabled {n : PortId} {s : State} {v : BitVec 2} {cl : SvcClass} (hv : SvcClass.ofCode v = some cl)
    (hheld : s.ports[n].heldCls = none) (hne : s.cls n ≠ cl) (hcl : cl ≠ .a)
    (hplace : (s.ports[n].place.migrating || s.ports[n].place.prepared) = false) (hline : s.holdLine cl = true)
    (hbeat : s.polders[polderOf n].stat.hbLost = false) (hdis : s.ports[n].tc.state = .disabled) :
    (s.classWrite n v).ports[n].fe.path = s.ports[n].fe.path := by
  have hself : (s.setPort n { s.ports[n] with heldCls := some cl }).ports[n] = { s.ports[n] with heldCls := some cl } := by
    simp [setPort]
  have hwrite : s.classWrite n v = (s.setPort n { s.ports[n] with heldCls := some cl }).applyClass n := by
    have hnew : s.ports[n].heldCls.getD (s.cls n) ≠ cl := by rw [hheld]; exact hne
    rw [classWrite, hv]
    exact (if_neg hnew).trans (if_neg fun hfull => hcl hfull.1)
  rw [hwrite]
  refine (applyClass_path_of_disabled (cl := cl) (by rw [hself]) ?place ?line ?beat ?state).trans (by rw [hself])
  case place => rw [hself]; exact hplace
  case line => exact hline
  case beat => exact hbeat
  case state => rw [hself]; exact hdis

end State

/-- A Disabled port whose path passes, with its queue's group not held. -/
def Port.disabledPassing : Port :=
  let p := Port.reset 0
  { p with tc := { p.tc with state := .disabled }, fe := { p.fe with path := .source } }

/-- A device whose stage has raised the hold line of class B (S4), with port 0, of class C, Disabled while its path passes. -/
def State.shedB : State :=
  let s := State.serving Port.disabledPassing
  { s with sh := { s.sh with stat := { s.sh.stat with stage := 4#3 } } }

/-- Refutes O25: a port that is Disabled already only takes the cause of a shed (R65), so where its path passes, a write of
a class whose hold line is raised leaves the path as it was; no hypothesis of the clause excludes such a port. -/
theorem not_classWritesAndShare : ¬ Obligations.ClassWritesAndShare := by
  unfold Obligations.ClassWritesAndShare
  intro h
  have hport : State.shedB.ports[(0 : PortId)] = Port.disabledPassing := State.serving_port _
  obtain ⟨-, -, hwrites, -⟩ := h State.shedB rfl (by decide)
  obtain ⟨-, hshed, -⟩ := hwrites 0 2#2 .b rfl (by rw [hport]; rfl) (by decide) (.inl (by decide)) rfl
  have hup : State.shedB.pRegUp 0 = true := rfl
  have hline : State.shedB.holdLine .b = true := rfl
  have hbeat : State.shedB.polders[polderOf 0].stat.hbLost = false := rfl
  have hcls : State.shedB.cls 0 = .c := rfl
  generalize State.shedB = s at hport hup hline hbeat hcls hshed
  have hplace : (s.ports[(0 : PortId)].place.migrating || s.ports[(0 : PortId)].place.prepared) = false := by rw [hport]; rfl
  obtain ⟨t, hexec, -, -, hpath⟩ := hshed hplace hline (by rw [hport]; rfl)
  have hwrite : exec (.classWrite 0 2#2) s = .next (s.classWrite 0 2#2) := congrArg Host.Outcome.next (if_pos hup)
  have hkept : (s.classWrite 0 2#2).ports[(0 : PortId)].fe.path = s.ports[(0 : PortId)].fe.path :=
    State.classWrite_path_of_disabled (cl := .b) rfl (by rw [hport]; rfl) (by rw [hcls]; decide) (by decide) hplace hline hbeat
      (by rw [hport]; rfl)
  rw [Host.Outcome.next.inj (hexec.symm.trans hwrite), hkept, hport] at hpath
  exact absurd hpath (by decide)

end Sys2Proof.Machine
end

section
/-! The clauses of O34: remapped queues and rows, the scrubs of the SRAM, and the oscillator checks. -/

namespace Sys2Proof.Machine

/-! The spoil list (R255, R280, Table 9.8). -/

/-- Below its check nibble a spoil entry reads as KIND, ID and CAUSE. -/
theorem fld_spoilWord (kind : BitVec 4) (id : BitVec 20) (cause : BitVec 4) {lo k : Nat} (h : lo + k ≤ 28) :
    fld (spoilWord kind id cause) lo k = (cause ++ id ++ kind).extractLsb' lo k :=
  BitVec.extractLsb'_append_eq_of_add_le h

theorem spoilWord_kind (kind : BitVec 4) (id : BitVec 20) (cause : BitVec 4) : fld (spoilWord kind id cause) 0 4 = kind :=
  (fld_spoilWord kind id cause (by decide)).trans BitVec.extractLsb'_append_eq_right

theorem spoilWord_id (kind : BitVec 4) (id : BitVec 20) (cause : BitVec 4) : fld (spoilWord kind id cause) 4 20 = id :=
  (fld_spoilWord kind id cause (by decide)).trans
    ((BitVec.extractLsb'_append_eq_of_le (by decide)).trans BitVec.extractLsb'_append_eq_right)

namespace State

variable (s : State)

/-- A spoiled resource stands in the list, where others stand as before (R255). -/
theorem spoil_isSpoiled (kind : BitVec 4) (id : BitVec 20) (cause kind' : BitVec 4) (id' : BitVec 20) :
    (s.spoil kind id cause).isSpoiled kind' id' = (decide (kind = kind' ∧ id = id') || s.isSpoiled kind' id') := by
  unfold spoil
  split
  case isTrue h =>
    by_cases hsame : kind = kind' ∧ id = id'
    · obtain ⟨rfl, rfl⟩ := hsame
      simp [h]
    · simp [hsame]
  case isFalse =>
    rw [quarryEvent, isSpoiled, isSpoiled]
    simp [fabEvent, pushSys, spoilWord_kind, spoilWord_id]

theorem spoil_self (kind : BitVec 4) (id : BitVec 20) (cause : BitVec 4) :
    (s.spoil kind id cause).isSpoiled kind id = true := by
  rw [spoil_isSpoiled]
  simp

/-- Spoiling changes the quarry's spoil list, its last event and its event queue alone (R280, R287). -/
theorem spoil_rest (kind : BitVec 4) (id : BitVec 20) (cause : BitVec 4) :
    { s.spoil kind id cause with
      qy := { (s.spoil kind id cause).qy with spoiled := s.qy.spoiled, held := s.qy.held, last := s.qy.last }, sysq := s.sysq } =
      s := by
  unfold spoil
  split <;> rfl

variable {s}

/-- What spoiling keeps, read off the two states. -/
theorem spoil_keeps {α : Type} (f : State → α) (kind : BitVec 4) (id : BitVec 20) (cause : BitVec 4)
    (hf : ∀ (t : State) sp hd l x, f { t with qy := { t.qy with spoiled := sp, held := hd, last := l }, sysq := x } = f t) :
    f (s.spoil kind id cause) = f s := by
  have h := congrArg f (s.spoil_rest kind id cause)
  rwa [hf] at h

/-! Queues (R276). -/

theorem onAnyQueue_port {x : QueueId} {n : PortId} (h : x.val = n.val) (f : BitVec 6 → Queue → Queue) :
    s.onAnyQueue x f = s.setPort n { s.ports[n] with q := f s.ports[n].place.epoch s.ports[n].q } := by
  obtain ⟨v, hv⟩ := x
  obtain rfl : v = n.val := h
  exact dif_pos n.isLt

theorem physOf_self {x : QueueId} (hmap : ∀ j : Fin 12, s.qy.qmap[j] = none) (htaken : s.qy.taken = []) :
    s.physOf x = x.val := by
  have hnone : ((List.finRange 12).find? fun i => s.qy.qmap[i] = some x) = none :=
    List.find?_eq_none.mpr fun i _ => by simp [hmap i]
  rw [physOf, hnone, htaken]
  rfl

theorem freeQueue_first (hmap : s.qy.qmap[(0 : Fin 12)] = none) (hfree : s.isSpoiled 3#4 244#20 = false) :
    s.freeQueue = some 0 := by
  have hzero : s.queueFree 0 = true := by
    rw [queueFree, hmap]
    exact congrArg (!·) hfree
  rw [freeQueue, List.finRange_succ, List.find?_cons_of_pos hzero]

/-- What a queue fault does to the entries: a bad pointer nothing, a bad entry loses its group (R276). -/
def groupLost (x : QueueId) (pointer : Bool) (pos : Nat) (s : State) : State :=
  if pointer then s else s.onAnyQueue x (loseGroup pos)

/-- The entries lie in a port's queue or in a system queue; nothing else changes. -/
theorem groupLost_rest (x : QueueId) (pointer : Bool) (pos : Nat) :
    { s.groupLost x pointer pos with ports := s.ports, sysq := s.sysq } = s := by
  unfold groupLost onAnyQueue
  split
  · rfl
  · split <;> rfl

theorem groupLost_other {x : QueueId} {n : PortId} (h : n.val ≠ x.val) (pointer : Bool) (pos : Nat) :
    (s.groupLost x pointer pos).ports[n] = s.ports[n] := by
  unfold groupLost onAnyQueue
  split
  · rfl
  · split
    · simp [setPort, Ne.symm h]
    · rfl

theorem groupLost_self {x : QueueId} {n : PortId} (h : n.val = x.val) (pointer : Bool) (pos : Nat) :
    (s.groupLost x pointer pos).ports[n] = { s.ports[n] with
      q := if pointer then s.ports[n].q else loseGroup pos s.ports[n].place.epoch s.ports[n].q } := by
  unfold groupLost
  cases pointer
  · rw [if_neg Bool.false_ne_true, onAnyQueue_port h.symm]
    simp [setPort]
  · rfl

/-- A queue whose physical queue has left service is served by the first free spare (R276). -/
theorem queueSeat_free {i : Fin 12} (h : s.freeQueue = some i) (x : QueueId) (id : BitVec 20) (cause : BitVec 4) :
    s.queueSeat x id cause = { s.queueUnmap x with qy := { (s.queueUnmap x).qy with
      qmap := (s.queueUnmap x).qy.qmap.set i (some x) } } := by
  rw [queueSeat, h]

/-- A queue whose physical queue is spoiled while the first spare is free: that spare serves it (R276). -/
theorem queueSeat_spoiled {x : QueueId} {id : BitVec 20} {cause : BitVec 4} (hmap : ∀ j : Fin 12, s.qy.qmap[j] = none)
    (hid : id ≠ 244#20) (hfree : s.isSpoiled 3#4 244#20 = false) :
    let t := ((s.quarryEvent 3#4 3#4 id cause).spoil 3#4 id cause).queueSeat x id cause
    t.qy.qmap[(0 : Fin 12)] = some x ∧ t.isSpoiled 3#4 id = true ∧ t.cores = s.cores ∧ t.polders = s.polders ∧
      t.ports = s.ports := by
  intro t
  have hspoiled := (s.quarryEvent 3#4 3#4 id cause).spoil_self 3#4 id cause
  have hqmap : ((s.quarryEvent 3#4 3#4 id cause).spoil 3#4 id cause).qy.qmap = s.qy.qmap :=
    spoil_keeps (·.qy.qmap) _ _ _ fun _ _ _ _ _ => rfl
  have hfirst : ((s.quarryEvent 3#4 3#4 id cause).spoil 3#4 id cause).freeQueue = some 0 := by
    refine freeQueue_first (by rw [hqmap]; exact hmap 0) ?_
    rw [spoil_isSpoiled, decide_eq_false fun h => hid h.2]
    exact hfree
  have ht : t = _ := queueSeat_free hfirst x id cause
  refine ⟨?_, ?_, ?_, ?_, ?_⟩
  · rw [ht]
    simp
  · rw [ht]
    exact hspoiled
  · rw [ht]
    exact spoil_cores _ _ _ _
  · rw [ht]
    exact spoil_keeps (·.polders) 3#4 id cause fun _ _ _ _ _ => rfl
  · rw [ht]
    exact spoil_keeps (·.ports) 3#4 id cause fun _ _ _ _ _ => rfl

end State

/-- The number of a queue is that of no spare queue (Table 9.8). -/
theorem queueId_ne_spare {x : QueueId} (h : x.val < 244) : BitVec.ofNat 20 x.val ≠ 244#20 := by
  intro heq
  have hnat := congrArg BitVec.toNat heq
  simp at hnat
  omega

/-- A core whose data row `row` is lost: a spare row takes its place, and it reads 0. -/
def Core.dataLost (row : Nat) (c : Core) : Core :=
  { c with
    data := Mem.write 0#36 row 0#36 c.data
    ecc := { c.ecc with dataUncorr := true, dataSpare := c.ecc.dataSpare - 1#4 } }

namespace State

variable {s : State}

/-- What a queue fault does where the first spare is free: the old physical queue is spoiled, and the bad group is lost. -/
theorem exec_queueFault_spare {x : QueueId} {pointer : Bool} {pos : Nat} {upset : BitVec 64} (hup : s.controlUp = true)
    (hx : x.val < 244) (hmap : ∀ j : Fin 12, s.qy.qmap[j] = none) (htaken : s.qy.taken = [])
    (hbad : pointer = true ∨ foundIn 12 4 0#48 upset = .many) :
    ∃ cause, exec (.queueFault x pointer ⟨pos, upset⟩) s = .next
      ((((s.groupLost x pointer pos).quarryEvent 3#4 3#4 (BitVec.ofNat 20 x.val) cause).spoil 3#4
        (BitVec.ofNat 20 x.val) cause).queueSeat x (BitVec.ofNat 20 x.val) cause) := by
  have hread : ¬ (!pointer && foundIn 12 4 0#48 upset ≠ .many) := by
    rcases hbad with rfl | hmany
    · simp
    · simp [hmany]
  have hfault : s.queueFault x pointer pos upset = _ := (if_neg (by omega)).trans (if_neg hread)
  refine ⟨if pointer then 6#4 else 5#4, congrArg Host.Outcome.next ((if_pos hup).trans ?_)⟩
  rw [hfault, physOf_self hmap htaken]
  rfl

theorem exec_queueFault_read {n : PortId} {x : QueueId} {pos : Nat} {upset : BitVec 64} (hup : s.controlUp = true)
    (hx : x.val = n.val) (hread : foundIn 12 4 0#48 upset ≠ .many) :
    exec (.queueFault x false ⟨pos, upset⟩) s =
      .next (s.setPort n { s.ports[n] with q := slipEntry pos (slip 12 4 upset) s.ports[n].q }) := by
  have hfault : s.queueFault x false pos upset = s.onAnyQueue x fun _ => slipEntry pos (slip 12 4 upset) :=
    (if_neg (by omega)).trans (if_pos (by simp [hread]))
  exact congrArg Host.Outcome.next ((if_pos hup).trans (hfault.trans (onAnyQueue_port hx _)))

/-! Rows (R277, R294, R335). -/

theorem exec_sharedRow {row : Nat} (hup : s.controlUp = true) (hrow : row < 65536) :
    exec (.sramRowFault none false row false) s = .next (s.sharedRow row false 2#4) :=
  congrArg Host.Outcome.next ((if_pos hup).trans (if_pos hrow))

theorem exec_sharedRow_spare {row : Nat} (hup : s.controlUp = true) (hrow : row < 65536) (hfree : s.qy.freeRows ≠ 0#7) :
    exec (.sramRowFault none false row false) s = .next
      (State.spoil 5#4 (BitVec.ofNat 20 row) 2#4 { s with qy := { s.qy with freeRows := s.qy.freeRows - 1#7 } }) :=
  (exec_sharedRow hup hrow).trans (congrArg Host.Outcome.next (if_neg hfree))

theorem onCore_onCore (k : CoreId) (f g : Core → Core) : (s.onCore k f).onCore k g = s.onCore k (g ∘ f) := by
  simp [onCore]

/-- A data row of a core takes a spare row; one that is lost reads 0 (R277, R294). -/
theorem coreRow_data {k : CoreId} (row : Nat) (cause : BitVec 4) (hspare : s.cores[k].ecc.dataSpare ≠ 0#4) :
    s.coreRow k true row true cause = (true, State.spoil 4#4 (coreRowId k true row) cause (s.onCore k fun x => { x with
      ecc := { x.ecc with dataSpare := x.ecc.dataSpare - 1#4 }, data := Mem.write 0#36 row 0#36 x.data })) :=
  if_neg hspare

theorem coreRowLost_data {k : CoreId} (row : Nat) (hspare : s.cores[k].ecc.dataSpare ≠ 0#4) :
    (s.coreRowLost k true row).2 = State.spoil 4#4 (coreRowId k true row) 5#4 (s.onCore k (Core.dataLost row)) := by
  have hmarked : (s.onCore k fun x => { x with ecc := { x.ecc with dataUncorr := true } }).cores[k].ecc.dataSpare ≠ 0#4 := by
    rw [onCore_self]
    exact hspare
  have hrow := coreRow_data row 5#4 hmarked
  rw [onCore_onCore] at hrow
  exact congrArg (fun r : Bool × State => (if r.1 then (true, r.2) else
    if r.2.cores[k].stat.state = 5#3 then (false, r.2) else (false, (r.2.takeover k 5#3 5#4).spoil 2#4 (coreId k) 5#4)).2) hrow

theorem exec_coreRowLost {k : CoreId} {row : Nat} (hup : s.controlUp = true) (hrow : row < 8192)
    (hspare : s.cores[k].ecc.dataSpare ≠ 0#4) :
    exec (.sramRowFault (some k) true row true) s =
      .next (State.spoil 4#4 (coreRowId k true row) 5#4 (s.onCore k (Core.dataLost row))) :=
  congrArg Host.Outcome.next ((if_pos hup).trans ((if_pos hrow).trans (coreRowLost_data row hspare)))

/-! Scrubs (R335). -/

theorem sharedSlip_zero (row : Nat) : s.sharedSlip row 0#36 = s := if_pos rfl

/-- A scrub read of the shared SRAM that finds no error goes on by one row. -/
theorem sharedScrub_clean (h : s.qy.sharedPos < 65535) :
    s.sharedScrub 0#48 = { s with qy := { s.qy with sharedPos := s.qy.sharedPos + 1 } } := by
  have hclean : foundIn 9 3 0#36 0#48 = .clean := by decide
  have hslip : slip 9 3 0#48 = 0#36 := by decide
  have hfound : s.sharedFound s.qy.sharedPos (slip 9 3 0#48) (foundIn 9 3 0#36 0#48) = s := by
    rw [hclean, hslip]
    exact sharedSlip_zero _
  have hnext : (s.qy.sharedPos + 1) % 65536 = s.qy.sharedPos + 1 := Nat.mod_eq_of_lt (by omega)
  rw [sharedScrub, hfound, hnext]
  rfl

/-- What a scrub read of a core finds, by the format of the row that is next (Table 1.10). -/
def scrubFinds (s : State) (k : CoreId) (upset : BitVec 72) : Found :=
  if decide (4096 ≤ s.cores[k].scrubPos) then foundIn 9 3 0#36 (upset.setWidth 48) else foundIn 14 4 0#56 upset

/-- Before the last row a scrub read that finds no error goes on by one row, after what slips. -/
theorem coreScrub_clean {k : CoreId} {upset : BitVec 72} (hlast : s.cores[k].scrubPos < 12287)
    (hclean : s.scrubFinds k upset = .clean) :
    s.coreScrub k upset =
      (s.coreSlip k (decide (4096 ≤ s.cores[k].scrubPos))
        (if decide (4096 ≤ s.cores[k].scrubPos) then s.cores[k].scrubPos - 4096 else s.cores[k].scrubPos) upset).onCore k
          fun x => { x with scrubPos := s.cores[k].scrubPos + 1 } := by
  have hnext : (s.cores[k].scrubPos + 1) % 12288 = s.cores[k].scrubPos + 1 := Nat.mod_eq_of_lt (by omega)
  rw [scrubFinds] at hclean
  rw [coreScrub]
  simp only [hclean, hnext, Nat.succ_ne_zero, ↓reduceIte]

theorem coreSlip_none {k : CoreId} {upset : BitVec 72} (hslip : slip 9 3 (upset.setWidth 48) = 0#36) (row : Nat) :
    s.coreSlip k true row upset = s := if_pos hslip

theorem coreSlip_data {k : CoreId} {upset : BitVec 72} (hslip : slip 9 3 (upset.setWidth 48) ≠ 0#36) (row : Nat) :
    s.coreSlip k true row upset = s.onCore k fun c => { c with
      data := Mem.write 0#36 row (Mem.read 0#36 c.data row ^^^ slip 9 3 (upset.setWidth 48)) c.data } := if_neg hslip

/-- A scrub read of a core that corrects a data row, which none before it has, counts it and goes on (R257). -/
theorem coreScrub_corrected {k : CoreId} {upset : BitVec 72} (hdata : 4096 ≤ s.cores[k].scrubPos)
    (hlast : s.cores[k].scrubPos < 12287) (hone : foundIn 9 3 0#36 (upset.setWidth 48) = .one)
    (hslip : slip 9 3 (upset.setWidth 48) = 0#36) (hfirst : s.cores[k].scrubPos ∉ s.cores[k].corrPrev) :
    s.coreScrub k upset = s.onCore k fun x => { x with
      scrubPos := s.cores[k].scrubPos + 1, corrCur := s.cores[k].scrubPos :: x.corrCur,
      ecc := { x.ecc with dataCorr := satInc x.ecc.dataCorr } } := by
  have hnext : (s.cores[k].scrubPos + 1) % 12288 = s.cores[k].scrubPos + 1 := Nat.mod_eq_of_lt (by omega)
  rw [coreScrub]
  simp only [hdata, decide_true, hone, hnext, Nat.succ_ne_zero, hfirst, coreSlip_none hslip, onCore_onCore, ↓reduceIte]
  rfl

/-- A scrub read of a core that takes an error of a data row for none leaves it in the row (R20). -/
theorem coreScrub_slipped {k : CoreId} {upset : BitVec 72} (hdata : 4096 ≤ s.cores[k].scrubPos)
    (hlast : s.cores[k].scrubPos < 12287) (hclean : foundIn 9 3 0#36 (upset.setWidth 48) = .clean)
    (hslip : slip 9 3 (upset.setWidth 48) ≠ 0#36) :
    s.coreScrub k upset = s.onCore k fun x => { x with
      scrubPos := s.cores[k].scrubPos + 1,
      data := Mem.write 0#36 (s.cores[k].scrubPos - 4096)
        (Mem.read 0#36 x.data (s.cores[k].scrubPos - 4096) ^^^ slip 9 3 (upset.setWidth 48)) x.data } := by
  have hfinds : s.scrubFinds k upset = .clean := (if_pos (decide_eq_true hdata)).trans hclean
  rw [coreScrub_clean hlast hfinds, decide_eq_true hdata, if_pos rfl, coreSlip_data hslip, onCore_onCore]
  rfl

/-- A row that has not changed slips by nothing. -/
theorem coreSlip_zero (k : CoreId) (data : Bool) (row : Nat) : s.coreSlip k data row 0#72 = s := by
  cases data
  · exact (if_neg Bool.false_ne_true).trans (if_pos (by decide))
  · exact coreSlip_none (by decide) row

theorem scrubFinds_zero (k : CoreId) : s.scrubFinds k 0#72 = .clean := by
  unfold scrubFinds
  split <;> decide

/-- A scrub read of a core that finds no error goes on by one row. -/
theorem coreScrub_zero {k : CoreId} (hlast : s.cores[k].scrubPos < 12287) :
    s.coreScrub k 0#72 = s.onCore k fun x => { x with scrubPos := s.cores[k].scrubPos + 1 } := by
  rw [coreScrub_clean hlast (scrubFinds_zero k), coreSlip_zero]

/-- A command of a core that acts on it alone. -/
theorem coreCompletes_of_onCore {i : Instr} {k : CoreId} {f : Core → Core} {post : Core → Prop}
    (hexec : exec i s = .next (s.onCore k f)) (hpost : post (f s.cores[k])) : CoreCompletes i k s post :=
  ⟨_, hexec, s.onCore_only k f, (s.onCore_self k f).symm ▸ hpost⟩

/-! Oscillators (R278). -/

theorem oscCheck_window {q : PolderId} {e : Nat} {bad : Bool} (hbad : (decide (e < 54) || decide (66 < e)) = bad)
    (h : (bad && s.polders[q].oscBad) = false) :
    s.oscCheck q e false = s.onPolder q fun P => { P with oscBad := bad } := by
  rw [oscCheck, if_neg Bool.false_ne_true, hbad]
  exact if_neg (Bool.eq_false_iff.mp h)

theorem oscCheck_twice {q : PolderId} {e : Nat} (hbad : (decide (e < 54) || decide (66 < e)) = true)
    (hfirst : s.polders[q].oscBad = true) :
    s.oscCheck q e false = (s.onPolder q fun P => { P with oscBad := true }).toFallback q := by
  rw [oscCheck, if_neg Bool.false_ne_true, hbad]
  exact if_pos (by rw [hfirst]; rfl)

theorem oscCheck_ms {q : PolderId} {e : Nat} (hlo : 23520 ≤ e) (hhi : e ≤ 24480) :
    s.oscCheck q e true = s.onPolder q fun P => { P with osc := { P.osc with count := BitVec.ofNat 16 e } } := by
  rw [oscCheck, if_pos rfl]
  exact if_neg (by omega)

/-- A polder that does not run on the fallback clock yet goes to it, and its oscillator is spoiled (R278). -/
theorem toFallback_spec {q : PolderId} (h : s.polders[q].fallback = false) :
    (s.toFallback q).polders[q] = { s.polders[q] with fallback := true } ∧
      (s.toFallback q).isSpoiled 6#4 (BitVec.ofNat 20 q.val) = true ∧ (s.toFallback q).ports = s.ports ∧
      (s.toFallback q).cores = s.cores := by
  have ht : s.toFallback q = State.spoil 6#4 (BitVec.ofNat 20 q.val) 7#4
      ((s.onPolder q fun P => { P with fallback := true }).quarryEvent 4#4 6#4 (BitVec.ofNat 20 q.val) 7#4) :=
    if_neg (Bool.eq_false_iff.mp h)
  rw [ht]
  refine ⟨?_, spoil_self _ _ _ _, spoil_keeps (·.ports) _ _ _ fun _ _ _ _ _ => rfl, spoil_cores _ _ _ _⟩
  have hmark := onPolder_self q (fun P => { P with fallback := true }) s
  exact (spoil_keeps (·.polders[q]) _ _ _ fun _ _ _ _ _ => rfl).trans hmark

end State

/-- Settles O34: a fault takes a spare and spoils what it replaces; a scrub read goes on by one row. -/
theorem remapsAndScrubs : Obligations.RemapsAndScrubs := by
  unfold Obligations.RemapsAndScrubs
  intro s hup
  refine ⟨?queue, ?entry, ?row, ?noRow, ?coreRow, ?sharedScrub, ?scrub, ?corrected, ?slipped, ?osc⟩
  case queue =>
    intro x pointer i u hx hmap htaken hfree hbad
    obtain ⟨cause, hexec⟩ := State.exec_queueFault_spare hup hx hmap htaken hbad (pos := i)
    have hqy := congrArg State.qy (State.groupLost_rest (s := s) x pointer i)
    have hcores := congrArg State.cores (State.groupLost_rest (s := s) x pointer i)
    have hpolders := congrArg State.polders (State.groupLost_rest (s := s) x pointer i)
    obtain ⟨hmapped, hspoiled, hcores', hpolders', hports⟩ := State.queueSeat_spoiled (s := s.groupLost x pointer i)
      (cause := cause) (x := x) (by rw [hqy]; exact hmap) (queueId_ne_spare hx) (by rw [State.isSpoiled, hqy]; exact hfree)
    refine ⟨_, hexec, hmapped, hspoiled, hcores'.trans hcores, hpolders'.trans hpolders, fun n hn => ?_, fun n hn => ?_⟩
    · rw [hports, State.groupLost_other hn]
    · rw [hports, State.groupLost_self hn]
  case entry => exact fun n x i u hx hread => State.exec_queueFault_read hup hx hread
  case row =>
    intro row hrow hfree
    exact ⟨_, State.exec_sharedRow_spare hup hrow hfree, State.spoil_keeps (·.qy.freeRows) _ _ _ fun _ _ _ _ _ => rfl,
      State.spoil_self _ _ _ _, State.spoil_keeps (·.shared) _ _ _ fun _ _ _ _ _ => rfl,
      State.spoil_keeps (·.ports) _ _ _ fun _ _ _ _ _ => rfl, State.spoil_cores _ _ _ _⟩
  case noRow =>
    exact fun row hrow hfull => (State.exec_sharedRow hup hrow).trans (congrArg Host.Outcome.next (if_pos hfull))
  case coreRow =>
    intro k row hrow hspare
    obtain ⟨-, hothers⟩ := s.onCore_only k (Core.dataLost row)
    refine ⟨_, State.exec_coreRowLost hup hrow hspare, ?_, State.spoil_self _ _ _ _, fun j hj => ?_⟩
    · rw [State.spoil_cores, State.onCore_self]
      rfl
    · rw [State.spoil_cores]
      exact hothers j hj
  case sharedScrub =>
    exact fun hlast => congrArg Host.Outcome.next ((if_pos hup).trans (State.sharedScrub_clean hlast))
  case scrub =>
    intro k hlast
    exact State.coreCompletes_of_onCore (congrArg Host.Outcome.next ((if_pos hup).trans (State.coreScrub_zero hlast))) rfl
  case corrected =>
    intro k u hdata hlast hone hslip hfirst
    exact State.coreCompletes_of_onCore
      (congrArg Host.Outcome.next ((if_pos hup).trans (State.coreScrub_corrected hdata hlast hone hslip hfirst))) rfl
  case slipped =>
    intro k u hdata hlast hclean hslip
    exact State.coreCompletes_of_onCore
      (congrArg Host.Outcome.next ((if_pos hup).trans (State.coreScrub_slipped hdata hlast hclean hslip))) rfl
  case osc =>
    intro q e P
    have hcheck (ms : Bool) : exec (.oscWindowCheck q e ms) s = .next (s.oscCheck q e ms) :=
      congrArg Host.Outcome.next (if_pos hup)
    have hbad (hout : e < 54 ∨ 66 < e) : (decide (e < 54) || decide (66 < e)) = true := by simpa using hout
    refine ⟨fun hlo hhi => ?_, fun hout hgood => ?_, fun hout hsecond hfall => ?_, fun hlo hhi => ?_⟩
    · have hin : (decide (e < 54) || decide (66 < e)) = false := by simp [Nat.not_lt.mpr hlo, Nat.not_lt.mpr hhi]
      rw [hcheck, State.oscCheck_window hin rfl]
    · rw [hcheck, State.oscCheck_window (hbad hout) hgood]
    · have hself : (s.onPolder q fun P => { P with oscBad := true }).polders[q] = P :=
        (State.onPolder_self q _ s).trans (by rw [← hsecond])
      obtain ⟨hpolder, hspoiled, hports, hcores⟩ := State.toFallback_spec (by rw [hself]; exact hfall)
      rw [hself] at hpolder
      exact ⟨_, (hcheck false).trans (congrArg Host.Outcome.next (State.oscCheck_twice (hbad hout) hsecond)), hpolder, hspoiled,
        hports, hcores⟩
    · rw [hcheck, State.oscCheck_ms hlo hhi]

end Sys2Proof.Machine
end

section
/-! What a region fault leaves alone: the store, the cores, the other polders, and where the scrub of the polder stands with
its counts (R245, R247). -/

namespace Sys2Proof.Machine

/-- Where the scrub of a polder stands and what it has counted (PL_SCRUB, R245). -/
def Polder.scrubState (P : Polder) : PlScrub × Nat := (P.scrub, P.scrubNext)

@[simp] theorem Polder.onRegion_scrubState (r : Nat) (f : FabRegion → FabRegion) (P : Polder) :
    (P.onRegion r f).scrubState = P.scrubState := by
  unfold onRegion
  split <;> rfl

/-- From `s` to `t` the store, the cores, the polders but `q`, and the scrub of polder `q` stay as they are. -/
def KeepsScrub (q : PolderId) (s t : State) : Prop :=
  t.store = s.store ∧ t.cores = s.cores ∧ (∀ q' : PolderId, q' ≠ q → t.polders[q'] = s.polders[q']) ∧
    t.polders[q].scrubState = s.polders[q].scrubState

namespace KeepsScrub

variable {q : PolderId} {s t u : State}

theorem refl (q : PolderId) (s : State) : KeepsScrub q s s := ⟨rfl, rfl, fun _ _ => rfl, rfl⟩

theorem trans (h : KeepsScrub q s t) (k : KeepsScrub q t u) : KeepsScrub q s u := by
  obtain ⟨hstore, hcores, hothers, hscrub⟩ := h
  obtain ⟨kstore, kcores, kothers, kscrub⟩ := k
  exact ⟨kstore.trans hstore, kcores.trans hcores, fun q' hq => (kothers q' hq).trans (hothers q' hq), kscrub.trans hscrub⟩

theorem of_eq (hstore : t.store = s.store) (hcores : t.cores = s.cores) (hpolders : t.polders = s.polders) :
    KeepsScrub q s t :=
  ⟨hstore, hcores, fun _ _ => by rw [hpolders], by rw [hpolders]⟩

theorem ite {p : Prop} [Decidable p] (ht : KeepsScrub q s t) (hu : KeepsScrub q s u) :
    KeepsScrub q s (if p then t else u) := by
  split
  · exact ht
  · exact hu

theorem of_onlyPort {n : PortId} (h : OnlyPort n s t) : KeepsScrub q s t :=
  of_eq (congrArg State.store h.1 :) h.cores_eq h.ports.polders_eq

end KeepsScrub

namespace State

variable (s : State)

theorem onPolder_other {q q' : PolderId} (h : q' ≠ q) (f : Polder → Polder) : (s.onPolder q f).polders[q'] = s.polders[q'] := by
  have hne : (q : Nat) ≠ q' := fun heq => h (Fin.ext heq.symm)
  simp [hne]

theorem onPolder_keepsScrub (q : PolderId) {f : Polder → Polder} (h : (f s.polders[q]).scrubState = s.polders[q].scrubState) :
    KeepsScrub q s (s.onPolder q f) :=
  ⟨rfl, rfl, fun _ hq => s.onPolder_other hq f, (congrArg Polder.scrubState (s.onPolder_self q f)).trans h⟩

theorem setPort_keepsScrub (q : PolderId) (n : PortId) (p : Port) : KeepsScrub q s (s.setPort n p) :=
  .of_eq rfl rfl rfl

theorem gaugeFollow_keepsScrub (q : PolderId) (n : PortId) : KeepsScrub q s (s.gaugeFollow n) :=
  .of_onlyPort (onlyPort_of_blank (s.blank_gaugeFollow n)).1

/-! Events and alerts. -/

theorem fabEvent_keepsScrub (q : PolderId) (typ : BitVec 6) (pl : W36) : KeepsScrub q s (s.fabEvent typ pl) :=
  .of_eq rfl rfl rfl

theorem quarryEvent_keepsScrub (q : PolderId) (action kind : BitVec 4) (id : BitVec 20) (cause : BitVec 4) :
    KeepsScrub q s (s.quarryEvent action kind id cause) :=
  .of_eq rfl rfl rfl

theorem spoil_keepsScrub (q : PolderId) (kind : BitVec 4) (id : BitVec 20) (cause : BitVec 4) :
    KeepsScrub q s (s.spoil kind id cause) := by
  unfold spoil
  split
  · exact .refl q s
  · exact .of_eq rfl rfl rfl

theorem alert_keepsScrub (q : PolderId) (code : BitVec 8) (value : Word) : KeepsScrub q s (s.alert code value) := by
  dsimp only [alert]
  split
  · exact .refl q s
  · exact .of_eq rfl rfl rfl

theorem parkNote_keepsScrub (q : PolderId) (n : PortId) : KeepsScrub q s (s.parkNote n) := by
  unfold parkNote
  split
  · exact (KeepsScrub.of_eq rfl rfl rfl).trans (alert_keepsScrub _ q _ _)
  · exact .refl q s

theorem noted_keepsScrub (q : PolderId) (s t : State) : KeepsScrub q t (s.noted t) := by
  unfold noted
  refine List.foldlRecOn (motive := KeepsScrub q t) _ _ (.refl q t) fun u hu r _ => ?_
  split
  · exact hu.trans (u.alert_keepsScrub q _ _)
  · exact hu

/-! A class that has waited takes effect (R177). -/

theorem unshedPort_only (n : PortId) : OnlyPort n s (s.unshedPort n) := by
  unfold unshedPort
  split
  · exact s.onRegionOf_only n _
  · exact onlyPort_refl s n

theorem classActs_only (n : PortId) : OnlyPort n s (s.classActs n) := by
  have hline : OnlyPort n s (if s.holdLine (s.cls n) then s.shedPort n else s.unshedPort n) := by
    split
    · exact s.shedPort_only n
    · exact s.unshedPort_only n
  unfold classActs
  dsimp only
  generalize (if s.holdLine (s.cls n) then s.shedPort n else s.unshedPort n) = t at hline
  split
  · exact hline.ports.trans (holdForHb_only n t).ports
  · exact hline

theorem applyClass_keepsScrub (q : PolderId) (n : PortId) : KeepsScrub q s (s.applyClass n) := by
  dsimp only [applyClass]
  split
  case h_1 cl _ =>
    split
    · exact .refl q s
    · have hclass : KeepsScrub q s { s with pcfg := s.pcfg.set n { s.pcfg[n] with cls := cl } } := .of_eq rfl rfl rfl
      exact (hclass.trans (.of_onlyPort (withClass_only n cl s))).trans (.of_onlyPort (classActs_only _ n))
  · exact .refl q s

/-! Loads, switches, trials and parks (R243, R248, R261, R272). -/

theorem startLoad_keepsScrub (q : PolderId) (j : LoadJob) : KeepsScrub q s (s.startLoad q j) := by
  refine s.onPolder_keepsScrub q ?_
  dsimp only
  split
  · rfl
  · split
    · exact Polder.onRegion_scrubState _ _ _
    · split <;> rfl

theorem startSwitch_keepsScrub (q : PolderId) (j : SwitchJob) : KeepsScrub q s (s.startSwitch q j) :=
  s.onPolder_keepsScrub q rfl

/-- A region of the polder is marked. -/
theorem onRegion_keepsScrub (q : PolderId) (r : Nat) (f : FabRegion → FabRegion) :
    KeepsScrub q s (s.onPolder q fun P => P.onRegion r f) :=
  s.onPolder_keepsScrub q (Polder.onRegion_scrubState _ _ _)

theorem startTrial_keepsScrub (q : PolderId) (r : RegionId) (idle : Bool) : KeepsScrub q s (s.startTrial q r idle) := by
  unfold startTrial
  split
  · exact .refl q s
  · exact (s.onRegion_keepsScrub q _ _).trans (startLoad_keepsScrub _ q _)

theorem repeatLeft_keepsScrub (q : PolderId) (r : Nat) : KeepsScrub q s (s.repeatLeft q r) := by
  unfold repeatLeft
  split
  · exact s.spoil_keepsScrub q _ _ _
  · exact .refl q s

theorem parkMove_keepsScrub (n : PortId) : KeepsScrub (polderOf n) s (s.parkMove n) := by
  dsimp only [parkMove]
  refine .trans (s.onPolder_keepsScrub _ ?_) (.trans (setPort_keepsScrub _ _ n _) (.trans (repeatLeft_keepsScrub _ _ _)
    (.trans (gaugeFollow_keepsScrub _ _ n) (.trans (applyClass_keepsScrub _ _ n) (parkNote_keepsScrub _ _ n)))))
  exact (Polder.onRegion_scrubState _ _ _).trans (Polder.onRegion_scrubState _ _ _)

theorem parkPort_keepsScrub (n : PortId) (cause : BitVec 2) : KeepsScrub (polderOf n) s (s.parkPort n cause) :=
  (s.setPort_keepsScrub _ n _).trans (parkMove_keepsScrub _ n)

theorem polderOf_portAt (q : PolderId) (pos : PosId) : polderOf (portAt q pos) = q := by
  rw [Fin.ext_iff]
  simp only [polderOf, portAt]
  omega

/-- The port of a position is parked. -/
theorem parkAt_keepsScrub (q : PolderId) (pos : PosId) (cause : BitVec 2) :
    KeepsScrub q s (s.parkPort (portAt q pos) cause) := by
  have h := s.parkPort_keepsScrub (portAt q pos) cause
  rwa [polderOf_portAt] at h

theorem migrateTo_keepsScrub (q : PolderId) (pos : PosId) (r : RegionId) (slot cause : BitVec 4) :
    KeepsScrub q s (s.migrateTo q pos r slot cause) := by
  dsimp only [migrateTo]
  split
  · exact s.startSwitch_keepsScrub q _
  · exact s.startLoad_keepsScrub q _

theorem dropPrepare_keepsScrub (q : PolderId) : KeepsScrub q s (s.dropPrepare q) := by
  unfold dropPrepare
  split
  · exact .trans (s.setPort_keepsScrub q _ _) (.trans (onPolder_keepsScrub _ q rfl) (applyClass_keepsScrub _ q _))
  · exact .refl q s

theorem parkFailing_keepsScrub (q : PolderId) (pos : PosId) (cause : BitVec 4) (idle : Bool) :
    KeepsScrub q s (s.parkFailing q pos cause idle) := by
  dsimp only [parkFailing]
  have hpark := (s.parkAt_keepsScrub q pos 3#2).trans (quarryEvent_keepsScrub _ q 7#4 1#4
    (regionId q s.polders[q].culv[pos].region.toNat) cause)
  split
  · exact hpark.trans (startTrial_keepsScrub _ q _ idle)
  · exact hpark

theorem findRegion_keepsScrub (q : PolderId) (pos : PosId) (slot cause : BitVec 4) :
    KeepsScrub q s (s.findRegion q pos slot cause) := by
  dsimp only [findRegion]
  split
  case h_1 => exact s.migrateTo_keepsScrub q pos _ slot cause
  case h_2 =>
    exact .trans (.ite (s.dropPrepare_keepsScrub q) (.refl q s)) (migrateTo_keepsScrub _ q pos _ slot cause)
  case h_3 =>
    split
    · exact .trans (.trans (.trans (s.parkAt_keepsScrub q _ 2#2) (quarryEvent_keepsScrub _ q _ _ _ cause))
        (onRegion_keepsScrub _ q _ _)) (migrateTo_keepsScrub _ q pos _ slot cause)
    · exact .trans (s.parkAt_keepsScrub q _ 2#2) (quarryEvent_keepsScrub _ q _ _ _ cause)
  case h_4 => exact s.parkFailing_keepsScrub q pos cause false

theorem migRefuse_keepsScrub (q : PolderId) (pos : PosId) (cause : BitVec 4) :
    KeepsScrub q s (s.migRefuse q pos cause) := by
  dsimp only [migRefuse]
  have hrefused (p : Port) := (s.setPort_keepsScrub q (portAt q pos) p).trans (onPolder_keepsScrub _ q
    (f := fun P => P.onRegion P.culv[pos].region.toNat fun R => { R with isolated := true, failing := true })
    (Polder.onRegion_scrubState _ _ _))
  exact .ite ((hrefused _).trans (parkFailing_keepsScrub _ q pos cause true)) (hrefused _)

theorem regionFault_keepsScrub (q : PolderId) (pos : PosId) (cause : BitVec 4) (openGroup : Bool) :
    KeepsScrub q s (s.regionFault q pos cause openGroup) := by
  dsimp only [regionFault]
  split
  · exact .refl q s
  · split
    · split
      · exact .ite (s.startTrial_keepsScrub q _ true) (.refl q s)
      · exact .refl q s
    · have hisolated (c : Prop) [Decidable c] (p : Port) :=
        (KeepsScrub.ite (p := c) (s.onPolder_keepsScrub q (f := fun P => { P with prepared := none }) rfl) (.refl q s)).trans
          (setPort_keepsScrub _ q (portAt q pos) p)
      exact .ite ((hisolated _ _).trans (migRefuse_keepsScrub _ q pos cause))
        (((hisolated _ _).trans (onRegion_keepsScrub _ q _ _)).trans (findRegion_keepsScrub _ q pos _ cause))

theorem plannedSwitch_keepsScrub (q : PolderId) (pos : PosId) (r : RegionId) (kind : SwitchKind) :
    KeepsScrub q s (s.plannedSwitch q pos r kind) :=
  (s.setPort_keepsScrub q _ _).trans (startSwitch_keepsScrub _ q _)

theorem leaveRepeat_keepsScrub (q : PolderId) : KeepsScrub q s (s.leaveRepeat q) := by
  dsimp only [leaveRepeat]
  split
  · exact .refl q s
  · split
    · exact .refl q s
    · split
      · exact s.plannedSwitch_keepsScrub q _ _ _
      · exact s.startLoad_keepsScrub q _

theorem repeatFault_keepsScrub (q : PolderId) (pos : PosId) : KeepsScrub q s (s.repeatFault q pos) :=
  (s.onPolder_keepsScrub q (Polder.onRegion_scrubState _ _ _)).trans (leaveRepeat_keepsScrub _ q)

theorem idleRegionFault_keepsScrub (q : PolderId) (r : RegionId) : KeepsScrub q s (s.idleRegionFault q r) := by
  unfold idleRegionFault
  split
  · exact s.startTrial_keepsScrub q r true
  · exact .refl q s

theorem commonRescue_keepsScrub (q : PolderId) : KeepsScrub q s (s.commonRescue q) := by
  dsimp only [commonRescue]
  split
  · exact .refl q s
  · split
    · exact s.startLoad_keepsScrub q _
    · exact .refl q s

/-! Scrub reads (R245, R247, Table 8.11). -/

/-- After its count a corrected frame leaves the scrub as it stands. -/
theorem scrubCorrected_keepsScrub (q : PolderId) (a : Nat) (hour : Bool) :
    KeepsScrub q (s.onPolder q fun P => { P with scrub := { P.scrub with corr := satInc P.scrub.corr } })
      (s.scrubCorrected q a hour) := by
  dsimp only [scrubCorrected]
  split
  · exact fabEvent_keepsScrub _ q _ _
  · refine .ite ?_ ((fabEvent_keepsScrub _ q _ _).trans (onRegion_keepsScrub _ q _ _))
    split
    · exact .ite ((fabEvent_keepsScrub _ q _ _).trans (onRegion_keepsScrub _ q _ _))
        (((fabEvent_keepsScrub _ q _ _).trans (onRegion_keepsScrub _ q _ _)).trans (repeatFault_keepsScrub _ q _))
    · exact (fabEvent_keepsScrub _ q _ _).trans (onRegion_keepsScrub _ q _ _)

theorem onStandby_scrubState (f : Half → Half) (P : Polder) : (P.onStandby f).scrubState = P.scrubState := by
  unfold Polder.onStandby
  split <;> rfl

/-- After its count an uncorrectable frame leaves the scrub as it stands. -/
theorem scrubUncorrectable_keepsScrub (q : PolderId) (a : Nat) :
    KeepsScrub q (s.onPolder q fun P => { P with scrub := { P.scrub with uncorr := satInc P.scrub.uncorr } })
      (s.scrubUncorrectable q a) := by
  dsimp only [scrubUncorrectable]
  split
  · exact .ite (.ite ((fabEvent_keepsScrub _ q _ _).trans (onPolder_keepsScrub _ q rfl))
        ((fabEvent_keepsScrub _ q _ _).trans (commonRescue_keepsScrub _ q)))
      ((fabEvent_keepsScrub _ q _ _).trans (onPolder_keepsScrub _ q (onStandby_scrubState _ _)))
  · split
    · split
      · exact ((fabEvent_keepsScrub _ q _ _).trans (onRegion_keepsScrub _ q _ _)).trans (regionFault_keepsScrub _ q _ _ _)
      · exact (fabEvent_keepsScrub _ q _ _).trans (onRegion_keepsScrub _ q _ _)
    · exact .ite
        (((fabEvent_keepsScrub _ q _ _).trans (onRegion_keepsScrub _ q _ _)).trans (idleRegionFault_keepsScrub _ q _))
        ((fabEvent_keepsScrub _ q _ _).trans (onRegion_keepsScrub _ q _ _))
    · exact (fabEvent_keepsScrub _ q _ _).trans (onRegion_keepsScrub _ q _ _)

end State

namespace Polder

variable {P : Polder}

/-- A polder whose scrub has gone on by one frame. -/
def scrubGone (P : Polder) : Polder :=
  { P with
    scrub := { P.scrub with pos := BitVec.ofNat 14 P.scrubNext }
    scrubNext := (P.scrubNext + 1) % 16384
    scrubStack := [] }

/-- Where nothing loads and no reading through is open, the scrub reads the next frame (R245). -/
theorem scrubStep_idle (hload : P.loadingAt P.scrubNext = false) (hstack : P.scrubStack = []) :
    P.scrubStep = (P.scrubNext, P.scrubGone) := by
  rw [scrubStep, hload, hstack]
  simp [scrubGone]

/-- The stored row at a frame address. -/
def frameRow (a : Nat) (P : Polder) : BitVec 112 :=
  match FrameAt.of a with
  | .region r f => rowAt P.regions[r].frames f
  | .half b f => rowAt (if b then P.halfB else P.halfA).frames f

/-- The stored row at a frame address changed. -/
def putFrame (a : Nat) (v : BitVec 112) (P : Polder) : Polder :=
  match FrameAt.of a with
  | .region r f => P.onRegion r.val fun R => { R with frames := setRow 288 R.frames f v }
  | .half b f =>
    if b then { P with halfB := { P.halfB with frames := setRow 128 P.halfB.frames f v } }
    else { P with halfA := { P.halfA with frames := setRow 128 P.halfA.frames f v } }

theorem putFrame_scrubState (a : Nat) (v : BitVec 112) (P : Polder) : (P.putFrame a v).scrubState = P.scrubState := by
  unfold putFrame
  split
  · exact onRegion_scrubState _ _ _
  · split <;> rfl

end Polder

namespace State

variable {s : State} {q : PolderId} {upset : BitVec 112} {hour : Bool} {y : BitVec 112}

theorem onPolder_onPolder (q : PolderId) (f g : Polder → Polder) (s : State) :
    (s.onPolder q f).onPolder q g = s.onPolder q fun P => g (f P) := by
  simp [onPolder]

/-- The frame that a scrub read has left in the polder, beside the step of the scrub. -/
def frameRead (q : PolderId) (v : BitVec 112) (s : State) : State :=
  (s.onPolder q fun _ => s.polders[q].scrubGone).onPolder q (Polder.putFrame s.polders[q].scrubNext v)

section
variable (hload : s.polders[q].loadingAt s.polders[q].scrubNext = false) (hstack : s.polders[q].scrubStack = [])
include hload hstack

/-- What a scrub read does with what it finds (R20, R247). -/
theorem fabricScrub_clean
    (hread : rowRead 24 4 (s.polders[q].frameRow s.polders[q].scrubNext ^^^ upset) = .clean y) :
    s.fabricScrub q upset hour = s.frameRead q y := by
  dsimp only [fabricScrub]
  rw [Polder.scrubStep_idle hload hstack]
  dsimp only
  split
  next z hz =>
    cases hread.symm.trans hz
    rfl
  next z hz => cases hread.symm.trans hz
  next hz => cases hread.symm.trans hz

theorem fabricScrub_corrected
    (hread : rowRead 24 4 (s.polders[q].frameRow s.polders[q].scrubNext ^^^ upset) = .corrected y) :
    s.fabricScrub q upset hour = (s.frameRead q y).scrubCorrected q s.polders[q].scrubNext hour := by
  dsimp only [fabricScrub]
  rw [Polder.scrubStep_idle hload hstack]
  dsimp only
  split
  next z hz => cases hread.symm.trans hz
  next z hz =>
    cases hread.symm.trans hz
    rfl
  next hz => cases hread.symm.trans hz

theorem fabricScrub_bad (hread : rowRead 24 4 (s.polders[q].frameRow s.polders[q].scrubNext ^^^ upset) = .bad) :
    ∃ v, s.fabricScrub q upset hour = (s.frameRead q v).scrubUncorrectable q s.polders[q].scrubNext := by
  dsimp only [fabricScrub]
  rw [Polder.scrubStep_idle hload hstack]
  dsimp only
  split
  next z hz => cases hread.symm.trans hz
  next z hz => cases hread.symm.trans hz
  next hz => exact ⟨_, rfl⟩

end

/-- Two changes of a polder that leave its scrub alike. -/
theorem onPolder_keepsScrub_onPolder {f g : Polder → Polder}
    (h : (g s.polders[q]).scrubState = (f s.polders[q]).scrubState) : KeepsScrub q (s.onPolder q f) (s.onPolder q g) := by
  refine ⟨rfl, rfl, fun q' hq => ?_, ?_⟩
  · rw [onPolder_other _ hq, onPolder_other _ hq]
  · rw [onPolder_self, onPolder_self, h]

/-- A count after the read of a frame. -/
theorem frameRead_keepsScrub (v : BitVec 112) {f : PlScrub → PlScrub} :
    KeepsScrub q (s.onPolder q fun P => { P.scrubGone with scrub := f P.scrubGone.scrub })
      ((s.frameRead q v).onPolder q fun P => { P with scrub := f P.scrub }) := by
  rw [frameRead, onPolder_onPolder, onPolder_onPolder]
  refine onPolder_keepsScrub_onPolder ?_
  have hscrub := Polder.putFrame_scrubState s.polders[q].scrubNext v s.polders[q].scrubGone
  obtain ⟨hpl, hnext⟩ := Prod.mk.inj hscrub
  simp only [Polder.scrubState, hpl, hnext]

end State

/-- PL_SCRUB's counts after a read (Table 8.11). -/
def PlScrub.counted (r : RowRead 112) (x : PlScrub) : PlScrub :=
  match r with
  | .clean _ => x
  | .corrected _ => { x with corr := satInc x.corr }
  | .bad => { x with uncorr := satInc x.uncorr }

theorem PlScrub.counted_pos (x : RowRead 112) (c : PlScrub) : (c.counted x).pos = c.pos := by
  cases x <;> rfl

/-- A polder whose scrub has gone on by one frame, read as `x`. -/
def Polder.scrubCounted (x : RowRead 112) (P : Polder) : Polder :=
  { P.scrubGone with scrub := PlScrub.counted x P.scrubGone.scrub }

/-- A scrub read leaves the rest of the device, but what a region fault changes, and counts what it has read. -/
theorem State.fabricScrub_keepsScrub {s : State} {q : PolderId} {upset : BitVec 112} {hour : Bool}
    (hload : s.polders[q].loadingAt s.polders[q].scrubNext = false) (hstack : s.polders[q].scrubStack = []) :
    KeepsScrub q (s.onPolder q (Polder.scrubCounted (rowRead 24 4 (s.polders[q].frameRow s.polders[q].scrubNext ^^^ upset))))
      (s.fabricScrub q upset hour) := by
  cases hread : rowRead 24 4 (s.polders[q].frameRow s.polders[q].scrubNext ^^^ upset) with
  | clean y =>
    rw [fabricScrub_clean hload hstack hread]
    exact onPolder_keepsScrub (s.onPolder q fun _ => s.polders[q].scrubGone) q (Polder.putFrame_scrubState _ _ _)
  | corrected y =>
    rw [fabricScrub_corrected hload hstack hread]
    exact (frameRead_keepsScrub y).trans (scrubCorrected_keepsScrub _ q _ hour)
  | bad =>
    obtain ⟨v, hv⟩ := fabricScrub_bad (hour := hour) hload hstack hread
    rw [hv]
    exact (frameRead_keepsScrub v).trans (scrubUncorrectable_keepsScrub _ q _)

/-! The scrub of the template store (R246). -/

namespace State

variable {s : State}

/-- A command that has made no VALID slot BAD leaves nothing to rewrite (R247). -/
theorem noteBad_idle {t : State} (h : ∀ i : Fin 16, ¬ (s.store.slots[i].st = .valid ∧ t.store.slots[i].st = .bad)) :
    s.noteBad t = t := by
  unfold noteBad
  split
  · exact List.foldlRecOn (motive := (· = t)) _ _ rfl fun u hu i _ => by rw [hu, if_neg (h i)]
  · rfl

theorem onSlot_other {t i : SlotId} (h : i ≠ t) (f : TplSlot → TplSlot) : (s.onSlot t f).store.slots[i] = s.store.slots[i] := by
  have hne : (t : Nat) ≠ i := fun heq => h (Fin.ext heq.symm)
  simp [onSlot, hne]

theorem onSlot_self (t : SlotId) (f : TplSlot → TplSlot) (s : State) : (s.onSlot t f).store.slots[t] = f s.store.slots[t] := by
  simp [onSlot]

theorem onSlot_eq_self {t : SlotId} {f : TplSlot → TplSlot} (h : f s.store.slots[t] = s.store.slots[t]) : s.onSlot t f = s := by
  rw [onSlot, h]
  simp

/-- A change of a slot that leaves its state. -/
theorem onSlot_st (t i : SlotId) {f : TplSlot → TplSlot} (h : ∀ x, (f x).st = x.st) :
    (s.onSlot t f).store.slots[i].st = s.store.slots[i].st := by
  by_cases hi : i = t
  · rw [hi, onSlot_self, h]
  · rw [onSlot_other hi]

/-- The scrub of the store gone on by one row of 4,624. -/
def storeGone (s : State) : State := { s with store := { s.store with scrubRow := (s.store.scrubRow + 1) % 4624 } }

/-- A row read with no more than one bad symbol: what slips stands in the words of its slot (R20). -/
theorem storeScrub_read {upset : BitVec 112} {t : SlotId} (hread : foundIn 24 4 0#96 upset ≠ .many)
    (ht : s.store.scrubRow / 289 = t.val) :
    s.storeScrub upset = s.storeGone.onSlot t fun x => { x with
      words := slipRow (s.store.scrubRow % 289) (slip 24 4 upset) x.words } := by
  obtain ⟨t, ht16⟩ := t
  obtain rfl : s.store.scrubRow / 289 = t := ht
  dsimp only [storeScrub]
  split
  case h_1 hmany => exact absurd hmany hread
  case h_2 => exact dif_pos ht16

theorem slipRow_zero (r : Nat) (ws : List Word) : slipRow r 0#96 ws = ws := by
  rw [slipRow, if_pos rfl]

/-- A row that has not changed, or whose one bad symbol is corrected, leaves its slot. -/
theorem storeScrub_quiet {upset : BitVec 112} (hread : foundIn 24 4 0#96 upset ≠ .many) (hslip : slip 24 4 upset = 0#96) :
    s.storeScrub upset = s.storeGone := by
  by_cases ht : s.store.scrubRow / 289 < 16
  · rw [storeScrub_read (t := ⟨_, ht⟩) hread rfl, hslip]
    refine onSlot_eq_self ?_
    rw [slipRow_zero]
  · dsimp only [storeScrub]
    split
    case h_1 hmany => exact absurd hmany hread
    case h_2 => exact dif_neg ht

/-- A slot that a row of the scrub has found uncorrectable: BAD, written and checked no longer (R247). -/
def slotLost (t : SlotId) (s : State) : State :=
  let s := (s.onSlot t fun x => { x with st := .bad }).slotLeft t
  { s with store := { s.store with stat := { s.store.stat with storeUncorr := true } } }

theorem storeScrub_many {upset : BitVec 112} {t : SlotId} (hmany : foundIn 24 4 0#96 upset = .many)
    (ht : s.store.scrubRow / 289 = t.val) : ∃ pl, s.storeScrub upset = (s.storeGone.slotLost t).fabEvent 5#6 pl := by
  obtain ⟨t, ht16⟩ := t
  obtain rfl : s.store.scrubRow / 289 = t := ht
  dsimp only [storeScrub]
  split
  case h_1 => exact ⟨_, dif_pos ht16⟩
  case h_2 hread => exact absurd hmany hread

/-- A lost slot changes the store and, for its event, queue 243. -/
theorem slotLost_eq (t : SlotId) (pl : W36) (s : State) :
    { (s.storeGone.slotLost t).fabEvent 5#6 pl with sysq := s.sysq } = { s with store := { s.store with
      scrubRow := (s.store.scrubRow + 1) % 4624
      writing := s.store.writing.filter (· ≠ t)
      checking := s.store.checking.filter (· ≠ t)
      stat := { s.store.stat with storeUncorr := true }
      slots := s.store.slots.set t { s.store.slots[t] with st := .bad } } } := by
  simp only [slotLost, storeGone, onSlot, slotLeft, fabEvent, pushSys, onSysq]

/-- What a lost slot leaves behind when the supervisor has made of it what it can (R247). -/
def LeftLost (t : SlotId) (s u : State) : Prop :=
  u.store.stat.storeUncorr = true ∧ u.store.scrubRow = (s.store.scrubRow + 1) % 4624 ∧
    (u.store.slots[t].st = .bad ∨ u.store.slots[t].st = .writing) ∧
    (∀ i : SlotId, i ≠ t → u.store.slots[i] = s.store.slots[i]) ∧ u.polders = s.polders ∧ u.cores = s.cores

theorem slotLost_leftLost (t : SlotId) (pl : W36) (s : State) : LeftLost t s ((s.storeGone.slotLost t).fabEvent 5#6 pl) :=
  have hself := onSlot_self t (fun x => { x with st := .bad }) s.storeGone
  have hother (i : SlotId) (hi : i ≠ t) := onSlot_other (s := s.storeGone) hi fun x => { x with st := .bad }
  ⟨rfl, rfl, .inl (congrArg TplSlot.st hself), hother, rfl, rfl⟩

/-- The rewriting of the slot from flash. -/
theorem LeftLost.rewriteSlot {t : SlotId} {u : State} (h : LeftLost t s u) : LeftLost t s (u.rewriteSlot t) := by
  obtain ⟨huncorr, hrow, -, hothers, hpolders, hcores⟩ := id h
  dsimp only [State.rewriteSlot]
  split
  · exact h
  · refine ⟨huncorr, hrow, .inr ?_, fun i hi => ?_, hpolders, hcores⟩
    · dsimp only
      rw [onSlot_self]
    · dsimp only
      rw [onSlot_other hi, hothers i hi]

theorem LeftLost.noteBad {t : SlotId} {u : State} (h : LeftLost t s u) : LeftLost t s (s.noteBad u) := by
  unfold State.noteBad
  split
  · refine List.foldlRecOn (motive := LeftLost t s) _ _ h fun v hv i _ => ?_
    split
    case isTrue hnew =>
      obtain ⟨hvalid, hbad⟩ := hnew
      obtain ⟨-, -, -, hothers, -, -⟩ := id hv
      have hi : i = t := not_not.mp fun hne => by
        rw [hothers i hne, hvalid] at hbad
        cases hbad
      rw [hi]
      exact hv.rewriteSlot
    case isFalse => exact hv
  · exact h

end State

/-- Settles O31: a read goes on by one row whatever it finds, and what follows from what it finds keeps the scrub. -/
theorem fabricScrubs : Obligations.FabricScrubs := by
  unfold Obligations.FabricScrubs
  intro s
  refine ⟨?fabric, ?quiet, ?slipped, ?lost, ?rewritten⟩
  case fabric =>
    intro q upset hour a P hdie hnext ha hload hstack row
    subst hnext
    have hkeeps := (State.fabricScrub_keepsScrub (upset := upset) (hour := hour) hload hstack).trans
      (State.noted_keepsScrub q s _)
    obtain ⟨hstore, hcores, hothers, hscrub⟩ := hkeeps
    rw [State.onPolder_self] at hscrub
    obtain ⟨hpl, hgone⟩ := Prod.mk.inj hscrub
    refine ⟨_, congrArg (fun t => Host.Outcome.next (s.noted t)) (if_pos hdie), ?_, hgone, ?_, ?_, fun _ => hstore, hcores⟩
    · rw [hpl]
      exact PlScrub.counted_pos _ _
    · have hcounted : (s.noted (s.fabricScrub q upset hour)).polders[q].scrub =
        PlScrub.counted (rowRead 24 4 row) P.scrubGone.scrub := hpl
      rw [hcounted]
      cases rowRead 24 4 row <;> exact ⟨rfl, rfl⟩
    · exact fun q' hq => (hothers q' hq).trans (s.onPolder_other hq _)
  case quiet =>
    intro upset hread hslip
    refine congrArg Host.Outcome.next ?_
    rw [State.storeScrub_quiet hread hslip]
    exact State.noteBad_idle fun i h => by cases h.1.symm.trans h.2
  case slipped =>
    intro upset t hread ht
    refine congrArg Host.Outcome.next ?_
    rw [State.storeScrub_read hread ht]
    refine State.noteBad_idle fun i ⟨hvalid, hbad⟩ => ?_
    have hst := State.onSlot_st (s := s.storeGone) t i (f := fun x => { x with
      words := slipRow (s.store.scrubRow % 289) (slip 24 4 upset) x.words }) fun _ => rfl
    cases hvalid.symm.trans (hst.symm.trans hbad)
  case lost =>
    intro upset t hmany ht hkeep
    obtain ⟨pl, hlost⟩ := State.storeScrub_many hmany ht
    refine ⟨_, congrArg (fun u => Host.Outcome.next (s.noteBad u)) hlost, ?_⟩
    have hidle : s.noteBad ((s.storeGone.slotLost t).fabEvent 5#6 pl) = (s.storeGone.slotLost t).fabEvent 5#6 pl := by
      rcases hkeep with hrole | hst
      · exact if_neg (Bool.eq_false_iff.mp hrole)
      · obtain ⟨-, -, -, hothers, -, -⟩ := State.slotLost_leftLost t pl s
        refine State.noteBad_idle fun i ⟨hvalid, hbad⟩ => ?_
        have hi : i ≠ t := fun h => hst (h ▸ hvalid)
        rw [hothers i hi] at hbad
        cases hvalid.symm.trans hbad
    exact (congrArg (fun u : State => { u with sysq := s.sysq }) hidle).trans (State.slotLost_eq t pl s)
  case rewritten =>
    intro upset t hmany ht
    obtain ⟨pl, hlost⟩ := State.storeScrub_many hmany ht
    exact ⟨_, congrArg (fun u => Host.Outcome.next (s.noteBad u)) hlost, (State.slotLost_leftLost t pl s).noteBad⟩

end Sys2Proof.Machine
end

section
/-! What the operations that the port statements share leave behind: the events that stand, what the end of a session keeps,
and the ways out of a session (R59, R63, R64, R495). -/

namespace Sys2Proof.Machine

namespace Port

/-- The events that `p` shows in P_EVT stand in `q` too. -/
def KeepsEvents (p q : Port) : Prop := ∀ e, p.flagged e = true → q.flagged e = true

namespace KeepsEvents

variable {p q r : Port}

theorem refl (p : Port) : KeepsEvents p p := fun _ h => h
theorem trans (h : KeepsEvents p q) (k : KeepsEvents q r) : KeepsEvents p r := fun e he => k e (h e he)

theorem of_evt (h : q.evt = p.evt) : KeepsEvents p q := by
  intro e he
  unfold flagged at he ⊢
  rwa [h]

end KeepsEvents

theorem post_keepsEvents (e : PEvent) (pl : W36) (p : Port) : KeepsEvents p (p.post e pl) :=
  fun _ h => flagged_post_of p pl h

theorem endAttach_keepsEvents (c : BitVec 3) (p : Port) : KeepsEvents p (p.endAttach c) := by
  intro e he
  unfold endAttach
  dsimp only
  split
  · exact flagged_post_of _ _ he
  · exact he

/-- An announced attach ends with TC_DETACH (R495). -/
theorem endAttach_tcDetach {c : BitVec 3} {p : Port} (h : p.rg.announced = true) :
    (p.endAttach c).flagged .tcDetach = true := by
  have he : p.endAttach c = Port.post .tcDetach (pay 0 c) { p with
      tc := { p.tc with detachCause := c, dbAttach := false }, rg := { p.rg with announced := false } } := if_pos h
  rw [he]
  exact flagged_post_self _ _ _

/-! What the end of a session keeps of the registers and the front end. -/

/-- P_CC, the front end and P_SLUICE without what the end of a session changes in them. -/
def steady (p : Port) : PCc × FrontEnd × PSluice :=
  ({ p.cc with cc1Line := 0#3, cc2Line := 0#3, polarity := false, vconnOn := false },
   { p.fe with path := .none, dis := .off, slowInt := 0, fastPass := false, measureVoid := false, vcnDriven := false,
               fdetLatch := false, fdetBlank := false, preBias := false },
   { p.sluice with fullEnh := false })

theorem setLineCode_steady (a : Bool) (c : BitVec 3) (p : Port) : (p.setLineCode a c).steady = p.steady := by
  unfold setLineCode
  split <;> rfl

theorem airEnd_steady (p : Port) : p.airEnd.steady = p.steady := by
  unfold airEnd
  split
  · exact setLineCode_steady _ _ _
  · rfl

theorem vcnOff_steady (p : Port) : p.vcnOff.steady = p.steady := by
  unfold vcnOff
  split
  · exact setLineCode_steady _ _ p
  · rfl

theorem discharge_steady (p : Port) : p.discharge.steady = p.steady := by
  unfold discharge
  split <;> rfl

theorem clearContract_steady (p : Port) : p.clearContract.steady = p.steady := by
  unfold clearContract autoSlowIdle
  split <;> rfl

theorem clearPd_steady (p : Port) : p.clearPd.steady = p.steady := airEnd_steady p

theorem endSession_steady (p : Port) : p.endSession.steady = p.steady := by
  have hhold : (p.airEnd.hold.vsetZero.vcnOff).steady = p.steady := by
    rw [vcnOff_steady]
    exact airEnd_steady p
  have hrest (q : Port) : q.sessionClear.clearContract.clearPd.roleEnd.steady = q.steady := by
    have hrole (q : Port) : q.roleEnd.steady = q.steady := rfl
    rw [hrole, clearPd_steady, clearContract_steady]
    rfl
  unfold endSession
  rw [hrest]
  split
  · exact hhold
  · rw [discharge_steady, hhold]

theorem endSession_enable (p : Port) : p.endSession.cc.enable = p.cc.enable :=
  (congrArg (fun x => x.1.enable) (endSession_steady p) :)

/-- The port type that the next Unattached takes lies in PORT_TYPE, SENSE_MODE and the island's template (R64). -/
theorem latchCfg_typeOf_congr {p q : Port} (hsense : q.sluice.senseMode = p.sluice.senseMode)
    (hisland : q.islandSink = p.islandSink) (htype : q.cc.portType = p.cc.portType) :
    q.latchCfg.typeOf = p.latchCfg.typeOf := by
  unfold typeOf onRes latchCfg
  rw [hsense, hisland, htype]

/-! The ways out of a session. -/

@[simp] theorem ladderClear_fe (p : Port) : p.ladderClear.fe = p.fe := rfl
@[simp] theorem ladderClear_cc (p : Port) : p.ladderClear.cc = p.cc := rfl
@[simp] theorem ladderClear_tc (p : Port) : p.ladderClear.tc = p.tc := rfl
@[simp] theorem ladderClear_vset (p : Port) : p.ladderClear.vset = p.vset := rfl
@[simp] theorem ladderClear_contract (p : Port) : p.ladderClear.contract = p.contract := rfl
@[simp] theorem ladderClear_partner (p : Port) : p.ladderClear.partner = p.partner := rfl
@[simp] theorem ladderClear_evt (p : Port) : p.ladderClear.evt = p.evt := rfl
@[simp] theorem ladderClear_sluice (p : Port) : p.ladderClear.sluice = p.sluice := rfl
@[simp] theorem ladderClear_islandSink (p : Port) : p.ladderClear.islandSink = p.islandSink := rfl
@[simp] theorem ladderClear_announced (p : Port) : p.ladderClear.rg.announced = p.rg.announced := rfl
@[simp] theorem ccPathClear_fe (p : Port) : p.ccPathClear.fe = p.fe := rfl
@[simp] theorem ccPathClear_cc (p : Port) : p.ccPathClear.cc = p.cc := rfl
@[simp] theorem ccPathClear_vset (p : Port) : p.ccPathClear.vset = p.vset := rfl
@[simp] theorem ccPathClear_contract (p : Port) : p.ccPathClear.contract = p.contract := rfl
@[simp] theorem ccPathClear_partner (p : Port) : p.ccPathClear.partner = p.partner := rfl

/-- A port `q` that an end of a session with cause `c` left of `p`: both pairs hold, VSET is at duty zero, VCONN is off, the
contract and P_PARTNER are gone, and an announced attach has its TC_DETACH (R59, R63, R126, R136, R137, R495). -/
def EndedWith (c : BitVec 3) (p q : Port) : Prop :=
  q.tc.detachCause = c ∧ q.fe.path = .none ∧ q.vset.duty = 0#12 ∧ q.cc.vconnOn = false ∧ q.fe.vcnDriven = false ∧
    q.contract = PContract.reset ∧ q.partner = PPartner.reset ∧ (p.rg.announced = true → q.flagged .tcDetach = true)

/-- What `endSession_spec` says of a port, as one tuple. -/
def Over (announced : Bool) (p : Port) : Prop :=
  p.ended = (.none, 0#12, false, PPartner.reset, false, false, announced) ∧ p.contract = PContract.reset

theorem endSession_over (p : Port) : p.endSession.Over p.rg.announced := endSession_spec p

/-- A session that is over ends its attach with cause `c` (R495). -/
theorem Over.endAttach {p q : Port} (h : q.Over p.rg.announced) (c : BitVec 3) : EndedWith c p (q.endAttach c) := by
  obtain ⟨hended, hcontract⟩ := h
  simp only [ended, Prod.mk.injEq] at hended
  obtain ⟨hpath, hduty, hvcn, hpartner, -, hvconn, hann⟩ := hended
  refine ⟨?_, ?_, ?_, ?_, ?_, ?_, ?_, fun hp => endAttach_tcDetach (hann.trans hp)⟩
  · simp
  · simpa using hpath
  · simpa using hduty
  · simpa using hvconn
  · simpa using hvcn
  · simpa using hcontract
  · simpa using hpartner

/-- A change of the Type-C state, and of timers, takes nothing of that back. -/
theorem EndedWith.of_fields {c : BitVec 3} {p q r : Port} (h : EndedWith c p q)
    (htc : r.tc.detachCause = q.tc.detachCause) (hfe : r.fe = q.fe) (hvset : r.vset = q.vset) (hcc : r.cc = q.cc)
    (hcontract : r.contract = q.contract) (hpartner : r.partner = q.partner) (hevt : r.evt = q.evt) : EndedWith c p r := by
  obtain ⟨hcause, hpath, hduty, hvconn, hvcn, hcon, hpart, hevent⟩ := h
  exact ⟨htc ▸ hcause, hfe ▸ hpath, hvset ▸ hduty, hcc ▸ hvconn, hfe ▸ hvcn, hcontract ▸ hcon, hpartner ▸ hpart,
    fun hp => KeepsEvents.of_evt hevt _ (hevent hp)⟩

theorem EndedWith.bare {c : BitVec 3} {p q : Port} (h : EndedWith c p q) : EndedWith c p q.bare :=
  h.of_fields rfl rfl rfl rfl rfl rfl rfl

theorem EndedWith.toUnattached {c : BitVec 3} {p q : Port} (h : EndedWith c p q) : EndedWith c p q.toUnattached := by
  unfold Port.toUnattached
  exact h.of_fields (by simp) (by simp) (by simp) (by simp) (by simp) (by simp) (by simp)

theorem EndedWith.toState {c : BitVec 3} {p q : Port} (h : EndedWith c p q) (st : TcState) : EndedWith c p (q.toState st) :=
  h.of_fields rfl rfl rfl rfl rfl rfl rfl

/-- Detach with its cause (R59). -/
theorem detach_endedWith (c : BitVec 3) (p : Port) : EndedWith c p (p.detach c) := by
  unfold detach
  refine EndedWith.toUnattached (Over.endAttach ?_ c)
  split <;> exact endSession_over p

/-- After a detach the port is in the Unattached state of its type (R44). -/
theorem detach_state (c : BitVec 3) (p : Port) :
    (p.detach c).tc.state = if p.latchCfg.typeOf = 0#2 then .unattachedSrc else .unattachedSnk := by
  have htype : ∀ q : Port, q.sluice.senseMode = p.endSession.sluice.senseMode → q.islandSink = p.endSession.islandSink →
      q.cc.portType = p.endSession.cc.portType → q.latchCfg.typeOf = p.latchCfg.typeOf := fun q hs hi ht =>
    latchCfg_typeOf_congr (hs.trans (congrArg (fun x => x.2.2.senseMode) (endSession_steady p) :))
      (hi.trans (endSession_islandSink p)) (ht.trans (congrArg (fun x => x.1.portType) (endSession_steady p) :))
  unfold detach
  dsimp only
  rw [toUnattached_state, htype]
  · split <;> simp [ccPathClear]
  · split <;> simp [ccPathClear]
  · split <;> simp

/-- A session that is over on the way to ErrorRecovery: NoResponseTimer stops and HR_COUNT is zero (R96). -/
def recovering (p : Port) : Port :=
  { p.endSession.stop .noResponse with pdstat := { p.endSession.pdstat with hrCount := 0#2 } }

theorem toErrorRecovery_eq (p : Port) :
    p.toErrorRecovery = ((p.recovering.endAttach 7#3).toState .errorRecovery).start .errorRecovery := rfl

theorem toErrorRecovery_endedWith (p : Port) : EndedWith 7#3 p p.toErrorRecovery := by
  have hover : p.recovering.Over p.rg.announced := endSession_over p
  rw [toErrorRecovery_eq]
  exact ((hover.endAttach 7#3).toState .errorRecovery).of_fields rfl rfl rfl rfl rfl rfl rfl

@[simp] theorem toErrorRecovery_state (p : Port) : p.toErrorRecovery.tc.state = .errorRecovery := by
  simp [toErrorRecovery]

@[simp] theorem toErrorRecovery_trip (p : Port) : p.toErrorRecovery.trip = p.trip := by
  simp [toErrorRecovery]

theorem toErrorRecovery_timer (p : Port) : p.toErrorRecovery.timerOn .errorRecovery = true := by
  simp [toErrorRecovery]

/-- Both pairs hold in ErrorRecovery (Table 2.3). -/
theorem toErrorRecovery_path (p : Port) : p.toErrorRecovery.fe.path = .none := p.toErrorRecovery_endedWith.2.1

theorem toErrorRecovery_steady (p : Port) : p.toErrorRecovery.steady = p.steady := by
  have hend : p.toErrorRecovery.steady = p.endSession.steady := by simp [toErrorRecovery, steady]
  rw [hend, endSession_steady]

theorem detach_keepsEvents (c : BitVec 3) (p : Port) : KeepsEvents p (p.detach c) := by
  unfold detach toUnattached
  dsimp only
  refine .trans (.of_evt ?_) (.trans (endAttach_keepsEvents c _) (.of_evt (toUnattachedSt_evt _ _)))
  split <;> exact endSession_evt p

theorem toErrorRecovery_keepsEvents (p : Port) : KeepsEvents p p.toErrorRecovery := by
  rw [toErrorRecovery_eq]
  have hsession : KeepsEvents p p.recovering := .of_evt (endSession_evt p)
  exact hsession.trans (endAttach_keepsEvents 7#3 _)

/-- Disabled is entered with its cause from any other state (R64). -/
theorem toDisabled_endedWith (c : BitVec 3) {p : Port} (h : p.tc.state ≠ .disabled) :
    EndedWith c p (p.toDisabled c) ∧ (p.toDisabled c).tc.state = .disabled ∧ (p.toDisabled c).cc.enable = p.cc.enable := by
  have hover (q : Port) (hq : q.Over p.rg.announced) : q.discharge.Over p.rg.announced :=
    ⟨(discharge_ended q).trans hq.1, (show q.discharge.contract = q.contract by unfold discharge; split <;> rfl).trans hq.2⟩
  have hcc (q : Port) : q.discharge.cc = q.cc := by unfold discharge; split <;> rfl
  unfold toDisabled
  rw [if_neg h]
  dsimp only
  refine ⟨EndedWith.toState (Over.endAttach ?_ c) _, rfl, ?_⟩
  · split
    · exact hover _ (endSession_over p)
    · exact endSession_over p
  · split <;> simp [hcc, endSession_enable]

end Port

end Sys2Proof.Machine
end

section
/-! The clauses of O1: the exits of the Type-C machine by its lines (R42, R47, R48, R59, Table 2.3). -/

namespace Sys2Proof.Machine

/-! The classes of the lines (Table 2.2). -/

theorem classRp_default {mv : Nat} (h1 : 200 ≤ mv) (h2 : mv < 1600) : classRp 0#2 mv = lineRd :=
  (if_neg (show ¬ mv < 200 by omega)).trans (if_pos h2)

/-- From 0.8 V to 1.6 V a line shows SRC.Rd at every Rp level. -/
theorem classRp_rd (lvl : BitVec 2) {mv : Nat} (h1 : 800 ≤ mv) (h2 : mv < 1600) : classRp lvl mv = lineRd := by
  have hbounds : (rpBounds lvl).1 ≤ mv ∧ mv < (rpBounds lvl).2 := by
    unfold rpBounds
    (repeat' split) <;> omega
  exact (if_neg (Nat.not_lt.mpr hbounds.1)).trans (if_pos hbounds.2)

/-- From 2.6 V a line shows SRC.Open at every Rp level. -/
theorem classRp_open (lvl : BitVec 2) {mv : Nat} (h : 2600 ≤ mv) : classRp lvl mv = lineOpen := by
  have hbounds : (rpBounds lvl).1 ≤ mv ∧ (rpBounds lvl).2 ≤ mv := by
    unfold rpBounds
    (repeat' split) <;> omega
  exact (if_neg (Nat.not_lt.mpr hbounds.1)).trans (if_neg (Nat.not_lt.mpr hbounds.2))

/-- From 0.2 V a line on which the device presents Rd shows an Rp. -/
theorem classRd_isRp {mv : Nat} (h : 200 ≤ mv) : isRp (classRd mv) = true ∧ 3 ≤ (classRd mv).toNat := by
  unfold classRd
  rw [if_neg (by omega)]
  (repeat' split) <;> decide

namespace Port

/-! What a sample of both lines leaves (R42, Table 2.7). -/

theorem setLines_quiet {p : Port} (h : p.onAir = false) (v1 v2 : Nat) :
    p.setLines v1 v2 = { p with cc := { p.cc with cc1Line := p.classify false v1, cc2Line := p.classify true v2 } } :=
  if_neg (Bool.eq_false_iff.mp h)

theorem classify_rp {p : Port} {second : Bool} (hfree : ¬ ((p.cc.vconnOn ∨ p.tc.state = .attachedSrc) ∧ p.cc.polarity ≠ second))
    (hrp : p.presentsRp = true) (mv : Nat) : p.classify second mv = classRp p.rpLevel mv :=
  (if_neg hfree).trans (if_pos hrp)

theorem classify_rd {p : Port} {second : Bool} (hfree : ¬ ((p.cc.vconnOn ∨ p.tc.state = .attachedSrc) ∧ p.cc.polarity ≠ second))
    (hrp : p.presentsRp = false) (hrd : p.presentsRd = true) (mv : Nat) : p.classify second mv = classRd mv :=
  (if_neg hfree).trans ((if_neg (Bool.eq_false_iff.mp hrp)).trans (if_pos hrd))

/-- Off the attached states a line without VCONN shows its class. -/
theorem line_free {p : Port} {second : Bool} {st : TcState} (hst : p.tc.state = st) (hsrc : st ≠ .attachedSrc)
    (hv : p.cc.vconnOn = false) : ¬ ((p.cc.vconnOn ∨ p.tc.state = .attachedSrc) ∧ p.cc.polarity ≠ second) := by
  simp [hst, hsrc, hv]

theorem presentsRp_unattachedSrc {p : Port} (h : p.tc.state = .unattachedSrc) : p.presentsRp = true := by simp [presentsRp, h]

theorem presents_unattachedSnk {p : Port} (h : p.tc.state = .unattachedSnk) : p.presentsRp = false ∧ p.presentsRd = true := by
  simp [presentsRp, presentsRd, h]

/-! The debounced states. -/

/-- Of P_CC a noted cable touches CABLE_ONLY alone (R58). -/
theorem noteCable_cc (p : Port) : { p.noteCable.cc with cableOnly := p.cc.cableOnly } = p.cc := by
  unfold noteCable
  split
  · rfl
  · rw [post_cc]

theorem startDebounce_cc (p : Port) : { p.startDebounce.cc with cableOnly := p.cc.cableOnly } = p.cc := by
  unfold startDebounce
  simp only
  repeat' split
  all_goals simp [noteCable_cc]

@[simp] theorem startDebounce_cc1Line (p : Port) : p.startDebounce.cc.cc1Line = p.cc.cc1Line :=
  (congrArg PCc.cc1Line (startDebounce_cc p) :)

/-- The debounces that the lines may start. -/
def debounces : List TimerId := [.ccDebounce, .pdDebounce, .tryCcDebounce]

theorem exitDue_mem {p : Port} {t : TimerId} {x : Pattern} (h : p.exitDue = some (t, x)) : t ∈ debounces := by
  revert h
  unfold exitDue
  dsimp only
  repeat' split
  all_goals simp [debounces]
  all_goals (intro ht; simp [← ht])

/-- The debounces and tSRCDisconnect apart, the timers run on. -/
theorem startDebounce_timerOn {t : TimerId} (ht : t ∉ debounces) (hsrc : t ≠ .srcDisconnect) (p : Port) :
    p.startDebounce.timerOn t = p.timerOn t := by
  have hnote : p.noteCable.timerOn t = p.timerOn t := by simp [timerOn]
  unfold startDebounce
  extract_lets q
  have hq : q.timerOn t = p.timerOn t := by
    dsimp only [q]
    split
    · exact hnote
    · rfl
  split
  · (repeat' split) <;> simp [hsrc, hq]
  · split
    next u _ hdue =>
      have hu : t ≠ u := fun h => ht (h ▸ exitDue_mem hdue)
      simp [hu, hq]
    next => exact hq

/-! The exits of the unattached states. -/

theorem toDebounced_entered (st : TcState) (p : Port) :
    (p.toDebounced st).tc.state = st ∧ (p.toDebounced st).tc.prevState = p.tc.state ∧
      (p.toDebounced st).cc.cc1Line = p.cc.cc1Line := by
  simp [toDebounced]

/-- SRC.Rd on CC1 takes an unattached source port to AttachWait.SRC. -/
theorem unattachedExit_src {p : Port} (hst : p.tc.state = .unattachedSrc) (hline : p.cc.cc1Line = lineRd) :
    p.unattachedExit.tc.state = .attachWaitSrc ∧ p.unattachedExit.tc.prevState = .unattachedSrc ∧
      p.unattachedExit.cc.cc1Line = 2#3 := by
  have hexit : p.unattachedExit = p.toDebounced .attachWaitSrc := by simp [unattachedExit, hst, hline]
  obtain ⟨hstate, hprev, hcc⟩ := toDebounced_entered .attachWaitSrc p
  rw [hexit]
  exact ⟨hstate, hprev.trans hst, hcc.trans hline⟩

/-- An Rp on CC1 takes an unattached sink port to AttachWait.SNK. -/
theorem unattachedExit_snk {p : Port} (hst : p.tc.state = .unattachedSnk) (hline : isRp p.cc.cc1Line = true)
    (hcode : 3 ≤ p.cc.cc1Line.toNat) :
    p.unattachedExit.tc.state = .attachWaitSnk ∧ p.unattachedExit.tc.prevState = .unattachedSnk ∧
      3 ≤ p.unattachedExit.cc.cc1Line.toNat := by
  have hexit : p.unattachedExit = p.toDebounced .attachWaitSnk := by simp [unattachedExit, hst, hline]
  obtain ⟨hstate, hprev, hcc⟩ := toDebounced_entered .attachWaitSnk p
  rw [hexit]
  exact ⟨hstate, hprev.trans hst, hcc ▸ hcode⟩

/-- A probe of a quiet line is a sample and the exit it asks for; what becomes of probing does not matter to it (R47). -/
theorem probe_quiet {p : Port} (hair : p.onAir = false) (hprobing : p.tc.rpProbing = true) (v1 v2 : Nat) :
    p.probe v1 v2 = Port.unattachedExit { p with
      cc := { p.cc with cc1Line := p.classify false v1, cc2Line := p.classify true v2 },
      tc := { p.tc with rpProbing := p.cc.rpPeriod ≠ 0#4 } } := by
  unfold probe
  rw [if_pos hprobing, setLines_quiet hair]

theorem lineChange_unattached {p : Port} (hair : p.onAir = false) (hprobing : p.tc.rpProbing = false)
    (hst : p.tc.state = .unattachedSrc ∨ p.tc.state = .unattachedSnk) (v1 v2 : Nat) :
    p.lineChange v1 v2 = Port.unattachedExit { p with
      cc := { p.cc with cc1Line := p.classify false v1, cc2Line := p.classify true v2 } } := by
  unfold lineChange
  rw [if_neg (Bool.eq_false_iff.mp hprobing), setLines_quiet hair]
  rcases hst with hst | hst <;> simp only [hst]

/-- A line change has a PD side in Attached.SNK alone (R77, R78). -/
theorem ccLineChange_eq {p : Port} {v1 v2 : Nat} (h : (p.lineChange v1 v2).tc.state ≠ .attachedSnk) :
    p.ccLineChange v1 v2 = p.lineChange v1 v2 := if_neg fun hs => h hs.1

theorem probe_src {p : Port} (hair : p.onAir = false) (hst : p.tc.state = .unattachedSrc) (hprobing : p.tc.rpProbing = true)
    (hv : p.cc.vconnOn = false) {v1 : Nat} (h1 : 200 ≤ v1) (h2 : v1 < 1600) (v2 : Nat) :
    (p.probe v1 v2).tc.state = .attachWaitSrc ∧ (p.probe v1 v2).tc.prevState = .unattachedSrc ∧
      (p.probe v1 v2).cc.cc1Line = 2#3 := by
  have hlevel : p.rpLevel = 0#2 := if_pos ⟨hst, hprobing⟩
  have hline : p.classify false v1 = lineRd := by
    rw [classify_rp (line_free hst (by decide) hv) (presentsRp_unattachedSrc hst), hlevel, classRp_default h1 h2]
  rw [probe_quiet hair hprobing]
  exact unattachedExit_src hst hline

theorem probe_snk {p : Port} (hair : p.onAir = false) (hst : p.tc.state = .unattachedSnk) (hprobing : p.tc.rpProbing = true)
    (hv : p.cc.vconnOn = false) {v1 : Nat} (h : 200 ≤ v1) (v2 : Nat) :
    (p.probe v1 v2).tc.state = .attachWaitSnk ∧ (p.probe v1 v2).tc.prevState = .unattachedSnk ∧
      3 ≤ (p.probe v1 v2).cc.cc1Line.toNat := by
  obtain ⟨hrp, hrd⟩ := presents_unattachedSnk hst
  have hline : p.classify false v1 = classRd v1 := classify_rd (line_free hst (by decide) hv) hrp hrd v1
  rw [probe_quiet hair hprobing, hline]
  exact unattachedExit_snk hst (classRd_isRp h).1 (classRd_isRp h).2

theorem ccLineChange_src {p : Port} (hair : p.onAir = false) (hst : p.tc.state = .unattachedSrc)
    (hprobing : p.tc.rpProbing = false) (hv : p.cc.vconnOn = false) {v1 : Nat} (h1 : 800 ≤ v1) (h2 : v1 < 1600) (v2 : Nat) :
    (p.ccLineChange v1 v2).tc.state = .attachWaitSrc ∧ (p.ccLineChange v1 v2).tc.prevState = .unattachedSrc ∧
      (p.ccLineChange v1 v2).cc.cc1Line = 2#3 := by
  have hline : p.classify false v1 = lineRd := by
    rw [classify_rp (line_free hst (by decide) hv) (presentsRp_unattachedSrc hst), classRp_rd _ h1 h2]
  have hexit := lineChange_unattached hair hprobing (.inl hst) v1 v2
  rw [hline] at hexit
  have hspec := unattachedExit_src (p := { p with cc := { p.cc with cc1Line := lineRd, cc2Line := p.classify true v2 } }) hst rfl
  rw [← hexit] at hspec
  rwa [ccLineChange_eq (by rw [hspec.1]; decide)]

theorem ccLineChange_snk {p : Port} (hair : p.onAir = false) (hst : p.tc.state = .unattachedSnk)
    (hprobing : p.tc.rpProbing = false) (hv : p.cc.vconnOn = false) {v1 : Nat} (h : 200 ≤ v1) (v2 : Nat) :
    (p.ccLineChange v1 v2).tc.state = .attachWaitSnk ∧ (p.ccLineChange v1 v2).tc.prevState = .unattachedSnk ∧
      3 ≤ (p.ccLineChange v1 v2).cc.cc1Line.toNat := by
  obtain ⟨hrp, hrd⟩ := presents_unattachedSnk hst
  have hline : p.classify false v1 = classRd v1 := classify_rd (line_free hst (by decide) hv) hrp hrd v1
  have hexit := lineChange_unattached hair hprobing (.inr hst) v1 v2
  rw [hline] at hexit
  have hspec := unattachedExit_snk (p := { p with cc := { p.cc with cc1Line := classRd v1, cc2Line := p.classify true v2 } })
    hst (classRd_isRp h).1 (classRd_isRp h).2
  rw [← hexit] at hspec
  rwa [ccLineChange_eq (by rw [hspec.1]; decide)]

/-- SRC.Open on the active CC of Attached.SRC starts tSRCDisconnect (R59). -/
theorem startDebounce_srcOpen {p : Port} (hst : p.tc.state = .attachedSrc) (hopen : p.activeClass = lineOpen) :
    p.startDebounce.timerOn .srcDisconnect = true := by
  have hwait : ¬ (p.tc.state = .attachWaitSrc ∧ p.pattern = .raOpen) := fun h => absurd (hst.symm.trans h.1) (by decide)
  unfold startDebounce
  simp only [if_neg hwait, if_pos hst, if_pos hopen]
  split
  next h => exact h
  next => simp

theorem ccLineChange_attachedSrc {p : Port} (hair : p.onAir = false) (hst : p.tc.state = .attachedSrc)
    (hprobing : p.tc.rpProbing = false) (hpol : p.cc.polarity = false) {v1 : Nat} (h : 2600 ≤ v1)
    (v2 : Nat) :
    (p.ccLineChange v1 v2).tc.state = .attachedSrc ∧ (p.ccLineChange v1 v2).cc.cc1Line = 0#3 ∧
      (p.ccLineChange v1 v2).timerOn .srcDisconnect = true := by
  have hline : p.classify false v1 = lineOpen := by
    rw [classify_rp (by simp [hpol]) (by simp [presentsRp, hst]), classRp_open _ h]
  have hchange : p.lineChange v1 v2 =
      Port.startDebounce { p with cc := { p.cc with cc1Line := lineOpen, cc2Line := p.classify true v2 } } := by
    unfold lineChange
    rw [if_neg (Bool.eq_false_iff.mp hprobing), setLines_quiet hair, hline]
    simp only [hst]
  have hstate : (p.lineChange v1 v2).tc.state = .attachedSrc := by rw [hchange]; simpa using hst
  rw [ccLineChange_eq (by rw [hstate]; decide)]
  refine ⟨hstate, by simp [hchange, lineOpen], ?_⟩
  rw [hchange]
  exact startDebounce_srcOpen hst (by simp [activeClass, onAir, lineCode, hpol, lineOpen])

/-- The end of the tDRP half changes the role of an unattached port (R48). -/
theorem drpToggle_snk {p : Port} (ht : p.timerOn .drpHalf = true) (hst : p.tc.state = .unattachedSnk) :
    p.drpToggle.tc.state = .unattachedSrc ∧ p.drpToggle.tc.prevState = .unattachedSnk := by
  simp [drpToggle, ht, hst]

theorem drpToggle_src {p : Port} (ht : p.timerOn .drpHalf = true) (hst : p.tc.state = .unattachedSrc) :
    p.drpToggle.tc.state = .unattachedSnk ∧ p.drpToggle.tc.prevState = .unattachedSrc := by
  simp [drpToggle, ht, hst]

end Port

/-- Settles O1: each exit is the operation of one region on its port, which the lemmas above give case by case. -/
theorem typeCUnattachedExits : Obligations.TypeCUnattachedExits := by
  unfold Obligations.TypeCUnattachedExits
  intro s n p hs hup hair
  refine ⟨?probeSrc, ?probeSnk, ?changeSrc, ?changeSnk, ?toggleSnk, ?toggleSrc, ?opened⟩
  case probeSrc => exact fun v1 v2 hst hpr hv h1 h2 => State.onRegionOf_completes rfl hup hs (Port.probe_src hair hst hpr hv h1 h2 v2)
  case probeSnk => exact fun v1 v2 hst hpr hv h => State.onRegionOf_completes rfl hup hs (Port.probe_snk hair hst hpr hv h v2)
  case changeSrc =>
    exact fun v1 v2 hst hpr hv h1 h2 => State.onRegionOf_completes rfl hup hs (Port.ccLineChange_src hair hst hpr hv h1 h2 v2)
  case changeSnk =>
    exact fun v1 v2 hst hpr hv h => State.onRegionOf_completes rfl hup hs (Port.ccLineChange_snk hair hst hpr hv h v2)
  case toggleSnk => exact fun ht hst => State.onRegionOf_completes rfl hup hs (Port.drpToggle_snk ht hst)
  case toggleSrc => exact fun ht hst => State.onRegionOf_completes rfl hup hs (Port.drpToggle_src ht hst)
  case opened =>
    exact fun v1 v2 hst hpr _ hpol h =>
      State.onRegionOf_completes rfl hup hs (Port.ccLineChange_attachedSrc hair hst hpr hpol h v2)

end Sys2Proof.Machine
end

section
/-! The clauses of O2: the debounces and timers of the Type-C machine (R44, R52, R61, Table 2.3). -/

namespace Sys2Proof.Machine

namespace Port

/-! Entries of the attached states. -/

theorem attachSnk_tc (p : Port) : p.attachSnk.tc = { p.tc with
    state := .attachedSnk, prevState := p.tc.state, rpProbing := false, attachCnt := p.tc.attachCnt + 1#8,
    dbAttach := p.rg.dbStart } := by
  simp [attachSnk, announce, gaugeMark]

theorem announce_tcAttach (p : Port) : p.announce.flagged .tcAttach = true := flagged_post_self _ _ _

theorem attachSnk_tcAttach (p : Port) : p.attachSnk.flagged .tcAttach = true := announce_tcAttach _

theorem attachSnk_polarity (p : Port) : p.attachSnk.cc.polarity = decide (p.pattern = .one2) := by
  simp [attachSnk, announce, gaugeMark]

theorem attachSnk_drole (p : Port) : p.attachSnk.pdstat.drole = false := by
  simp [attachSnk, announce, gaugeMark]

theorem attachSnk_ccDebounce (p : Port) : p.attachSnk.timerOn .ccDebounce = false := by
  have htimers : p.attachSnk.rg.timers = (p.toState .attachedSnk).rg.timers := by simp [attachSnk, announce, gaugeMark]
  unfold timerOn
  rw [htimers]
  simp [toState]

/-- Where VB_SAFE0 is not set an attach as source waits for it with its path as it is (R46). -/
theorem attachSrc_waits (e : Env) {p : Port} (h : p.cc.vbSafe0 = false) :
    (p.attachSrc e).tc.state = .attachedSrc ∧ (p.attachSrc e).tc.attachCnt = p.tc.attachCnt + 1#8 ∧
      (p.attachSrc e).pdstat.drole = true ∧ (p.attachSrc e).fe.path = p.fe.path ∧ (p.attachSrc e).timerOn .vb0Wait = true := by
  simp [attachSrc, gaugeMark, h]

/-! The ends of the timers. -/

/-- tCCDebounce on one line of a sink wait with VBUS present attaches, where the port does not try to source (R52, R61). -/
theorem ccDebounceExpiry_sink (e : Env) {p : Port} (ht : p.timerOn .ccDebounce = true) (hst : p.tc.state = .attachWaitSnk)
    (hone : p.pattern = .one2) (hvb : p.cc.vbPresent = true) (htry : p.trySrcOn = false) :
    p.ccDebounceExpiry e = (p.stop .ccDebounce).attachSnk := by
  have hpattern : (p.stop .ccDebounce).pattern = .one2 := hone
  have hready : (p.stop .ccDebounce).sinkReady = (p.stop .ccDebounce).attachSnk :=
    if_neg fun h => Bool.eq_false_iff.mp htry h.2
  simp [ccDebounceExpiry, ht, hst, hpattern, hvb, hready]

theorem toAccessory_entered (st : TcState) (p : Port) :
    (p.toAccessory st).tc.state = st ∧ (p.toAccessory st).flagged .tcAccessory = true := by
  simp [toAccessory, PEvent.bit]

theorem ccDebounceExpiry_debug (e : Env) {p : Port} (ht : p.timerOn .ccDebounce = true) (hst : p.tc.state = .attachWaitSrc)
    (hboth : p.pattern = .both) : p.ccDebounceExpiry e = (p.stop .ccDebounce).toAccessory .debugSrc := by
  have hpattern : (p.stop .ccDebounce).pattern = .both := hboth
  simp [ccDebounceExpiry, ht, hst, hpattern]

theorem toUnattachedSt_stops {t : TimerId} (ht : t ∈ debounces) (st : TcState) (p : Port) :
    (p.toUnattachedSt st).timerOn t = false := by
  unfold debounces at ht
  unfold toUnattachedSt
  dsimp only
  split <;> fin_cases ht <;> simp [timerOn, toState]

theorem pdDebounceExpiry_src {p : Port} (ht : p.timerOn .pdDebounce = true) (hst : p.tc.state = .attachWaitSrc) :
    p.pdDebounceExpiry = (p.stop .pdDebounce).toUnattached := by
  simp [pdDebounceExpiry, ht, hst]

/-- Try.SNK with both lines open goes to TryWait.SRC. -/
theorem tryCcExpiry_open (e : Env) {p : Port} (ht : p.timerOn .tryCcDebounce = true) (hst : p.tc.state = .trySnk)
    (hopen : p.pattern = .open) : p.tryCcExpiry e = (p.stop .tryCcDebounce).toTryWaitSrc := by
  have hpattern : (p.stop .tryCcDebounce).pattern = .open := hopen
  simp [tryCcExpiry, ht, hst, hpattern]

theorem toTryWaitSrc_entered (p : Port) :
    p.toTryWaitSrc.tc.state = .tryWaitSrc ∧ p.toTryWaitSrc.timerOn .tryTimeout = true := by
  refine ⟨by simp [toTryWaitSrc], ?_⟩
  unfold toTryWaitSrc
  rw [startDebounce_timerOn (by decide) (by decide)]
  simp

theorem tryCcExpiry_attaches (e : Env) {p : Port} (ht : p.timerOn .tryCcDebounce = true) (hst : p.tc.state = .tryWaitSrc) :
    p.tryCcExpiry e = (p.stop .tryCcDebounce).attachSrc e := by
  simp [tryCcExpiry, ht, hst]

theorem drpTryExpiry_src {p : Port} (ht : p.timerOn .drpTry = true) (hst : p.tc.state = .trySrc) :
    p.drpTryExpiry.tc.state = .tryWaitSnk ∧ p.drpTryExpiry.timerOn .drpTry = false := by
  have hexit : p.drpTryExpiry = (p.stop .drpTry).toDebounced .tryWaitSnk := by simp [drpTryExpiry, ht, hst]
  rw [hexit]
  refine ⟨(toDebounced_entered _ _).1, ?_⟩
  unfold toDebounced
  rw [startDebounce_timerOn (by decide) (by decide)]
  simp [timerOn, toState]

theorem tryTimeoutExpiry_src {p : Port} (ht : p.timerOn .tryTimeout = true) (hst : p.tc.state = .tryWaitSrc) :
    p.tryTimeoutExpiry.tc.state = .unattachedSnk ∧ p.tryTimeoutExpiry.tc.prevState = .tryWaitSrc := by
  simp [tryTimeoutExpiry, ht, hst]

/-- ErrorRecovery is left at its end unless a condition stands after CC_SHORT (R155). -/
theorem errorRecoveryExpiry_eq {p : Port} (ht : p.timerOn .errorRecovery = true) (hst : p.tc.state = .errorRecovery) :
    p.errorRecoveryExpiry =
      if p.shortStands then p.stop .errorRecovery else (p.stop .errorRecovery).toUnattached := if_pos ⟨hst, ht⟩

theorem shortStands_iff (p : Port) : p.shortStands = true ↔ p.fe.ccIsolated = true ∧ p.fe.cond ≠ [] := by
  simp [shortStands]

end Port

/-- Settles O2: each timer ends in one exit of the state in which it runs. -/
theorem typeCTimedExits : Obligations.TypeCTimedExits := by
  unfold Obligations.TypeCTimedExits
  intro s n p hs hup
  refine ⟨?sink, ?debug, ?pdDebounce, ?trySnk, ?tryWaitSrc, ?drpTry, ?tryTimeout, ?recovered, ?shorted⟩
  case sink =>
    intro ht hst hone hvb htry
    refine State.onRegionOf_completes rfl hup hs ?_
    rw [Port.ccDebounceExpiry_sink _ ht hst hone hvb htry]
    exact ⟨congrArg PTcstate.state (Port.attachSnk_tc _), congrArg PTcstate.attachCnt (Port.attachSnk_tc _),
      (Port.attachSnk_polarity _).trans (decide_eq_true hone), Port.attachSnk_drole _, Port.attachSnk_tcAttach _,
      Port.attachSnk_ccDebounce _⟩
  case debug =>
    intro ht hst hboth
    refine State.onRegionOf_completes rfl hup hs ?_
    rw [Port.ccDebounceExpiry_debug _ ht hst hboth]
    exact Port.toAccessory_entered _ _
  case pdDebounce =>
    intro ht hst
    refine State.onRegionOf_completes rfl hup hs ?_
    rw [Port.pdDebounceExpiry_src ht hst]
    exact ⟨Port.toUnattached_state _, Port.toUnattachedSt_stops (by decide) _ _⟩
  case trySnk =>
    intro ht hst hopen
    refine State.onRegionOf_completes rfl hup hs ?_
    rw [Port.tryCcExpiry_open _ ht hst hopen]
    exact Port.toTryWaitSrc_entered _
  case tryWaitSrc =>
    intro ht hst hsafe
    refine State.onRegionOf_completes rfl hup hs ?_
    rw [Port.tryCcExpiry_attaches _ ht hst]
    exact Port.attachSrc_waits _ hsafe
  case drpTry => exact fun ht hst => State.onRegionOf_completes rfl hup hs (Port.drpTryExpiry_src ht hst)
  case tryTimeout => exact fun ht hst => State.onRegionOf_completes rfl hup hs (Port.tryTimeoutExpiry_src ht hst)
  case recovered =>
    intro ht hst hfree
    refine State.onRegionOf_completes rfl hup hs ?_
    have hstands : ¬ p.shortStands = true := by
      rw [Port.shortStands_iff]
      rintro ⟨hiso, hcond⟩
      rcases hfree with h | h
      · exact Bool.eq_false_iff.mp h hiso
      · exact hcond h
    rw [Port.errorRecoveryExpiry_eq ht hst, if_neg hstands]
    exact Port.toUnattached_state _
  case shorted =>
    intro ht hst hiso hcond
    refine State.onRegionOf_completes rfl hup hs ?_
    rw [Port.errorRecoveryExpiry_eq ht hst, if_pos ((Port.shortStands_iff p).mpr ⟨hiso, hcond⟩)]
    exact hst

end Sys2Proof.Machine
end

section
/-! The clauses of O4: the detach paths (R59 to R64, R126, Tables 2.5 and 5.6). -/

namespace Sys2Proof.Machine

/-- Where a region serves, a front end stands alone for want of heartbeats only: no PLD runs and the mode is not BOR
(Table 5.6). -/
theorem State.env_alone {s : State} {n : PortId} (h : s.regionUp n = true) :
    (s.env n).alone = s.polders[polderOf n].stat.hbLost := by
  simp only [State.regionUp, State.controlUp, Polder.serves, Bool.and_eq_true, Bool.not_eq_true'] at h
  obtain ⟨⟨⟨⟨⟨⟨hmode, -⟩, ⟨-, hpld⟩, -⟩, -⟩, -⟩, -⟩, -⟩ := h
  have hbor : s.sys.mode ≠ .bor := by
    intro hbor
    rw [hbor] at hmode
    exact absurd hmode (by decide)
  have henv : (s.env n).alone = (s.polders[polderOf n].stat.hbLost || s.polders[polderOf n].pld || decide (s.sys.mode = .bor)) :=
    rfl
  rw [henv, hpld, decide_eq_false hbor, Bool.or_false, Bool.or_false]

namespace Port

/-! The fast-detach flag (R59, R126). -/

/-- The region opens the window of its current test, and clears the flag. -/
def fdetWindow (p : Port) : Port :=
  { p with fe := { p.fe with fdetLatch := false }, rg := { p.rg with fdet := true } }.start .fdetWindow

theorem fdetAct_window {p : Port} (hst : p.tc.state = .attachedSrc) (htrans : p.contract.transPend = false)
    (hswap : p.contract.swap = false) : p.fdetAct = p.fdetWindow := by
  simp [fdetAct, fdetWindow, hst, htrans, hswap]

/-- In a transition or a swap the region detaches at once (R126). -/
theorem fdetAct_detaches {p : Port} (hst : p.tc.state = .attachedSrc) (h : p.contract.transPend = true ∨ p.contract.swap = true) :
    p.fdetAct = Port.detachInTransition { p with fe := { p.fe with fdetLatch := false } } := by
  unfold fdetAct
  rw [if_pos hst]
  exact if_pos h

/-- A flag that stands is acted on, after the front end, where it stands alone, has held the pair itself (Table 5.6). -/
theorem fdetSeen_latched {e : Env} {p : Port} (hup : e.regionUp = true) (hlatch : p.fe.fdetLatch = true) :
    p.fdetSeen e = (if e.alone then p.hold else p).fdetAct := by
  simp [fdetSeen, hlatch, hup]

theorem fdetSeen_quiet (e : Env) {p : Port} (h : p.fe.fdetLatch = false) : p.fdetSeen e = p :=
  if_neg (Bool.eq_false_iff.mp h)

theorem fastDetachLatch_onAir (e : Env) {p : Port} (hst : p.tc.state = .attachedSrc) (hair : p.onAir = true) :
    p.fastDetachLatch e = { p with fe := { p.fe with fdetBlank := true } } := (if_pos hst).trans (if_pos hair)

/-- The front end latches the flag. -/
def fdetFlag (p : Port) : Port := { p with fe := { p.fe with fdetLatch := true } }

theorem fastDetachLatch_offAir (e : Env) {p : Port} (hst : p.tc.state = .attachedSrc) (hair : p.onAir = false) :
    p.fastDetachLatch e = p.fdetFlag.fdetSeen e :=
  (if_pos hst).trans (if_neg (Bool.eq_false_iff.mp hair))

/-- What a detach of `p` with cause `c` leaves, with the Unattached state of its type. -/
def Detached (c : BitVec 3) (p q : Port) : Prop :=
  EndedWith c p q ∧ q.tc.state = if p.latchCfg.typeOf = 0#2 then .unattachedSrc else .unattachedSnk

theorem Detached.bare {c : BitVec 3} {p q : Port} (h : Detached c p q) : Detached c p q.bare := ⟨h.1.bare, h.2⟩

theorem detach_detached (c : BitVec 3) (p : Port) : Detached c p (p.detach c) := ⟨p.detach_endedWith c, p.detach_state c⟩

/-- A detach in a transition reports it first, and is the detach of cause 3 of whatever port differs from `p` neither in its
type nor in whether its attach was announced. -/
theorem detachInTransition_detached {p q : Port} (hann : q.rg.announced = p.rg.announced)
    (htype : q.latchCfg.typeOf = p.latchCfg.typeOf) :
    Detached 3#3 p q.detachInTransition ∧ q.detachInTransition.flagged .detachInTransition = true := by
  unfold detachInTransition
  dsimp only
  generalize hr : q.post .detachInTransition (pay 0 (BitVec.ofNat 12 (q.rg.moving / 20))) = r
  have hrann : r.rg.announced = p.rg.announced := by rw [← hr, post_rg, hann]
  have hrtype : r.latchCfg.typeOf = p.latchCfg.typeOf :=
    Eq.trans (latchCfg_typeOf_congr (by simp [← hr]) (by simp [← hr]) (by simp [← hr])) htype
  obtain ⟨hended, hstate⟩ := r.detach_detached 3#3
  rw [EndedWith, hrann] at hended
  rw [hrtype] at hstate
  exact ⟨⟨hended, hstate⟩, r.detach_keepsEvents 3#3 _ (by rw [← hr]; exact flagged_post_self _ _ _)⟩

/-- A flag that stands in a transition or a swap. -/
theorem fdetSeen_inTransition {e : Env} {p : Port} (hup : e.regionUp = true) (hlatch : p.fe.fdetLatch = true)
    (hst : p.tc.state = .attachedSrc) (h : p.contract.transPend = true ∨ p.contract.swap = true) :
    Detached 3#3 p (p.fdetSeen e) ∧ (p.fdetSeen e).flagged .detachInTransition = true := by
  rw [fdetSeen_latched hup hlatch]
  split
  · rw [fdetAct_detaches (p := p.hold) hst h]
    exact detachInTransition_detached rfl rfl
  · rw [fdetAct_detaches hst h]
    exact detachInTransition_detached rfl rfl

/-- A flag that stands otherwise opens the window; a front end that stands alone has held its pairs. -/
theorem fdetSeen_window {e : Env} {p : Port} (hup : e.regionUp = true) (hlatch : p.fe.fdetLatch = true)
    (hst : p.tc.state = .attachedSrc) (htrans : p.contract.transPend = false) (hswap : p.contract.swap = false) :
    p.fdetSeen e = (if e.alone then p.hold else p).fdetWindow := by
  rw [fdetSeen_latched hup hlatch]
  split
  · exact fdetAct_window (p := p.hold) hst htrans hswap
  · exact fdetAct_window hst htrans hswap

theorem fdetWindow_timer (p : Port) : p.fdetWindow.timerOn .fdetWindow = true := by simp [fdetWindow]

theorem fastDetachLatch_window {e : Env} {p : Port} (hup : e.regionUp = true) (hst : p.tc.state = .attachedSrc)
    (hair : p.onAir = false) (htrans : p.contract.transPend = false) (hswap : p.contract.swap = false) :
    let q := p.fastDetachLatch e
    q.tc = p.tc ∧ q.rg.fdet = true ∧ q.timerOn .fdetWindow = true ∧ q.fe.fdetLatch = false ∧
      (e.alone = true → q.fe.path = .none) ∧ (e.alone = false → q.fe = { p.fe with fdetLatch := false }) := by
  rw [fastDetachLatch_offAir e hst hair, fdetSeen_window (p := p.fdetFlag) hup rfl hst htrans hswap]
  split
  next halone => exact ⟨rfl, rfl, fdetWindow_timer _, rfl, fun _ => rfl, fun h => absurd (halone.symm.trans h) (by decide)⟩
  next halone => exact ⟨rfl, rfl, fdetWindow_timer _, rfl, fun h => absurd h halone, fun _ => rfl⟩

theorem slowDetach_eq {p : Port} (hst : p.tc.state = .attachedSrc) (ht : p.timerOn .srcDisconnect = true) :
    p.slowDetach = p.detach 1#3 := if_pos ⟨hst, ht⟩

theorem fastDetachFall_eq {p : Port} {ma : Int} (hfdet : p.rg.fdet = true) (ht : p.timerOn .fdetWindow = true)
    (hma : ma.natAbs < 50) : p.fastDetachFall ma = p.detach 2#3 := if_pos ⟨hfdet, ht, hma⟩

theorem fastDetachWindow_eq {p : Port} (ht : p.timerOn .fdetWindow = true) :
    p.fastDetachWindow = Port.stop .fdetWindow { p with rg := { p.rg with fdet := false } } := if_pos ht

theorem sinkDetach_eq {p : Port} {mv : Nat} (hst : p.tc.state = .attachedSnk) (hmask : p.pdstat.vbMask = false)
    (hmv : mv < p.rg.snkLevel) : p.sinkDetach mv = p.detach 4#3 := if_pos ⟨hst, by rw [hmask]; rfl, hmv⟩

/-- ERR_RECOVERY acts on a port that is not Disabled, in ErrorRecovery or parked (Table 2.7). -/
theorem errRecovery_eq {p : Port} (hoos : p.pfault.oos = false) (hdis : p.tc.state ≠ .disabled)
    (herr : p.tc.state ≠ .errorRecovery) : p.errRecovery = p.toErrorRecovery := by
  simp [errRecovery, hoos, hdis, herr]

/-- A port whose ENABLE is written 0. -/
def unenabled (p : Port) : Port := { p with cc := { p.cc with enable := false } }

theorem unenabled_disable {p : Port} (hoos : p.pfault.oos = false) (hdis : p.tc.state ≠ .disabled) :
    EndedWith 5#3 p (p.unenabled.disable 5#3) ∧ (p.unenabled.disable 5#3).tc.state = .disabled ∧
      (p.unenabled.disable 5#3).cc.enable = false := by
  have hdisable : p.unenabled.disable 5#3 = p.unenabled.toDisabled 5#3 := if_neg (Bool.eq_false_iff.mp hoos)
  rw [hdisable]
  exact toDisabled_endedWith 5#3 (p := p.unenabled) hdis

end Port

/-- Settles O4: each path is a detach, an ErrorRecovery or an entry to Disabled, and each of those ends the session. -/
theorem typeCDetachPaths : Obligations.TypeCDetachPaths := by
  unfold Obligations.TypeCDetachPaths
  intro s n p hs
  dsimp only
  refine ⟨fun hup => ⟨?slow, ?blanked, ?inTransition, ?window, ?fall, ?windowEnd, ?sink⟩,
    fun hregs hoos hdis => ⟨?recovery, ?disable⟩⟩
  case slow =>
    intro hst ht
    refine State.onRegionOf_completes rfl hup hs ?_
    rw [Port.slowDetach_eq hst ht]
    exact (p.detach_detached 1#3).bare
  case blanked =>
    intro hfe hst hair
    refine State.onFrontEnd_completes rfl hfe.frontEnd hs ?_
    rw [Port.fastDetachLatch_onAir _ hst hair]
  case inTransition =>
    intro hfe hst hair h
    refine State.onFrontEnd_completes rfl hfe.frontEnd hs ?_
    rw [Port.fastDetachLatch_offAir _ hst hair]
    obtain ⟨hdetached, hflag⟩ := Port.fdetSeen_inTransition (e := s.env n) (p := p.fdetFlag) hup rfl hst h
    obtain ⟨hended, hstate⟩ := hdetached.bare
    exact ⟨hended, hstate, hflag⟩
  case window =>
    intro hfe hst hair htrans hswap
    refine State.onFrontEnd_completes rfl hfe.frontEnd hs ?_
    rw [← State.env_alone hup]
    exact Port.fastDetachLatch_window hup hst hair htrans hswap
  case fall =>
    intro ma hfdet ht hma
    refine State.onRegionOf_completes rfl hup hs ?_
    rw [Port.fastDetachFall_eq hfdet ht hma]
    exact (p.detach_detached 2#3).bare
  case windowEnd =>
    intro ht
    refine State.onRegionOf_completes rfl hup hs ?_
    rw [Port.fastDetachWindow_eq ht]
    exact ⟨rfl, by simp, rfl, rfl⟩
  case sink =>
    intro mv hst hmask hmv
    refine State.onRegionOf_completes rfl hup hs ?_
    rw [Port.sinkDetach_eq hst hmask hmv]
    exact (p.detach_detached 4#3).bare
  case recovery =>
    intro herr
    refine State.onPReg_completes rfl hregs.pReg hs ?_
    rw [Port.errRecovery_eq hoos hdis herr]
    exact ⟨p.toErrorRecovery_endedWith.bare, p.toErrorRecovery_state, p.toErrorRecovery_timer⟩
  case disable =>
    refine State.onPReg_completes rfl hregs.pReg hs ?_
    obtain ⟨hended, hstate, henable⟩ := Port.unenabled_disable hoos hdis
    exact ⟨hended.bare, hstate, henable⟩

end Sys2Proof.Machine
end

section
/-! The clauses of O6: pass and hold of the pairs (R141 to R147, R149). -/

namespace Sys2Proof.Machine

namespace Port

/-- The hold conditions of R145 one by one, as HOLD_SRC codes them. -/
theorem holdCond_eq_one (e : Env) (src : Bool) (p : Port) : p.holdCond e src = 1#3 ↔
    p.sluice.latched = false ∧ e.shedHold = false ∧ (e.hbLost = false ∨ e.cls = .a) ∧ e.vgdPass = true ∧ e.run = true ∧
      (src = false ∨ p.fe.foreign = false) := by
  have hguard (a : Bool) (c : Prop) : (a = false ∨ c) ↔ (a = true → c) := by cases a <;> simp
  rw [hguard, hguard]
  unfold holdCond
  (repeat' split) <;> simp_all

/-- The source pair takes a pass command where R145 lets a pair pass, no foreign VBUS is flagged and the sink pair holds. -/
theorem canPass_source (s : State) (n : PortId) (p : Port) :
    p.canPass (s.env n) .source = true ↔ s.mayPass n p ∧ p.fe.foreign = false ∧ p.fe.path ≠ .sink := by
  simp only [canPass, Bool.and_eq_true, decide_eq_true_eq, holdCond_eq_one]
  simp [State.env, State.mayPass]
  tauto

/-- The sink pair takes one where R145 lets a pair pass, in shunt mode, and the source pair holds. -/
theorem canPass_sink (s : State) (n : PortId) (p : Port) :
    p.canPass (s.env n) .sink = true ↔ s.mayPass n p ∧ p.fe.path ≠ .source ∧ p.sluice.senseMode ≠ 1#2 := by
  simp only [canPass, Bool.and_eq_true, decide_eq_true_eq, holdCond_eq_one]
  simp [State.env, State.mayPass, onRes]
  tauto

/-! The answers to a pass command (R145, R146). -/

/-- A pair that passes: the gate timer runs until its full enhancement. -/
def takePass (side : Path) (fast : Bool) (p : Port) : Port :=
  { p with fe := { p.fe with path := side, fastPass := fast }, sluice := { p.sluice with fullEnh := false } }.start .gateLimit

@[simp] theorem takePass_path (side : Path) (fast : Bool) (p : Port) : (p.takePass side fast).fe.path = side := rfl
@[simp] theorem takePass_dis (side : Path) (fast : Bool) (p : Port) : (p.takePass side fast).fe.dis = p.fe.dis := rfl
@[simp] theorem takePass_vset (side : Path) (fast : Bool) (p : Port) : (p.takePass side fast).vset = p.vset := rfl
@[simp] theorem takePass_tc (side : Path) (fast : Bool) (p : Port) : (p.takePass side fast).tc = p.tc := rfl
@[simp] theorem takePass_sluice (side : Path) (fast : Bool) (p : Port) :
    (p.takePass side fast).sluice = { p.sluice with fullEnh := false } := rfl
@[simp] theorem takePass_gateLimit (side : Path) (fast : Bool) (p : Port) :
    (p.takePass side fast).timerOn .gateLimit = true := by simp [takePass]

theorem pass_passes {e : Env} {side : Path} {p : Port} (hpath : p.fe.path = .none) (hc : p.canPass e side = true) (fast : Bool) :
    p.pass e side fast = p.takePass side fast := by
  cases side
  · exact absurd hc (by simp [canPass])
  · simp [pass, takePass, hpath, hc]
  · simp [pass, takePass, hpath, hc]

theorem pass_refused {e : Env} {side : Path} {p : Port} (hside : side ≠ .none) (hpath : p.fe.path = .none)
    (hc : ¬ p.canPass e side = true) (fast : Bool) : p.pass e side fast = p.refusePass e false := by
  simp [pass, hside, hpath, hside.symm, hc]

theorem pass_source_sinking (e : Env) {p : Port} (hpath : p.fe.path = .sink) (fast : Bool) :
    p.pass e .source fast = p.refusePass e true := by
  simp [pass, hpath]

/-- A sink pass while the source pair passes sets OTHER_PAIR, in shunt mode (log entry 216). -/
theorem pass_sink_sourcing (e : Env) {p : Port} (hpath : p.fe.path = .source) (fast : Bool) :
    p.pass e .sink fast = p.refusePass e (decide (p.sluice.senseMode ≠ 1#2)) := by
  by_cases hres : p.sluice.senseMode = 1#2 <;> simp [pass, hpath, onRes, hres, canPass]

theorem pass_same (e : Env) {side : Path} {p : Port} (hpath : p.fe.path = side) (fast : Bool) : p.pass e side fast = p := by
  by_cases hside : side = .none <;> simp [pass, hside, hpath]

@[simp] theorem refusePass_fe (e : Env) (other : Bool) (p : Port) : (p.refusePass e other).fe = p.fe := by simp [refusePass]
@[simp] theorem refusePass_sluice (e : Env) (other : Bool) (p : Port) :
    (p.refusePass e other).sluice = { p.sluice with otherPair := p.sluice.otherPair || other } := by simp [refusePass]

/-- What a refused pass leaves (R145). -/
def Refused (p : Port) : Prop := p.trip.passRefused = true ∧ p.flagged .slPassRefused = true

theorem refusePass_refused (e : Env) (other : Bool) (p : Port) : (p.refusePass e other).Refused :=
  ⟨by simp [refusePass], flagged_post_self _ _ _⟩

/-! The cold pass of the source pair (R144). -/

@[simp] theorem vsetZero_dis (p : Port) : p.vsetZero.fe.dis = rampDisOff p.fe.dis := rfl
@[simp] theorem vsetZero_path (p : Port) : p.vsetZero.fe.path = p.fe.path := rfl
@[simp] theorem vsetZero_duty (p : Port) : p.vsetZero.vset.duty = 0#12 := rfl
@[simp] theorem vsetZero_sluice (p : Port) : p.vsetZero.sluice = p.sluice := rfl
@[simp] theorem vsetZero_tc (p : Port) : p.vsetZero.tc = p.tc := rfl
@[simp] theorem vsetZero_trip (p : Port) : p.vsetZero.trip = p.trip := rfl

/-- VCONN that R54 turns on with the source pair touches VCN and the non-active line alone. -/
theorem vcnOn_eq (p : Port) : p.vcnOn = { p with
    fe := { p.fe with vcnDriven := true }, cc := { (if p.cc.vconnOn then p else p.setLineCode false 6#3).cc with vconnOn := true },
    rg := if p.cc.vconnOn then p.rg else { p.rg with savedOther := p.lineCode false } } := by
  unfold vcnOn setLineCode
  (repeat' split) <;> simp_all

/-- What the source pair's pass leaves of the sluice, of the region's wait for vSafe5V and of the connection. -/
def passState (p : Port) : (Path × Dis × BitVec 12 × PSluice × PTrip) × Rise × List TimerId × PTcstate :=
  ((p.fe.path, p.fe.dis, p.vset.duty, p.sluice, p.trip), p.rg.rise, p.rg.timers, p.tc)

theorem autoVconn_passState (e : Env) (p : Port) : (p.autoVconn e).passState = p.passState := by
  unfold autoVconn
  split
  · rw [vcnOn_eq]
    unfold passState
    split <;> rfl
  · rfl

@[simp] theorem autoVconn_path (e : Env) (p : Port) : (p.autoVconn e).fe.path = p.fe.path :=
  (congrArg (fun x => x.1.1) (autoVconn_passState e p) :)
@[simp] theorem autoVconn_dis (e : Env) (p : Port) : (p.autoVconn e).fe.dis = p.fe.dis :=
  (congrArg (fun x => x.1.2.1) (autoVconn_passState e p) :)
@[simp] theorem autoVconn_duty (e : Env) (p : Port) : (p.autoVconn e).vset.duty = p.vset.duty :=
  (congrArg (fun x => x.1.2.2.1) (autoVconn_passState e p) :)
@[simp] theorem autoVconn_sluice (e : Env) (p : Port) : (p.autoVconn e).sluice = p.sluice :=
  (congrArg (fun x => x.1.2.2.2.1) (autoVconn_passState e p) :)
@[simp] theorem autoVconn_trip (e : Env) (p : Port) : (p.autoVconn e).trip = p.trip :=
  (congrArg (fun x => x.1.2.2.2.2) (autoVconn_passState e p) :)
@[simp] theorem autoVconn_rise (e : Env) (p : Port) : (p.autoVconn e).rg.rise = p.rg.rise :=
  (congrArg (fun x => x.2.1) (autoVconn_passState e p) :)
@[simp] theorem autoVconn_timerOn (e : Env) (t : TimerId) (p : Port) : (p.autoVconn e).timerOn t = p.timerOn t :=
  (congrArg (fun x => decide (t ∈ x.2.2.1)) (autoVconn_passState e p) :)
@[simp] theorem autoVconn_tc (e : Env) (p : Port) : (p.autoVconn e).tc = p.tc :=
  (congrArg (fun x => x.2.2.2) (autoVconn_passState e p) :)

/-- The source pair passes, and `why` waits for vSafe5V. -/
def rising (why : Rise) (p : Port) : Port := { p with rg := { p.rg with rise := why, noFirstPass := false } }

@[simp] theorem rising_fe (why : Rise) (p : Port) : (p.rising why).fe = p.fe := rfl
@[simp] theorem rising_vset (why : Rise) (p : Port) : (p.rising why).vset = p.vset := rfl
@[simp] theorem rising_tc (why : Rise) (p : Port) : (p.rising why).tc = p.tc := rfl
@[simp] theorem rising_trip (why : Rise) (p : Port) : (p.rising why).trip = p.trip := rfl
@[simp] theorem rising_sluice (why : Rise) (p : Port) : (p.rising why).sluice = p.sluice := rfl
@[simp] theorem rising_rise (why : Rise) (p : Port) : (p.rising why).rg.rise = why := rfl
@[simp] theorem rising_timerOn (why : Rise) (t : TimerId) (p : Port) : (p.rising why).timerOn t = p.timerOn t := rfl

theorem coldPass_passed {e : Env} {why : Rise} {p r : Port} (hr : p.vsetZero.pass e .source false = r) (h : r.fe.path = .source) :
    p.coldPass e why = if why = .attach then ((r.rising why).start .vbusOn).autoVconn e else r.rising why := by
  unfold coldPass
  rw [hr]
  exact if_pos h

theorem coldPass_refused {e : Env} {why : Rise} {p r : Port} (hr : p.vsetZero.pass e .source false = r) (h : r.fe.path ≠ .source) :
    p.coldPass e why = if why = .attach then r.vbStuck else r := by
  unfold coldPass
  rw [hr]
  exact if_neg h

theorem vbStuck_spec (p : Port) : p.vbStuck.tc.state = .errorRecovery ∧ p.vbStuck.flagged .tcVbStuck = true ∧
    p.vbStuck.fe.path = .none :=
  ⟨toErrorRecovery_state _, toErrorRecovery_keepsEvents _ _ (flagged_post_self _ _ _), toErrorRecovery_path _⟩

theorem vbStuck_refused {p : Port} (h : p.Refused) : p.vbStuck.Refused :=
  ⟨by rw [vbStuck, toErrorRecovery_trip, post_trip]; exact h.1, toErrorRecovery_keepsEvents _ _ (flagged_post_of _ _ h.2)⟩

theorem toErrorRecovery_otherPair (p : Port) : p.toErrorRecovery.sluice.otherPair = p.sluice.otherPair :=
  (congrArg (fun x => x.2.2.otherPair) (toErrorRecovery_steady p) :)

theorem vbStuck_otherPair (p : Port) : p.vbStuck.sluice.otherPair = p.sluice.otherPair := by
  rw [vbStuck, toErrorRecovery_otherPair, post_sluice]

/-- The source pair passes cold from hold. -/
theorem coldPass_fromHold {e : Env} {p : Port} (hpath : p.fe.path = .none) (hc : p.canPass e .source = true) (why : Rise) :
    let q := p.coldPass e why
    (q.fe.path = .source ∧ q.vset.duty = 0#12 ∧ q.timerOn .gateLimit = true ∧ q.sluice.fullEnh = false) ∧
      q.rg.rise = why ∧ q.fe.dis = rampDisOff p.fe.dis ∧ q.tc = p.tc ∧ (why = .attach → q.timerOn .vbusOn = true) := by
  have hpass : p.vsetZero.pass e .source false = p.vsetZero.takePass .source false :=
    pass_passes (p := p.vsetZero) hpath hc false
  dsimp only
  rw [coldPass_passed hpass rfl]
  split
  next hwhy => simp [hwhy]
  next hwhy => simp [hwhy]

/-- A source pass that is refused from hold leaves the pairs holding, and ends an attach in ErrorRecovery (R46, R145). -/
theorem coldPass_refusedFromHold {e : Env} {p : Port} (hpath : p.fe.path = .none) (hc : ¬ p.canPass e .source = true) (why : Rise) :
    let q := p.coldPass e why
    q.fe.path = .none ∧ q.Refused ∧ (why = .attach → q.tc.state = .errorRecovery ∧ q.flagged .tcVbStuck = true) := by
  have hpass : p.vsetZero.pass e .source false = p.vsetZero.refusePass e false := pass_refused (p := p.vsetZero) (by decide) hpath hc false
  have href : (p.vsetZero.refusePass e false).Refused := refusePass_refused e false _
  dsimp only
  rw [coldPass_refused hpass (by simp [hpath])]
  split
  next hwhy =>
    obtain ⟨hstate, hflag, hholds⟩ := vbStuck_spec (p.vsetZero.refusePass e false)
    exact ⟨hholds, vbStuck_refused href, fun _ => ⟨hstate, hflag⟩⟩
  next hwhy => exact ⟨by simp [hpath], href, fun h => absurd h hwhy⟩

/-- A source pass while the sink pair passes is refused with OTHER_PAIR (R146). -/
theorem coldPass_sinking (e : Env) {p : Port} (hpath : p.fe.path = .sink) (why : Rise) :
    let q := p.coldPass e why
    q.fe.path = (if why = .attach then .none else .sink) ∧ q.sluice.otherPair = true ∧ q.Refused := by
  have hpass : p.vsetZero.pass e .source false = p.vsetZero.refusePass e true := pass_source_sinking e (p := p.vsetZero) hpath false
  have href : (p.vsetZero.refusePass e true).Refused := refusePass_refused e true _
  dsimp only
  rw [coldPass_refused hpass (by simp [hpath])]
  split
  · exact ⟨(vbStuck_spec _).2.2, by simp [vbStuck_otherPair], vbStuck_refused href⟩
  · exact ⟨by simp [hpath], by simp, href⟩

/-- A source pass while the source pair passes leaves it passing (R145). -/
theorem coldPass_sourcing (e : Env) {p : Port} (hpath : p.fe.path = .source) (why : Rise) :
    let q := p.coldPass e why
    q.fe.path = .source ∧ q.trip = p.trip ∧ q.vset.duty = 0#12 := by
  have hpass : p.vsetZero.pass e .source false = p.vsetZero := pass_same e (p := p.vsetZero) hpath false
  dsimp only
  rw [coldPass_passed hpass hpath]
  split <;> simp [hpath]

/-! Full enhancement and hold. -/

theorem fullEnh_idle {p : Port} (hpath : p.fe.path = .none) : p.fullEnh = p := if_pos hpath

theorem fullEnh_spec {p : Port} (hpath : p.fe.path ≠ .none) :
    p.fullEnh.fe.path = p.fe.path ∧ p.fullEnh.sluice = { p.sluice with fullEnh := true } ∧
      p.fullEnh.timerOn .gateLimit = false ∧ p.fullEnh.vset = p.vset := by
  unfold fullEnh
  rw [if_neg hpath]
  dsimp only
  split <;> simp [vsetRamp, timerOn, stop]

/-- Full enhancement of a cold source pass ramps VSET to vSafe5V at v_ss_slew (R144). -/
theorem fullEnh_cold {p : Port} (hpath : p.fe.path = .source) (hfast : p.fe.fastPass = false) (hmoving : p.rg.moving = 0) :
    p.fullEnh.rg.target = 5000 ∧ p.fullEnh.rg.coldRamp = true := by
  unfold fullEnh
  rw [if_neg (by rw [hpath]; decide)]
  simp [hpath, hfast, hmoving, vsetRamp]

theorem hold_spec (p : Port) : p.hold.fe.path = .none ∧ p.hold.fe.slowInt = 0 ∧
    p.hold.sluice = { p.sluice with fullEnh := false } ∧ p.hold.trip = p.trip ∧ p.hold.tc = p.tc ∧ p.hold.contract = p.contract :=
  ⟨rfl, rfl, rfl, rfl, rfl, rfl⟩

end Port

/-- Settles O6: a pass command is taken where `mayPass` and the other pair allow it, and each refusal has its report. -/
theorem sluicePassAndHold : Obligations.SluicePassAndHold := by
  unfold Obligations.SluicePassAndHold
  intro s n p hs
  dsimp only
  refine ⟨fun hup => ⟨?source, ?sink, ?sourceRefused, ?sinkRefused, ?sourceSinking, ?sinkSourcing, ?sourceSourcing,
    ?sinkSinking, ?held, ?hold⟩, ?enhIdle, ?enh, ?enhCold⟩
  case source =>
    intro hmay hpath hforeign
    refine State.onRegionOf_completes rfl hup hs ?_
    have hc := (Port.canPass_source s n p).mpr ⟨hmay, hforeign, by rw [hpath]; decide⟩
    exact (Port.coldPass_fromHold hpath hc p.rg.rise).1
  case sink =>
    intro hmay hpath hsense
    refine State.onRegionOf_completes rfl hup hs ?_
    have hc := (Port.canPass_sink s n p).mpr ⟨hmay, by rw [hpath]; decide, hsense⟩
    have hpass : p.passCommand (s.env n) false = p.takePass .sink false := Port.pass_passes hpath hc false
    rw [hpass]
    exact ⟨rfl, rfl, by simp [Port.takePass], rfl⟩
  case sourceRefused =>
    intro hno hpath
    refine State.onRegionOf_completes rfl hup hs ?_
    have hc : ¬ p.canPass (s.env n) .source = true := by
      rw [Port.canPass_source]
      rintro ⟨hmay, hforeign, -⟩
      rcases hno with h | h
      · exact h hmay
      · exact Bool.eq_false_iff.mp hforeign h
    exact Port.coldPass_refusedFromHold hpath hc p.rg.rise
  case sinkRefused =>
    intro hno hpath
    refine State.onRegionOf_completes rfl hup hs ?_
    have hc : ¬ p.canPass (s.env n) .sink = true := by
      rw [Port.canPass_sink]
      rintro ⟨hmay, -, hsense⟩
      rcases hno with h | h
      · exact h hmay
      · exact hsense h
    have hpass : p.passCommand (s.env n) false = p.refusePass (s.env n) false := Port.pass_refused (by decide) hpath hc false
    rw [hpass]
    exact ⟨by simpa using hpath, Port.refusePass_refused (s.env n) false p⟩
  case sourceSinking =>
    intro hpath
    exact State.onRegionOf_completes rfl hup hs (Port.coldPass_sinking (s.env n) hpath p.rg.rise)
  case sinkSourcing =>
    intro hpath
    refine State.onRegionOf_completes rfl hup hs ?_
    have hpass : p.passCommand (s.env n) false = p.refusePass (s.env n) _ := Port.pass_sink_sourcing (s.env n) hpath false
    rw [hpass]
    exact ⟨by simpa using hpath, by simp, Port.refusePass_refused (s.env n) _ p⟩
  case sourceSourcing =>
    exact fun hpath => State.onRegionOf_completes rfl hup hs (Port.coldPass_sourcing (s.env n) hpath p.rg.rise)
  case sinkSinking =>
    exact fun hpath => State.onRegionOf_completes rfl hup hs (congrArg Port.bare (Port.pass_same (s.env n) hpath false))
  case held => exact fun hpath => State.onRegionOf_completes rfl hup hs (congrArg Port.bare (if_pos hpath))
  case hold =>
    intro hpath
    refine State.onRegionOf_completes rfl hup hs ?_
    have hhold : p.holdCommand = p.hold := if_neg hpath
    rw [hhold]
    exact p.hold_spec
  case enhIdle =>
    exact fun hfe hpath => State.onFrontEnd_completes rfl hfe.frontEnd hs (congrArg Port.bare (Port.fullEnh_idle hpath))
  case enh => exact fun hfe hpath => State.onFrontEnd_completes rfl hfe.frontEnd hs (Port.fullEnh_spec hpath)
  case enhCold =>
    intro hfe hpath hfast hmoving
    refine State.onFrontEnd_completes rfl hfe.frontEnd hs ?_
    obtain ⟨hstays, hsluice, htimer, -⟩ := Port.fullEnh_spec (p := p) (by rw [hpath]; decide)
    obtain ⟨htarget, hcold⟩ := Port.fullEnh_cold hpath hfast hmoving
    exact ⟨hstays.trans hpath, hsluice, htarget, hcold, htimer⟩

end Sys2Proof.Machine
end

section
/-! The clauses of O3: what a change of the VB level moves, and what waits for it (R43, R46, R144, R154, R495). -/

namespace Sys2Proof.Machine

namespace Port

/-! A power-path command that completes reports it, and touches the gauge state beside (Table 4.1). -/

@[simp] theorem ppDone_fe (cmd : BitVec 4) (p : Port) : (p.ppDone cmd).fe = p.fe := by unfold ppDone; split <;> simp [gaugeMark]
@[simp] theorem ppDone_rg (cmd : BitVec 4) (p : Port) : (p.ppDone cmd).rg = p.rg := by unfold ppDone; split <;> simp [gaugeMark]
@[simp] theorem ppDone_tc (cmd : BitVec 4) (p : Port) : (p.ppDone cmd).tc = p.tc := by unfold ppDone; split <;> simp [gaugeMark]
@[simp] theorem ppDone_vset (cmd : BitVec 4) (p : Port) : (p.ppDone cmd).vset = p.vset := by
  unfold ppDone; split <;> simp [gaugeMark]
@[simp] theorem ppDone_sluice (cmd : BitVec 4) (p : Port) : (p.ppDone cmd).sluice = p.sluice := by
  unfold ppDone; split <;> simp [gaugeMark]
@[simp] theorem ppDone_flagged (cmd : BitVec 4) (p : Port) : (p.ppDone cmd).flagged .ppDone = true := flagged_post_self _ _ _

/-- What the front end knows of VBUS: VB_PRESENT, VB_SAFE0, the voltage and the foreign flag. -/
def vbSeen (p : Port) : Bool × Bool × Nat × Bool := (p.cc.vbPresent, p.cc.vbSafe0, p.fe.vb, p.fe.foreign)

/-! Nothing that goes on at a level changes what is known of VBUS. -/

theorem vbSeen_of_steady {p q : Port} (h : q.steady = p.steady) : q.vbSeen = p.vbSeen :=
  (congrArg (fun x : PCc × FrontEnd × PSluice => (x.1.vbPresent, x.1.vbSafe0, x.2.1.vb, x.2.1.foreign)) h :)

@[simp] theorem post_vbSeen (e : PEvent) (pl : W36) (p : Port) : (p.post e pl).vbSeen = p.vbSeen := by simp [vbSeen]

@[simp] theorem ppDone_vbSeen (cmd : BitVec 4) (p : Port) : (p.ppDone cmd).vbSeen = p.vbSeen := by
  unfold ppDone
  split
  · exact post_vbSeen _ _ _
  · exact post_vbSeen _ _ _

@[simp] theorem startDebounce_vbSeen (p : Port) : p.startDebounce.vbSeen = p.vbSeen := by
  have hcc : (p.startDebounce.cc.vbPresent, p.startDebounce.cc.vbSafe0) = (p.cc.vbPresent, p.cc.vbSafe0) :=
    (congrArg (fun c : PCc => (c.vbPresent, c.vbSafe0)) (startDebounce_cc p) :)
  obtain ⟨hpres, hsafe⟩ := Prod.mk.inj hcc
  simp [vbSeen, hpres, hsafe]

@[simp] theorem toErrorRecovery_vbSeen (p : Port) : p.toErrorRecovery.vbSeen = p.vbSeen :=
  vbSeen_of_steady (toErrorRecovery_steady p)

@[simp] theorem vbStuck_vbSeen (p : Port) : p.vbStuck.vbSeen = p.vbSeen := by simp [vbStuck]

@[simp] theorem refusePass_vbSeen (e : Env) (other : Bool) (p : Port) : (p.refusePass e other).vbSeen = p.vbSeen :=
  post_vbSeen _ _ _

@[simp] theorem pass_vbSeen (e : Env) (side : Path) (fast : Bool) (p : Port) : (p.pass e side fast).vbSeen = p.vbSeen := by
  unfold pass
  repeat' split
  · rfl
  · rfl
  · exact refusePass_vbSeen _ _ _
  · rfl
  · exact refusePass_vbSeen _ _ _

@[simp] theorem autoVconn_vbSeen (e : Env) (p : Port) : (p.autoVconn e).vbSeen = p.vbSeen := by
  unfold autoVconn vcnOn setLineCode
  repeat' split
  all_goals rfl

@[simp] theorem coldPass_vbSeen (e : Env) (why : Rise) (p : Port) : (p.coldPass e why).vbSeen = p.vbSeen := by
  have hpass : (p.vsetZero.pass e .source false).vbSeen = p.vbSeen := pass_vbSeen _ _ _ _
  unfold coldPass
  dsimp only
  generalize p.vsetZero.pass e .source false = r at hpass ⊢
  repeat' split
  · exact (autoVconn_vbSeen _ _).trans hpass
  · exact hpass
  · exact (vbStuck_vbSeen _).trans hpass
  · exact hpass

@[simp] theorem announce_vbSeen (p : Port) : p.announce.vbSeen = p.vbSeen := post_vbSeen _ _ _

@[simp] theorem hrDone_vbSeen (p : Port) : p.hrDone.vbSeen = p.vbSeen := by
  unfold hrDone announceLate
  split
  · exact (announce_vbSeen _).trans (post_vbSeen _ _ _)
  · exact post_vbSeen _ _ _

@[simp] theorem attachSnk_vbSeen (p : Port) : p.attachSnk.vbSeen = p.vbSeen := announce_vbSeen _

@[simp] theorem sinkReady_vbSeen (p : Port) : p.sinkReady.vbSeen = p.vbSeen := by
  unfold sinkReady
  split
  · exact startDebounce_vbSeen _
  · exact attachSnk_vbSeen _

@[simp] theorem snkOnNow_vbSeen (e : Env) (p : Port) : (p.snkOnNow e).vbSeen = p.vbSeen := by
  unfold snkOnNow
  dsimp only
  split
  · exact (ppDone_vbSeen _ _).trans (pass_vbSeen _ _ _ _)
  · exact pass_vbSeen _ _ _ _

/-- What VB_SAFE0 does first: DIS is released, the wait ends, and a SRC_OFF under way is done (R156, Table 4.1). -/
def safe0Freed (p : Port) : Port :=
  let q := p.releaseDis.stop .vb0Wait
  if q.rg.srcOffRun then { q with rg := { q.rg with srcOffRun := false } }.ppDone 9#4 else q

@[simp] theorem safe0Freed_vbSeen (p : Port) : p.safe0Freed.vbSeen = p.vbSeen := by
  unfold safe0Freed
  dsimp only
  split
  · exact ppDone_vbSeen _ _
  · rfl

/-- What waits for VB_SAFE0 then goes on: a Hard Reset, the attach or SRC_ON (Tables 3.9 and 4.1). -/
def safe0Goes (e : Env) (p : Port) : Port :=
  match p.rg.hr with
  | .srcSafe0 => { p with rg := { p.rg with hr := .srcRecover } }.start .srcRecover
  | .snkSafe0 => { p with rg := { p.rg with hr := .snkPresent } }
  | _ =>
    if p.tc.state = .attachedSrc ∧ p.rg.noFirstPass ∧ p.rg.hr = .idle then p.coldPass e .attach
    else if p.rg.srcOnWait then { p with rg := { p.rg with srcOnWait := false } }.coldPass e .srcOn
    else p

theorem onSafe0_eq (e : Env) (p : Port) : p.onSafe0 e = p.safe0Freed.safe0Goes e := rfl

theorem safe0Goes_vbSeen (e : Env) (p : Port) : (p.safe0Goes e).vbSeen = p.vbSeen := by
  unfold safe0Goes
  repeat' split
  · rfl
  · rfl
  · exact coldPass_vbSeen _ _ _
  · exact coldPass_vbSeen _ _ _
  · rfl

@[simp] theorem onSafe0_vbSeen (e : Env) (p : Port) : (p.onSafe0 e).vbSeen = p.vbSeen := by
  rw [onSafe0_eq, safe0Goes_vbSeen, safe0Freed_vbSeen]

/-- A new Attached.SRC passes its source pair cold once VB_SAFE0 is set (R46). -/
theorem safe0Goes_attach (e : Env) {p : Port} (hst : p.tc.state = .attachedSrc) (hfirst : p.rg.noFirstPass = true)
    (hhr : p.rg.hr = .idle) : p.safe0Goes e = p.coldPass e .attach := by
  simp [safe0Goes, hhr, hst, hfirst]

theorem safe0Freed_rest (p : Port) : p.safe0Freed.tc = p.tc ∧ p.safe0Freed.sluice = p.sluice ∧
    p.safe0Freed.fe = { p.fe with dis := .off } ∧ p.safe0Freed.rg.hr = p.rg.hr ∧
    p.safe0Freed.rg.noFirstPass = p.rg.noFirstPass := by
  unfold safe0Freed
  dsimp only
  split <;> simp [releaseDis]

@[simp] theorem onPresent_vbSeen (e : Env) (p : Port) : (p.onPresent e).vbSeen = p.vbSeen := by
  unfold onPresent
  dsimp only
  repeat' split
  · exact (hrDone_vbSeen _).trans (pass_vbSeen _ _ _ _)
  · exact pass_vbSeen _ _ _ _
  · exact sinkReady_vbSeen _
  · exact attachSnk_vbSeen _
  · exact snkOnNow_vbSeen _ _
  · rfl

/-! A sample of the VB level (R43, R154). -/

/-- The level is recorded: VB_PRESENT between its two levels stays, and a foreign flag falls with it. -/
def vbSample (mv : Nat) (p : Port) : Port :=
  { p with
    cc := { p.cc with vbPresent := decide (4000 ≤ mv) || (p.cc.vbPresent && decide (3670 ≤ mv)), vbSafe0 := decide (mv ≤ 800) },
    fe := { p.fe with vb := mv, foreign := p.fe.foreign && decide (3670 ≤ mv) } }

/-- VB_SAFE0 rises with a sample. -/
def safeRises (mv : Nat) (p : Port) : Bool := decide (mv ≤ 800) && !p.cc.vbSafe0
/-- VB_PRESENT rises with a sample. -/
def presentRises (mv : Nat) (p : Port) : Bool := decide (4000 ≤ mv) && !p.cc.vbPresent

theorem vbLevel_eq (e : Env) (mv : Nat) (p : Port) : p.vbLevel e mv =
    if e.regionUp then
      let q := if p.safeRises mv then (p.vbSample mv).onSafe0 e else p.vbSample mv
      if p.presentRises mv then q.onPresent e else q
    else if p.safeRises mv then (p.vbSample mv).releaseDis else p.vbSample mv := by
  have hpres : (if 4000 ≤ mv then true else if mv < 3670 then false else p.cc.vbPresent) =
      (decide (4000 ≤ mv) || (p.cc.vbPresent && decide (3670 ≤ mv))) := by
    by_cases h4 : 4000 ≤ mv
    · simp [h4]
    · by_cases h3 : mv < 3670
      · simp [h4, h3]
      · simp [h4, h3, Nat.not_lt.mp h3]
  have hrise : ((decide (4000 ≤ mv) || (p.cc.vbPresent && decide (3670 ≤ mv))) && !p.cc.vbPresent) = p.presentRises mv := by
    unfold presentRises
    cases p.cc.vbPresent <;> simp
  unfold vbLevel
  simp only [hpres, hrise]
  rfl

theorem vbLevel_vbSeen (e : Env) (mv : Nat) (p : Port) : (p.vbLevel e mv).vbSeen = (p.vbSample mv).vbSeen := by
  rw [vbLevel_eq]
  dsimp only
  repeat' split
  · rw [onPresent_vbSeen, onSafe0_vbSeen]
  · exact onPresent_vbSeen _ _
  · exact onSafe0_vbSeen _ _
  · rfl
  · rfl
  · rfl

/-- The attach that waits for VB_SAFE0 (R46, R144). -/
theorem vbLevel_attachSrc {s : State} {n : PortId} {mv : Nat} {p : Port} (hup : s.regionUp n = true)
    (hst : p.tc.state = .attachedSrc) (hfirst : p.rg.noFirstPass = true) (hhr : p.rg.hr = .idle) (hpath : p.fe.path = .none)
    (hsafe : p.cc.vbSafe0 = false) (hmv : mv ≤ 800) (hmay : s.mayPass n p) :
    let q := p.vbLevel (s.env n) mv
    q.fe.path = .source ∧ q.vset.duty = 0#12 ∧ q.rg.rise = .attach ∧ q.timerOn .vbusOn = true ∧ q.fe.dis = .off ∧ q.tc = p.tc := by
  have hsample : p.vbLevel (s.env n) mv = (p.vbSample mv).onSafe0 (s.env n) := by
    have hrises : p.safeRises mv = true := by simp [safeRises, hmv, hsafe]
    have hpresent : p.presentRises mv = false := by simp [presentRises]; omega
    simp [vbLevel_eq, hup, hrises, hpresent]
  obtain ⟨htc, hsluice, hfe, hhr', hfirst'⟩ := safe0Freed_rest (p.vbSample mv)
  have hforeign : (p.vbSample mv).fe.foreign = false := by simp [vbSample]; omega
  have hc : (p.vbSample mv).safe0Freed.canPass (s.env n) .source = true := by
    rw [canPass_source, State.mayPass, hsluice, hfe]
    exact ⟨hmay, hforeign, by rw [show (p.vbSample mv).fe.path = .none from hpath]; decide⟩
  obtain ⟨⟨hsource, hduty, -, -⟩, hrise, hdis, htc', hbus⟩ :=
    coldPass_fromHold (p := (p.vbSample mv).safe0Freed) (by rw [hfe]; exact hpath) hc .attach
  dsimp only
  rw [hsample, onSafe0_eq, safe0Goes_attach _ (by rw [htc]; exact hst) (hfirst'.trans hfirst) (hhr'.trans hhr)]
  exact ⟨hsource, hduty, hrise, hbus rfl, by rw [hdis, hfe]; rfl, htc'.trans htc⟩

/-- A sink attach that is debounced and waits for VB_PRESENT (Table 2.3). -/
theorem vbLevel_attachSnk {e : Env} {mv : Nat} {p : Port} (hup : e.regionUp = true) (hst : p.tc.state = .attachWaitSnk)
    (hmet : p.rg.ccMet = true) (htry : p.trySrcOn = false) (hhr : p.rg.hr = .idle) (hpres : p.cc.vbPresent = false)
    (hmv : 4000 ≤ mv) : p.vbLevel e mv = (p.vbSample mv).attachSnk := by
  have hsafe : p.safeRises mv = false := by simp [safeRises]; omega
  have hrises : p.presentRises mv = true := by simp [presentRises, hmv, hpres]
  have hready : (p.vbSample mv).sinkReady = (p.vbSample mv).attachSnk := if_neg fun h => Bool.eq_false_iff.mp htry h.2
  have hpresent : (p.vbSample mv).onPresent e = (p.vbSample mv).sinkReady := by
    simp [onPresent, vbSample, hhr, hmet, hst]
  simp [vbLevel_eq, hup, hsafe, hrises, hpresent, hready]

/-- Without a region a sample is all, but for DIS (R156). -/
theorem vbLevel_alone {e : Env} {p : Port} (hup : e.regionUp = false) (hdis : p.fe.dis = .off) (mv : Nat) :
    p.vbLevel e mv = p.vbSample mv := by
  have hrelease : (p.vbSample mv).releaseDis = p.vbSample mv := by
    unfold releaseDis
    rw [← show (p.vbSample mv).fe.dis = .off from hdis]
  simp [vbLevel_eq, hup, hrelease]

/-! vSafe5V, and the ends of the waits (R46, R495). -/

theorem vsafe5v_attach {p : Port} (h : p.rg.rise = .attach) :
    p.vsafe5v.rg.rise = .none ∧ p.vsafe5v.flagged .tcAttach = true ∧ p.vsafe5v.timerOn .vbusOn = false ∧ p.vsafe5v.tc = p.tc := by
  have heq : p.vsafe5v = (Port.stop .vbusOn { p with rg := { p.rg with rise := .none } }).announce := by simp [vsafe5v, h]
  rw [heq]
  exact ⟨by simp [announce], announce_tcAttach _, by simp [announce, timerOn], by simp [announce]⟩

theorem announce_keepsEvents (p : Port) : KeepsEvents p p.announce := by
  intro e he
  exact flagged_post_of _ _ he

theorem hrDone_spec (p : Port) : p.hrDone.rg.hr = .idle ∧ p.hrDone.pdstat.hrActive = false ∧
    p.hrDone.flagged .pdHardResetDone = true ∧ p.hrDone.tc = p.tc := by
  unfold hrDone announceLate
  split
  · exact ⟨by simp [announce, gaugeMark], by simp [announce, gaugeMark], announce_keepsEvents _ _ (flagged_post_self _ _ _),
      by simp [announce, gaugeMark]⟩
  · exact ⟨by simp [gaugeMark], by simp [gaugeMark], flagged_post_self _ _ _, by simp [gaugeMark]⟩

theorem vsafe5v_hardReset {p : Port} (h : p.rg.rise = .hardReset) : p.vsafe5v = p.hrDone := by simp [vsafe5v, h]

theorem vsafe5v_srcOn {p : Port} (h : p.rg.rise = .srcOn) :
    p.vsafe5v.rg.rise = .none ∧ p.vsafe5v.flagged .ppDone = true ∧ p.vsafe5v.tc = p.tc := by
  simp [vsafe5v, h]

theorem vsafe5v_idle {p : Port} (h : p.rg.rise = .none) : p.vsafe5v = p := by simp [vsafe5v, h]

/-- The end of a wait for VB_SAFE0 that is the attach's or a Hard Reset's as source, and of any other. -/
theorem vb0WaitExpiry_eq {p : Port} (ht : p.timerOn .vb0Wait = true) (hsafe : p.cc.vbSafe0 = false) : p.vb0WaitExpiry =
    if (p.tc.state = .attachedSrc ∧ p.rg.noFirstPass = true) ∨ p.rg.hr = .srcSafe0 then (p.stop .vb0Wait).vbStuck
    else p.stop .vb0Wait := if_pos ⟨ht, by rw [hsafe]; rfl⟩

theorem vbusOnExpiry_eq {p : Port} (ht : p.timerOn .vbusOn = true) (h : p.rg.rise = .attach) : p.vbusOnExpiry = p.vbStuck :=
  if_pos ⟨ht, h⟩

end Port

/-- Settles O3: a level is recorded, and then what waited for it goes on; no part of that changes what is known of VBUS. -/
theorem typeCVbusLevels : Obligations.TypeCVbusLevels := by
  unfold Obligations.TypeCVbusLevels
  intro s n p hs
  refine ⟨?level, ?attachSrc, ?attachSnk, ?alone, fun hup => ⟨?riseAttach, ?riseReset, ?riseOn, ?riseNone, ?waitOver, ?waitStuck,
    ?busStuck⟩⟩
  case level =>
    intro mv hfe
    refine State.onFrontEnd_completes rfl hfe.frontEnd hs ?_
    have hseen := Port.vbLevel_vbSeen (s.env n) mv p
    simp only [Port.vbSeen, Prod.mk.injEq] at hseen
    exact hseen
  case attachSrc =>
    exact fun mv hfe hup hst hfirst hhr hpath hsafe hmv hmay =>
      State.onFrontEnd_completes rfl hfe.frontEnd hs (Port.vbLevel_attachSrc hup hst hfirst hhr hpath hsafe hmv hmay)
  case attachSnk =>
    intro mv hfe hup hst hmet htry hhr hpres hmv
    refine State.onFrontEnd_completes rfl hfe.frontEnd hs ?_
    rw [Port.vbLevel_attachSnk hup hst hmet htry hhr hpres hmv]
    exact ⟨congrArg PTcstate.state (Port.attachSnk_tc _), congrArg PTcstate.attachCnt (Port.attachSnk_tc _),
      Port.attachSnk_tcAttach _⟩
  case alone =>
    exact fun mv hfe hup hdis =>
      State.onFrontEnd_completes rfl hfe.frontEnd hs (congrArg Port.bare (Port.vbLevel_alone hup hdis mv))
  case riseAttach => exact fun h => State.onRegionOf_completes rfl hup hs (Port.vsafe5v_attach h)
  case riseReset =>
    intro h
    refine State.onRegionOf_completes rfl hup hs ?_
    rw [Port.vsafe5v_hardReset h]
    exact p.hrDone_spec
  case riseOn => exact fun h => State.onRegionOf_completes rfl hup hs (Port.vsafe5v_srcOn h)
  case riseNone => exact fun h => State.onRegionOf_completes rfl hup hs (congrArg Port.bare (Port.vsafe5v_idle h))
  case waitOver =>
    intro ht hsafe hhr hfirst
    refine State.onRegionOf_completes rfl hup hs ?_
    rw [Port.vb0WaitExpiry_eq ht hsafe, if_neg]
    rintro (⟨hst, hno⟩ | h)
    · exact hfirst.elim (fun hne => hne hst) fun hf => Bool.eq_false_iff.mp hf hno
    · exact hhr h
  case waitStuck =>
    intro ht hsafe hstuck
    refine State.onRegionOf_completes rfl hup hs ?_
    rw [Port.vb0WaitExpiry_eq ht hsafe, if_pos hstuck]
    exact Port.vbStuck_spec _
  case busStuck =>
    intro ht h
    refine State.onRegionOf_completes rfl hup hs ?_
    rw [Port.vbusOnExpiry_eq ht h]
    exact Port.vbStuck_spec _

end Sys2Proof.Machine
end

section
/-! The clauses of O5: VCONN and its removal (R53 to R56, R64, R84). Removing VCONN ends SOP′, which lets waiting messages go:
the transmit side of a region touches its own state, P_PDSTAT and the queue, and no more. -/

namespace Sys2Proof.Machine

namespace Port

/-- `q` differs from `p` at most in what the transmit side of a region holds: the region's state, P_PDSTAT, the queue, and
P_EVT, where the events of `p` stand. -/
structure TxOnly (p q : Port) : Prop where
  rest : { q with rg := p.rg, pdstat := p.pdstat, q := p.q, evt := p.evt } = p
  events : KeepsEvents p q

namespace TxOnly

variable {p q r : Port}

theorem refl (p : Port) : TxOnly p p := ⟨rfl, .refl p⟩

theorem trans (h : TxOnly p q) (k : TxOnly q r) : TxOnly p r := by
  refine ⟨?_, h.events.trans k.events⟩
  have hr := congrArg (fun x : Port => { x with rg := p.rg, pdstat := p.pdstat, q := p.q, evt := p.evt }) k.rest
  exact hr.trans h.rest

theorem cc_eq (h : TxOnly p q) : q.cc = p.cc := (congrArg Port.cc h.rest :)
theorem fe_eq (h : TxOnly p q) : q.fe = p.fe := (congrArg Port.fe h.rest :)
theorem tc_eq (h : TxOnly p q) : q.tc = p.tc := (congrArg Port.tc h.rest :)

theorem onAir_eq (h : TxOnly p q) : q.onAir = p.onAir := by rw [onAir, lineCode, h.cc_eq, onAir, lineCode]

end TxOnly

/-- The region's state and P_PDSTAT may change as they will. -/
theorem txOnly_set (p : Port) (rg : Region) (st : PPdstat) : TxOnly p { p with rg := rg, pdstat := st } := ⟨rfl, .of_evt rfl⟩

theorem txOnly_setRg (p : Port) (rg : Region) : TxOnly p { p with rg := rg } := ⟨rfl, .of_evt rfl⟩

theorem stop_txOnly (t : TimerId) (p : Port) : TxOnly p (p.stop t) := ⟨rfl, .of_evt rfl⟩
theorem stopAll_txOnly (ts : List TimerId) (p : Port) : TxOnly p (p.stopAll ts) := ⟨rfl, .of_evt rfl⟩

theorem post_txOnly (e : PEvent) (pl : W36) (p : Port) : TxOnly p (p.post e pl) := by
  refine ⟨?_, post_keepsEvents e pl p⟩
  unfold post
  split <;> rfl

theorem amsEnd_txOnly (p : Port) : TxOnly p p.amsEnd := (txOnly_set p _ _).trans (stop_txOnly .amsIdle _)

theorem setRx_txOnly (sop1 : Bool) (x : Option RxChunk) (p : Port) : TxOnly p (p.setRx sop1 x) := by
  unfold setRx
  split
  · exact txOnly_setRg _ _
  · exact txOnly_setRg _ _

theorem dropRx_txOnly (sop1 : Bool) (p : Port) : TxOnly p (p.dropRx sop1) :=
  (txOnly_setRg p _).trans ((setRx_txOnly sop1 none _).trans (stop_txOnly _ _))

theorem chunkAbortRx_txOnly (sop1 : Bool) (p : Port) : TxOnly p (p.chunkAbortRx sop1) :=
  (dropRx_txOnly sop1 p).trans (post_txOnly _ _ _)

theorem beginTx_txOnly (m : TxMsg) (p : Port) : TxOnly p (p.beginTx m) := by
  unfold beginTx
  dsimp only
  split_ifs
  all_goals exact ⟨rfl, .of_evt rfl⟩

theorem softReset_txOnly (m : TxMsg) (p : Port) : TxOnly p (p.softReset m) := by
  have hq : TxOnly p (if p.rxExchange m.sop1 then p.chunkAbortRx m.sop1 else p) := by
    split
    · exact chunkAbortRx_txOnly _ p
    · exact .refl p
  have hset (r : Port) : TxOnly r
      (if m.sop1 then { r with rg := { r.rg with txId1 := 0#3, rxId1 := none } }
       else { r with rg := { r.rg with txId := 0#3, rxId := none },
                     pdstat := { r.pdstat with srCnt := satInc r.pdstat.srCnt } }) := by
    split
    · exact txOnly_setRg r _
    · exact txOnly_set r _ _
  exact hq.trans ((amsEnd_txOnly _).trans ((hset _).trans ((txOnly_setRg _ _).trans (beginTx_txOnly m _))))

theorem takeTx_txOnly (m : TxMsg) (p : Port) : TxOnly p (p.takeTx m) := by
  unfold takeTx
  split
  · exact softReset_txOnly m p
  · exact beginTx_txOnly m p

theorem nextTx_txOnly (p : Port) : TxOnly p p.nextTx := by
  have hgo (q : Port) : TxOnly q (match q.rg.ownDue with
      | m :: ms => { q with rg := { q.rg with ownDue := ms } }.takeTx m
      | [] =>
        match q.rg.held with
        | some h => { q with rg := { q.rg with held := none } }.takeTx h
        | none => q) := by
    repeat' split
    · exact (txOnly_setRg q _).trans (takeTx_txOnly _ _)
    · exact (txOnly_setRg q _).trans (takeTx_txOnly _ _)
    · exact .refl q
  exact (txOnly_set p _ _).trans ((stopAll_txOnly _ _).trans (hgo _))

theorem goOn_txOnly (p : Port) : TxOnly p p.goOn := by
  unfold goOn
  split
  · exact nextTx_txOnly p
  · exact .refl p

theorem setOutcome_txOnly (m : TxMsg) (ok : Bool) (p : Port) : TxOnly p (p.setOutcome m ok) := by
  unfold setOutcome
  repeat' split
  · exact .refl p
  · exact txOnly_setRg p _
  · exact txOnly_setRg p _

theorem cutSop1_txOnly (started : Bool) (m : TxMsg) (p : Port) : TxOnly p (p.cutSop1 started m) := by
  unfold cutSop1
  split
  · exact (setOutcome_txOnly m false p).trans (post_txOnly _ _ _)
  · exact post_txOnly _ _ _

/-- What waits on SOP′ is dropped, and a held command of SOP′ is cut (R84). -/
def sop1Waits (p : Port) : Port :=
  let p := if p.rg.soft = some true then { p with rg := { p.rg with soft := none } }.stop .softAccept else p
  let p := match p.rg.waiting with
    | some m => if m.sop1 then { p with rg := { p.rg with waiting := none } }.stop .response else p
    | none => p
  let p := if p.rxExchange true then p.dropRx true else p
  let p := { p with rg := { p.rg with ownDue := p.rg.ownDue.filter fun m => !m.sop1 } }
  match p.rg.held with
  | some m => if m.sop1 then { p with rg := { p.rg with held := none } }.cutSop1 false m else p
  | none => p

/-- The transmission in hand is cut where it is of SOP′ (R84). -/
def sop1Tx (p : Port) : Port :=
  match p.rg.tx with
  | some m =>
    if !m.sop1 then p
    else
      let started := p.busy
      let p := if p.rg.phase = TxPhase.onLine then p.airEnd else p
      (if m.own && !started then p else p.cutSop1 started m).nextTx
  | none => p

theorem endSop1_eq (p : Port) : p.endSop1 =
    { p.sop1Waits.sop1Tx with
      rg := { p.sop1Waits.sop1Tx.rg with txId1 := 0#3, rxId1 := none, lastSeq1 := none, lastOk1 := none } }.goOn := rfl

theorem sop1Waits_txOnly (p : Port) : TxOnly p p.sop1Waits := by
  have hsoft (q : Port) : TxOnly q
      (if q.rg.soft = some true then { q with rg := { q.rg with soft := none } }.stop .softAccept else q) := by
    split
    · exact (txOnly_setRg q _).trans (stop_txOnly _ _)
    · exact .refl q
  have hwaiting (q : Port) : TxOnly q (match q.rg.waiting with
      | some m => if m.sop1 then { q with rg := { q.rg with waiting := none } }.stop .response else q
      | none => q) := by
    repeat' split
    · exact (txOnly_setRg q _).trans (stop_txOnly _ _)
    · exact .refl q
    · exact .refl q
  have hrx (q : Port) : TxOnly q (if q.rxExchange true then q.dropRx true else q) := by
    split
    · exact dropRx_txOnly true q
    · exact .refl q
  have hheld (q : Port) : TxOnly q (match q.rg.held with
      | some m => if m.sop1 then { q with rg := { q.rg with held := none } }.cutSop1 false m else q
      | none => q) := by
    repeat' split
    · exact (txOnly_setRg q _).trans (cutSop1_txOnly false _ _)
    · exact .refl q
    · exact .refl q
  exact (hsoft p).trans ((hwaiting _).trans ((hrx _).trans ((txOnly_setRg _ _).trans (hheld _))))

theorem sop1Tx_txOnly (p : Port) : TxOnly p p.sop1Tx ∨ TxOnly p.airEnd p.sop1Tx := by
  have hcut (started : Bool) (m : TxMsg) (q : Port) :
      TxOnly q (if m.own && !started then q else q.cutSop1 started m).nextTx := by
    split
    · exact nextTx_txOnly q
    · exact (cutSop1_txOnly started m q).trans (nextTx_txOnly _)
  unfold sop1Tx
  split
  next m _ =>
    by_cases hsop : m.sop1 = true
    · simp only [hsop, Bool.not_true, Bool.false_eq_true, if_false]
      by_cases hline : p.rg.phase = .onLine
      · rw [if_pos hline]
        exact .inr (hcut _ _ _)
      · rw [if_neg hline]
        exact .inl (hcut _ _ _)
    · rw [if_pos (by simpa using hsop)]
      exact .inl (.refl p)
  next => exact .inl (.refl p)

/-- The end of SOP′ is the transmit side's, but for the end of a transmission that it cuts on the line (R84). -/
theorem endSop1_txOnly (p : Port) : TxOnly p p.endSop1 ∨ ∃ q, TxOnly p q ∧ TxOnly q.airEnd p.endSop1 := by
  have hend : TxOnly p.sop1Waits.sop1Tx p.endSop1 := by
    rw [endSop1_eq]
    exact (txOnly_setRg _ _).trans (goOn_txOnly _)
  exact (sop1Tx_txOnly p.sop1Waits).imp (fun h => (sop1Waits_txOnly p).trans (h.trans hend)) fun h =>
    ⟨_, sop1Waits_txOnly p, h.trans hend⟩

/-! VCONN removed. -/

theorem vcnOff_onAir (p : Port) : p.vcnOff.onAir = p.onAir := by
  have hset (q : Port) (c : BitVec 3) : (q.setLineCode false c).onAir = q.onAir := by
    unfold setLineCode onAir lineCode
    cases h : q.cc.polarity <;> simp [h]
  have hstop (q : Port) : ({ q with fe := { q.fe with vcnDriven := false }, cc := { q.cc with vconnOn := false } }.stop
      .vconnLow).onAir = q.onAir := rfl
  unfold vcnOff
  dsimp only
  rw [hstop]
  split
  · exact hset p _
  · rfl

theorem airEnd_offAir {p : Port} (h : p.onAir = false) : p.airEnd = p := if_neg (Bool.eq_false_iff.mp h)

theorem vcnOff_fe (p : Port) : p.vcnOff.fe = { p.fe with vcnDriven := false } := by
  unfold vcnOff setLineCode
  split_ifs <;> rfl

theorem vcnOff_tc (p : Port) : p.vcnOff.tc = p.tc := by
  unfold vcnOff setLineCode
  split_ifs <;> rfl

/-- The non-active CC shows its class of before (Table 2.7). -/
theorem vcnOff_cc (p : Port) : p.vcnOff.cc =
    { (if p.cc.vconnOn then p.setLineCode false p.rg.savedOther else p).cc with vconnOn := false } := rfl

/-- What the end of SOP′ leaves of a port that transmits nothing. -/
theorem endSop1_quiet {p : Port} (h : p.onAir = false) : TxOnly p p.endSop1 := by
  obtain hone | ⟨q, hq, hend⟩ := endSop1_txOnly p
  · exact hone
  · rw [airEnd_offAir (hq.onAir_eq.trans h)] at hend
    exact hq.trans hend

theorem airEnd_keepsEvents (p : Port) : KeepsEvents p p.airEnd := by
  refine .of_evt ?_
  unfold airEnd setLineCode
  split_ifs <;> rfl

/-- VCN is at high impedance and VCONN_ON clear; the events of `p` and VCONN_EN stand. -/
structure VconnGone (p q : Port) : Prop where
  driven : q.fe.vcnDriven = false
  on : q.cc.vconnOn = false
  enable : q.cc.vconnEn = p.cc.vconnEn
  events : KeepsEvents p q

theorem VconnGone.trans {p q r : Port} (h : VconnGone p q) (k : VconnGone q r) : VconnGone p r :=
  ⟨k.driven, k.on, k.enable.trans h.enable, h.events.trans k.events⟩

theorem TxOnly.vconnGone {p q r : Port} (h : VconnGone p q) (k : TxOnly q r) : VconnGone p r :=
  h.trans ⟨k.fe_eq ▸ h.driven, k.cc_eq ▸ h.on, by rw [k.cc_eq], k.events⟩

theorem vcnOff_vconnGone (p : Port) : VconnGone p p.vcnOff := by
  refine ⟨rfl, rfl, ?_, .of_evt ?_⟩
  · exact (congrArg (fun x => x.1.vconnEn) (vcnOff_steady p) :)
  · unfold vcnOff setLineCode
    split_ifs <;> rfl

theorem airEnd_vconnGone {p q : Port} (h : VconnGone p q) : VconnGone p q.airEnd := by
  refine h.trans ⟨?_, ?_, (congrArg (fun x => x.1.vconnEn) (airEnd_steady q) :), q.airEnd_keepsEvents⟩
  · have hfe : q.airEnd.fe.vcnDriven = q.fe.vcnDriven := by
      unfold airEnd setLineCode
      split_ifs <;> rfl
    exact hfe.trans h.driven
  · have hcc : q.airEnd.cc.vconnOn = q.cc.vconnOn := by
      unfold airEnd setLineCode
      split_ifs <;> rfl
    exact hcc.trans h.on

theorem endSop1_vconnGone {p q : Port} (h : VconnGone p q) : VconnGone p q.endSop1 := by
  obtain hone | ⟨r, hr, hend⟩ := endSop1_txOnly q
  · exact hone.vconnGone h
  · exact hend.vconnGone (airEnd_vconnGone (hr.vconnGone h))

theorem detach_vconnGone (c : BitVec 3) (p : Port) : VconnGone p (p.detach c) := by
  obtain ⟨-, -, -, hon, hdriven, -, -, -⟩ := p.detach_endedWith c
  refine ⟨hdriven, hon, ?_, p.detach_keepsEvents c⟩
  have hend : p.endSession.cc.vconnEn = p.cc.vconnEn := (congrArg (fun x => x.1.vconnEn) (endSession_steady p) :)
  unfold detach toUnattached
  dsimp only
  split <;> simpa using hend

theorem post_vconnGone {p q : Port} (h : VconnGone p q) (ev : PEvent) (pl : W36) : VconnGone p (q.post ev pl) :=
  (post_txOnly ev pl q).vconnGone h

/-- The region's action on the fast-detach flag detaches or opens the window. -/
theorem fdetAct_vconnGone {p q : Port} (h : VconnGone p q) : VconnGone p q.fdetAct := by
  have hflag : VconnGone p { q with fe := { q.fe with fdetLatch := false } } := ⟨h.driven, h.on, h.enable, h.events⟩
  unfold fdetAct
  dsimp only
  split_ifs
  · exact (post_vconnGone hflag _ _).trans (detach_vconnGone 3#3 _)
  · exact ⟨h.driven, h.on, h.enable, h.events⟩
  · exact h

theorem fdetSeen_vconnGone (e : Env) {p q : Port} (h : VconnGone p q) : VconnGone p (q.fdetSeen e) := by
  have hhold : VconnGone p q.hold := ⟨h.driven, h.on, h.enable, h.events⟩
  unfold fdetSeen
  dsimp only
  split_ifs
  · exact fdetAct_vconnGone hhold
  · exact fdetAct_vconnGone h
  · exact hhold
  · exact h
  · exact h

/-- VCONN is removed with the event of its cause (R55, R56, R64, R84). -/
theorem vconnRemove_gone (e : Env) (ev : PEvent) (p : Port) :
    VconnGone p (p.vconnRemove e ev) ∧ (ev.bit.isSome = true → (p.vconnRemove e ev).flagged ev = true) := by
  have hposted : VconnGone p (p.vcnOff.post ev 0#36) := post_vconnGone (vcnOff_vconnGone p) ev 0#36
  refine ⟨fdetSeen_vconnGone e (endSop1_vconnGone hposted), fun hbit => ?_⟩
  have hend : VconnGone (p.vcnOff.post ev 0#36) (p.vcnOff.post ev 0#36).endSop1 :=
    endSop1_vconnGone ⟨hposted.driven, hposted.on, rfl, .refl _⟩
  exact (fdetSeen_vconnGone e hend).events ev ((flagged_post_self _ _ _).trans hbit)

/-- With no transmission and no fast-detach flag, the front end, the lines and the Type-C state show the end of the drive
and no more. -/
theorem vconnRemove_quiet (e : Env) (ev : PEvent) {p : Port} (hair : p.onAir = false) (hlatch : p.fe.fdetLatch = false) :
    TxOnly p.vcnOff (p.vconnRemove e ev) := by
  have hend : TxOnly p.vcnOff (p.vcnOff.post ev 0#36).endSop1 := by
    refine (post_txOnly ev 0#36 _).trans (endSop1_quiet ?_)
    rw [(post_txOnly ev 0#36 _).onAir_eq, vcnOff_onAir, hair]
  have hflag : (p.vcnOff.post ev 0#36).endSop1.fe.fdetLatch = false := by
    rw [hend.fe_eq]
    exact (congrArg FrontEnd.fdetLatch (vcnOff_fe p)).trans hlatch
  unfold vconnRemove
  rwa [fdetSeen_quiet e hflag]

theorem vconnFault_eq (e : Env) {p : Port} (h : p.fe.vcnDriven = true) : p.vconnFault e = p.vconnRemove e .tcVconnFault :=
  if_pos h

theorem vconnLineOk_eq {p : Port} (h : p.fe.vcnDriven = true) (ht : p.timerOn .vconnLow = true) :
    p.vconnLineOk = (p.stop .vconnLow).post .tcVconnReady 0#36 := if_pos ⟨h, ht⟩

/-- A port whose VCONN_EN is written 0. -/
def vconnUnenabled (p : Port) : Port := { p with cc := { p.cc with vconnEn := false } }

theorem vconnUnenabled_clear (e : Env) {p : Port} (h : p.fe.vcnDriven = true) :
    p.vconnUnenabled.vconnEnClear e = p.vconnUnenabled.vconnRemove e .tcVconnOff := if_pos h

theorem vconnUnenabled_vcnOff_cc (p : Port) : p.vconnUnenabled.vcnOff.cc = { p.vcnOff.cc with vconnEn := false } := by
  unfold vcnOff setLineCode vconnUnenabled
  dsimp only
  split_ifs <;> rfl

end Port

/-- Settles O5: VCONN_LINE_OK is the event alone; the fault and the cleared enable both remove VCONN, and with nothing on the
line and no flag the removal is that of the drive. -/
theorem typeCVconnEvents : Obligations.TypeCVconnEvents := by
  unfold Obligations.TypeCVconnEvents
  intro s n p hs hdriven
  dsimp only
  refine ⟨fun hup => ⟨?lineOk, ?fault⟩, ?cleared⟩
  case lineOk =>
    intro ht
    refine State.onRegionOf_completes rfl hup hs ?_
    rw [Port.vconnLineOk_eq hdriven ht]
    exact ⟨by simp, by simp, Port.flagged_post_self (p.stop .vconnLow) .tcVconnReady 0#36, by simp⟩
  case fault =>
    refine State.onRegionOf_completes rfl hup hs ?_
    rw [Port.vconnFault_eq _ hdriven]
    obtain ⟨hgone, hflag⟩ := p.vconnRemove_gone (s.env n) .tcVconnFault
    refine ⟨hgone.driven, hgone.on, hflag rfl, fun hair hlatch => ?_⟩
    have hrest := p.vconnRemove_quiet (s.env n) .tcVconnFault hair hlatch
    exact ⟨hrest.fe_eq.trans p.vcnOff_fe, hrest.cc_eq, hrest.tc_eq.trans p.vcnOff_tc⟩
  case cleared =>
    intro hregs
    refine State.onPReg_completes rfl hregs.pReg hs ?_
    obtain ⟨hgone, hflag⟩ := p.vconnUnenabled.vconnRemove_gone (s.env n) .tcVconnOff
    have heq := p.vconnUnenabled_clear (s.env n) hdriven
    rw [show ({ p with cc := { p.cc with vconnEn := false } } : Port) = p.vconnUnenabled from rfl, heq]
    refine ⟨hgone.driven, hgone.on, hgone.enable, hflag rfl, fun hair hlatch => ?_⟩
    have hrest := p.vconnUnenabled.vconnRemove_quiet (s.env n) .tcVconnOff hair hlatch
    refine ⟨hrest.fe_eq.trans p.vconnUnenabled.vcnOff_fe, ?_, hrest.tc_eq.trans p.vconnUnenabled.vcnOff_tc⟩
    exact (hrest.cc_eq.trans p.vconnUnenabled_vcnOff_cc)

end Sys2Proof.Machine
end

section
/-! The clauses of O13: TX_GO of the VCONN and power-path commands (R53, R56, R103, Table 4.1). -/

namespace Sys2Proof.Machine

/-- The staging words of a command without a message, as the region reads them (Tables 3.2 and 3.3). -/
structure Asks (cmd : BitVec 4) (seq : BitVec 8) (w2 : W36) (words : Nat → W36) : Prop where
  code : fld (words 0) 28 4 = cmd
  seqs : (Port.stagedMsg words).seq = seq
  clean : Port.codeRefused (fld (words 0) 16 2) (Port.stagedMsg words).resp = false
  param : words 2 = w2

theorem fld_pay_code (cmd : BitVec 4) : fld (pay 28 cmd) 28 4 = cmd ∧ fld (pay 28 cmd) 16 2 = 0#2 ∧ fld (pay 28 cmd) 24 3 = 0#3 := by
  revert cmd
  decide

theorem fld_pay_seq (seq : BitVec 8) : fld (pay 0 seq) 0 8 = seq := by
  revert seq
  decide

/-- A staging area with the words of such a command. -/
def Staging.asked (cmd : BitVec 4) (seq : BitVec 8) (w2 w3 : W36) (g : Staging) : Staging :=
  { words := (((g.words.setIfInBounds 0 (pay 28 cmd)).setIfInBounds 1 (pay 0 seq)).setIfInBounds 2 w2).setIfInBounds 3 w3,
    pending := false }

/-- The words that the region reads of it. -/
def Staging.read (g : Staging) (i : Nat) : W36 := (g.words[i]?).getD 0#36

theorem Staging.asked_asks (cmd : BitVec 4) (seq : BitVec 8) (w2 w3 : W36) (g : Staging) :
    Asks cmd seq w2 (g.asked cmd seq w2 w3).read := by
  have h0 : (g.asked cmd seq w2 w3).read 0 = pay 28 cmd := by simp [read, asked]
  have h1 : (g.asked cmd seq w2 w3).read 1 = pay 0 seq := by simp [read, asked]
  have h2 : (g.asked cmd seq w2 w3).read 2 = w2 := by simp [read, asked]
  obtain ⟨hcode, hsop, hresp⟩ := fld_pay_code cmd
  exact ⟨by rw [h0, hcode], by simp [Port.stagedMsg, h1, fld_pay_seq], by simp [Port.stagedMsg, Port.codeRefused, h0, hsop, hresp], h2⟩

namespace Port

/-- The port with another staging area. -/
def withStg (g : Staging) (p : Port) : Port := { p with stg := g }

@[simp] theorem withStg_fe (g : Staging) (p : Port) : (p.withStg g).fe = p.fe := rfl
@[simp] theorem withStg_cc (g : Staging) (p : Port) : (p.withStg g).cc = p.cc := rfl
@[simp] theorem withStg_tc (g : Staging) (p : Port) : (p.withStg g).tc = p.tc := rfl
@[simp] theorem withStg_vset (g : Staging) (p : Port) : (p.withStg g).vset = p.vset := rfl

/-- TX_GO of a command without a message acts with its words (R23, R103). -/
theorem txGo_cmdWords {e : Env} {p : Port} (hpend : p.stg.pending = false) (hup : e.regionUp = true) (cmd : BitVec 4)
    (seq : BitVec 8) (w2 w3 : W36) (tenNv : Int) : p.txGo e (cmdWords cmd seq w2 w3) tenNv =
      (p.withStg (p.stg.asked cmd seq w2 w3)).command e (p.stg.asked cmd seq w2 w3).read tenNv := by
  simp only [txGo, cmdWords, stage, txGoAck, hpend, hup, List.foldl, if_false, Bool.false_eq_true, and_self, if_true]
  rfl

end Port

/-- A command of the core that serves a port with nothing pending completes with what the region's action does to the port,
but for the staging area. -/
theorem State.servedBy.command_completes {i : Instr} {s : State} {k : CoreId} {n : PortId} {p : Port} {cmd : BitVec 4} {seq : BitVec 8}
    {w2 : W36} {post : Port → Prop} (h : s.servedBy k n) (hpend : p.stg.pending = false) (hup : s.regionUp n = true)
    (hs : s.ports[n] = p) (he : exec i s = .next (s.onStaged k n fun e p => p.txGo e (cmdWords cmd seq w2 0#36) 0))
    (hp : ∀ words stg, Asks cmd seq w2 words → post ((p.withStg stg).command (s.env n) words 0).bare) :
    PortCompletes i n s post := by
  subst hs
  rw [State.servedBy.onStaged_eq h hpend] at he
  obtain ⟨honly, hport⟩ := State.onPort_spec s n fun e p => p.txGo e (cmdWords cmd seq w2 0#36) 0
  refine ⟨_, he, honly, ?_⟩
  rw [hport, Port.txGo_cmdWords hpend (by simpa using hup)]
  exact hp _ _ (Staging.asked_asks _ _ _ _ _)

namespace Port

/-! The action of each command (Table 3.3). -/

section
variable {e : Env} {seq : BitVec 8} {w2 : W36} {words : Nat → W36} {tenNv : Int} {p : Port}

theorem command_vconnOn (h : Asks 4#4 seq w2 words) : p.command e words tenNv = p.vconnOn e seq := by
  simp [command, h.code, h.seqs, h.clean]

theorem command_vconnOff (h : Asks 5#4 seq w2 words) : p.command e words tenNv = p.vconnOff e := by
  simp [command, h.code, h.clean]

theorem command_transition (h : Asks 8#4 seq w2 words) : p.command e words tenNv = p.transition seq w2 := by
  simp [command, h.code, h.seqs, h.clean, h.param]

theorem command_srcOff {d : Bool} (h : Asks 9#4 seq (payB 0 d) words) : p.command e words tenNv = p.srcOff seq d := by
  have hd : bit (payB 0 d) 0 = d := by cases d <;> rfl
  simp [command, h.code, h.seqs, h.clean, h.param, hd]

theorem command_srcOn (h : Asks 10#4 seq w2 words) : p.command e words tenNv = p.srcOn e seq := by
  simp [command, h.code, h.seqs, h.clean]

theorem command_snkOff {d : Bool} (h : Asks 11#4 seq (payB 0 d) words) : p.command e words tenNv = p.snkOff seq d := by
  have hd : bit (payB 0 d) 0 = d := by cases d <;> rfl
  simp [command, h.code, h.seqs, h.clean, h.param, hd]

theorem command_snkOn (h : Asks 12#4 seq w2 words) : p.command e words tenNv = p.snkOn e seq := by
  simp [command, h.code, h.seqs, h.clean]

theorem command_roleFlip (h : Asks 13#4 seq w2 words) : p.command e words tenNv = p.roleFlip seq := by
  simp [command, h.code, h.seqs, h.clean]

theorem command_frsArm {a : Bool} (h : Asks 14#4 seq (payB 0 a) words) : p.command e words tenNv = p.frsArm seq a := by
  have ha : bit (payB 0 a) 0 = a := by cases a <;> rfl
  simp [command, h.code, h.seqs, h.clean, h.param, ha]

end

/-! The operations (Tables 4.1 and 4.2). A refused command leaves the port but for its event. -/

section
variable {e : Env} {seq : BitVec 8} {p : Port}

theorem cmdBad_spec (seq : BitVec 8) (cmd : BitVec 4) (p : Port) :
    (p.cmdBad seq cmd).flagged .pdCmdBad = true ∧ (p.cmdBad seq cmd).rg = p.rg ∧ (p.cmdBad seq cmd).fe = p.fe :=
  ⟨flagged_post_self _ _ _, by simp [cmdBad], by simp [cmdBad]⟩

theorem vconnOn_drives (hatt : p.attached = true) (hen : p.cc.vconnEn = true) (hshed : e.shedHold = false) :
    p.vconnOn e seq = p.vcnOn.start .vconnLow := by simp [vconnOn, hatt, hen, hshed]

theorem vconnOn_refused (hatt : p.attached = true) (h : p.cc.vconnEn = false ∨ e.shedHold = true) :
    p.vconnOn e seq = p.post .tcVconnRefused 0#36 := by
  obtain h | h := h <;> simp [vconnOn, hatt, h]

theorem vconnOn_unattached (hatt : p.attached = false) : p.vconnOn e seq = p.post .pdCmdBad (pay 0 seq ||| pay 8 4#4) := by
  simp [vconnOn, hatt]

theorem ppBlocked_idle (h : p.rg.hr = .idle) : p.ppBlocked = false := by simp [ppBlocked, h]

/-- A field of the contract word. -/
theorem fld_contract (w : W36) {lo k : Nat} (h : lo + k ≤ 29) : fld (fld w 0 29 : BitVec 29) lo k = fld w lo k := by
  ext i hi
  simp [fld, BitVec.getElem_extractLsb', BitVec.getLsbD_extractLsb']
  omega

/-- What Table 4.2 asks of a TRANSITION's word. -/
theorem transition_eq {w : W36} (hhr : p.rg.hr = .idle) (hatt : p.attached = true) (hramp : p.rg.ramping = false)
    (hkind : fld w 25 2 ≠ 3#2) (hvolt : (fld w 0 12).toNat ≤ 2400) (hcur : (fld w 12 9).toNat ≤ 500) :
    p.transition seq w =
      if p.isSource then
        { p with contract := { p.contract with transPend := true }, rg := { p.rg with armed := some (fld w 0 29) } }
      else
        { p with contract := { p.contract with transPend := true },
                 rg := { p.rg with sinkContract := some (fld w 0 29), sinkVolt := (fld w 0 12).toNat * 20 } } := by
  have hv : fld (fld w 0 29 : BitVec 29) 0 12 = fld w 0 12 := fld_contract w (by decide)
  unfold transition
  dsimp only
  rw [if_neg, hv]
  · rfl
  · simp [ppBlocked_idle hhr, hatt, hramp, hv, fld_contract w (lo := 25) (k := 2) (by decide),
      fld_contract w (lo := 12) (k := 9) (by decide), hkind, hvolt, hcur]

theorem srcOff_eq (hhr : p.rg.hr = .idle) (hst : p.tc.state = .attachedSrc) (d : Bool) :
    p.srcOff seq d = if d then { p with rg := { p.rg with srcOffArmed := true } } else p.srcOffNow := by
  simp [srcOff, ppBlocked_idle hhr, hst]

theorem srcOff_refused (hst : p.tc.state ≠ .attachedSrc) (d : Bool) : p.srcOff seq d = p.cmdBad seq 9#4 :=
  if_pos (.inr hst)

theorem srcOn_eq (hhr : p.rg.hr = .idle) (hst : p.tc.state = .attachedSrc) :
    p.srcOn e seq = if p.cc.vbSafe0 then p.coldPass e .srcOn else { p with rg := { p.rg with srcOnWait := true } } := by
  simp [srcOn, ppBlocked_idle hhr, hst]

theorem onRes_of_shunt (h : p.sluice.senseMode ≠ 1#2) : p.onRes = false := by simp [onRes, h]
theorem onRes_of_ron (h : p.sluice.senseMode = 1#2) : p.onRes = true := by simp [onRes, h]

theorem snkOff_eq (hhr : p.rg.hr = .idle) (hst : p.tc.state = .attachedSnk) (hsense : p.sluice.senseMode ≠ 1#2) (d : Bool) :
    p.snkOff seq d = if d then { p with rg := { p.rg with snkOffArmed := true } } else p.hold.ppDone 11#4 := by
  simp [snkOff, ppBlocked_idle hhr, hst, onRes_of_shunt hsense]

theorem snkOn_eq (hhr : p.rg.hr = .idle) (hst : p.tc.state = .attachedSnk) (hsense : p.sluice.senseMode ≠ 1#2) :
    p.snkOn e seq = if p.cc.vbPresent then p.snkOnNow e else { p with rg := { p.rg with snkOnWait := true } } := by
  simp [snkOn, ppBlocked_idle hhr, hst, onRes_of_shunt hsense]

theorem frsArm_eq (hhr : p.rg.hr = .idle) (hst : p.tc.state = .attachedSnk) (hexp : p.contract.explicit = true)
    (hsense : p.sluice.senseMode ≠ 1#2) (a : Bool) : p.frsArm seq a =
      if a then
        { p with partner := { p.partner with frsArmed := true }, fe := { p.fe with preBias := true },
                 rg := { p.rg with target := 5000, moving := 5000 },
                 vset := { p.vset with duty := BitVec.ofInt 12 (p.ffmap 5000) } }
      else p.disarmFrs.vsetZero := by
  simp [frsArm, ppBlocked_idle hhr, hst, hexp, onRes_of_shunt hsense]

theorem snkOff_ron (h : p.sluice.senseMode = 1#2) (d : Bool) : p.snkOff seq d = p.cmdBad seq 11#4 :=
  if_pos (.inr (.inr (onRes_of_ron h)))

theorem snkOn_ron (h : p.sluice.senseMode = 1#2) : p.snkOn e seq = p.cmdBad seq 12#4 :=
  if_pos (.inr (.inr (onRes_of_ron h)))

theorem frsArm_ron (h : p.sluice.senseMode = 1#2) (a : Bool) : p.frsArm seq a = p.cmdBad seq 14#4 :=
  if_pos (.inr (.inr (.inr (onRes_of_ron h))))

theorem roleFlip_eq (hhr : p.rg.hr = .idle) (hswap : p.contract.swap = true) (hatt : p.attached = true)
    (hsense : p.sluice.senseMode ≠ 1#2) :
    p.roleFlip seq = Port.start .roleFlip { p with rg := { p.rg with flip := true } } := by
  simp [roleFlip, ppBlocked_idle hhr, hswap, hatt, onRes_of_shunt hsense]

theorem roleFlip_refused (hswap : p.contract.swap = false) : p.roleFlip seq = p.cmdBad seq 13#4 :=
  if_pos (.inr (.inl (by rw [hswap]; rfl)))

/-- SRC_OFF at once holds the pairs with VSET at zero, and is done at VB_SAFE0 (Table 4.1). -/
theorem srcOffNow_spec (p : Port) : p.srcOffNow.fe.path = .none ∧ p.srcOffNow.vset.duty = 0#12 ∧ p.srcOffNow.rg.target = 0 ∧
    (if p.cc.vbSafe0 then p.srcOffNow.flagged .ppDone = true else p.srcOffNow.rg.srcOffRun = true) := by
  have hrest (q : Port) : q.discharge.fe.path = q.fe.path ∧ q.discharge.vset = q.vset ∧
      q.discharge.rg.target = q.rg.target ∧ q.discharge.cc = q.cc := by
    unfold discharge
    split <;> exact ⟨rfl, rfl, rfl, rfl⟩
  obtain ⟨hpath, hvset, htarget, hcc⟩ := hrest p.vsetZero.hold
  have hsafe : p.vsetZero.hold.discharge.cc.vbSafe0 = p.cc.vbSafe0 := congrArg PCc.vbSafe0 hcc
  unfold srcOffNow
  dsimp only
  rw [hsafe]
  split
  · exact ⟨by rw [ppDone_fe, hpath]; rfl, by rw [ppDone_vset, hvset]; rfl, by rw [ppDone_rg, htarget]; rfl, ppDone_flagged _ _⟩
  · exact ⟨hpath, by rw [hvset]; rfl, htarget, rfl⟩

/-- SNK_ON with VB_PRESENT passes the sink pair from hold, and is done (Table 4.1). -/
theorem snkOnNow_fromHold (hpath : p.fe.path = .none) (hc : p.canPass e .sink = true) :
    (p.snkOnNow e).fe.path = .sink ∧ (p.snkOnNow e).flagged .ppDone = true ∧ (p.snkOnNow e).vset = p.vset ∧
      (p.snkOnNow e).tc = p.tc := by
  have hpass : Port.pass e .sink false { p with rg := { p.rg with snkOnWait := false } } =
      Port.takePass .sink false { p with rg := { p.rg with snkOnWait := false } } :=
    pass_passes (p := { p with rg := { p.rg with snkOnWait := false } }) hpath hc false
  unfold snkOnNow
  rw [hpass]
  simp

end

/-! VCONN shows on the line whatever the staging area holds. -/

theorem setLineCode_withStg_cc (a : Bool) (c : BitVec 3) (g : Staging) (p : Port) :
    ((p.withStg g).setLineCode a c).cc = (p.setLineCode a c).cc := by
  by_cases h : p.cc.polarity = a <;> simp [setLineCode, withStg, h]

theorem vcnOn_withStg_cc (g : Staging) (p : Port) :
    (p.withStg g).vcnOn.cc = { (if p.cc.vconnOn then p else p.setLineCode false 6#3).cc with vconnOn := true } := by
  rw [vcnOn_eq, apply_ite Port.cc, apply_ite Port.cc, setLineCode_withStg_cc]
  rfl

theorem vcnOff_withStg_cc (g : Staging) (p : Port) : (p.withStg g).vcnOff.cc =
    { (if p.cc.vconnOn then p.setLineCode false p.rg.savedOther else p).cc with vconnOn := false } := by
  rw [vcnOff_cc, apply_ite Port.cc, apply_ite Port.cc, setLineCode_withStg_cc]
  rfl

end Port

/-- Settles O13: the region's action on the command is its operation, with nothing of a Hard Reset in its way. -/
theorem txGoPowerPathCommands : Obligations.TxGoPowerPathCommands := by
  unfold Obligations.TxGoPowerPathCommands
  intro s k n p seq hs hserved hpend hup
  refine ⟨?on, ?onRefused, ?onUnattached, ?off, fun hhr => ⟨?transSrc, ?transSnk, ?offDeferred, ?offNow, ?srcWait, ?srcPass,
    ?snkPass, ?snkOffRon, ?snkOnRon, ?frsRon, ?snkDeferred, ?snkOffNow, ?snkWait, ?flip, ?flipRefused, ?arm, ?disarm,
    ?notSource⟩⟩
  case on =>
    intro hatt hen hshed
    refine State.servedBy.command_completes hserved hpend hup hs rfl fun words stg h => ?_
    rw [Port.command_vconnOn h, Port.vconnOn_drives (e := s.env n) (p := p.withStg stg) hatt hen hshed]
    have hfe : (p.withStg stg).vcnOn.fe = { p.fe with vcnDriven := true } := congrArg Port.fe (Port.vcnOn_eq _)
    exact ⟨hfe, by simp, p.vcnOn_withStg_cc stg⟩
  case onRefused =>
    intro hatt hno
    refine State.servedBy.command_completes hserved hpend hup hs rfl fun words stg h => ?_
    rw [Port.command_vconnOn h, Port.vconnOn_refused (e := s.env n) (p := p.withStg stg) hatt hno]
    exact ⟨by simp, by simp, Port.flagged_post_self _ .tcVconnRefused 0#36⟩
  case onUnattached =>
    intro hatt
    refine State.servedBy.command_completes hserved hpend hup hs rfl fun words stg h => ?_
    rw [Port.command_vconnOn h, Port.vconnOn_unattached (e := s.env n) (p := p.withStg stg) hatt]
    exact ⟨by simp, by simp, Port.flagged_post_self _ .pdCmdBad (pay 0 seq ||| pay 8 4#4)⟩
  case off =>
    refine State.servedBy.command_completes hserved hpend hup hs rfl fun words stg h => ?_
    rw [Port.command_vconnOff h]
    obtain ⟨hgone, hflag⟩ := Port.vconnRemove_gone (s.env n) .tcVconnOff (p.withStg stg)
    refine ⟨hgone.driven, hgone.on, hflag rfl, fun hair hlatch => ?_⟩
    have hrest := Port.vconnRemove_quiet (p := p.withStg stg) (s.env n) .tcVconnOff hair hlatch
    exact ⟨hrest.fe_eq.trans (Port.vcnOff_fe _), hrest.tc_eq.trans (Port.vcnOff_tc _),
      hrest.cc_eq.trans (p.vcnOff_withStg_cc stg)⟩
  case transSrc =>
    intro w hst hramp hkind hvolt hcur
    refine State.servedBy.command_completes hserved hpend hup hs rfl fun words stg h => ?_
    rw [Port.command_transition h, Port.transition_eq (p := p.withStg stg) hhr (by simp [Port.attached, hst]) hramp hkind hvolt hcur,
      if_pos (by simp [Port.isSource, hst])]
    exact ⟨rfl, rfl, rfl⟩
  case transSnk =>
    intro w hst hramp hkind hvolt hcur
    refine State.servedBy.command_completes hserved hpend hup hs rfl fun words stg h => ?_
    rw [Port.command_transition h, Port.transition_eq (p := p.withStg stg) hhr (by simp [Port.attached, hst]) hramp hkind hvolt hcur,
      if_neg (by simp [Port.isSource, hst])]
    exact ⟨rfl, rfl, rfl, rfl⟩
  case offDeferred =>
    intro hst
    refine State.servedBy.command_completes hserved hpend hup hs rfl fun words stg h => ?_
    rw [Port.command_srcOff h, Port.srcOff_eq (p := p.withStg stg) hhr hst]
    exact ⟨rfl, rfl⟩
  case offNow =>
    intro hst
    refine State.servedBy.command_completes hserved hpend hup hs rfl fun words stg h => ?_
    rw [Port.command_srcOff h, Port.srcOff_eq (p := p.withStg stg) hhr hst]
    exact Port.srcOffNow_spec (p.withStg stg)
  case srcWait =>
    intro hst hsafe
    refine State.servedBy.command_completes hserved hpend hup hs rfl fun words stg h => ?_
    rw [Port.command_srcOn h, Port.srcOn_eq (p := p.withStg stg) hhr hst, Port.withStg_cc, if_neg (Bool.eq_false_iff.mp hsafe)]
    exact ⟨rfl, rfl⟩
  case srcPass =>
    intro hst hsafe hmay hforeign hpath
    refine State.servedBy.command_completes hserved hpend hup hs rfl fun words stg h => ?_
    rw [Port.command_srcOn h, Port.srcOn_eq (p := p.withStg stg) hhr hst, Port.withStg_cc, if_pos hsafe]
    have hc := (Port.canPass_source s n (p.withStg stg)).mpr ⟨hmay, hforeign, fun hsink => by simp [hpath] at hsink⟩
    obtain ⟨⟨hsource, hduty, -, -⟩, hrise, -, htc, -⟩ := Port.coldPass_fromHold (p := p.withStg stg) hpath hc .srcOn
    exact ⟨hsource, hduty, hrise, htc⟩
  case snkPass =>
    intro hst hsense hpres hmay hpath
    refine State.servedBy.command_completes hserved hpend hup hs rfl fun words stg h => ?_
    rw [Port.command_snkOn h, Port.snkOn_eq (p := p.withStg stg) hhr hst hsense, Port.withStg_cc, if_pos hpres]
    have hc := (Port.canPass_sink s n (p.withStg stg)).mpr ⟨hmay, fun hsource => by simp [hpath] at hsource, hsense⟩
    exact Port.snkOnNow_fromHold hpath hc
  case snkOffRon =>
    intro hres b
    refine State.servedBy.command_completes hserved hpend hup hs rfl fun words stg h => ?_
    rw [Port.command_snkOff h, Port.snkOff_ron (p := p.withStg stg) hres]
    exact Port.cmdBad_spec seq 11#4 (p.withStg stg)
  case snkOnRon =>
    intro hres
    refine State.servedBy.command_completes hserved hpend hup hs rfl fun words stg h => ?_
    rw [Port.command_snkOn h, Port.snkOn_ron (p := p.withStg stg) hres]
    exact Port.cmdBad_spec seq 12#4 (p.withStg stg)
  case frsRon =>
    intro hres b
    refine State.servedBy.command_completes hserved hpend hup hs rfl fun words stg h => ?_
    rw [Port.command_frsArm h, Port.frsArm_ron (p := p.withStg stg) hres]
    exact Port.cmdBad_spec seq 14#4 (p.withStg stg)
  case snkDeferred =>
    intro hst hsense
    refine State.servedBy.command_completes hserved hpend hup hs rfl fun words stg h => ?_
    rw [Port.command_snkOff h, Port.snkOff_eq (p := p.withStg stg) hhr hst hsense]
    exact ⟨rfl, rfl⟩
  case snkOffNow =>
    intro hst hsense
    refine State.servedBy.command_completes hserved hpend hup hs rfl fun words stg h => ?_
    rw [Port.command_snkOff h, Port.snkOff_eq (p := p.withStg stg) hhr hst hsense]
    exact ⟨by simp [Port.hold], by simp, by simp [Port.hold]⟩
  case snkWait =>
    intro hst hsense hpres
    refine State.servedBy.command_completes hserved hpend hup hs rfl fun words stg h => ?_
    rw [Port.command_snkOn h, Port.snkOn_eq (p := p.withStg stg) hhr hst hsense, Port.withStg_cc, if_neg (Bool.eq_false_iff.mp hpres)]
    exact ⟨rfl, rfl⟩
  case flip =>
    intro hswap hatt hsense
    refine State.servedBy.command_completes hserved hpend hup hs rfl fun words stg h => ?_
    rw [Port.command_roleFlip h, Port.roleFlip_eq (p := p.withStg stg) hhr hswap hatt hsense]
    exact ⟨rfl, by simp, rfl⟩
  case flipRefused =>
    intro hswap
    refine State.servedBy.command_completes hserved hpend hup hs rfl fun words stg h => ?_
    rw [Port.command_roleFlip h, Port.roleFlip_refused (p := p.withStg stg) hswap]
    exact (Port.cmdBad_spec seq 13#4 (p.withStg stg)).imp_right And.left
  case arm =>
    intro hst hexp hsense
    refine State.servedBy.command_completes hserved hpend hup hs rfl fun words stg h => ?_
    rw [Port.command_frsArm h, Port.frsArm_eq (p := p.withStg stg) hhr hst hexp hsense]
    exact ⟨rfl, rfl, rfl, rfl⟩
  case disarm =>
    intro hst hexp hsense
    refine State.servedBy.command_completes hserved hpend hup hs rfl fun words stg h => ?_
    rw [Port.command_frsArm h, Port.frsArm_eq (p := p.withStg stg) hhr hst hexp hsense]
    exact ⟨rfl, rfl, rfl, rfl⟩
  case notSource =>
    intro hst d
    refine State.servedBy.command_completes hserved hpend hup hs rfl fun words stg h => ?_
    rw [Port.command_srcOff h, Port.srcOff_refused (p := p.withStg stg) hst]
    exact Port.cmdBad_spec seq 9#4 (p.withStg stg)

end Sys2Proof.Machine
end

section
/-! The clauses of O15: a transmission from its preamble to its end (R60, R72 to R79, R85, R86, Table 3.8). -/

namespace Sys2Proof.Machine

/-! The MessageID in a header (Table 3.3). -/

theorem fld_withId (h : BitVec 16) (id : BitVec 3) : fld (withId h id) 9 3 = id := by
  have hclear : fld (h &&& 0xF1FF#16) 9 3 = 0#3 := by
    rw [fld, BitVec.extractLsb'_and, show BitVec.extractLsb' 9 3 0xF1FF#16 = 0#3 from rfl, BitVec.and_zero]
  have hid : fld (id.setWidth 16 <<< 9) 9 3 = id := by
    revert id
    decide
  unfold fld at hclear hid ⊢
  rw [withId, BitVec.extractLsb'_or, hclear, hid, BitVec.zero_or]

theorem withId_rest (h : BitVec 16) (id : BitVec 3) : withId h id &&& 0xF1FF#16 = h &&& 0xF1FF#16 := by
  have hid : id.setWidth 16 <<< 9 &&& 0xF1FF#16 = 0#16 := by
    revert id
    decide
  have hor (x y m : BitVec 16) : (x ||| y) &&& m = (x &&& m) ||| (y &&& m) := by
    ext i hi
    simp [Bool.and_or_distrib_right]
  rw [withId, hor, hid, BitVec.or_zero, BitVec.and_assoc, BitVec.and_self]

namespace Port

variable {p : Port}

/-! The line under a transmission (R60, R72). -/

theorem airBegin_rg (p : Port) : p.airBegin.rg = { p.rg with savedLine := p.airBegin.rg.savedLine } := by
  unfold airBegin setLineCode
  split_ifs <;> rfl

/-- With CC1 active a transmission shows on CC1 (Table 2.7). -/
theorem airBegin_cc (hpol : p.cc.polarity = false) : p.airBegin.cc = { p.cc with cc1Line := 7#3 } := by
  unfold airBegin
  split
  next hair =>
    have hline : p.cc.cc1Line = 7#3 := by simpa [onAir, lineCode, hpol] using hair
    rw [← hline]
  next => simp [setLineCode, hpol]

theorem airEnd_onAir (hair : p.onAir = true) : p.airEnd =
    Port.setLineCode true p.rg.savedLine
      { p with fe := { p.fe with fdetLatch := p.fe.fdetLatch || p.fe.fdetBlank, fdetBlank := false } } := if_pos hair

theorem setLineCode_kept (a : Bool) (c : BitVec 3) (p : Port) : (p.setLineCode a c).fe = p.fe ∧ (p.setLineCode a c).rg = p.rg ∧
    (p.setLineCode a c).tc = p.tc ∧ (p.setLineCode a c).contract = p.contract := by
  unfold setLineCode
  split <;> exact ⟨rfl, rfl, rfl, rfl⟩

/-- A crossing that was blanked is latched at the end (R60). -/
theorem airEnd_spec (hair : p.onAir = true) :
    p.airEnd.fe = { p.fe with fdetLatch := p.fe.fdetLatch || p.fe.fdetBlank, fdetBlank := false } ∧ p.airEnd.rg = p.rg ∧
      p.airEnd.tc = p.tc ∧ p.airEnd.contract = p.contract := by
  rw [airEnd_onAir hair]
  exact setLineCode_kept _ _ _

/-! The start and the end on the line. -/

/-- The port at the preamble of a message on SOP (R72). -/
def atPreamble (m : TxMsg) (p : Port) : Port :=
  Port.airBegin { p with
    rg := { p.rg with phase := .onLine, tx := some { m with header := withId m.header p.rg.txId }, meas := false } }

/-- A first attempt on SOP carries the MessageIDCounter, and its TX_SEQ is kept (R72, R75, R76). -/
theorem transmitStart_spec {m : TxMsg} (htx : p.rg.tx = some m) (hphase : p.rg.phase = .ready) (hchunk : p.rg.chunk = 0#4)
    (hown : m.own = false) (hsop : m.sop1 = false) (hpol : p.cc.polarity = false) :
    p.transmitStart.rg.phase = .onLine ∧ p.transmitStart.rg.lastSeq = some m.seq ∧ p.transmitStart.rg.lastOk = none ∧
      p.transmitStart.cc = { p.cc with cc1Line := 7#3 } ∧
      p.transmitStart.rg.tx = some { m with header := withId m.header p.rg.txId } := by
  have heq : p.transmitStart = { p.atPreamble m with
      rg := { (p.atPreamble m).rg with lastSeq := some m.seq, lastOk := none, last1 := false } } := by
    simp [transmitStart, atPreamble, htx, hphase, hchunk, hown, hsop]
  have hrg := airBegin_rg { p with
    rg := { p.rg with phase := .onLine, tx := some { m with header := withId m.header p.rg.txId }, meas := false } }
  have hcc : (p.atPreamble m).cc = { p.cc with cc1Line := 7#3 } := airBegin_cc hpol
  rw [heq]
  exact ⟨congrArg Region.phase hrg, rfl, rfl, hcc, congrArg Region.tx hrg⟩

/-- The port at the EOP of its own message, before the fast-detach flag is seen (R75). -/
def atEop (p : Port) : Port := { p with rg := { p.rg with phase := .awaitCrc } }.airEnd.start .crcReceive

theorem transmitEnd_eq (e : Env) (hphase : p.rg.phase = .onLine) : p.transmitEnd e = p.atEop.fdetSeen e := if_pos hphase

/-- A crossing that was blanked opens the window at the EOP (R60). -/
theorem transmitEnd_blanked {e : Env} (hup : e.regionUp = true) (hphase : p.rg.phase = .onLine) (hst : p.tc.state = .attachedSrc)
    (hair : p.onAir = true) (hblank : p.fe.fdetBlank = true) (htrans : p.contract.transPend = false)
    (hswap : p.contract.swap = false) :
    (p.transmitEnd e).rg.phase = .awaitCrc ∧ (p.transmitEnd e).rg.fdet = true ∧ (p.transmitEnd e).timerOn .fdetWindow = true ∧
      (p.transmitEnd e).fe.fdetBlank = false := by
  obtain ⟨hfe, hrg, htc, hcontract⟩ := airEnd_spec (p := { p with rg := { p.rg with phase := .awaitCrc } }) hair
  have hlatch : p.atEop.fe.fdetLatch = true := (congrArg FrontEnd.fdetLatch hfe).trans (by rw [hblank, Bool.or_true])
  have heop : p.atEop.fe.fdetBlank = false ∧ p.atEop.rg.phase = .awaitCrc :=
    ⟨congrArg FrontEnd.fdetBlank hfe, congrArg Region.phase hrg⟩
  rw [transmitEnd_eq e hphase, fdetSeen_window hup hlatch ((congrArg PTcstate.state htc).trans hst)
    ((congrArg PContract.transPend hcontract).trans htrans) ((congrArg PContract.swap hcontract).trans hswap)]
  split
  · exact ⟨heop.2, rfl, fdetWindow_timer _, heop.1⟩
  · exact ⟨heop.2, rfl, fdetWindow_timer _, heop.1⟩

/-- Without one the line shows its class again and CRCReceiveTimer runs. -/
theorem transmitEnd_clear {e : Env} (hphase : p.rg.phase = .onLine) (hpol : p.cc.polarity = false) (hline : p.cc.cc1Line = 7#3)
    (hlatch : p.fe.fdetLatch = false) (hblank : p.fe.fdetBlank = false) :
    (p.transmitEnd e).rg.phase = .awaitCrc ∧ (p.transmitEnd e).timerOn .crcReceive = true ∧
      (p.transmitEnd e).cc = { p.cc with cc1Line := p.rg.savedLine } := by
  have hair : p.onAir = true := by simp [onAir, lineCode, hpol, hline]
  have hend := airEnd_onAir (p := { p with rg := { p.rg with phase := .awaitCrc } }) hair
  obtain ⟨hfe, hrg, -, -⟩ := airEnd_spec (p := { p with rg := { p.rg with phase := .awaitCrc } }) hair
  have hquiet : p.atEop.fe.fdetLatch = false := (congrArg FrontEnd.fdetLatch hfe).trans (by rw [hlatch, hblank]; rfl)
  rw [transmitEnd_eq e hphase, fdetSeen_quiet e hquiet]
  refine ⟨congrArg Region.phase hrg, by simp [atEop], (congrArg Port.cc hend).trans ?_⟩
  simp [setLineCode, hpol]

/-! The answer of the partner (R75). -/

/-- With nothing that waits a message that ends leaves nothing in hand. -/
theorem nextTx_empty (hdue : p.rg.ownDue = []) (hheld : p.rg.held = none) : p.nextTx =
    Port.stopAll [.crcReceive, .sinkTx, .chunkRequest]
      { p with rg := { p.rg with tx := none, phase := .idle }, pdstat := { p.pdstat with txPending := false } } := by
  simp [nextTx, hdue, hheld, stopAll]

theorem isCtrl_data {h : BitVec 16} (hndo : hNdo h ≠ 0) (t : BitVec 5) : isCtrl h t = false := by simp [isCtrl, hndo]

/-- The port that has reported the end of its message, with PD_TX_OK. -/
def reportedOk (m : TxMsg) (p : Port) : Port := Port.post .pdTxOk (txPay m) { p with rg := { p.rg with lastOk := some true } }

/-- A data message of the core on SOP, outside an AMS end and without a response, is done with PD_TX_OK; a Request asks for
its answer beside (R79). -/
theorem txDone_data {m : TxMsg} (hsop : m.sop1 = false) (hown : m.own = false) (hend : m.amsEnd = false) (hresp : m.resp = 0#3)
    (hndo : hNdo m.header ≠ 0) : ∃ q : Port, p.txDone m = q.nextTx ∧ q.flagged .pdTxOk = true ∧
      q.rg = { p.rg with lastOk := some true, asked := q.rg.asked } := by
  have hrg : (p.reportedOk m).rg = { p.rg with lastOk := some true } := post_rg _ _ _
  have hflag : (p.reportedOk m).flagged .pdTxOk = true := flagged_post_self _ _ _
  by_cases hask : (isData m.header 2#5 || isData m.header 9#5) = true
  · refine ⟨{ p.reportedOk m with rg := { (p.reportedOk m).rg with asked := !p.isSource } }, ?_, hflag, by rw [hrg]⟩
    simp [txDone, reportedOk, setOutcome, hown, hsop, hend, hresp, isCtrl_data hndo, hask, isSource]
  · refine ⟨p.reportedOk m, ?_, hflag, by rw [hrg]⟩
    simp [txDone, reportedOk, setOutcome, hown, hsop, hend, hresp, isCtrl_data hndo, hask]

/-- The port when the GoodCRC of its message on SOP has come: two timers end and the next MessageID stands (R75). -/
def goodId (p : Port) : Port :=
  let q := (p.stop .noResponse).stop .crcReceive
  { q with rg := { q.rg with txId := p.rg.txId + 1#3 } }

/-- GoodCRC with the MessageID in hand ends such a message (R75). -/
theorem goodCrc_data {m : TxMsg} (htx : p.rg.tx = some m) (hphase : p.rg.phase = .awaitCrc) (hsop : m.sop1 = false)
    (hown : m.own = false) (hend : m.amsEnd = false) (hresp : m.resp = 0#3) (hext : hExt m.header = false)
    (hndo : hNdo m.header ≠ 0) (hheld : p.rg.held = none) (hdue : p.rg.ownDue = []) :
    let q := p.goodCrc false p.rg.txId
    q.rg.tx = none ∧ q.rg.phase = .idle ∧ q.rg.txId = p.rg.txId + 1#3 ∧ q.rg.lastOk = some true ∧
      q.flagged .pdTxOk = true ∧ q.timerOn .crcReceive = false ∧ q.timerOn .noResponse = false := by
  have heq : p.goodCrc false p.rg.txId = (p.goodId).txDone m := by
    simp [goodCrc, goodId, stop, htx, hphase, hsop, hext]
  obtain ⟨r, hdone, hflag, hrg⟩ := txDone_data (p := p.goodId) hsop hown hend hresp hndo
  dsimp only
  rw [heq, hdone, nextTx_empty (by rw [hrg]; exact hdue) (by rw [hrg]; exact hheld)]
  refine ⟨rfl, rfl, congrArg Region.txId hrg, congrArg Region.lastOk hrg, hflag, ?_, ?_⟩
  · simp [timerOn, stopAll]
  · have htimers : r.rg.timers = p.goodId.rg.timers := by rw [hrg]
    simp [timerOn, stopAll, htimers, goodId, stop]

/-- A GoodCRC on SOP with another MessageID stops NoResponseTimer alone (R75). -/
theorem goodCrc_other {m : TxMsg} {id : BitVec 3} (htx : p.rg.tx = some m) (hid : id ≠ p.rg.txId) :
    p.goodCrc false id = p.stop .noResponse := by
  simp [goodCrc, stop, htx, hid.symm]

theorem crcTimeout_retry {m : TxMsg} (htx : p.rg.tx = some m) (hphase : p.rg.phase = .awaitCrc)
    (ht : p.timerOn .crcReceive = true) (hretries : p.rg.retries ≠ 0) : p.crcTimeout =
      { p.stop .crcReceive with rg := { (p.stop .crcReceive).rg with retries := p.rg.retries - 1, phase := .retryWait } } := by
  simp [crcTimeout, stop, htx, hphase, ht, hretries]

/-- The port that has reported the failure of its message: PD_TX_FAIL, and one more in TX_FAIL (R75). -/
def reportedFail (m : TxMsg) (p : Port) : Port :=
  let q := (p.setOutcome m false).post .pdTxFail (txPay m)
  { q with pdstat := { q.pdstat with txFail := satInc q.pdstat.txFail } }

theorem setOutcome_kept (m : TxMsg) (ok : Bool) (p : Port) : (p.setOutcome m ok).rg.ownDue = p.rg.ownDue ∧
    (p.setOutcome m ok).rg.held = p.rg.held ∧ (p.setOutcome m ok).pdstat = p.pdstat := by
  unfold setOutcome
  split_ifs <;> exact ⟨rfl, rfl, rfl⟩

/-- With no retry left and nothing to do on failure the message ends with PD_TX_FAIL (R75). -/
theorem crcTimeout_fails {m : TxMsg} (htx : p.rg.tx = some m) (hphase : p.rg.phase = .awaitCrc)
    (ht : p.timerOn .crcReceive = true) (hretries : p.rg.retries = 0) (hown : m.own = false) (hfail : m.onFail = 0#2)
    (hndo : hNdo m.header ≠ 0) (hheld : p.rg.held = none) (hdue : p.rg.ownDue = []) :
    p.crcTimeout.rg.tx = none ∧ p.crcTimeout.rg.phase = .idle ∧ p.crcTimeout.pdstat.txFail = satInc p.pdstat.txFail ∧
      p.crcTimeout.flagged .pdTxFail = true := by
  have hfails : p.crcTimeout = (p.stop .crcReceive).txFail m := by simp [crcTimeout, stop, htx, hphase, ht, hretries]
  obtain ⟨hdue', hheld', hstat⟩ := setOutcome_kept m false (p.stop .crcReceive)
  have hrg : ((p.stop .crcReceive).reportedFail m).rg = ((p.stop .crcReceive).setOutcome m false).rg := by
    simp [reportedFail]
  have hstat' : ((p.stop .crcReceive).reportedFail m).pdstat.txFail = satInc p.pdstat.txFail := by
    simp [reportedFail, hstat]
  have hflag : ((p.stop .crcReceive).reportedFail m).flagged .pdTxFail = true :=
    flagged_post_self ((p.stop .crcReceive).setOutcome m false) .pdTxFail (txPay m)
  generalize hq : (p.stop .crcReceive).reportedFail m = q at hrg hstat' hflag
  have hnext : (p.stop .crcReceive).txFail m =
      (Port.stopAll [.crcReceive, .chunkRequest] { q with rg := { q.rg with tx := none, phase := .idle } }).nextTx := by
    simp [← hq, txFail, reportedFail, onFail, isCtrl_data hndo, hown, hfail]
  rw [hfails, hnext, nextTx_empty (by simp [stopAll, hrg, hdue', hdue]) (by simp [stopAll, hrg, hheld', hheld])]
  exact ⟨rfl, rfl, hstat', hflag⟩

/-! Collision avoidance, the AMS and chunks (R77, R78, R85, R86). -/

theorem sinkTxExpiry_eq (hphase : p.rg.phase = .sinkTxWait) (ht : p.timerOn .sinkTx = true) :
    p.sinkTxExpiry = Port.stop .sinkTx { p with rg := { p.rg with phase := .ready } } := if_pos ⟨hphase, ht⟩

theorem sinkTxOkSeen_eq (hst : p.tc.state = .attachedSnk) (hcoll : p.pdstat.collAv = true) (hphase : p.rg.phase = .heldNg) :
    p.sinkTxOkSeen =
      { p with pdstat := { p.pdstat with sinkTxOk := true, txPending := false }, rg := { p.rg with phase := .ready } } := by
  simp [sinkTxOkSeen, hst, hcoll, hphase]

theorem amsIdleExpiry_source (hst : p.tc.state = .attachedSrc) (hcoll : p.pdstat.collAv = true) (hphase : p.rg.phase = .idle) :
    p.amsIdleExpiry =
      Port.stop .amsIdle { p with pdstat := { p.pdstat with amsActive := false, sinkTxOk := true } } := by
  simp [amsIdleExpiry, amsEnd, isSource, hst, hcoll, hphase]

/-- The Chunk Request that names the next chunk readies it (R85). -/
theorem chunkRequest_next {m : TxMsg} (hphase : p.rg.phase = .awaitCrc ∨ p.rg.phase = .retryWait ∨ p.rg.phase = .chunkWait)
    (htx : p.rg.tx = some m) (hsop : m.sop1 = false) (hown : m.own = false) (hext : hExt m.header = true)
    (hnext : (p.rg.chunk + 1#4).toNat < chunksOf m.extHeader) (hchunks : 1 < chunksOf m.extHeader) (hrx : p.rg.rx = none) :
    p.chunkRequest false (p.rg.chunk + 1#4) =
      Port.stopAll [.chunkRequest, .crcReceive]
        { p with rg := { p.rg with chunk := p.rg.chunk + 1#4, phase := .ready, retries := if p.rev3 then 2 else 3 } } := by
  have hsent : p.chunkSent = true ∧ p.busy = true := by
    obtain h | h | h := hphase <;> simp [chunkSent, busy, h]
  have hexchange : p.txExchange false = true := by simp [txExchange, htx, hsop, hown, hext, hchunks, hsent.2]
  simp only [chunkRequest, rxExchange, hrx, Option.isSome_none, Bool.false_eq_true, if_false, htx, hexchange, if_true]
  exact if_pos ⟨trivial, hnext, hsent.1⟩

/-- A chunk that does not come ends the exchange (R86). -/
theorem chunkTimeout_aborts (hrx : p.rg.rx.isSome = true) (ht : p.timerOn .chunkResponse = true) :
    (p.chunkTimeout false).rg.rx = none ∧ (p.chunkTimeout false).flagged .pdChunkAbort = true ∧
      (p.chunkTimeout false).timerOn .chunkResponse = false := by
  have heq : p.chunkTimeout false = p.chunkAbortRx false := by simp [chunkTimeout, rxExchange, hrx, ht]
  rw [heq]
  exact ⟨by simp [chunkAbortRx, dropRx, setRx, stop], flagged_post_self _ _ _, by simp [chunkAbortRx, dropRx, setRx, chunkTimer]⟩

end Port

/-- Settles O15: each event of a transmission is one step of the region on the message in hand. -/
theorem pdTransmission : Obligations.PdTransmission := by
  unfold Obligations.PdTransmission
  intro s n p hs hup
  refine ⟨?start, ?blanked, ?clear, ?goodCrc, ?otherId, ?retry, ?fails, ?sinkTx, ?sinkTxOk, ?amsIdle, ?chunkNext, ?chunkLost⟩
  case start =>
    intro m us htx hphase hchunk hown hsop hmeas hpol
    have hexec : exec (.transmitStart n us) s = .next (s.onRegionOf n fun _ p => p.transmitStart) := by
      have hopen : (s.regionUp n && s.ports[n].startsSop && s.ports[n].rg.meas) = false := by rw [hs, hmeas, Bool.and_false]
      exact congrArg Host.Outcome.next (if_neg (Bool.eq_false_iff.mp hopen))
    refine State.onRegionOf_completes hexec hup hs ?_
    obtain ⟨hline, hseq, hok, hcc, hsent⟩ := Port.transmitStart_spec htx hphase hchunk hown hsop hpol
    exact ⟨hline, hseq, hok, hcc, _, hsent, fld_withId _ _, withId_rest _ _⟩
  case blanked =>
    exact fun hphase hst hair hblank htrans hswap =>
      State.onRegionOf_completes rfl hup hs (Port.transmitEnd_blanked hup hphase hst hair hblank htrans hswap)
  case clear =>
    exact fun hphase hpol hline hlatch hblank =>
      State.onRegionOf_completes rfl hup hs (Port.transmitEnd_clear hphase hpol hline hlatch hblank)
  case goodCrc =>
    exact fun m htx hphase hsop hown hend hresp hext hndo hheld hdue =>
      State.onRegionOf_completes rfl hup hs (Port.goodCrc_data htx hphase hsop hown hend hresp hext hndo hheld hdue)
  case otherId =>
    intro m id htx _ hid
    refine State.onRegionOf_completes rfl hup hs ?_
    rw [Port.goodCrc_other htx hid]
    exact ⟨htx, rfl, rfl, rfl⟩
  case retry =>
    intro m htx hphase ht hretries
    refine State.onRegionOf_completes rfl hup hs ?_
    rw [Port.crcTimeout_retry htx hphase ht hretries]
    exact ⟨htx, rfl, rfl, by simp [Port.timerOn, Port.stop], rfl⟩
  case fails =>
    exact fun m htx hphase ht hretries hown hfail hndo hheld hdue =>
      State.onRegionOf_completes rfl hup hs (Port.crcTimeout_fails htx hphase ht hretries hown hfail hndo hheld hdue)
  case sinkTx =>
    intro hphase ht
    refine State.onRegionOf_completes rfl hup hs ?_
    rw [Port.sinkTxExpiry_eq hphase ht]
    exact ⟨rfl, rfl, by simp⟩
  case sinkTxOk =>
    intro hst hcoll hphase
    refine State.onRegionOf_completes rfl hup hs ?_
    rw [Port.sinkTxOkSeen_eq hst hcoll hphase]
    exact ⟨rfl, rfl, rfl, rfl⟩
  case amsIdle =>
    intro hst hcoll hphase
    refine State.onRegionOf_completes rfl hup hs ?_
    rw [Port.amsIdleExpiry_source hst hcoll hphase]
    exact ⟨rfl, by simp⟩
  case chunkNext =>
    intro m hatt hen hgive hbist hphase htx hsop hown hext hnext hchunks hrx
    refine State.onRegionOf_completes rfl hup hs ?_
    have hhears : p.hears = true := by simp [Port.hears, hatt, hen, hgive, hbist]
    rw [if_pos hhears, Port.chunkRequest_next hphase htx hsop hown hext hnext hchunks hrx]
    exact ⟨rfl, rfl, rfl, rfl⟩
  case chunkLost =>
    exact fun hrx ht => State.onRegionOf_completes rfl hup hs (Port.chunkTimeout_aborts hrx ht)

end Sys2Proof.Machine
end

section
/-! What a region's command completes with is what its operation does to the port. -/

namespace Sys2Proof.Machine.State

/-- The converse of `onRegionOf_completes`: what holds of the port after a region's command holds of its operation's
result. -/
theorem post_of_onRegionOf {i : Instr} {n : PortId} {s : State} {f : Env → Port → Port} {p : Port} {post : Port → Prop}
    (hexec : exec i s = .next (s.onRegionOf n f)) (hup : s.regionUp n = true) (hport : s.ports[n] = p)
    (h : PortCompletes i n s post) : post (f (s.env n) p).bare := by
  obtain ⟨t, ht, -, hpost⟩ := h
  have hself := s.onRegionOf_self f hup
  rw [← Host.Outcome.next.inj (ht.symm.trans hexec), hport] at hself
  exact hself ▸ hpost

end Sys2Proof.Machine.State
end

section
/-! The refutation of O16: a data message received while a Soft_Reset of the region waits and nothing is in hand. -/

namespace Sys2Proof.Machine

/-- An attached source with nothing in hand, whose region has a Soft_Reset of its own on SOP still to send. -/
def Port.softDue : Port :=
  let p := Port.reset 0
  { p with
    tc := { p.tc with state := .attachedSrc }
    rg := { p.rg with latchedPdEn := true, ownDue := [Port.ownMsg (p.ownHeader tSoftReset) 0#16 false] } }

/-- A Request at Revision 2.0 with MessageID 0. -/
def requestFrame : Frame :=
  { sop := 0#3, header := 0x1042#16, extHeader := 0#16, objs := [0x10000000#32], crcOk := true, lenOk := true }

/-- The Request's MessageID is stored, then the message that waits goes next (R79): the Soft_Reset clears the stored
MessageID of SOP again (R99). -/
theorem Port.softDue_request (e : Env) (slack : Bool) :
    (Port.softDue.frameReceived e slack requestFrame).rg.rxId = none := rfl

/-- Refutes O16: where nothing is in hand and a Soft_Reset of the region waits in `ownDue`, a data message on SOP lets it
go, so the MessageID of the message is not kept; the clause asks for an empty hand, but not that nothing waits. -/
theorem not_pdReception : ¬ Obligations.PdReception := by
  unfold Obligations.PdReception
  intro h
  have hport := State.serving_port Port.softDue
  have hup : (State.serving Port.softDue).regionUp 0 = true := State.serving_up rfl rfl rfl
  generalize State.serving Port.softDue = s at hport hup
  obtain ⟨-, hdata, -⟩ := h s 0 Port.softDue hport hup
  obtain ⟨hkept, -⟩ := State.post_of_onRegionOf rfl hup hport
    (hdata requestFrame rfl rfl rfl rfl rfl rfl rfl rfl rfl rfl rfl rfl rfl rfl rfl
      (by decide) (by decide) (by decide) (by decide))
  rw [Port.bare_rg, Port.softDue_request] at hkept
  exact absurd hkept (by decide)

end Sys2Proof.Machine
end

section
/-! The refutation of O17: a Soft_Reset that cuts a chunked message whose ON_FAIL is Hard Reset. -/

namespace Sys2Proof.Machine

/-- An attached source at Revision 3.x that has sent the first of two chunks of an EPR_Source_Capabilities of the core and
waits for the Chunk Request; ON_FAIL of the message is 0b10, Hard Reset. -/
def Port.chunkingOrHardReset : Port :=
  let p := Port.reset 0
  { p with
    tc := { p.tc with state := .attachedSrc }
    pdstat := { p.pdstat with rev := 2#2 }
    rg := { p.rg with
      latchedPdEn := true, phase := .chunkWait, chunk := 0#4
      tx := some { Port.ownMsg 0xF191#16 0x8028#16 false with
        own := false, onFail := 2#2, objs := List.replicate 10 0x0001912C#32 } } }

/-- The Soft_Reset ends the exchange and puts its Accept in hand; then ON_FAIL sends Hard Reset, which aborts the Accept
(R86, R95, Tables 3.10 and 3.12). -/
theorem Port.chunkingOrHardReset_softReset (e : Env) :
    let q := Port.chunkingOrHardReset.softResetReceived e
    q.rg.hr = .signalling ∧ q.rg.tx = none ∧ q.rg.ownDue = [] := ⟨rfl, rfl, rfl⟩

/-- Refutes O17: a Soft_Reset received inside a chunked transmission whose ON_FAIL is Hard Reset leaves no Accept in
hand, but the signalling of a Hard Reset; the clause of SOFT_RESET_RECEIVED does not leave such a message out. -/
theorem not_pdResets : ¬ Obligations.PdResets := by
  unfold Obligations.PdResets
  intro h
  have hport := State.serving_port Port.chunkingOrHardReset
  have hup : (State.serving Port.chunkingOrHardReset).regionUp 0 = true := State.serving_up rfl rfl rfl
  generalize State.serving Port.chunkingOrHardReset = s at hport hup
  obtain ⟨hsoft, -⟩ := h s 0 Port.chunkingOrHardReset hport hup
  obtain ⟨-, -, -, -, -, -, ⟨m, hinHand, -⟩, -⟩ := State.post_of_onRegionOf rfl hup hport (hsoft rfl rfl rfl rfl)
  obtain ⟨-, htx, hdue⟩ := Port.chunkingOrHardReset_softReset (s.env 0)
  rw [Port.bare_rg, htx, hdue] at hinHand
  simp at hinHand

end Sys2Proof.Machine
end

section
/-! The clauses of O18: transitions, the deferred SRC_OFF, FRS and the role flip (R102, R110, R118 to R120, R124, R125,
Tables 4.6 and 4.12). -/

namespace Sys2Proof.Machine

namespace Port

variable {p : Port}

/-! SLOW with AUTO follows a transition in P_ILIM alone (Table 5.10). -/

theorem slowRaise_eq (w : BitVec 29) (p : Port) : p.slowRaise w = { p with ilim := (p.slowRaise w).ilim } := by
  unfold slowRaise
  dsimp only
  split <;> rfl

theorem slowFor_eq (w : BitVec 29) (p : Port) : p.slowFor w = { p with ilim := (p.slowFor w).ilim } := by
  unfold slowFor
  split <;> rfl

@[simp] theorem ppDone_contract (cmd : BitVec 4) (p : Port) : (p.ppDone cmd).contract = p.contract := by
  unfold ppDone
  split <;> simp [gaugeMark]

@[simp] theorem ppDone_timerOn (cmd : BitVec 4) (t : TimerId) (p : Port) : (p.ppDone cmd).timerOn t = p.timerOn t := by
  rw [timerOn, ppDone_rg, timerOn]

/-! A transition: its ramp, its end and its timeout (R110, Table 4.6). -/

theorem transitionStart_spec {w : BitVec 29} (harm : p.rg.armed = some w) (ht : p.timerOn .srcTrans = true)
    (hramp : p.rg.ramping = false) : let q := p.transitionStart
    q.rg.ramping = true ∧ q.rg.target = (fld w 0 12).toNat * 20 ∧ q.timerOn .srcTrans = false ∧ q.rg.armed = some w ∧
      q.contract = p.contract ∧ q.fe = p.fe := by
  simp only [transitionStart, harm, ht, hramp, Bool.not_false, and_self, if_true]
  rw [slowRaise_eq]
  exact ⟨rfl, rfl, by simp [timerOn, stop, vsetRamp], harm, rfl, rfl⟩

theorem settleDone_settled {w : BitVec 29} {mv : Nat} (harm : p.rg.armed = some w) (hramp : p.rg.ramping = true)
    (hwin : inWindow w mv = true) : let q := p.settleDone mv
    q.contract = { p.contract with contract := w, transPend := false } ∧ q.rg.armed = none ∧ q.rg.ramping = false ∧
      q.flagged .ppDone = true ∧ q.timerOn .ppTimeout = false := by
  simp only [settleDone, harm, hramp, hwin, and_self, if_true]
  rw [slowFor_eq]
  exact ⟨by simp, by simp [stop], by simp [stop], ppDone_flagged _ _, by simp⟩

theorem settleDone_outside {w : BitVec 29} {mv : Nat} (harm : p.rg.armed = some w) (hwin : inWindow w mv = false) :
    p.settleDone mv = p := by
  simp [settleDone, harm, hwin]

theorem ppTimeoutExpiry_ramping (ht : p.timerOn .ppTimeout = true) (harm : p.rg.armed.isSome = true)
    (hramp : p.rg.ramping = true) : let q := p.ppTimeoutExpiry
    q.rg.armed = none ∧ q.rg.target = p.rg.prevVolt ∧ q.contract = { p.contract with transPend := false } ∧
      q.flagged .ppTimeout = true := by
  simp only [ppTimeoutExpiry, ht, harm, and_self, if_true]
  exact ⟨by simp, by simp [stopAll, hramp], by simp, flagged_post_self _ _ _⟩

/-- A deferred SRC_OFF executes as one at once (R102). -/
theorem srcOffDeferred_eq (harm : p.rg.srcOffArmed = true) (ht : p.timerOn .srcTrans = true) :
    p.srcOffDeferred = (Port.stop .srcTrans { p with rg := { p.rg with srcOffArmed := false } }).srcOffNow :=
  if_pos ⟨harm, ht⟩

theorem srcOffNow_srcOffArmed (p : Port) : p.srcOffNow.rg.srcOffArmed = p.rg.srcOffArmed := by
  have hdis : p.vsetZero.hold.discharge.rg.srcOffArmed = p.rg.srcOffArmed := by
    unfold discharge
    split <;> rfl
  unfold srcOffNow
  dsimp only
  split
  · rw [ppDone_rg, hdis]
  · exact hdis

/-! The fast role swap (R124, R125, Table 4.12). -/

theorem swapBegin_spec (p : Port) :
    p.swapBegin.fe.path = p.fe.path ∧ p.swapBegin.contract = { p.contract with swap := true, explicit := false } := by
  unfold swapBegin autoSlowIdle
  split <;> exact ⟨rfl, rfl⟩

theorem frsDetection_spec (harmed : p.partner.frsArmed = true) (hst : p.tc.state = .attachedSnk) : let q := p.frsDetection
    q.fe.path = .none ∧ q.contract.swap = true ∧ q.contract.explicit = false ∧ q.rg.frsSwap = true ∧
      q.flagged .pdFrsDetect = true := by
  obtain ⟨hpath, hcontract⟩ := swapBegin_spec p.abortTx.hold
  simp only [frsDetection, harmed, hst, and_self, if_true]
  exact ⟨by simp [hpath], by simp [hcontract], by simp [hcontract], by simp, flagged_post_self _ _ _⟩

theorem frsFastPass_passes {e : Env} {mv : Nat} {late : Bool} (hswap : p.rg.frsSwap = true) (hin : p.contract.swap = true)
    (hpath : p.fe.path = .none) (hdue : mv < 4750 ∨ late = true) (hc : p.canPass e .source = true) :
    let q := p.frsFastPass e mv late
    q.fe = { p.fe with path := .source, fastPass := true, preBias := false } ∧ q.contract = p.contract := by
  simp only [frsFastPass, hswap, hin, hpath, hdue, and_self, if_true, pass_passes hpath hc]
  exact ⟨rfl, rfl⟩

/-! The end of a swap's timers, and of its role flip (R118 to R120, R125). -/

theorem swapTimeout_recovers {t : TimerId} (ht : p.timerOn t = true) :
    (p.swapTimeout t).tc.state = .errorRecovery ∧ (p.swapTimeout t).fe.path = .none := by
  rw [swapTimeout, if_pos ht]
  exact ⟨toErrorRecovery_state p, toErrorRecovery_path p⟩

theorem roleFlipDone_spec (hflip : p.rg.flip = true) : let q := p.roleFlipDone
    q.tc.state = (if p.tc.state = .attachedSrc then .attachedSnk else .attachedSrc) ∧ q.rg.flip = false ∧
      q.flagged .ppDone = true ∧ q.fe = p.fe := by
  simp only [roleFlipDone, hflip, if_true]
  exact ⟨by simp, by simp, ppDone_flagged _ _, by simp⟩

end Port

/-- Settles O18: each command is one step of the transition or the swap that the port is in. -/
theorem pdPowerTransitions : Obligations.PdPowerTransitions := by
  unfold Obligations.PdPowerTransitions
  intro s n p hs hup
  refine ⟨?start, ?settled, ?outside, ?timeout, ?srcOff, ?detection, ?fastPass, ?sourceOn, ?sourceOff, ?flip⟩
  case start => exact fun w harm ht hramp => State.onRegionOf_completes rfl hup hs (Port.transitionStart_spec harm ht hramp)
  case settled =>
    exact fun w mv harm hramp hwin => State.onRegionOf_completes rfl hup hs (Port.settleDone_settled harm hramp hwin)
  case outside =>
    exact fun w mv harm hwin =>
      State.onRegionOf_completes rfl hup hs (congrArg Port.bare (Port.settleDone_outside harm hwin))
  case timeout =>
    exact fun ht harm hramp => State.onRegionOf_completes rfl hup hs (Port.ppTimeoutExpiry_ramping ht harm hramp)
  case srcOff =>
    intro harm ht
    refine State.onRegionOf_completes rfl hup hs ?_
    rw [Port.srcOffDeferred_eq harm ht]
    obtain ⟨hpath, hduty, -, -⟩ := Port.srcOffNow_spec (Port.stop .srcTrans { p with rg := { p.rg with srcOffArmed := false } })
    exact ⟨Port.srcOffNow_srcOffArmed _, hpath, hduty⟩
  case detection => exact fun harmed hst => State.onRegionOf_completes rfl hup hs (Port.frsDetection_spec harmed hst)
  case fastPass =>
    intro mv late hswap hin hpath hdue hrun hlatch hhold hforeign hbeat hvgd hosc
    have hmay : s.mayPass n p :=
      ⟨hlatch, hhold, hbeat, hvgd, by simpa [State.env] using hrun, hosc⟩
    have hc : p.canPass (s.env n) .source = true := (Port.canPass_source s n p).mpr ⟨hmay, hforeign, by simp [hpath]⟩
    exact State.onRegionOf_completes rfl hup hs (Port.frsFastPass_passes hswap hin hpath hdue hc)
  case sourceOn => exact fun ht => State.onRegionOf_completes rfl hup hs (Port.swapTimeout_recovers ht)
  case sourceOff => exact fun ht => State.onRegionOf_completes rfl hup hs (Port.swapTimeout_recovers ht)
  case flip => exact fun hflip => State.onRegionOf_completes rfl hup hs (Port.roleFlipDone_spec hflip)

end Sys2Proof.Machine
end

section
/-! The refutation of O43: the packet error code of a TW_M command that reads and writes no byte. -/

namespace Sys2Proof.Machine

namespace State

@[simp] theorem twmResult_tw (c : TwmCmd) (code : BitVec 3) (data : List Byte) (s : State) :
    (s.twmResult c code data).tw = s.tw := by
  unfold twmResult drainResults
  split <;> rfl

/-- The status of TW_M after a command whose bytes were all acknowledged: PEC_ERR compares the code with that of the bytes
that TW_M drove and of the bytes read (R370, R379). -/
theorem twmDone_acked_mStat {c : TwmCmd} {s : State} (hrun : s.tw.run = some c) (hup : s.twmUp = true) (code : Byte)
    (data : List Byte) : (s.twmDone false code data).tw.mStat =
      { s.tw.mStat with
        busy := false
        pecErr := s.tw.mStat.pecErr || (c.pec && decide (0 < c.nr) &&
          decide (code ≠ pecOf (twmSent c ++ (data ++ List.replicate c.nr 0xFF#8).take c.nr))) } := by
  simp [twmDone, hrun, hup, onTw, TwoWire.onMStat]

theorem twmDone_codeBad {c : TwmCmd} {s : State} (hrun : s.tw.run = some c) (hup : s.twmUp = true) (hpec : c.pec = true)
    (hreads : 0 < c.nr) {code : Byte} {data : List Byte}
    (hbad : code ≠ pecOf (twmSent c ++ (data ++ List.replicate c.nr 0xFF#8).take c.nr)) :
    (s.twmDone false code data).tw.mStat.pecErr = true := by
  rw [twmDone_acked_mStat hrun hup]
  simp only [hpec, hreads, hbad, decide_true, Bool.and_self, Bool.or_true, ne_eq, not_false_eq_true]

end State

/-- A command for address 0x50 that reads one byte, writes none, and asks for a packet error code. -/
def readOneCoded : TwmCmd := { addr := 0x50#7, read := true, nw := 0, nr := 1, tag := 0#8, pec := true, bytes := [] }

/-- The header of queue 235 that says it (Table 13.5). -/
theorem twmParse_readOneCoded :
    State.twmParse [{ payload := pay 0 0x50#7 ||| payB 7 true ||| pay 12 1#4 ||| payB 24 true, typ := 1#6, epoch := 0#6,
                      last := true }] = some readOneCoded := by decide

/-- The write address byte goes first whatever follows (R379 step 1), then the read address byte. -/
theorem twmSent_readOneCoded : State.twmSent readOneCoded = [0xA0#8, 0xA1#8] := by decide

/-- The code without the write address byte differs from the code with it. -/
theorem pecOf_readOneCoded : pecOf [0xA1#8, 0xFF#8] ≠ pecOf (State.twmSent readOneCoded ++
    (([] : List Byte) ++ List.replicate readOneCoded.nr 0xFF#8).take readOneCoded.nr) := by
  have hread : (([] : List Byte) ++ List.replicate readOneCoded.nr 0xFF#8).take readOneCoded.nr = [0xFF#8] := by decide
  have hwithout : pecOf [0xA1#8, 0xFF#8] = 0xFE#8 := by decide +kernel
  have hwith : pecOf [0xA0#8, 0xA1#8, 0xFF#8] = 0xB6#8 := by decide +kernel
  rw [hread, twmSent_readOneCoded, hwithout]
  exact fun h => absurd (h.trans hwith) (by decide)

/-- A device in RUN whose TW_M has that command in progress. -/
def State.readingOne : State :=
  let s := State.serving (Port.reset 0)
  { s with sh := { s.sh with vddioOk := true }, tw := { s.tw with run := some readOneCoded } }

theorem State.readingOne_up : State.readingOne.twmUp = true := by decide
theorem State.readingOne_pecErr : State.readingOne.tw.mStat.pecErr = false := rfl

/-- Refutes O43: TW_M sends the write address byte first also for a command that writes no byte (R379), so the code of all
bytes from the START on covers it (R370); the clause begins such a command with the read address byte, and has the code
without the other stand. -/
theorem not_twoWireAlertsAndMaster : ¬ Obligations.TwoWireAlertsAndMaster := by
  unfold Obligations.TwoWireAlertsAndMaster
  intro h
  obtain ⟨-, -, -, hmaster, -⟩ := h State.readingOne
  obtain ⟨-, -, -, -, -, hdone, -⟩ := hmaster readOneCoded State.readingOne_up rfl
  obtain ⟨t, hexec, htw, -⟩ := hdone (pecOf [0xA1#8, 0xFF#8]) []
  obtain rfl : State.readingOne.twmDone false (pecOf [0xA1#8, 0xFF#8]) [] = t := Host.Outcome.next.inj hexec
  have hset : (State.readingOne.twmDone false (pecOf [0xA1#8, 0xFF#8]) []).tw.mStat.pecErr = true :=
    State.twmDone_codeBad rfl State.readingOne_up rfl (by decide) pecOf_readOneCoded
  have hclaimed := hset.symm.trans (congrArg (fun x => x.mStat.pecErr) htw)
  simp [readOneCoded, State.readingOne_pecErr] at hclaimed

end Sys2Proof.Machine
end

section
/-! A message of the core on its way to the region: the fields of its header and its command word, the staging area, and what
the region has in hand of it (R23, R74, R79, Tables 3.2 and 3.3). -/

namespace Sys2Proof.Machine

/-! A field of a word that is put together from fields. -/

theorem fld_or {w : Nat} (a b : BitVec w) (lo k : Nat) : fld (a ||| b) lo k = fld a lo k ||| fld b lo k := by
  ext i hi
  simp [fld]

theorem fld_shift_same {w k : Nat} (v : BitVec k) {lo : Nat} (h : lo + k ≤ w) : fld (v.setWidth w <<< lo) lo k = v := by
  ext i hi
  have hw : lo + i < w := by omega
  simp [fld, hi, hw, BitVec.getLsbD_eq_getElem]

theorem fld_shift_apart {w k : Nat} (v : BitVec k) {lo lo' k' : Nat} (h : lo' + k' ≤ lo ∨ lo + k ≤ lo') :
    fld (v.setWidth w <<< lo) lo' k' = 0#k' := by
  ext i hi
  rcases h with h | h
  · have hlow : lo' + i < lo := by omega
    simp [fld, BitVec.getLsbD_shiftLeft, hlow]
  · have hhigh : k ≤ lo' + i - lo := by omega
    simp [fld, BitVec.getLsbD_shiftLeft, BitVec.getLsbD_setWidth, BitVec.getLsbD_of_ge v _ hhigh]

theorem fld_pay_same {k : Nat} (v : BitVec k) {lo : Nat} (h : lo + k ≤ 36) : fld (pay lo v) lo k = v := fld_shift_same v h

theorem fld_pay_apart {k : Nat} (v : BitVec k) {lo lo' k' : Nat} (h : lo' + k' ≤ lo ∨ lo + k ≤ lo') :
    fld (pay lo v) lo' k' = 0#k' := fld_shift_apart v h

theorem payB_eq (lo : Nat) (b : Bool) : payB lo b = pay lo (BitVec.ofBool b) := by cases b <;> simp [payB, pay]

theorem bit_eq_fld {w : Nat} (a : BitVec w) (i : Nat) : bit a i = (fld a i 1).getLsbD 0 := by simp [bit, fld]

/-! The command word of a message (Table 3.3). -/

namespace Out

theorem word_header (o : Out) : fld o.word 0 16 = o.header := by
  simp only [word, payB_eq, fld_or]
  rw [fld_pay_same _ (by decide)]
  simp [fld_pay_apart]

theorem word_code (o : Out) : fld o.word 28 4 = 1#4 := by
  simp only [word, payB_eq, fld_or]
  rw [fld_pay_same (1#4) (by decide)]
  simp [fld_pay_apart]

theorem word_resp (o : Out) : fld o.word 24 3 = o.resp := by
  simp only [word, payB_eq, fld_or]
  rw [fld_pay_same o.resp (by decide)]
  simp [fld_pay_apart]

theorem word_sop {o : Out} (h : o.sop1 = false) : fld o.word 16 2 = 0#2 := by
  simp only [word, payB_eq, fld_or, h]
  rw [show fld (pay 16 (BitVec.ofBool false)) 16 2 = 0#2 by decide]
  simp [fld_pay_apart]

end Out

namespace Port

variable {p : Port}

/-! The headers of the core's messages (R70). -/

theorem fld_ownHeader_type (t : BitVec 5) (p : Port) : fld (p.ownHeader t) 0 5 = t := by
  have ht : fld (t.setWidth 16) 0 5 = t := by simpa using fld_shift_same (w := 16) t (lo := 0) (by decide)
  simp only [ownHeader, fld_or, ht]
  simp [fld_shift_apart]

theorem fld_ownHeader_top (t : BitVec 5) (p : Port) : fld (p.ownHeader t) 15 1 = 0#1 := by
  have ht : fld (t.setWidth 16) 15 1 = 0#1 := by
    simpa using fld_shift_apart (w := 16) t (lo := 0) (lo' := 15) (k' := 1) (by decide)
  simp only [ownHeader, fld_or, ht]
  simp [fld_shift_apart]

theorem hType_hdr (t : BitVec 5) (n : Nat) (p : Port) : hType (p.hdr t n) = t := by
  have hn : fld (BitVec.ofNat 16 n <<< 12) 0 5 = 0#5 := by
    simpa using fld_shift_apart (w := 16) (BitVec.ofNat 16 n) (lo := 12) (lo' := 0) (k' := 5) (by decide)
  rw [hType, hdr, fld_or, fld_ownHeader_type, hn, BitVec.or_zero]

/-- A message of one data object is not extended. -/
theorem hExt_hdr_one (t : BitVec 5) (p : Port) : hExt (p.hdr t 1) = false := by
  rw [hExt, bit_eq_fld, hdr, fld_or, fld_ownHeader_top]
  decide

theorem hType_hdrExt (t : BitVec 5) (p : Port) : hType (p.hdrExt t) = t := by
  rw [hType, hdrExt, fld_or, fld_ownHeader_type, show fld 0x8000#16 0 5 = 0#5 by decide, BitVec.or_zero]

theorem hExt_hdrExt (t : BitVec 5) (p : Port) : hExt (p.hdrExt t) = true := by
  rw [hExt, bit_eq_fld, hdrExt, fld_or, fld_ownHeader_top]
  decide

/-! The staging area of a message (Table 3.2). -/

/-- Words written into the staging area leave the rest of the port, and the words at other indices. -/
theorem foldl_stage (ws : List (Nat × W36)) (p : Port) (hpend : p.stg.pending = false) :
    ∃ g : Staging, g.pending = false ∧ ws.foldl (fun p x => p.stage x.1 x.2) p = p.withStg g ∧
      ∀ i, (∀ x ∈ ws, x.1 ≠ i) → g.read i = p.stg.read i := by
  induction ws generalizing p with
  | nil => exact ⟨p.stg, hpend, rfl, fun _ _ => rfl⟩
  | cons x xs ih =>
    have hstage : p.stage x.1 x.2 = p.withStg { p.stg with words := p.stg.words.setIfInBounds x.1 x.2 } := by
      simp [stage, hpend, withStg]
    rw [List.foldl_cons, hstage]
    obtain ⟨g, hg, hfold, hread⟩ := ih (p.withStg { p.stg with words := p.stg.words.setIfInBounds x.1 x.2 }) hpend
    refine ⟨g, hg, hfold, fun i hi => ?_⟩
    rw [hread i fun y hy => hi y (List.mem_cons_of_mem x hy)]
    simp [withStg, Staging.read, hi x List.mem_cons_self]

/-- TX_GO of a message acts with its command word and its second word (R23). -/
theorem txGo_message {e : Env} (hup : e.regionUp = true) (hpend : p.stg.pending = false) (w0 w1 : W36) (objs : List Word) :
    ∃ g : Staging, g.pending = false ∧ g.read 0 = w0 ∧ g.read 1 = w1 ∧
      p.txGo e ((0, w0) :: (1, w1) :: objs.mapIdx fun i w => (2 + i, w.setWidth 36)) 0 =
        (p.withStg g).command e g.read 0 := by
  obtain ⟨g, hg, hfold, hread⟩ := foldl_stage (objs.mapIdx fun i w => (2 + i, w.setWidth 36)) ((p.stage 0 w0).stage 1 w1)
    (by simp [stage, hpend])
  have hbelow : ∀ i < 2, g.read i = ((p.stage 0 w0).stage 1 w1).stg.read i := by
    intro i hi
    refine hread i fun x hx => ?_
    obtain ⟨j, hj, rfl⟩ := List.mem_mapIdx.mp hx
    exact Nat.ne_of_gt (by omega)
  refine ⟨g, hg, ?_, ?_, ?_⟩
  · rw [hbelow 0 (by decide)]
    simp [stage, hpend, Staging.read]
  · rw [hbelow 1 (by decide)]
    simp [stage, hpend, Staging.read]
  · rw [txGo, hpend, if_neg Bool.false_ne_true, List.foldl_cons, List.foldl_cons, hfold, txGoAck, if_pos ⟨rfl, hup⟩]
    have hstg : ((p.stage 0 w0).stage 1 w1).withStg g = p.withStg g := by simp [stage, hpend, withStg]
    rw [hstg]
    cases g
    cases hg
    rfl

/-! What the region takes in hand (R74, R76, R79). -/

/-- The region would take a message of the core on SOP in hand: no request is pending, PD is served on an attached port, nothing
is in hand or held, and no TX_SEQ of SOP is kept. -/
structure Ready (p : Port) : Prop where
  pend : p.stg.pending = false
  partnered : p.attached = true
  served : p.rg.latchedPdEn = true
  goes : p.pdstat.giveup = false
  empty : p.rg.tx = none
  heldNone : p.rg.held = none
  seqNone : p.rg.lastSeq = none

theorem transmit_ready {m : TxMsg} (h : p.Ready) (hsop : m.sop1 = false) (hrev : hExt m.header = true → p.pdstat.rev ≠ 1#2)
    (hsoft : hType m.header ≠ tSoftReset) : p.transmit m = p.beginTx m := by
  have htaken : p.txRefused m = false := by
    cases hext : hExt m.header
    · simp [txRefused, h.partnered, h.served, h.goes, hext, hsop]
    · simp [txRefused, h.partnered, h.served, h.goes, hsop, hrev hext]
  have hnew : p.isRepeat m = false := by simp [isRepeat, hsop, h.seqNone]
  have hctrl : isCtrl m.header tSoftReset = false := by simp [isCtrl, hsoft]
  simp [transmit, htaken, hnew, dropPending, dropHeld, h.heldNone, h.empty, takeTx, hctrl]

/-- A message is taken in hand, before collision avoidance looks at it. -/
def takenInHand (m : TxMsg) (p : Port) : Port :=
  let q : Port := { p with rg := { p.rg with tx := some m, chunk := 0#4, retries := if p.rev3 then 2 else 3, phase := .ready } }
  if m.amsStart then { q with pdstat := { q.pdstat with amsActive := true } } else q

/-- Collision avoidance with a message in hand that starts an AMS, or not (R77, R78). -/
def avoidCollision (starts : Bool) (p : Port) : Port :=
  if starts ∧ p.pdstat.collAv then
    if p.isSource then
      { p with rg := { p.rg with phase := .sinkTxWait }, pdstat := { p.pdstat with sinkTxOk := false } }.start .sinkTx
    else if p.pdstat.sinkTxOk then p
    else { p with rg := { p.rg with phase := .heldNg }, pdstat := { p.pdstat with txPending := true } }
  else p

theorem beginTx_eq (m : TxMsg) (p : Port) : p.beginTx m = (p.takenInHand m).avoidCollision m.amsStart := rfl

theorem takenInHand_hand (m : TxMsg) (p : Port) :
    (p.takenInHand m).rg.tx = some m ∧ (p.takenInHand m).rg.timers = p.rg.timers := by
  unfold takenInHand
  dsimp only
  split <;> exact ⟨rfl, rfl⟩

theorem avoidCollision_hand (starts : Bool) (p : Port) : (p.avoidCollision starts).rg.tx = p.rg.tx ∧
    ∀ t, t ≠ .sinkTx → (p.avoidCollision starts).timerOn t = p.timerOn t := by
  unfold avoidCollision
  split
  · split
    · exact ⟨rfl, fun t ht => (timerOn_start _ _ _).trans (by rw [decide_eq_false ht]; rfl)⟩
    · split <;> exact ⟨rfl, fun _ _ => rfl⟩
  · exact ⟨rfl, fun _ _ => rfl⟩

theorem beginTx_hand (m : TxMsg) (p : Port) : (p.beginTx m).rg.tx = some m ∧
    ∀ t, t ≠ .sinkTx → (p.beginTx m).timerOn t = p.timerOn t := by
  obtain ⟨htx, htimers⟩ := takenInHand_hand m p
  obtain ⟨htx', htimers'⟩ := avoidCollision_hand m.amsStart (p.takenInHand m)
  rw [beginTx_eq]
  exact ⟨htx'.trans htx, fun t ht => (htimers' t ht).trans (by rw [timerOn, htimers, timerOn])⟩

/-- The message of header `h` is in hand, and nothing else changed that the core's service of the pack turns on. -/
structure Sent (h : BitVec 16) (p q : Port) : Prop where
  hand : ∃ x, q.rg.tx = some x ∧ x.header = h ∧ x.own = false
  partner : q.partner = p.partner
  step : q.role.identStep = p.role.identStep
  await : q.role.await = p.role.await
  pend : q.stg.pending = false
  timers : ∀ t, t ≠ .sinkTx → q.timerOn t = p.timerOn t

/-- The message that the region reads in the staging area of a message of the core. -/
theorem stagedMsg_spec {words : Nat → W36} {o : Out} (h0 : words 0 = o.word) :
    (stagedMsg words).header = o.header ∧ (stagedMsg words).resp = o.resp ∧
      (o.sop1 = false → (stagedMsg words).sop1 = false) := by
  refine ⟨?_, ?_, fun hsop => ?_⟩
  · simp only [stagedMsg, h0, Out.word_header]
  · simp only [stagedMsg, h0, Out.word_resp]
  · simp [stagedMsg, h0, Out.word_sop hsop]

/-- A message of the core on SOP with a code that R74 knows is transmitted. -/
theorem command_message (e : Env) {words : Nat → W36} {o : Out} (h0 : words 0 = o.word) (hsop : o.sop1 = false)
    (hresp : o.resp ≤ 5#3) (p : Port) : p.command e words 0 = p.transmit (stagedMsg words) := by
  have hclean : codeRefused (fld (words 0) 16 2) (stagedMsg words).resp = false := by
    rw [h0, Out.word_sop hsop, (stagedMsg_spec h0).2.1]
    simpa [codeRefused] using hresp
  unfold command
  simp only [hclean]
  rw [h0, Out.word_code]
  rfl

/-- TX_SEQ of a message that no group of the queue caused (R76). -/
def ownSeq (p : Port) : BitVec 8 := (p.role.seqCount.setWidth 8) ||| 0x80#8

/-- The port once the core has counted such a message and keeps its TX_SEQ. -/
def counted (o : Out) (p : Port) : Port :=
  { p with role := { p.role with
      seqCount := p.role.seqCount + 1#7
      outs := (p.role.outs.filter fun x => x.seq ≠ p.ownSeq) ++ [({ seq := p.ownSeq, kind := o.kind } : OutMsg)] } }

theorem send_eq (e : Env) (o : Out) (p : Port) : p.send e false o = (p.counted o).txGo e
    ((0, o.word) :: (1, pay 0 p.ownSeq ||| pay 8 o.ext) :: o.objs.mapIdx fun i w => (2 + i, w.setWidth 36)) 0 := rfl

/-- A message of the core on SOP that a region which is ready is given is in hand. -/
theorem send_ready {e : Env} {o : Out} (hup : e.regionUp = true) (h : p.Ready) (hsop : o.sop1 = false) (hresp : o.resp ≤ 5#3)
    (hrev : hExt o.header = true → p.pdstat.rev ≠ 1#2) (hsoft : hType o.header ≠ tSoftReset) :
    Sent o.header p (p.send e false o) := by
  obtain ⟨hpend, hatt, hserved, hgoes, hempty, hheld, hseq⟩ := h
  obtain ⟨g, hg, h0, -, hgo⟩ := txGo_message (p := p.counted o) hup hpend o.word (pay 0 p.ownSeq ||| pay 8 o.ext) o.objs
  obtain ⟨hheader, -, hmsop⟩ := stagedMsg_spec h0
  have hready : ((p.counted o).withStg g).Ready := ⟨hg, hatt, hserved, hgoes, hempty, hheld, hseq⟩
  rw [send_eq, hgo, command_message e h0 hsop hresp, transmit_ready hready (hmsop hsop) (hheader ▸ hrev) (hheader ▸ hsoft)]
  have htx := beginTx_txOnly (stagedMsg g.read) ((p.counted o).withStg g)
  obtain ⟨hhand, htimers⟩ := beginTx_hand (stagedMsg g.read) ((p.counted o).withStg g)
  exact ⟨⟨_, hhand, hheader, rfl⟩, (congrArg Port.partner htx.rest :), (congrArg (fun x => x.role.identStep) htx.rest :),
    (congrArg (fun x => x.role.await) htx.rest :), (congrArg (fun x => x.stg.pending) htx.rest :).trans hg, htimers⟩

end Port

end Sys2Proof.Machine
end

section
/-! The clauses of O36: a pack is identified, polled and digested by the serving role (R132, R133, R207, R217, Table 7.4). -/

namespace Sys2Proof.Machine

namespace Port

variable {p : Port} {e : Env}

/-- What the core sees behind the fence has the same staging area (R270). -/
theorem trim_stg (p : Port) : p.trim.stg = p.stg := by
  have hgo : ∀ k q, (trim.go k q).stg = q.stg := by
    intro k
    induction k with
    | zero => exact fun _ => rfl
    | succ k ih =>
      intro q
      rw [trim.go]
      split
      · rfl
      · exact ih q.dropGroup
  exact hgo 64 p

/-! Requests to a pack (Tables 3.11 and 4.16). -/

/-- What the core keeps in its role state, and timers, do not matter to the region. -/
theorem Ready.of_eq (h : p.Ready) {q : Port} (hstg : q.stg = p.stg) (htc : q.tc = p.tc) (hpd : q.pdstat = p.pdstat)
    (hrg : { q.rg with timers := p.rg.timers } = p.rg) : q.Ready := by
  obtain ⟨hpend, hatt, hserved, hgoes, hempty, hheld, hseq⟩ := h
  exact ⟨hstg ▸ hpend, by rw [Port.attached, htc]; exact hatt, (congrArg Region.latchedPdEn hrg :).trans hserved, hpd ▸ hgoes,
    (congrArg Region.tx hrg :).trans hempty, (congrArg Region.held hrg :).trans hheld,
    (congrArg Region.lastSeq hrg :).trans hseq⟩

/-- The message of a dock-mode command without data (Table 4.16). -/
def dockOut (vid : BitVec 16) (cmd : BitVec 8) (p : Port) : Out :=
  { header := p.hdr 15#5 1, amsStart := true, amsEnd := true, onFail := 1#2, onTimeout := 0#2, resp := 2#3,
    objs := [putF 16 vid ||| putF 12 1#3 ||| putF 0 cmd] }

theorem dockCmd_eq (e : Env) (vid : BitVec 16) (cmd : BitVec 8) (p : Port) :
    p.dockCmd e false vid cmd [] = p.send e false (p.dockOut vid cmd) := rfl

/-- A dock-mode command is in hand. -/
theorem dockCmd_sent (hup : e.regionUp = true) (h : p.Ready) (vid : BitVec 16) (cmd : BitVec 8) :
    Sent (p.hdr 15#5 1) p (p.dockCmd e false vid cmd []) := by
  have hplain : hExt (p.dockOut vid cmd).header = false := hExt_hdr_one 15#5 p
  have htype : hType (p.dockOut vid cmd).header = 15#5 := hType_hdr 15#5 1 p
  have hresp : (p.dockOut vid cmd).resp ≤ 5#3 := show 2#3 ≤ 5#3 by decide
  rw [dockCmd_eq]
  exact send_ready hup h rfl hresp (by simp [hplain]) (by rw [htype]; decide)

theorem dockCmd_hand {vid : BitVec 16} {cmd : BitVec 8} (h : Sent (p.hdr 15#5 1) p (p.dockCmd e false vid cmd [])) :
    ∃ x, (p.dockCmd e false vid cmd []).rg.tx = some x ∧ hType x.header = 15#5 ∧ x.own = false := by
  obtain ⟨x, hx, hheader, hown⟩ := h.hand
  exact ⟨x, hx, hheader ▸ hType_hdr 15#5 1 p, hown⟩

/-! Identification (R132). -/

theorem boundIdent_spec (hdone : p.partner.identDone = false) : p.boundIdent.timerOn .identBound = true ∧
    p.boundIdent.partner = p.partner ∧ (p.Ready → p.boundIdent.Ready) := by
  unfold boundIdent
  split
  next hstands =>
    obtain hdone' | hon := hstands
    · exact absurd (hdone.symm.trans hdone') Bool.false_ne_true
    · exact ⟨hon, rfl, id⟩
  next => exact ⟨by simp, rfl, fun h => h.of_eq rfl rfl rfl rfl⟩

/-- The first step of identification in dock mode: the bound, and GET_SERIAL. -/
theorem identTurn_serial (vid : BitVec 16) (hstep : p.role.identStep = 0) (hdock : p.srccap.dockEn = true)
    (hexp : p.contract.explicit = true) (hdone : p.partner.identDone = false) (hend : p.role.dockDone = true)
    (hbusy : p.busyCore = false) (hmode : p.partner.dockMode = true) : p.identTurn e vid =
      Port.dockCmd e false vid 1#8 [] { p.boundIdent with role := { p.boundIdent.role with identStep := 1 } } := by
  simp [identTurn, hstep, hdock, hexp, hdone, hend, hbusy, hmode, identNext]

theorem identTurn_sent (vid : BitVec 16) (hup : e.regionUp = true) (h : p.Ready) (hstep : p.role.identStep = 0)
    (hdock : p.srccap.dockEn = true) (hexp : p.contract.explicit = true) (hdone : p.partner.identDone = false)
    (hend : p.role.dockDone = true) (hbusy : p.busyCore = false) (hmode : p.partner.dockMode = true) :
    let q := p.identTurn e vid
    q.stg.pending = false ∧ q.role.identStep = 1 ∧ q.timerOn .identBound = true ∧ q.partner = p.partner ∧
      ∃ x, q.rg.tx = some x ∧ hType x.header = 15#5 ∧ x.own = false := by
  obtain ⟨hbound, hpartner, hready⟩ := boundIdent_spec hdone
  have hsent := dockCmd_sent (p := { p.boundIdent with role := { p.boundIdent.role with identStep := 1 } }) hup
    ((hready h).of_eq rfl rfl rfl rfl) vid 1#8
  rw [identTurn_serial vid hstep hdock hexp hdone hend hbusy hmode]
  exact ⟨hsent.pend, hsent.step, (hsent.timers _ (by decide)).trans hbound, hsent.partner.trans hpartner, dockCmd_hand hsent⟩

/-- The bound ends the steps with what was answered (R132). -/
theorem identBound_eq (ht : p.timerOn .identBound = true) : p.identBound = p.identEnd := if_pos ht

theorem identEnd_spec (p : Port) : p.identEnd.partner.identDone = true ∧ p.identEnd.role.identStep = 0 ∧
    p.identEnd.timerOn .identBound = false ∧ p.identEnd.stg = p.stg :=
  ⟨rfl, rfl, by simp [identEnd], rfl⟩

theorem identEnd_unanswered (hserial : p.role.idSerial = []) (hmfg : p.role.idMfg = []) (hcap : p.role.idCap = []) :
    p.identEnd.partner.ident = 0#2 ∧ p.identEnd.partner.identTag = 0#16 := by
  simp [identEnd, hserial, hmfg, hcap]

theorem identEnd_serial (hserial : p.role.idSerial ≠ []) : p.identEnd.partner.ident = 2#2 := by
  simp [identEnd, hserial]

/-! The poll of the battery status (R133). -/

/-- Get_Battery_Status for battery 0 (Table 4.17). -/
def battOut (p : Port) : Out :=
  { header := p.hdrExt 4#5, ext := extSize 1, amsStart := true, amsEnd := true, onFail := 1#2, onTimeout := 1#2, resp := 1#3,
    objs := [0#32] }

theorem battPoll_eq (e : Env) (hident : p.partner.ident ≠ 0#2) (hexp : p.contract.explicit = true)
    (hbusy : p.busyCore = false) : p.battPoll e true = (p.expect .battStatus).send e false p.battOut :=
  if_pos ⟨rfl, hident, hexp, by rw [hbusy]; rfl⟩

theorem battPoll_sent (hup : e.regionUp = true) (h : p.Ready) (hident : p.partner.ident ≠ 0#2)
    (hexp : p.contract.explicit = true) (hrev : p.pdstat.rev ≠ 1#2) (hbusy : p.busyCore = false) :
    let q := p.battPoll e true
    q.stg.pending = false ∧ q.role.await = .battStatus ∧
      ∃ x, q.rg.tx = some x ∧ hExt x.header = true ∧ hType x.header = 4#5 := by
  have htype : hType p.battOut.header = 4#5 := hType_hdrExt 4#5 p
  have hresp : p.battOut.resp ≤ 5#3 := show 1#3 ≤ 5#3 by decide
  have hsent := send_ready (p := p.expect .battStatus) (o := p.battOut) hup (h.of_eq rfl rfl rfl rfl) rfl hresp
    (fun _ => hrev) (by rw [htype]; decide)
  obtain ⟨x, hx, hheader, -⟩ := hsent.hand
  rw [battPoll_eq e hident hexp hbusy]
  exact ⟨hsent.pend, hsent.await, x, hx, hheader ▸ hExt_hdrExt 4#5 p, hheader ▸ htype⟩

/-- The gauge's turn on a port for the battery status: an answer that does not come ends the wait, else the poll goes out. -/
def battTurn (gauged : Bool) (e : Env) (p : Port) : Port :=
  if p.role.await = .battStatus ∧ p.headNoAnswer false then (p.expect .nothing).done e else p.battPoll e gauged

/-! The poll of the limits and the temperature in dock mode (R207, R208). -/

/-- The gauge's turn on a port: GET_LIMITS the first time, then GET_TEMP. -/
def tempTurn (asked : Bool) (e : Env) (p : Port) : Port :=
  (p.expect (if asked then .temp else .limits)).dockCmd e false sysVid (if asked then 4#8 else 2#8) []

theorem tempTurn_sent (hup : e.regionUp = true) (h : p.Ready) (asked : Bool) : let q := tempTurn asked e p
    q.stg.pending = false ∧ q.role.await = (if asked then .temp else .limits) ∧
      ∃ x, q.rg.tx = some x ∧ hType x.header = 15#5 ∧ x.own = false := by
  have hsent := dockCmd_sent (p := p.expect (if asked then .temp else .limits)) hup (h.of_eq rfl rfl rfl rfl) sysVid
    (if asked then 4#8 else 2#8)
  exact ⟨hsent.pend, hsent.await, dockCmd_hand hsent⟩

end Port

namespace State

/-! The turns of the firmware that serve a pack (R22, R177). -/

theorem turnUp_of {s : State} {n : PortId} (hup : s.controlUp = true) (hrole : s.roleRuns s.ports[n].q.role = true)
    (hpend : s.ports[n].trim.stg.pending = false) : s.turnUp n = true := by
  rw [Port.trim_stg] at hpend
  rw [turnUp, hup, hrole, hpend]
  rfl

theorem gaugeUp_of {s : State} (hup : s.controlUp = true) (hisland : s.sys.mode ≠ .island) (hsup : s.roleRuns 13#5 = true) :
    s.gaugeUp = true := by
  simp [gaugeUp, regsUp, hup, hisland, hsup]

theorem setPort_self (n : PortId) (p : Port) (s : State) : (s.setPort n p).ports[n] = p := by simp

/-- A rebind moves the queue of its port to the role of the class, and leaves the rest of the port (R177). -/
theorem rebind_port (n : PortId) (s : State) :
    ∃ x due, (s.rebind n).ports[n] = { s.ports[n] with q := x, rebindDue := due } := by
  unfold rebind
  dsimp only
  split
  · exact ⟨_, _, rfl⟩
  · exact ⟨_, _, setPort_self n _ s⟩

/-- A turn that leaves no request pending does to its port what the firmware's action does, but for a rebind of the queue. -/
theorem onTurn_spec {n : PortId} {s : State} {f : Env → Port → Port} (hup : s.turnUp n = true)
    (hpend : (f (s.env n) s.ports[n].trim).stg.pending = false) : OnlyPort n s (s.onTurn n f) ∧
      ∃ x due, (s.onTurn n f).ports[n].bare = { (f (s.env n) s.ports[n].trim).bare with q := x, rebindDue := due } := by
  obtain ⟨honly, hport⟩ := s.onPort_spec n fun e p => f e p.trim
  have hdone : (s.onPort n fun e p => f e p.trim).ports[n].stg.pending = false :=
    (congrArg (fun p => p.stg.pending) hport :).trans hpend
  have heq : s.onTurn n f = (s.onPort n fun e p => f e p.trim).rebind n := by
    rw [onTurn, if_pos hup, turned, if_neg (Bool.eq_false_iff.mp hdone)]
  obtain ⟨x, due, hrebind⟩ := rebind_port n (s.onPort n fun e p => f e p.trim)
  rw [heq]
  refine ⟨honly.ports.trans (rebind_only n _).ports, x, due, ?_⟩
  rw [hrebind]
  exact congrArg (fun p : Port => { p with q := x, rebindDue := due }) hport

/-- A command that ends in a turn on `t`, which differs from the state before in the port and the gauge alone, completes with
what the firmware's action does to the port. -/
theorem onTurn_completes {i : Instr} {n : PortId} {s t : State} {f : Env → Port → Port} {r : Port} {post : Port → Prop}
    (hexec : exec i s = .next (t.onTurn n f)) (hst : OnlyPort n s t) (hup : t.turnUp n = true) (hr : t.ports[n].trim = r)
    (hpend : (f (t.env n) r).stg.pending = false)
    (hpost : ∀ x due, post { (f (t.env n) r).bare with q := x, rebindDue := due }) : PortCompletes i n s post := by
  subst hr
  obtain ⟨honly, x, due, hport⟩ := onTurn_spec hup hpend
  exact ⟨_, hexec, hst.ports.trans honly.ports, hport ▸ hpost x due⟩

theorem onTurn_partner {n : PortId} {s : State} {f : Env → Port → Port} {r : Port} (hup : s.turnUp n = true)
    (hr : s.ports[n].trim = r) (hpend : (f (s.env n) r).stg.pending = false) :
    (s.onTurn n f).ports[n].partner = (f (s.env n) r).partner := by
  subst hr
  obtain ⟨-, x, due, hport⟩ := onTurn_spec hup hpend
  exact (congrArg Port.partner hport :)

theorem gaugeTurn_eq {s : State} (hup : s.gaugeUp = true) (n : PortId) (f : Env → Port → Port) :
    s.gaugeTurn n f = s.onTurn n f := by
  simp [gaugeTurn, onTurn, hup]

/-! The commands of the gauge and of identification (R132, R133, R207, R217). -/

theorem askDigest_none {n : PortId} {s t : State}
    (h : t.ports[n].partner.identDone = false ∨ t.ports[n].partner.ident = 0#2) : askDigest n s t = t := by
  refine if_neg ?_
  rcases h with h | h
  · rw [h]
    simp
  · rw [h]
    simp

/-- A digest is asked of core 13 through its mailbox alone. -/
theorem askDigest_sysq (n : PortId) (s t : State) : ∃ q, askDigest n s t = { t with sysq := q } := by
  unfold askDigest
  dsimp only
  split
  · exact ⟨_, rfl⟩
  · exact ⟨_, rfl⟩

theorem batteryPoll_noMessage {n : PortId} {s : State} (hup : s.gaugeUp = true) (hturn : s.turnUp n = true)
    (hhead : s.ports[n].trim.headMsg = none) : s.batteryPoll n = s.onTurn n (Port.battTurn (s.slotOf n).isSome) := by
  rw [← gaugeTurn_eq hup]
  unfold batteryPoll
  simp only [hup, hturn, hhead, Bool.not_true, Bool.or_self, Bool.false_eq_true, if_false]
  rfl

theorem tempPoll_asks {n : PortId} {s : State} {i : Fin 48} (hup : s.gaugeUp = true) (hturn : s.turnUp n = true)
    (hregion : s.regionUp n = true) (hslot : s.slotOf n = some i) (hhead : s.ports[n].trim.headMsg = none)
    (hanswer : s.ports[n].trim.headNoAnswer false = false) (hmode : s.ports[n].trim.partner.dockMode = true)
    (hexp : s.ports[n].trim.contract.explicit = true) (hbusy : s.ports[n].trim.busyCore = false) :
    s.tempPoll n = (s.onSlotG i fun x => { x with limitsAsked := true }).onTurn n (Port.tempTurn s.kg.slots[i].limitsAsked) := by
  have hgauge : (s.onSlotG i fun x => { x with limitsAsked := true }).gaugeUp = true := hup
  rw [← gaugeTurn_eq hgauge]
  unfold tempPoll
  simp only [hslot, hup, hturn, hhead, hanswer, hmode, hexp, hbusy, hregion, Bool.not_true, Bool.or_self, Bool.false_eq_true,
    if_false, Bool.and_false, Bool.not_false, Bool.and_true, if_true]
  cases s.kg.slots[i].limitsAsked <;> rfl

/-- The role that serves a port has the digest of its answers in its mailbox (R132). -/
def digestSent (n : PortId) (port : Byte) (s : State) : State :=
  s.post ⟨s.ports[n].q.role.toNat % 16, Nat.mod_lt _ (by decide)⟩
    (mbxGroup 13#4 4#8 port [s.ports[n].packDigest.setWidth 36])

/-- After the answer the record of the pack becomes the owner of the slot that serves the port (R217). -/
def digestAnswer (n : PortId) (port : Byte) (s : State) : State :=
  match (digestSent n port s).slotOf n with
  | some i =>
    if (digestSent n port s).kg.slots[i].identified || !(digestSent n port s).ports[n].partner.identDone then
      digestSent n port s
    else ((digestSent n port s).takeOwner i).showSlot i
  | none => digestSent n port s

theorem digestReq_eq {s : State} {port : Byte} {data : List W36} (hup : s.gaugeUp = true)
    (hmail : s.mailHead 13 = some (3#8, port, data)) (hport : port.toNat < 192) :
    s.digestReq = digestAnswer ⟨port.toNat, hport⟩ port (s.mailDone 13) := by
  rw [digestReq, hup, hmail]
  exact dif_pos ⟨rfl, hport⟩

/-- A port that no slot serves has no record to own. -/
theorem digestAnswer_unserved {n : PortId} {port : Byte} {s : State} (hslot : s.slotOf n = none) :
    digestAnswer n port s = digestSent n port s := by
  have hnone : (digestSent n port s).slotOf n = none := hslot
  rw [digestAnswer, hnone]

end State

/-- Settles O36: each command is a turn of the firmware on the port; a request to the pack is a message that the region, which is
free, takes in hand. -/
theorem gaugePacks : Obligations.GaugePacks := by
  unfold Obligations.GaugePacks
  intro s n r hr
  refine ⟨?requests, ?unanswered, ?answered, ?digest⟩
  case requests =>
    intro hup hrole hregion hatt _ hfree hseq
    obtain ⟨hpend, hserved, hgoes, hempty, hheld, -⟩ := hfree
    have hready : r.Ready := ⟨hpend, hatt, hserved, hgoes, hempty, hheld, hseq⟩
    have hturn : s.turnUp n = true := State.turnUp_of hup hrole (hr ▸ hpend)
    have henv : (s.env n).regionUp = true := hregion
    refine ⟨?ident, fun hisland hsup hhead hanswer => ?polls⟩
    case ident =>
      intro hstep hdock hexp hdone hend hbusy hmode
      obtain ⟨hsent, hstep', hbound, hpartner, hhand⟩ :=
        Port.identTurn_sent sysVid henv hready hstep hdock hexp hdone hend hbusy hmode
      have hnone : State.askDigest n s (s.onTurn n fun e p => p.identTurn e sysVid) =
          s.onTurn n fun e p => p.identTurn e sysVid :=
        State.askDigest_none (.inl ((congrArg PPartner.identDone
          ((State.onTurn_partner (f := fun e p => p.identTurn e sysVid) hturn hr hsent).trans hpartner)).trans hdone))
      exact State.onTurn_completes (congrArg Host.Outcome.next hnone) (State.onlyPort_refl s n) hturn hr hsent
        fun _ _ => ⟨hstep', hbound, hpartner, hhand⟩
    case polls =>
      have hgauge : s.gaugeUp = true := State.gaugeUp_of hup hisland hsup
      refine ⟨?battery, ?temp⟩
      case battery =>
        intro i hslot hident hexp hrev hbusy
        have hpolls : Port.battTurn (s.slotOf n).isSome (s.env n) r = r.battPoll (s.env n) true := by
          simp [Port.battTurn, hanswer, hslot]
        obtain ⟨hsent, hawait, hhand⟩ := Port.battPoll_sent henv hready hident hexp hrev hbusy
        rw [← hpolls] at hsent hawait hhand
        exact State.onTurn_completes (congrArg Host.Outcome.next (State.batteryPoll_noMessage hgauge hturn (hr ▸ hhead)))
          (State.onlyPort_refl s n) hturn hr hsent fun _ _ => ⟨hawait, hhand⟩
      case temp =>
        intro i hslot hmode hexp hbusy
        obtain ⟨hsent, hawait, hhand⟩ := Port.tempTurn_sent henv hready s.kg.slots[i].limitsAsked
        have hpolls : s.tempPoll n = (s.onSlotG i fun x => { x with limitsAsked := true }).onTurn n
            (Port.tempTurn s.kg.slots[i].limitsAsked) := by
          subst hr
          exact State.tempPoll_asks hgauge hturn hregion hslot hhead hanswer hmode hexp hbusy
        exact State.onTurn_completes (congrArg Host.Outcome.next hpolls) ⟨rfl, fun _ _ => rfl⟩ hturn hr hsent
          fun _ _ => ⟨hawait, hhand⟩
  case unanswered =>
    intro hup hrole hpend ht hserial hmfg hcap
    obtain ⟨hident, htag⟩ := Port.identEnd_unanswered hserial hmfg hcap
    obtain ⟨hdone, hstep, hbound, hstg⟩ := Port.identEnd_spec r
    rw [← Port.identBound_eq ht] at hident htag hdone hstep hbound hstg
    have hturn : s.turnUp n = true := State.turnUp_of hup hrole (hr ▸ hpend)
    have hsent : r.identBound.stg.pending = false := hstg ▸ hpend
    have hnone : State.askDigest n s (s.onTurn n fun _ p => p.identBound) = s.onTurn n fun _ p => p.identBound :=
      State.askDigest_none (.inr ((congrArg PPartner.ident (State.onTurn_partner hturn hr hsent)).trans hident))
    exact State.onTurn_completes (congrArg Host.Outcome.next hnone) (State.onlyPort_refl s n) hturn hr hsent
      fun _ _ => ⟨hdone, hident, htag, hstep, hbound⟩
  case answered =>
    intro hup hrole hpend ht hserial _
    obtain ⟨hdone, hstep, -, hstg⟩ := Port.identEnd_spec r
    have hident := Port.identEnd_serial hserial
    rw [← Port.identBound_eq ht] at hident hdone hstep hstg
    have hturn : s.turnUp n = true := State.turnUp_of hup hrole (hr ▸ hpend)
    have hsent : r.identBound.stg.pending = false := hstg ▸ hpend
    subst hr
    obtain ⟨⟨hrest, hports⟩, x, due, hport⟩ := State.onTurn_spec (f := fun _ p => p.identBound) hturn hsent
    obtain ⟨q, hasked⟩ := State.askDigest_sysq n s (s.onTurn n fun _ p => p.identBound)
    refine ⟨_, congrArg Host.Outcome.next hasked, ?_, ?_, ?_, hports, (congrArg State.cores hrest :),
      (congrArg State.polders hrest :)⟩
    · exact (congrArg (fun p => p.partner.identDone) hport :).trans hdone
    · exact (congrArg (fun p => p.partner.ident) hport :).trans hident
    · exact (congrArg (fun p => p.role.identStep) hport :).trans hstep
  case digest =>
    intro data hup hmail hslot
    have hport : (BitVec.ofNat 8 n.val).toNat = n.val := Nat.mod_eq_of_lt (n.isLt.trans (by decide))
    have hlt : (BitVec.ofNat 8 n.val).toNat < 192 := hport.trans_lt n.isLt
    have hn : (⟨(BitVec.ofNat 8 n.val).toNat, hlt⟩ : PortId) = n := Fin.ext hport
    have hanswer : s.digestReq = State.digestSent n (BitVec.ofNat 8 n.val) (s.mailDone 13) := by
      rw [State.digestReq_eq hup hmail hlt, hn]
      exact State.digestAnswer_unserved hslot
    exact congrArg Host.Outcome.next hanswer

end Sys2Proof.Machine
end

section
/-! What a breach records (R148, R150), and what the quarry's turn after a park leaves of the parked port (R260, R261). -/

namespace Sys2Proof.Machine

namespace Port

/-- What a breach is known by: the latch, the pass state and P_TRIP. -/
def tripState (p : Port) : Bool × Path × PTrip := (p.sluice.latched, p.fe.path, p.trip)

theorem setLineCode_tripState (a : Bool) (c : BitVec 3) (p : Port) : (p.setLineCode a c).tripState = p.tripState := by
  unfold setLineCode
  split <;> rfl

theorem vcnOff_tripState (p : Port) : p.vcnOff.tripState = p.tripState := by
  unfold vcnOff
  split
  · exact setLineCode_tripState _ _ p
  · rfl

theorem vsetZero_tripState (p : Port) : p.vsetZero.tripState = p.tripState := rfl

theorem hold_tripState (p : Port) : p.hold.tripState = (p.sluice.latched, .none, p.trip) := rfl

theorem discharge_tripState (p : Port) : p.discharge.tripState = p.tripState := by
  unfold discharge
  split <;> rfl

theorem reportBreach_tripState (e : Env) (b : Breach) (p : Port) : (p.reportBreach e b).tripState = p.tripState := by
  unfold reportBreach
  split
  · simp [tripState]
  · rfl

theorem toErrorRecovery_tripState (p : Port) : p.toErrorRecovery.tripState = (p.sluice.latched, .none, p.trip) := by
  have hlatched : p.toErrorRecovery.sluice.latched = p.sluice.latched :=
    (congrArg (fun x => x.2.2.latched) (toErrorRecovery_steady p) :)
  rw [tripState, hlatched, toErrorRecovery_path, toErrorRecovery_trip]

/-- What the front end does about a breach beside the latch and the hold, by the row of Table 5.3; `wasSrc`: the source pair
passed, `src`: the port was no sink. -/
def breachAct (b : Breach) (wasSrc src : Bool) (p : Port) : Port :=
  match b with
  | .ccShort =>
    let p := { p with fe := { p.fe with ccIsolated := true } }.vcnOff.vsetZero
    if src then p.discharge else p
  | .ovp | .ocFast | .ocSlow => if wasSrc then p.vsetZero.discharge else p
  | .rev => p.vsetZero
  | .gate => if src then p.vsetZero.discharge else p.vsetZero
  | .otpDie | .otpNtc | .vgdLow => p

/-- The parts of a breach: the record, the hold, the action of its row, the report, and ErrorRecovery for a CC_SHORT under a
region (R148). -/
theorem breach_eq (e : Env) (b : Breach) (p : Port) :
    let q := (((p.recordBreach e b).hold).breachAct b (decide (p.fe.path = .source)) (!p.sinkSide)).reportBreach e b
    p.breach e b =
      if b = .ccShort ∧ e.regionUp ∧ q.tc.state ≠ .errorRecovery ∧ q.tc.state ≠ .disabled then q.toErrorRecovery else q := by
  cases b <;> simp [breach, breachAct]

/-- The action of a breach isolates the CC PHY, turns VCN off, sets VSET to zero and discharges, and does no more: it keeps
what these four keep. -/
theorem breachAct_keeps {α : Type} {f : Port → α}
    (hisolate : ∀ q : Port, f { q with fe := { q.fe with ccIsolated := true } } = f q) (hvcn : ∀ q : Port, f q.vcnOff = f q)
    (hzero : ∀ q : Port, f q.vsetZero = f q) (hdis : ∀ q : Port, f q.discharge = f q) (b : Breach) (wasSrc src : Bool) (p : Port) :
    f (p.breachAct b wasSrc src) = f p := by
  have hpair (c : Bool) (x y : Port) (hx : f x = f p) (hy : f y = f p) : f (if c then x else y) = f p := by split <;> assumption
  have hoff : f p.vsetZero.discharge = f p := (hdis _).trans (hzero p)
  have hshort : f ({ p with fe := { p.fe with ccIsolated := true } }.vcnOff.vsetZero) = f p :=
    (hzero _).trans ((hvcn _).trans (hisolate p))
  cases b
  case ccShort => exact hpair src _ _ ((hdis _).trans hshort) hshort
  case ovp => exact hpair wasSrc _ _ hoff rfl
  case ocFast => exact hpair wasSrc _ _ hoff rfl
  case ocSlow => exact hpair wasSrc _ _ hoff rfl
  case rev => exact hzero p
  case gate => exact hpair src _ _ hoff (hzero p)
  case otpDie => rfl
  case otpNtc => rfl
  case vgdLow => rfl

theorem breachAct_tripState (b : Breach) (wasSrc src : Bool) (p : Port) : (p.breachAct b wasSrc src).tripState = p.tripState :=
  breachAct_keeps (fun _ => rfl) vcnOff_tripState vsetZero_tripState discharge_tripState b wasSrc src p

theorem vcnOff_pfault (p : Port) : p.vcnOff.pfault = p.pfault := (congrArg Port.pfault (vcnOff_lasting p) :)
theorem discharge_pfault (p : Port) : p.discharge.pfault = p.pfault := (congrArg Port.pfault (discharge_lasting p) :)

/-- A breach parks nothing. -/
theorem breach_pfault (e : Env) (b : Breach) (p : Port) : (p.breach e b).pfault = p.pfault := by
  have hreport (q : Port) : (q.reportBreach e b).pfault = q.pfault := by
    unfold reportBreach
    split
    · exact post_pfault _ _ _
    · rfl
  have hact : ((((p.recordBreach e b).hold).breachAct b (decide (p.fe.path = .source)) (!p.sinkSide)).reportBreach e b).pfault =
      p.pfault :=
    (hreport _).trans (breachAct_keeps (fun _ => rfl) vcnOff_pfault (fun _ => rfl) discharge_pfault b _ _ _)
  rw [breach_eq]
  split
  · simpa [toErrorRecovery] using hact
  · exact hact

theorem breach_tripState (e : Env) (b : Breach) (p : Port) :
    (p.breach e b).tripState = (true, .none, (p.recordBreach e b).trip) := by
  have hreported : ((((p.recordBreach e b).hold).breachAct b (decide (p.fe.path = .source)) (!p.sinkSide)).reportBreach e b).tripState =
      (true, .none, (p.recordBreach e b).trip) := by
    rw [reportBreach_tripState, breachAct_tripState]
    rfl
  rw [breach_eq]
  generalize (((p.recordBreach e b).hold).breachAct b (decide (p.fe.path = .source)) (!p.sinkSide)).reportBreach e b = q
    at hreported
  split
  · simp only [tripState, Prod.mk.injEq] at hreported
    obtain ⟨hlatched, -, htrip⟩ := hreported
    rw [toErrorRecovery_tripState, hlatched, htrip]
  · exact hreported

/-- What a breach leaves is known by the latch, the pass state and P_TRIP alone. -/
theorem tripped_of_tripState {b : Breach} {p q r : Port} (h : r.tripState = q.tripState) (hq : p.tripped b q) :
    p.tripped b r := by
  simp only [tripState, Prod.mk.injEq] at h
  obtain ⟨hlatched, hpath, htrip⟩ := h
  rw [tripped, hlatched, hpath, htrip]
  exact hq

/-- Every breach sets the latch, holds both pairs and is recorded (R148, R150). -/
theorem breach_tripped (e : Env) (b : Breach) (p : Port) : p.tripped b (p.breach e b) :=
  tripped_of_tripState (q := (p.recordBreach e b).hold) (breach_tripState e b p) ⟨rfl, rfl, rfl, rfl, rfl, rfl⟩

/-! A park (R261). -/

/-- An entry to Disabled keeps P_TRIP, P_FAULT and the breach latch. -/
theorem toDisabled_records (c : BitVec 3) (p : Port) : (p.toDisabled c).trip = p.trip ∧ (p.toDisabled c).pfault = p.pfault ∧
    (p.toDisabled c).sluice.latched = p.sluice.latched := by
  have hdis (q : Port) : q.discharge.trip = q.trip ∧ q.discharge.pfault = q.pfault ∧
      q.discharge.sluice.latched = q.sluice.latched := by
    unfold discharge
    split <;> exact ⟨rfl, rfl, rfl⟩
  have hsession : p.endSession.sluice.latched = p.sluice.latched :=
    (congrArg (fun x => x.2.2.latched) (endSession_steady p) :)
  have hladder : p.endSession.ladderClear.trip = p.trip ∧ p.endSession.ladderClear.pfault = p.pfault :=
    ⟨endSession_trip p, endSession_pfault p⟩
  unfold toDisabled
  split
  · exact ⟨rfl, rfl, rfl⟩
  · dsimp only
    obtain ⟨htrip, hfault, hlatched⟩ := hdis p.endSession.ladderClear
    split
    · simp [htrip, hfault, hlatched, hladder, hsession]
    · simp [hladder, hsession]

theorem disable_records (c : BitVec 3) (p : Port) : (p.disable c).trip = p.trip ∧ (p.disable c).pfault = p.pfault ∧
    (p.disable c).sluice.latched = p.sluice.latched := by
  unfold disable
  split
  · exact ⟨rfl, rfl, rfl⟩
  · exact toDisabled_records c p

theorem park_tripState (c : BitVec 2) (p : Port) : (p.park c).tripState = (p.sluice.latched, .none, p.trip) := by
  obtain ⟨htrip, -, hlatched⟩ := disable_records 5#3 p
  have hpark : (p.park c).tripState = (p.disable 5#3).hold.vsetZero.vcnOff.tripState := rfl
  rw [hpark, vcnOff_tripState, vsetZero_tripState, hold_tripState, htrip, hlatched]

theorem park_pfault (c : BitVec 2) (p : Port) : (p.park c).pfault = { p.pfault with oos := true, oosCause := c } := by
  have hpark : (p.park c).pfault = { (p.disable 5#3).hold.vsetZero.vcnOff.pfault with oos := true, oosCause := c } := rfl
  rw [hpark, vcnOff_pfault]
  exact congrArg (fun f : PFault => { f with oos := true, oosCause := c }) (disable_records 5#3 p).2.1

/-- A parked port has nothing on its line: its region has started afresh. -/
theorem park_tx (c : BitVec 2) (p : Port) : (p.park c).rg.tx = none := rfl

/-- A failed check shows in FE and leaves the port parked (R260). -/
theorem checkFail_pfault (i : Nat) (p : Port) :
    (p.checkFail i).pfault.oos = true ∧ (p.checkFail i).pfault.fe = p.pfault.fe ||| (1#4 <<< i) := by
  unfold checkFail
  dsimp only
  split
  case isTrue hoos => exact ⟨hoos, rfl⟩
  case isFalse => simp [park_pfault]

theorem checkFail_parks (i : Nat) {p : Port} (h : p.pfault.oos = false) :
    p.checkFail i = Port.park 1#2 { p with pfault := { p.pfault with fe := p.pfault.fe ||| (1#4 <<< i) } } :=
  if_neg (Bool.eq_false_iff.mp h)

/-- A port that a failed check has parked holds its pairs, with nothing on its line (R261). -/
theorem checkFail_settled (i : Nat) {p : Port} (h : p.pfault.oos = false) :
    (p.checkFail i).fe.path = .none ∧ (p.checkFail i).rg.tx = none := by
  rw [checkFail_parks i h]
  exact ⟨congrArg (fun x => x.2.1) (park_tripState 1#2 _), park_tx 1#2 _⟩

theorem checkFail_bit {i : Nat} (hi : i < 4) (p : Port) : (p.checkFail i).pfault.fe.getLsbD i = true := by
  rw [(checkFail_pfault i p).2]
  simp [hi]

/-- A check that fails holds the pairs of a port that breached, and keeps the breach's records. -/
theorem checkFail_tripState (i : Nat) {p : Port} (hpath : p.fe.path = .none) : (p.checkFail i).tripState = p.tripState := by
  unfold checkFail
  dsimp only
  split
  · rfl
  · rw [park_tripState, tripState, hpath]

/-- What a park has settled: nothing of it moves until the port is given a region. -/
def parked (p : Port) : PTrip × PSluice × FrontEnd × PFault × Region := (p.trip, p.sluice, p.fe, p.pfault, p.rg)

theorem parked_eq_iff {p q : Port} : q.parked = p.parked ↔
    q.trip = p.trip ∧ q.sluice = p.sluice ∧ q.fe = p.fe ∧ q.pfault = p.pfault ∧ q.rg = p.rg := by
  simp only [parked, Prod.mk.injEq]

theorem tripState_of_parked {p q : Port} (h : q.parked = p.parked) : q.tripState = p.tripState := by
  obtain ⟨htrip, hsluice, hfe, -, -⟩ := parked_eq_iff.mp h
  rw [tripState, htrip, hsluice, hfe, tripState]

theorem checkpoint_parked (tid : BitVec 16) (time : BitVec 24) (nw : BitVec 6) (idx : BitVec 16) (p : Port) :
    (p.checkpoint tid time nw idx).parked = p.parked := by
  unfold checkpoint
  simp only
  (repeat' split) <;> rfl

/-- A freeze has nothing to cut on a port with nothing on its line (R266). -/
theorem freeze_parked (tid : BitVec 16) (time : BitVec 24) (nw : BitVec 6) (idx : BitVec 16) {p : Port} (h : p.rg.tx = none) :
    (p.freeze tid time nw idx).parked = p.parked := by
  have hresume : p.resumeTx = p := by rw [resumeTx, h]
  unfold freeze
  rw [hresume]
  exact checkpoint_parked tid time nw idx p

end Port

namespace State

variable (s : State)

/-- The ports after an operation that is none of theirs. -/
theorem spoil_ports (kind : BitVec 4) (id : BitVec 20) (cause : BitVec 4) : (s.spoil kind id cause).ports = s.ports := by
  unfold spoil
  split <;> rfl

theorem repeatLeft_ports (q : PolderId) (r : Nat) : (s.repeatLeft q r).ports = s.ports := by
  unfold repeatLeft
  split
  · exact s.spoil_ports _ _ _
  · rfl

theorem alert_ports (code : BitVec 8) (value : Word) : (s.alert code value).ports = s.ports := by
  dsimp only [alert]
  split <;> rfl

theorem parkNote_ports (n : PortId) : (s.parkNote n).ports = s.ports := by
  unfold parkNote
  split
  · exact alert_ports _ _ _
  · rfl

theorem quarryEvent_ports (action kind : BitVec 4) (id : BitVec 20) (cause : BitVec 4) :
    (s.quarryEvent action kind id cause).ports = s.ports := rfl

theorem giveRegion_ports (q : PolderId) (pos : PosId) (r : RegionId) : (s.giveRegion q pos r).ports = s.ports := by
  dsimp only [giveRegion]
  (repeat' split) <;> rfl

variable {s}

/-- A class that takes effect acts on no parked port: no region serves it, and its pairs hold (R261). -/
theorem classActs_parked {n : PortId} (hoos : s.ports[n].pfault.oos = true) (hpath : s.ports[n].fe.path = .none) :
    s.classActs n = s := by
  have hdown : s.regionUp n = false := by
    rw [regionUp, hoos]
    simp
  have hshed : s.shedPort n = s := if_neg (by rw [hoos]; simp)
  have hunshed : s.unshedPort n = s := by
    unfold unshedPort onRegionOf
    rw [hdown]
    exact ite_self _
  have hheld : s.holdForHb n = s := if_neg fun h => h.2 hpath
  rw [classActs, hshed, hunshed, ite_self, hheld, ite_self]

theorem withClass_parked (n : PortId) (cl : SvcClass) (s : State) :
    (s.withClass n cl).ports[n].parked = s.ports[n].parked := by
  unfold withClass rebind
  dsimp only
  split <;> simp [Port.parked]

theorem applyClass_parked {n : PortId} (hoos : s.ports[n].pfault.oos = true) (hpath : s.ports[n].fe.path = .none) :
    (s.applyClass n).ports[n].parked = s.ports[n].parked := by
  cases hheld : s.ports[n].heldCls with
  | none =>
    have hsame : s.applyClass n = s := by rw [applyClass, hheld]
    rw [hsame]
  | some cl =>
    by_cases hplace : (s.ports[n].place.migrating || s.ports[n].place.prepared) = true
    · have hsame : s.applyClass n = s := by
        rw [applyClass, hheld]
        exact if_pos hplace
      rw [hsame]
    · have hclass := withClass_parked n cl s
      obtain ⟨-, -, hfe, hfault, -⟩ := Port.parked_eq_iff.mp hclass
      rw [applyClass_eq hheld (Bool.eq_false_iff.mpr hplace), classActs_parked (by rw [hfault, hoos]) (by rw [hfe, hpath]),
        hclass]

theorem gaugeFollow_parked (n : PortId) (s : State) : (s.gaugeFollow n).ports[n].parked = s.ports[n].parked :=
  (congrArg Port.parked (onlyPort_of_blank (s.blank_gaugeFollow n)).2 :)

/-- What follows a park of the port: a region left for REPEAT, the gauge, a class that has waited, the note (R177, R261). -/
theorem parkNoted_parked {n : PortId} (hoos : s.ports[n].pfault.oos = true) (hpath : s.ports[n].fe.path = .none) (q : PolderId)
    (r : Nat) : ((((s.repeatLeft q r).gaugeFollow n).applyClass n).parkNote n).ports[n].parked = s.ports[n].parked := by
  have hport : ((s.repeatLeft q r).gaugeFollow n).ports[n].parked = s.ports[n].parked := by
    rw [gaugeFollow_parked, repeatLeft_ports]
  obtain ⟨-, -, hfe, hfault, -⟩ := Port.parked_eq_iff.mp hport
  rw [parkNote_ports, applyClass_parked (by rw [hfault, hoos]) (by rw [hfe, hpath]), hport]

/-- The move of a parked port to its home region leaves what the park has settled (R253, R261). -/
theorem parkMove_parked {n : PortId} (hoos : s.ports[n].pfault.oos = true) (hpath : s.ports[n].fe.path = .none) :
    (s.parkMove n).ports[n].parked = s.ports[n].parked := by
  unfold parkMove
  dsimp only
  refine (parkNoted_parked ?_ ?_ _ _).trans ?_
  · simpa using hoos
  · simpa using hpath
  · simp [Port.parked]

theorem plannedSwitch_parked {n : PortId} (htx : s.ports[n].rg.tx = none) (q : PolderId) (pos : PosId) (r : RegionId)
    (kind : SwitchKind) : (s.plannedSwitch q pos r kind).ports[n].parked = s.ports[n].parked := by
  dsimp only [plannedSwitch, startSwitch, onPolder_ports, setPort_ports]
  by_cases hn : portAt q pos = n
  · subst hn
    simpa using Port.freeze_parked _ _ _ _ htx
  · have hne : (portAt q pos : Nat) ≠ n := fun h => hn (Fin.ext h)
    simp [hne]

/-- A spare that has come free changes no port with nothing on its line, but for its place (R257, R272). -/
theorem spareFreed_parked {n : PortId} (htx : s.ports[n].rg.tx = none) (q : PolderId) :
    (s.spareFreed q).ports[n].parked = s.ports[n].parked := by
  unfold spareFreed
  split
  · rw [giveRegion_ports]
  · rfl
  · dsimp only [leaveRepeat]
    (repeat' split)
    · rfl
    · rfl
    · exact plannedSwitch_parked htx q _ _ _
    · rfl

/-- What the quarry does about a port that a check has parked leaves the port as the park has settled it (R260, R261). -/
theorem noteParks_parked {n : PortId} {t : State}
    (h : s.ports[n].pfault.oos = false → t.ports[n].pfault.oos = true → t.ports[n].fe.path = .none ∧ t.ports[n].rg.tx = none) :
    (s.noteParks n t).ports[n].parked = t.ports[n].parked := by
  unfold noteParks
  split
  case isTrue hparks =>
    rw [Bool.and_eq_true, Bool.not_eq_true'] at hparks
    obtain ⟨hoos, hserved⟩ := hparks
    obtain ⟨hpath, htx⟩ := h hserved hoos
    have hmove := parkMove_parked hoos hpath
    obtain ⟨-, -, -, -, hrg⟩ := Port.parked_eq_iff.mp hmove
    dsimp only
    rw [spareFreed_parked (by rw [quarryEvent_ports, hrg]; exact htx), quarryEvent_ports, hmove]
  case isFalse => rfl

theorem noteParks_unparked {n : PortId} {t : State} (h : t.ports[n].pfault.oos = s.ports[n].pfault.oos) : s.noteParks n t = t := by
  unfold noteParks
  rw [h, Bool.and_not_self]
  rfl

end State

end Sys2Proof.Machine
end

section
/-! The clauses of O7: the breaches of one port at and below their thresholds (R143, R148 to R150, R153, R162, R163, Tables 5.3
and 5.7). -/

namespace Sys2Proof.Machine

namespace Port

/-! What the front end senses, and where its comparators stand, are the terms of the statement (R162, R163). -/

theorem sense_eq (x : Int) (p : Port) : p.sense x = p.sensed x := by simp [sense, sensed, onRes, clampInt, fullScale]

theorem toMa_eq (x : Int) (p : Port) : p.toMa x = p.milliamps x := by simp [toMa, milliamps, onRes]

theorem tripAt_eq (ma : Nat) (p : Port) : p.tripAt ma = p.threshold ma := by simp [tripAt, threshold, onRes, fullScale]

theorem connected_iff (p : Port) : p.connected = true ↔ p.sluice.senseMode ≠ 1#2 ∨ p.sluice.fullEnh = true := by
  simp [connected, onRes]

/-- The sense voltage of the fast threshold in force (Table 5.3, R163). -/
theorem fastAt_eq (p : Port) : p.fastAt = if p.sluice.senseMode = 1#2 then min 6250000 (p.fe.vFast / 10)
    else p.threshold (max p.ilim.fast.toNat p.ilim.slow.toNat * 50) := by
  simp [fastAt, onRes, fullScale, tripAt_eq, fastMa]

section
variable {e : Env} {p : Port}

/-! Each breach occurs at its threshold; below it the port stays as it was. -/

theorem ccShort_trips {mv : Nat} (h : p.fe.set.ccShort * 10 ≤ mv) : p.tripped .ccShort (p.ccShort e mv) := by
  rw [ccShort, if_pos h]
  exact breach_tripped e _ p

theorem ccShort_stays {mv : Nat} (h : mv < p.fe.set.ccShort * 10) : p.ccShort e mv = p := if_neg (not_le.mpr h)

theorem ovp_trips {mv : Nat} (h : p.vOvp ≤ mv) (hno : 0 < p.rg.moving ∨ p.sinkSide = true ∨ mv ≤ p.fe.vb) :
    p.tripped .ovp (p.ovp e mv) := by
  have hrises : ¬ (p.rg.moving = 0 ∧ (!p.sinkSide) = true ∧ p.fe.vb < mv) := by
    rintro ⟨hzero, hsource, hup⟩
    rcases hno with h | h | h
    · omega
    · simp [h] at hsource
    · omega
  rw [ovp, if_pos h, if_neg hrises]
  exact breach_tripped e _ p

/-- A foreign VBUS is flagged once: both pairs hold, DIS is released, and SL_FOREIGN_VB is written or owed (R154). -/
theorem flagForeign_spec (h : p.fe.foreign = false) :
    let q := p.flagForeign e
    q.fe.foreign = true ∧ q.fe.path = .none ∧ q.fe.dis = .off ∧ q.trip = { p.trip with foreignVb := true } ∧
      q.sluice.latched = p.sluice.latched ∧ (e.regionUp = true → q.flagged .slForeignVb = true) ∧
      (e.regionUp = false → q.fe.foreignOwed = true) := by
  dsimp only
  rw [flagForeign, if_neg (Bool.eq_false_iff.mp h)]
  dsimp only
  split
  case isTrue hup =>
    refine ⟨?_, ?_, ?_, ?_, ?_, fun _ => flagged_post_self _ _ _, fun hdown => absurd (hup.symm.trans hdown) (by decide)⟩
    all_goals simp [hold, rampDisOff]
  case isFalse hdown => exact ⟨rfl, rfl, rfl, rfl, rfl, fun hup => absurd hup hdown, fun _ => rfl⟩

theorem ovp_foreign {mv : Nat} (h : p.vOvp ≤ mv) (hzero : p.rg.moving = 0) (hsource : p.sinkSide = false)
    (hrises : p.fe.vb < mv) : p.ovp e mv = p.flagForeign e := by
  rw [ovp, if_pos h, if_pos ⟨hzero, by simp [hsource], hrises⟩]

theorem ovp_stays {mv : Nat} (h : mv < p.vOvp) : p.ovp e mv = p := if_neg (not_le.mpr h)

/-- OC_FAST occurs at the fast threshold, at full scale, and in on-resistance mode at a drop above 0.5 V (R162). -/
theorem ocFast_trips {x drop : Int} (h : p.fastAt ≤ (p.sensed x).natAbs ∨ (p.connected = true ∧ 6250000 ≤ x.natAbs) ∨
    (p.sluice.senseMode = 1#2 ∧ p.sluice.fullEnh = true ∧ 500 < drop)) : p.tripped .ocFast (p.ocFast e x drop) := by
  rw [← sense_eq] at h
  have htrip : p.ocFast e x drop = p.breach e .ocFast :=
    if_pos (h.imp_right (Or.imp_right fun ⟨hres, hfull, hdrop⟩ => ⟨onRes_of_ron hres, hfull, hdrop⟩))
  rw [htrip]
  exact breach_tripped e _ p

theorem ocFast_stays {x drop : Int} (hfast : (p.sensed x).natAbs < p.fastAt)
    (hscale : x.natAbs < 6250000 ∨ ¬ p.connected = true)
    (hdrop : drop ≤ 500 ∨ p.sluice.senseMode ≠ 1#2 ∨ p.sluice.fullEnh = false) : p.ocFast e x drop = p := by
  refine if_neg ?_
  rintro (h | ⟨hconn, h⟩ | ⟨hres, hfull, h⟩)
  · rw [sense_eq] at h
    omega
  · have hlt := hscale.resolve_right (not_not.mpr hconn)
    simp only [fullScale] at h
    omega
  · rcases hdrop with hle | hshunt | hno
    · omega
    · simp [onRes_of_shunt hshunt] at hres
    · simp [hno] at hfull

/-- A current runs against the passing pair beyond REV_I, or at full scale (R153, R162). -/
def Reverse (x : Int) (p : Port) : Prop :=
  (p.fe.path = .source ∧ (p.sensed x ≤ -(p.threshold (p.ilim.revI.toNat * 50) : Int) ∨ (p.connected = true ∧ x ≤ -6250000))) ∨
    (p.fe.path = .sink ∧ ((p.threshold (p.ilim.revI.toNat * 50) : Int) ≤ p.sensed x ∨ (p.connected = true ∧ 6250000 ≤ x)))

theorem rev_cond_iff {x : Int} :
    ((p.fe.path = .source ∧ (p.sense x ≤ -(p.tripAt (p.ilim.revI.toNat * 50) : Int) ∨
        (p.connected && decide ((fullScale : Int) ≤ -x)) = true)) ∨
      (p.fe.path = .sink ∧ ((p.tripAt (p.ilim.revI.toNat * 50) : Int) ≤ p.sense x ∨
        (p.connected && decide ((fullScale : Int) ≤ x)) = true))) ↔ p.Reverse x := by
  have hneg : (fullScale : Int) ≤ -x ↔ x ≤ -6250000 := by
    simp only [fullScale]
    omega
  have hpos : (fullScale : Int) ≤ x ↔ 6250000 ≤ x := Iff.rfl
  simp only [Reverse, sense_eq, tripAt_eq, Bool.and_eq_true, decide_eq_true_eq, hneg, hpos]

theorem rev_trips {x : Int} (h : p.Reverse x) : p.tripped .rev (p.rev e x) := by
  have hrev : p.rev e x = p.breach e .rev := if_pos (rev_cond_iff.mpr h)
  rw [hrev]
  exact breach_tripped e _ p

theorem rev_stays {x : Int} (h : ¬ p.Reverse x) : p.rev e x = p := if_neg (mt rev_cond_iff.mp h)

/-- Below REV_I and full scale, and with both pairs holding, no current is reverse. -/
theorem not_reverse {x : Int} (h : p.fe.path = .none ∨ ((p.sensed x).natAbs < p.threshold (p.ilim.revI.toNat * 50) ∧
    (x.natAbs < 6250000 ∨ ¬ p.connected = true))) : ¬ p.Reverse x := by
  rintro (⟨hpath, hbeyond⟩ | ⟨hpath, hbeyond⟩)
  all_goals
    rcases h with hnone | ⟨hlow, hscale⟩
    · exact absurd (hpath.symm.trans hnone) (by decide)
    rcases hbeyond with hv | ⟨hconn, hx⟩
    · omega
    · have hlt := hscale.resolve_right (not_not.mpr hconn)
      omega

/-- What one period of 10 µs adds to the slow integral: the current above SLOW, or above what full scale shows (R149, R162). -/
def slowExcess (x : Int) (p : Port) : Int :=
  (p.milliamps (p.sensed x)).natAbs -
    ((min (p.ilim.slow.toNat * 50) (p.milliamps (p.sensed (if x < 0 then -6250000 else 6250000))).natAbs : Nat) : Int)

theorem ocSlow_eq (x : Int) (k : Nat) (hpath : p.fe.path ≠ .none) : p.ocSlow e x k =
    if p.ilim.qSlow.toNat * 100000 ≤ ((p.fe.slowInt : Int) + k * p.slowExcess x).toNat then p.breach e .ocSlow
    else { p with fe := { p.fe with slowInt := ((p.fe.slowInt : Int) + k * p.slowExcess x).toNat } } := by
  have hexcess : ((p.ibusOf x).natAbs : Int) - (p.slowMa x : Int) = p.slowExcess x := by
    simp only [ibusOf, slowMa, slowExcess, toMa_eq, sense_eq]
    rfl
  rw [ocSlow, hexcess]
  exact if_neg hpath

theorem ocSlow_holding (x : Int) (k : Nat) (hpath : p.fe.path = .none) : p.ocSlow e x k = p := if_pos hpath

theorem ocSlow_trips {x : Int} {k : Nat} (hpath : p.fe.path ≠ .none)
    (h : (p.ilim.qSlow.toNat * 100000 : Int) ≤ max 0 (p.fe.slowInt + k * p.slowExcess x)) :
    p.tripped .ocSlow (p.ocSlow e x k) := by
  rw [ocSlow_eq x k hpath, if_pos (by omega)]
  exact breach_tripped e _ p

theorem ocSlow_counts {x : Int} {k : Nat} (hpath : p.fe.path ≠ .none)
    (h : max 0 (p.fe.slowInt + k * p.slowExcess x) < (p.ilim.qSlow.toNat * 100000 : Int)) :
    p.ocSlow e x k =
      { p with fe := { p.fe with slowInt := (max 0 ((p.fe.slowInt : Int) + k * p.slowExcess x)).toNat } } := by
  have hzero (a : Int) : (max 0 a).toNat = a.toNat := by omega
  rw [ocSlow_eq x k hpath, if_neg (by omega), hzero]

/-! GATE: the second breach of a pair that has had no full enhancement in between parks the port (R143, Table 9.3). -/

theorem gateCheck_holding (hpath : p.fe.path = .none) : p.gateCheck e = p := by rw [gateCheck, hpath]

/-- A GATE breach as it is, with its pair marked. -/
def gateMarked (e : Env) (src snk : Bool) (p : Port) : Port :=
  { p.breach e .gate with fe := { (p.breach e .gate).fe with gateSrc := src, gateSnk := snk } }

theorem gateCheck_passing (hpath : p.fe.path ≠ .none) :
    p.gateCheck e = (p.breach e .gate).checkFail 0 ∨ ∃ src snk, p.gateCheck e = p.gateMarked e src snk := by
  have hgate : p.gate e = p.breach e .gate := if_neg hpath
  rw [gateCheck, hgate]
  cases hp : p.fe.path with
  | none => exact absurd hp hpath
  | source =>
    dsimp only
    split
    · exact .inl rfl
    · exact .inr ⟨true, (p.breach e .gate).fe.gateSnk, rfl⟩
  | sink =>
    dsimp only
    split
    · exact .inl rfl
    · exact .inr ⟨(p.breach e .gate).fe.gateSrc, true, rfl⟩

theorem gateCheck_tripped (hpath : p.fe.path ≠ .none) : p.tripped .gate (p.gateCheck e) := by
  have hbreach := breach_tripped e .gate p
  obtain hcheck | ⟨src, snk, hmarked⟩ := gateCheck_passing (e := e) hpath
  · rw [hcheck]
    exact tripped_of_tripState (checkFail_tripState 0 hbreach.2.1) hbreach
  · rw [hmarked]
    exact hbreach

/-- Where GATE parks the port, its pairs hold with nothing on its line. -/
theorem gateCheck_settled (hpath : p.fe.path ≠ .none) (hserved : p.pfault.oos = false) (hoos : (p.gateCheck e).pfault.oos = true) :
    (p.gateCheck e).fe.path = .none ∧ (p.gateCheck e).rg.tx = none := by
  have hfault : (p.breach e .gate).pfault.oos = false := by rw [breach_pfault, hserved]
  obtain hcheck | ⟨src, snk, hmarked⟩ := gateCheck_passing (e := e) hpath
  · rw [hcheck]
    exact checkFail_settled 0 hfault
  · rw [hmarked] at hoos
    exact absurd (hfault.symm.trans hoos) (by decide)

end

end Port

namespace State

variable {s : State} {n : PortId}

/-- Where a port's own action may park it, the quarry's turn after it keeps what the park has settled. -/
theorem noteParks_onPort_parked (f : Env → Port → Port)
    (hpark : s.ports[n].pfault.oos = false → (f (s.env n) s.ports[n]).pfault.oos = true →
      (f (s.env n) s.ports[n]).fe.path = .none ∧ (f (s.env n) s.ports[n]).rg.tx = none) :
    (s.noteParks n (s.onPort n f)).ports[n].parked = (f (s.env n) s.ports[n]).parked := by
  have hport : (s.onPort n f).ports[n].parked = (f (s.env n) s.ports[n]).parked :=
    (congrArg Port.parked (s.onPort_spec n f).2 :)
  obtain ⟨-, -, hfe, hfault, hrg⟩ := Port.parked_eq_iff.mp hport
  rw [noteParks_parked, hport]
  rwa [hfe, hfault, hrg]

/-- Where it parks nothing, the quarry has nothing to note. -/
theorem noteParks_onPort_unparked (f : Env → Port → Port) (hpark : (f (s.env n) s.ports[n]).pfault = s.ports[n].pfault) :
    s.noteParks n (s.onPort n f) = s.onPort n f := by
  have hfault := congrArg Port.pfault (s.onPort_spec n f).2
  rw [Port.bare_pfault, Port.bare_pfault, hpark] at hfault
  exact noteParks_unparked (by rw [hfault])

/-- A command of the front end that may park its port acts on it as its operation says, and a park keeps what it has settled. -/
theorem onCheckedFe_parked (h : s.feUp n) (f : Env → Port → Port)
    (hpark : s.ports[n].pfault.oos = false → (f (s.env n) s.ports[n]).pfault.oos = true →
      (f (s.env n) s.ports[n]).fe.path = .none ∧ (f (s.env n) s.ports[n]).rg.tx = none) :
    (s.onCheckedFe n f).ports[n].parked = (f (s.env n) s.ports[n]).parked := by
  rw [onCheckedFe, onFrontEnd_eq_onPort h, noteParks_onPort_parked f hpark]

/-- Where the operation parks nothing the command is one of the front end alone. -/
theorem onCheckedFe_unparked (h : s.feUp n) (f : Env → Port → Port)
    (hpark : (f (s.env n) s.ports[n]).pfault = s.ports[n].pfault) : s.onCheckedFe n f = s.onFrontEnd n f := by
  rw [onCheckedFe, onFrontEnd_eq_onPort h, noteParks_onPort_unparked f hpark]

end State

/-- Settles O7: each comparator is met or not by the terms of the statement, and what it meets is a breach. -/
theorem sluiceBreachesTrip : Obligations.SluiceBreachesTrip := by
  unfold Obligations.SluiceBreachesTrip
  intro s n p hs hfe
  dsimp only
  refine ⟨?short, ?noShort, ?ovp, ?foreign, ?noOvp, ?fast, ?drop, ?fastScale, ?noFast, ?revSource, ?revSink, ?revScale, ?noRev,
    ?slowHolding, ?slow, ?slowCounts, ?gateHolding, ?gate⟩
  case short => exact fun mv h => State.onFrontEnd_completes rfl hfe.frontEnd hs (Port.ccShort_trips (e := s.env n) h)
  case noShort =>
    exact fun mv h => State.onFrontEnd_completes rfl hfe.frontEnd hs (congrArg Port.bare (Port.ccShort_stays h))
  case ovp => exact fun mv h hno => State.onFrontEnd_completes rfl hfe.frontEnd hs (Port.ovp_trips (e := s.env n) h hno)
  case foreign =>
    intro mv h hzero hsource hrises hforeign
    refine State.onFrontEnd_completes rfl hfe.frontEnd hs ?_
    rw [Port.ovp_foreign h hzero hsource hrises]
    obtain ⟨hflag, hpath, hdis, htrip, hlatched, -, -⟩ := Port.flagForeign_spec (e := s.env n) hforeign
    exact ⟨hflag, hpath, hdis, htrip, hlatched⟩
  case noOvp => exact fun mv h => State.onFrontEnd_completes rfl hfe.frontEnd hs (congrArg Port.bare (Port.ovp_stays h))
  case fast =>
    intro x drop h
    rw [← Port.fastAt_eq] at h
    exact State.onFrontEnd_completes rfl hfe.frontEnd hs (Port.ocFast_trips (e := s.env n) (.inl h))
  case drop =>
    intro x drop hres hfull h
    exact State.onFrontEnd_completes rfl hfe.frontEnd hs (Port.ocFast_trips (e := s.env n) (.inr (.inr ⟨hres, hfull, h⟩)))
  case fastScale =>
    intro x drop hconn h
    exact State.onFrontEnd_completes rfl hfe.frontEnd hs
      (Port.ocFast_trips (e := s.env n) (.inr (.inl ⟨p.connected_iff.mpr hconn, h⟩)))
  case noFast =>
    intro x drop hfast hscale hdrop
    rw [← Port.fastAt_eq] at hfast
    rw [← Port.connected_iff] at hscale
    exact State.onFrontEnd_completes rfl hfe.frontEnd hs (congrArg Port.bare (Port.ocFast_stays hfast hscale hdrop))
  case revSource =>
    intro x hpath h
    exact State.onFrontEnd_completes rfl hfe.frontEnd hs (Port.rev_trips (e := s.env n) (.inl ⟨hpath, .inl h⟩))
  case revSink =>
    intro x hpath h
    exact State.onFrontEnd_completes rfl hfe.frontEnd hs (Port.rev_trips (e := s.env n) (.inr ⟨hpath, .inl h⟩))
  case revScale =>
    intro x hconn h
    have hrev : p.Reverse x := h.imp (fun ⟨hpath, hx⟩ => ⟨hpath, .inr ⟨p.connected_iff.mpr hconn, hx⟩⟩)
      fun ⟨hpath, hx⟩ => ⟨hpath, .inr ⟨p.connected_iff.mpr hconn, hx⟩⟩
    exact State.onFrontEnd_completes rfl hfe.frontEnd hs (Port.rev_trips (e := s.env n) hrev)
  case noRev =>
    intro x h
    rw [← Port.connected_iff] at h
    exact State.onFrontEnd_completes rfl hfe.frontEnd hs (congrArg Port.bare (Port.rev_stays (Port.not_reverse h)))
  case slowHolding =>
    exact fun x k hpath => State.onFrontEnd_completes rfl hfe.frontEnd hs (congrArg Port.bare (Port.ocSlow_holding x k hpath))
  case slow =>
    exact fun x k hpath h => State.onFrontEnd_completes rfl hfe.frontEnd hs (Port.ocSlow_trips (e := s.env n) hpath h)
  case slowCounts =>
    exact fun x k hpath h => State.onFrontEnd_completes rfl hfe.frontEnd hs (congrArg Port.bare (Port.ocSlow_counts hpath h))
  case gateHolding =>
    intro hpath
    subst hs
    have hstays := Port.gateCheck_holding (e := s.env n) hpath
    have hexec : exec (.gateI n) s = .next (s.onFrontEnd n fun e p => p.gateCheck e) :=
      congrArg Host.Outcome.next (State.onCheckedFe_unparked hfe _ (by rw [hstays]))
    exact State.onFrontEnd_completes hexec hfe.frontEnd rfl (congrArg Port.bare hstays)
  case gate =>
    intro hpath
    subst hs
    have hparked := State.onCheckedFe_parked hfe (fun e p => p.gateCheck e) (Port.gateCheck_settled hpath)
    exact ⟨_, rfl, Port.tripped_of_tripState (Port.tripState_of_parked hparked) (Port.gateCheck_tripped hpath)⟩

end Sys2Proof.Machine
end

section
/-! The clauses of O24: the rails lost and restored, and SHELF (R145, R383, R385, R387, Table 14.1). -/

namespace Sys2Proof.Machine

namespace Port

/-- The end of a condition takes it from COND, whatever the region does next (R148, R155). -/
theorem condEnd_cond (e : Env) (b : Breach) (p : Port) : (p.condEnd e b).fe.cond = p.fe.cond.filter (· ≠ b) := by
  have hover (q : Port) : q.recoveryOver.fe = q.fe := by
    unfold recoveryOver
    split
    · exact toUnattached_fe q
    · rfl
  unfold condEnd
  dsimp only
  split
  · rw [hover]
  · rfl

/-- Disabled is where every port that is not parked goes (R64). -/
theorem disable_state (c : BitVec 3) {p : Port} (hoos : p.pfault.oos = false) : (p.disable c).tc.state = .disabled := by
  rw [disable, if_neg (Bool.eq_false_iff.mp hoos)]
  by_cases hst : p.tc.state = .disabled
  · rw [toDisabled, if_pos hst]
    exact hst
  · exact (toDisabled_endedWith c hst).2.1

/-! Ports that differ at most in the gauge, and at most in the gauge and its notes. -/

theorem tc_of_bare {p q : Port} (h : p.bare = q.bare) : p.tc = q.tc := (congrArg Port.tc h :)
theorem tc_of_ungauged {p q : Port} (h : p.ungauged = q.ungauged) : p.tc = q.tc := (congrArg Port.tc h :)
theorem fe_of_ungauged {p q : Port} (h : p.ungauged = q.ungauged) : p.fe = q.fe := (congrArg Port.fe h :)
theorem pfault_of_ungauged {p q : Port} (h : p.ungauged = q.ungauged) : p.pfault = q.pfault := (congrArg Port.pfault h :)

end Port

namespace State

variable (s : State)

/-- What lies apart from the flash, the gauge, the links and the two-wire interfaces: nothing that they carry moves it. -/
def apart : Vector Port 192 × Vector PCfg 192 × Vector Polder 4 × Vector Core 16 × Mem 36 × SysBlk × Shed × Fuses :=
  (s.ports, s.pcfg, s.polders, s.cores, s.shared, s.sys, s.sh, s.fz)

variable {s} in
theorem apart_eq_iff {t : State} : t.apart = s.apart ↔ t.ports = s.ports ∧ t.pcfg = s.pcfg ∧ t.polders = s.polders ∧
    t.cores = s.cores ∧ t.shared = s.shared ∧ t.sys = s.sys ∧ t.sh = s.sh ∧ t.fz = s.fz := by
  simp only [apart, Prod.mk.injEq]

theorem foldl_apart {α : Type} {f : State → α → State} (h : ∀ s a, (f s a).apart = s.apart) (l : List α) (s : State) :
    (l.foldl f s).apart = s.apart :=
  List.foldlRecOn (motive := fun t => t.apart = s.apart) l f rfl fun t ht a _ => (h t a).trans ht

@[simp] theorem withLinks_apart (l : Link) : ({ s with lk := l } : State).apart = s.apart := rfl
@[simp] theorem withGauge_apart (k : Gauge) : ({ s with kg := k } : State).apart = s.apart := rfl
@[simp] theorem onFlash_apart (f : Flash → Flash) : (s.onFlash f).apart = s.apart := rfl
@[simp] theorem onLink_apart (i : LinkId) (f : LinkPort → LinkPort) : (s.onLink i f).apart = s.apart := rfl
@[simp] theorem onTree_apart (f : LkTree → LkTree) : (s.onTree f).apart = s.apart := rfl

/-! The commits of the journal (R221). -/

@[simp] theorem onRec_apart (i : Fin 112) (f : GaugeRec → GaugeRec) : (s.onRec i f).apart = s.apart := by
  unfold onRec
  split <;> rfl

@[simp] theorem journalWrite_apart (i : Fin 112) : (s.journalWrite i).apart = s.apart := by simp [journalWrite]

@[simp] theorem commitRec_apart (i : Fin 112) : (s.commitRec i).apart = s.apart := by
  unfold commitRec
  (repeat' split) <;> simp [-journalWrite_cores]

@[simp] theorem commitAll_apart : s.commitAll.apart = s.apart := by
  unfold commitAll
  split
  · exact foldl_apart commitRec_apart _ s
  · rfl

/-! The links go idle (R344, R354). -/

@[simp] theorem pumpTx_apart (m : Nat) (i : LinkId) (bulk : Bool) : (pumpTx m i bulk s).apart = s.apart := by
  induction m generalizing s with
  | zero => rfl
  | succ m ih =>
    rw [pumpTx]
    split
    · rfl
    · split
      · exact ih _
      · rfl

theorem sendOn_apart (i : LinkId) (bulk : Bool) (dest : BitVec 6) (bcast : Bool) (typ : Byte) (bs : List Byte) :
    (s.sendOn i bulk dest bcast typ bs).apart = s.apart := pumpTx_apart _ _ _ _

@[simp] theorem sendTopo_apart : s.sendTopo.apart = s.apart := by
  unfold sendTopo
  split
  · rfl
  · dsimp only
    split
    · exact sendOn_apart _ _ _ _ _ _ _
    · rfl

@[simp] theorem clearRoot_apart : s.clearRoot.apart = s.apart := rfl
@[simp] theorem moveCells_apart (a b : LinkId) : (s.moveCells a b).apart = s.apart := by
  simp only [moveCells, onLink_apart]
@[simp] theorem linkDown_apart (i : LinkId) : (s.linkDown i).apart = s.apart := rfl

@[simp] theorem beaconsAged_apart : s.beaconsAged.apart = s.apart := rfl

@[simp] theorem setRoot_apart (i : LinkId) : (s.setRoot i).apart = s.apart := by
  dsimp only [setRoot]
  (repeat' split) <;> simp [-moveCells_cores]

@[simp] theorem dropDemand_apart (i : LinkId) : (s.dropDemand i).apart = s.apart := by
  unfold dropDemand
  split <;> rfl

@[simp] theorem portDown_apart (i : LinkId) : (s.portDown i).apart = s.apart := by
  dsimp only [portDown]
  (repeat' split) <;> simp [-clearRoot_cores, -beaconsAged_cores]

theorem linksIdle_apart : s.linksIdle.apart = s.apart := foldl_apart (fun s i => portDown_apart s i) _ s

/-! The polder dies lose their power (R387). -/

/-- Polders that take the same change one after the other, each but once. -/
theorem foldl_onPolder (f : Polder → Polder) (l : List PolderId) (hl : l.Nodup) :
    let t := l.foldl (fun s q => s.onPolder q f) s
    { t with polders := s.polders } = s ∧ ∀ q, t.polders[q] = if q ∈ l then f s.polders[q] else s.polders[q] := by
  induction l generalizing s with
  | nil => exact ⟨rfl, fun q => by simp⟩
  | cons a l ih =>
    obtain ⟨hal, hnodup⟩ := List.nodup_cons.mp hl
    obtain ⟨hrest, hpolders⟩ := ih (s.onPolder a f) hnodup
    refine ⟨(congrArg (fun x : State => { x with polders := s.polders }) hrest :), fun q => ?_⟩
    rw [List.foldl_cons, hpolders q]
    by_cases hq : q = a
    · subst hq
      simp [hal]
    · rw [s.onPolder_other hq]
      simp [hq]

/-- Every port takes its turn once. -/
theorem onAllPorts_spec {f : PortId → State → State} (hf : ∀ n s, OnlyPort n s (f n s)) (s : State) :
    OnlyPorts (fun _ => True) s (s.onAllPorts f) ∧
      ∀ n : PortId, ∃ u, u.ports[n].ungauged = s.ports[n].ungauged ∧
        (s.onAllPorts f).ports[n].ungauged = (f n u).ports[n].ungauged := by
  obtain ⟨hothers, hturns⟩ := foldl_onlyPorts hf (List.finRange 192) (List.nodup_finRange 192) s
  have hfold : s.onAllPorts f = (List.finRange 192).foldl (fun s n => f n s) s := by rw [onAllPorts]
  rw [hfold]
  refine ⟨hothers.mono fun _ _ => trivial, fun n => ?_⟩
  obtain ⟨u, -, hself, hturn⟩ := hturns n (List.mem_finRange n)
  exact ⟨u, hself, hturn⟩

/-- A port's part of SHELF: Disabled. -/
def portDisabled (n : PortId) (s : State) : State := s.onPort n fun _ p => p.disable 5#3

/-- Every port is disabled for SHELF (R387). -/
def allDisabled : State := s.onAllPorts portDisabled

theorem portDisabled_state {n : PortId} (hoos : s.ports[n].pfault.oos = false) :
    (s.portDisabled n).ports[n].tc.state = .disabled :=
  (congrArg PTcstate.state (Port.tc_of_bare (s.onPort_spec n fun _ p => p.disable 5#3).2)).trans (Port.disable_state 5#3 hoos)

theorem allDisabled_spec : OnlyPorts (fun _ => True) s s.allDisabled ∧
    ∀ n : PortId, s.ports[n].pfault.oos = false → s.allDisabled.ports[n].tc.state = .disabled := by
  have honly (n : PortId) (s : State) : OnlyPort n s (s.portDisabled n) := (s.onPort_spec n fun _ p => p.disable 5#3).1
  obtain ⟨hothers, hturns⟩ := onAllPorts_spec honly s
  rw [allDisabled]
  refine ⟨hothers, fun n hoos => ?_⟩
  obtain ⟨u, hself, hturn⟩ := hturns n
  have hserved : u.ports[n].pfault.oos = false := (congrArg PFault.oos (Port.pfault_of_ungauged hself)).trans hoos
  exact (congrArg PTcstate.state (Port.tc_of_ungauged hturn)).trans (u.portDisabled_state hserved)

/-- The polder dies unpowered. -/
def diesOff : State := (List.finRange 4).foldl (fun (s : State) q => s.onPolder q fun P => { P with die := false }) s

theorem diesOff_spec : { s.diesOff with polders := s.polders } = s ∧
    ∀ q : PolderId, s.diesOff.polders[q] = { s.polders[q] with die := false } := by
  obtain ⟨hrest, hdies⟩ := s.foldl_onPolder (fun P => { P with die := false }) (List.finRange 4) (List.nodup_finRange 4)
  exact ⟨hrest, fun q => (hdies q).trans (if_pos (List.mem_finRange q))⟩

variable {s}

/-- The device's word takes the mode SHELF. -/
def inShelf (t : State) : State := { t with sys := { t.sys with mode := .shelf } }

/-- What SHELF moves beside the mode: the ports when they are disabled, the polders when their dies go off. -/
theorem shelf_moves {t u v : State} (hu : OnlyPorts (fun _ => True) s u) (hv : v.apart = u.apart)
    (ht : { t with polders := v.polders } = v) :
    t.inShelf.ports = u.ports ∧ t.inShelf.polders = t.polders ∧ v.polders = s.polders ∧
      t.inShelf.sys = { s.sys with mode := .shelf } ∧ t.inShelf.fz = s.fz ∧ t.inShelf.shared = s.shared ∧
      t.inShelf.pcfg = s.pcfg := by
  obtain ⟨hports, hpcfg, hpolders, -, hshared, hsys, -, hfz⟩ := apart_eq_iff.mp hv
  have hsys' : t.sys = s.sys := (congrArg State.sys ht :).trans (hsys.trans hu.sys_eq)
  exact ⟨(congrArg State.ports ht :).trans hports, rfl, hpolders.trans hu.polders_eq,
    congrArg (fun y : SysBlk => { y with mode := .shelf }) hsys',
    (congrArg State.fz ht :).trans (hfz.trans (congrArg State.fz hu.1 :)),
    (congrArg State.shared ht :).trans (hshared.trans (congrArg State.shared hu.1 :)),
    (congrArg State.pcfg ht :).trans (hpcfg.trans hu.pcfg_eq)⟩

/-- SHELF is entered from the phases and stages in which nothing stands against it: the ports disabled (`u`), the due records
written and the links idle (`v`), the dies unpowered (`t`). -/
theorem shelfReq_entered (hup : s.controlUp = true) (hmode : s.sys.mode ≠ .island) (hphase : s.fl.upd.phase < 3#3)
    (hstage : s.sh.stat.stage ≠ 6#3) :
    ∃ u v t : State, s.shelfReq = t.inShelf ∧ OnlyPorts (fun _ => True) s u ∧
      (∀ n : PortId, s.ports[n].pfault.oos = false → u.ports[n].tc.state = .disabled) ∧ v.apart = u.apart ∧
      { t with polders := v.polders } = v ∧ ∀ q : PolderId, t.polders[q] = { v.polders[q] with die := false } := by
  have hregs : ¬ (!s.regsUp) = true := by simp [regsUp, hup, hmode]
  have hfree : ¬ ((3#3 ≤ s.fl.upd.phase ∧ s.fl.upd.phase ≤ 7#3) ∨ s.sh.stat.stage = 6#3) := by
    rintro (⟨hlow, -⟩ | hsix)
    · exact absurd hphase (BitVec.not_lt.mpr hlow)
    · exact hstage hsix
  have hreq : s.shelfReq = s.allDisabled.commitAll.linksIdle.diesOff.inShelf := by
    rw [shelfReq, if_neg hregs, if_neg hfree]
    unfold inShelf allDisabled diesOff portDisabled
    rfl
  have hcomms : s.allDisabled.commitAll.linksIdle.apart = s.allDisabled.apart :=
    (linksIdle_apart _).trans (commitAll_apart _)
  exact ⟨_, _, _, hreq, s.allDisabled_spec.1, s.allDisabled_spec.2, hcomms, diesOff_spec _⟩

theorem shelfReq_refused (hup : s.controlUp = true) (hmode : s.sys.mode ≠ .island)
    (h : (3#3 ≤ s.fl.upd.phase ∧ s.fl.upd.phase ≤ 7#3) ∨ s.sh.stat.stage = 6#3) :
    s.shelfReq = { s with sh := { s.sh with pwr := { s.sh.pwr with refused := true } } } := by
  have hregs : ¬ (!s.regsUp) = true := by simp [regsUp, hup, hmode]
  exact (if_neg hregs).trans (if_pos h)

/-! VDDIO (R383, R385). -/

/-- A flash command that is cut off leaves the controller free. -/
theorem flashCut_run (s : State) : s.flashCut.fl.run = none := by
  unfold flashCut
  split
  case h_1 hrun => exact hrun
  case h_2 x _ =>
    dsimp only [flashStatus, pushSys, onFlash, onSysq, Flash.spoilRange]
    (repeat' split) <;> rfl

theorem flashCut_apart (s : State) : s.flashCut.apart = s.apart := by
  unfold flashCut
  split <;> rfl

theorem twLost_sda (s : State) : s.twLost.tw.sda = [] := by
  unfold twLost twmNotDelivered
  split
  · rfl
  · rw [twmResult_tw]
    rfl

theorem twmResult_apart_fl (c : TwmCmd) (code : BitVec 3) (data : List Byte) (s : State) :
    (s.twmResult c code data).apart = s.apart ∧ (s.twmResult c code data).fl = s.fl := by
  unfold twmResult drainResults
  split <;> exact ⟨rfl, rfl⟩

theorem twLost_apart_fl (s : State) : s.twLost.apart = s.apart ∧ s.twLost.fl = s.fl := by
  unfold twLost twmNotDelivered
  split
  · exact ⟨rfl, rfl⟩
  · exact twmResult_apart_fl _ _ _ _

theorem vddioLost_eq (h : s.sh.vddioOk = true) :
    let t := s.flashCut.twLost
    s.vddioLost = { t with sh := { t.sh with vddioOk := false, sup := { t.sh.sup with vddioLost := true } } } :=
  if_neg (by rw [h]; decide)

/-! VGD (R145, R147). -/

/-- The polder's part of a restored VGD. -/
def vgdMarkedGood (q : PolderId) (s : State) : State :=
  s.onPolder q fun P => { P with stat := { P.stat with vgdLow := false }, vgdPass := true }

/-- A port's part of it: the condition of VGD_LOW ends where it stands. -/
def vgdPortGood (n : PortId) (s : State) : State :=
  if Breach.vgdLow ∈ s.ports[n].fe.cond then s.onFrontEnd n fun e p => p.condEnd e .vgdLow else s

theorem vgdRestored_eq (q : PolderId) (s : State) : s.vgdRestored q = (s.vgdMarkedGood q).onPolderPorts q vgdPortGood := rfl

theorem vgdPortGood_only (n : PortId) (s : State) : OnlyPort n s (s.vgdPortGood n) := by
  unfold vgdPortGood
  split
  · exact s.onFrontEnd_only n _
  · exact onlyPort_refl s n

theorem vgdPortGood_cond {n : PortId} (h : s.feUp n) : Breach.vgdLow ∉ (s.vgdPortGood n).ports[n].fe.cond := by
  unfold vgdPortGood
  split
  case isTrue =>
    have hport : (s.onPort n fun e p => p.condEnd e .vgdLow).ports[n].fe = (s.ports[n].condEnd (s.env n) .vgdLow).fe :=
      (congrArg Port.fe (s.onPort_spec n fun e p => p.condEnd e .vgdLow).2 :)
    rw [onFrontEnd_eq_onPort h, hport, Port.condEnd_cond]
    simp
  case isFalse hno => exact hno

end State

/-- Settles O24: a rail moves its own block and what it feeds, and SHELF disables the ports before the dies lose their power. -/
theorem railsAndShelf : Obligations.RailsAndShelf := by
  unfold Obligations.RailsAndShelf
  intro s
  refine ⟨?lost, ?restored, ?low, ?vgd, ?refused, ?entered⟩
  case lost =>
    intro hok
    obtain ⟨htw, hfl⟩ := s.flashCut.twLost_apart_fl
    obtain ⟨hports, -, hpolders, hcores, hshared, hsys, hsh, hfz⟩ := State.apart_eq_iff.mp (htw.trans s.flashCut_apart)
    refine ⟨_, congrArg Host.Outcome.next (State.vddioLost_eq hok), ?_, s.flashCut.twLost_sda, ?_, hports, hcores, hpolders, hsys,
      hfz, hshared⟩
    · dsimp only
      rw [hsh]
    · exact (congrArg Flash.run hfl).trans s.flashCut_run
  case restored =>
    intro mv hlost hmv
    refine congrArg Host.Outcome.next (if_neg ?_)
    rw [hlost, decide_eq_false (not_lt.mpr hmv)]
    decide
  case low =>
    intro mv hmv
    refine congrArg Host.Outcome.next (if_pos ?_)
    rw [decide_eq_true hmv, Bool.or_true]
  case vgd =>
    intro q hdie hmode
    have hexec : exec (.vgdRestored q) s = .next ((s.vgdMarkedGood q).onPolderPorts q State.vgdPortGood) :=
      congrArg Host.Outcome.next (State.vgdRestored_eq q s)
    obtain ⟨hothers, hturns⟩ := onPolderPorts_spec State.vgdPortGood_only q (s.vgdMarkedGood q)
    have hmarked : (s.vgdMarkedGood q).polders[q].die = true := by
      rw [State.vgdMarkedGood, s.onPolder_self]
      exact hdie
    have hfe : ∀ n, polderOf n = q → (s.vgdMarkedGood q).feUp n := State.feUp_of_polder (s := s) hmarked rfl hmode
    refine ⟨_, hexec, hothers.unmarked, hothers.polders_eq, fun n hn => ?_, fun n hn => ?_⟩
    · obtain ⟨u, hu, -, hturn⟩ := hturns n hn
      have hcond := State.vgdPortGood_cond (hu.feUp (hfe n hn))
      rw [Port.fe_of_ungauged hturn]
      exact hcond
    · by_cases hq : polderOf n = q
      · obtain ⟨u, -, hself, hturn⟩ := hturns n hq
        have hfree : Breach.vgdLow ∉ u.ports[n].fe.cond := by
          have hcond : u.ports[n].fe.cond = s.ports[n].fe.cond := (congrArg (fun p => p.fe.cond) hself :)
          rw [hcond]
          exact hn.resolve_left (not_not.mpr hq)
        have hstays : u.vgdPortGood n = u := if_neg hfree
        rw [hturn, hstays, hself]
        rfl
      · exact hothers.2 n hq
  case refused => exact fun hup hmode h => congrArg Host.Outcome.next (State.shelfReq_refused hup hmode h)
  case entered =>
    intro hup hmode hphase hstage
    obtain ⟨u, v, t, hexec, hu, hstates, hv, ht, hdies⟩ := State.shelfReq_entered hup hmode hphase hstage
    obtain ⟨hports, hpolders, hcommed, hsys, hfz, hshared, hpcfg⟩ := State.shelf_moves hu hv ht
    refine ⟨_, congrArg Host.Outcome.next hexec, hsys, fun q => ?_, fun n hoos => ?_, hfz, hshared, hpcfg⟩
    · rw [hpolders, ← hcommed]
      exact hdies q
    · rw [hports]
      exact hstates n hoos

end Sys2Proof.Machine
end

section
/-! O11: the park of one port can move the front end of another (R60, R257, R261, R266). -/

namespace Sys2Proof.Machine

/-- A source port whose message is on the line while its fast-detach crossing is blanked (R60). -/
def Port.onLine : Port :=
  let p := Port.reset 1
  { p with
    tc := { p.tc with state := .attachedSrc }
    cc := { p.cc with cc1Line := 7#3 }
    fe := { p.fe with fdetBlank := true }
    rg := { p.rg with phase := .onLine, retries := 2, tx := some (ownMsg 0x0003#16 0#16 false) } }

/-- Port 1 on the line in its home region, which a REPEAT wants left with no spare free: port 0 is served by spare 48. -/
def State.repeatDue : State :=
  let p := Port.reset 0
  let s := State.serving { p with place := { p.place with region := 48#6 } }
  let P := s.polders[(0 : PolderId)]
  { s with
    ports := s.ports.set 1 Port.onLine
    polders := s.polders.set 0 { P with
      culv := P.culv.set 0 { PlCulv.reset with region := 48#6 }
      regions := (P.regions.set 1 { FabRegion.init with st := .serving, repeated := true }).set 0
        { FabRegion.init with st := .ready, isolated := true } } }

/-- Whether the crossing of a port is still blanked after a step. -/
def blankedAt (n : PortId) (o : Host.Outcome State Fault Refusal) : Bool :=
  match o with
  | .next t => t.ports[n].fe.fdetBlank
  | _ => true

theorem blankedAt_of_fe {s t : State} {n : PortId} (h : t.ports[n].fe = s.ports[n].fe) :
    blankedAt n (.next t) = blankedAt n (.next s) := congrArg FrontEnd.fdetBlank h

theorem blankedAt_repeatDue : blankedAt 1 (.next State.repeatDue) = true := by decide +kernel

/-- The park of port 0 starts the planned switch of port 1, whose freeze cuts its message off the line and so ends the blanking. -/
theorem blankedAt_parked : blankedAt 1 (exec (.frontEndCheckFail 0 0) State.repeatDue) = false := by decide +kernel

/-- Refutes O11: a spare that a parked port frees may go to a port in service whose region is left for REPEAT; the freeze of that
switch cuts its message off, which latches its blanked fast-detach crossing, so its front end changes though it is not parked. -/
theorem not_sluiceReports : ¬ Obligations.SluiceReports := by
  unfold Obligations.SluiceReports
  intro h
  obtain ⟨-, hcheck⟩ := h State.repeatDue 0 _ rfl
  obtain ⟨t, hexec, -, -, -, -, -, hothers, -⟩ := hcheck 0 ⟨by decide +kernel, by decide⟩ (by decide +kernel)
  obtain ⟨hfe, -, -, -⟩ := hothers 1 (by decide) (by decide +kernel)
  have hends := blankedAt_parked
  rw [hexec, blankedAt_of_fe hfe, blankedAt_repeatDue] at hends
  exact Bool.noConfusion hends

end Sys2Proof.Machine
end

section
/-! The clauses of O10: foreign VBUS, discharge, the VSET loop, sensing and metering (R154, R156, R158, R159, R162, R163, R165,
R166). -/

namespace Sys2Proof.Machine

namespace Port

variable {e : Env} {p : Port}

theorem foreignVbus_flags {mv : Nat} (stuck : Bool) (hmv : 4000 ≤ mv) (hst : p.tc.state = .unattachedSrc) (hpath : p.fe.path = .none)
    (hdis : p.fe.dis = .off) : p.foreignVbus e mv stuck = p.flagForeign e :=
  if_pos (by simp [hmv, hst, hpath, hdis])

/-- A discharge that has not reached vSafe0V is released, and DIS_TIMEOUT is written or owed (R156). -/
theorem dischargeTimeout_spec (hdis : p.fe.dis ≠ .off) (hvb : p.cc.vbSafe0 = false) :
    let q := p.dischargeTimeout e
    q.fe = { p.fe with dis := .off, disOwed := p.fe.disOwed || !e.regionUp } ∧ q.trip = { p.trip with disTimeout := true } ∧
      (e.regionUp = true → q.flagged .slDisTimeout = true) := by
  dsimp only
  rw [dischargeTimeout, if_pos ⟨hdis, by simp [hvb]⟩]
  dsimp only
  cases hup : e.regionUp with
  | true => exact ⟨by simp, by simp, fun _ => flagged_post_self _ _ _⟩
  | false => simp

/-! The VSET loop (R159). -/

theorem vsetLoop_held (hhb : e.hbLost = true) (mv : Nat) : p.vsetLoop e mv = p := if_pos hhb

theorem stepTowards_up {x goal : Nat} (h : x < goal) (step : Nat) : stepTowards x goal step = min goal (x + step) := if_pos h

theorem slopeMv_slew (h : p.rg.coldRamp = false) : p.slopeMv = p.vset.slew.toNat * 25 := if_neg (Bool.eq_false_iff.mp h)

/-- The moving target moves up by at most its slope; the loop leaves the end, the pairs and the contract. -/
theorem vsetLoop_spec (hhb : e.hbLost = false) (hup : p.rg.moving < p.rg.target) (hcold : p.rg.coldRamp = false) (mv : Nat) :
    let q := p.vsetLoop e mv
    q.rg.moving = min p.rg.target (p.rg.moving + p.vset.slew.toNat * 25) ∧ q.rg.target = p.rg.target ∧ q.fe.vb = mv ∧
      q.fe.path = p.fe.path ∧ q.contract = p.contract := by
  dsimp only
  rw [vsetLoop, if_neg (Bool.eq_false_iff.mp hhb), ← slopeMv_slew hcold, ← stepTowards_up hup]
  exact ⟨rfl, rfl, rfl, rfl, rfl⟩

/-! The estimated resistance (R163). -/

theorem ronUpdate_spec (h : p.sluice.senseMode = 1#2) (ntc : Nat) :
    let q := p.ronUpdate ntc
    q.fe.vFast = max p.ilim.fast.toNat p.ilim.slow.toNat * 50 * q.fe.rEst ∧
      q = { p with fe := { p.fe with tFet := q.fe.tFet, rEst := q.fe.rEst, vFast := q.fe.vFast } } := by
  dsimp only
  rw [ronUpdate, if_pos (onRes_of_ron h)]
  exact ⟨rfl, rfl⟩

theorem ronUpdate_shunt (h : p.sluice.senseMode ≠ 1#2) (ntc : Nat) : p.ronUpdate ntc = p :=
  if_neg (Bool.eq_false_iff.mp (onRes_of_shunt h))

/-! The metering tick (R166). -/

/-- A signed field of 16 bits shows what it can hold, and its ends beyond (log entry 10). -/
theorem sat16_toInt (x : Int) : (sat16 x).toInt = max (-32768) (min 32767 x) := by
  rw [sat16, clampInt, BitVec.toInt_ofInt]
  exact Int.bmod_eq_of_le (by omega) (by omega)

/-- The sum of the 50 µs products of a block, less the offset's share in shunt mode; nothing before FULL_ENH (R162, R166). -/
def product (vb : Nat) (vi : Int) (p : Port) : Int :=
  if p.sluice.senseMode ≠ 1#2 then vi - p.fe.offset * (2 * vb : Nat) else if p.sluice.fullEnh then vi else 0

theorem metering_product (vb : Nat) (vi : Int) :
    (if p.onRes && !p.sluice.fullEnh then 0 else if p.onRes then vi else vi - p.fe.offset * (2 * vb : Nat)) = p.product vb vi := by
  by_cases hres : p.sluice.senseMode = 1#2
  · cases hfull : p.sluice.fullEnh <;> simp [product, onRes, hres, hfull]
  · simp [product, onRes, hres]

theorem metering_spec (vb vp : Nat) (x vi : Int) :
    let q := p.metering vb vp x vi
    let ma := p.milliamps (p.sensed x)
    q.fe.accum = p.fe.accum + p.milliamps (p.sensed x * 1000) ∧
      q.fe.energy = p.fe.energy + BitVec.ofInt 64 (p.milliamps (p.product vb vi)) ∧
      q.fe.means = (ma :: p.fe.means).take 1000 ∧ q.ibus.ibus.toInt = max (-32768) (min 32767 ma) := by
  simp only [← toMa_eq, ← sense_eq, ← metering_product, ← sat16_toInt]
  exact ⟨rfl, rfl, rfl, rfl⟩

/-! The shunt offset sample (R162, R260). -/

theorem shuntOffset_taken (v : Int) (h : p.fe.path = .none ∧ p.cc.vbSafe0 = true ∧ p.sluice.senseMode ≠ 1#2) :
    p.shuntOffset v = p.takeOffset v :=
  if_pos ⟨h.1, h.2.1, by simp [onRes_of_shunt h.2.2]⟩

theorem shuntOffset_stays (v : Int) (h : ¬ (p.fe.path = .none ∧ p.cc.vbSafe0 = true ∧ p.sluice.senseMode ≠ 1#2)) :
    p.shuntOffset v = p :=
  if_neg fun ⟨hpath, hvb, hres⟩ => h ⟨hpath, hvb, fun hron => by simp [onRes_of_ron hron] at hres⟩

theorem takeOffset_fails {v : Int} (h : 200000 < v.natAbs) :
    p.takeOffset v = ({ p with fe := { p.fe with offset := v } } : Port).checkFail 2 := if_pos h

theorem takeOffset_small {v : Int} (h : v.natAbs ≤ 200000) : p.takeOffset v = { p with fe := { p.fe with offset := v } } :=
  if_neg (not_lt.mpr h)

/-- A sample above 2 mV fails FE_ISENSE and leaves the port parked (R162, R260). -/
theorem takeOffset_parks {v : Int} (h : 200000 < v.natAbs) :
    (p.takeOffset v).pfault.oos = true ∧ (p.takeOffset v).pfault.fe.getLsbD 2 = true := by
  rw [takeOffset_fails h]
  exact ⟨(checkFail_pfault 2 _).1, checkFail_bit (by decide) _⟩

theorem takeOffset_settled {v : Int} (h : 200000 < v.natAbs) (hserved : p.pfault.oos = false) :
    (p.takeOffset v).fe.path = .none ∧ (p.takeOffset v).rg.tx = none := by
  rw [takeOffset_fails h]
  exact checkFail_settled 2 hserved

end Port

/-- Settles O10: each sample and tick by what its operation moves; a sample above 2 mV parks the port. -/
theorem sluiceSensing : Obligations.SluiceSensing := by
  unfold Obligations.SluiceSensing
  intro s n p hs
  refine ⟨?foreign, ?discharge, ?loopHeld, ?loop, ?ron, ?shunt, ?metering, ?offsetFails, ?offset⟩
  case foreign =>
    intro mv stuck hfe hmv hst hpath hdis hforeign
    refine State.onFrontEnd_completes rfl hfe.frontEnd hs ?_
    rw [Port.foreignVbus_flags stuck hmv hst hpath hdis]
    obtain ⟨hflag, hpath, hdis, htrip, -, hup, hdown⟩ := Port.flagForeign_spec (e := s.env n) hforeign
    exact ⟨hflag, hdis, hpath, htrip, hup, hdown⟩
  case discharge =>
    exact fun hfe hdis hvb => State.onFrontEnd_completes rfl hfe.frontEnd hs (Port.dischargeTimeout_spec (e := s.env n) hdis hvb)
  case loopHeld =>
    exact fun mv hup hhb =>
      State.onRegionOf_completes rfl hup hs (congrArg Port.bare (Port.vsetLoop_held (e := s.env n) hhb mv))
  case loop =>
    exact fun mv hup hhb hmoves hcold =>
      State.onRegionOf_completes rfl hup hs (Port.vsetLoop_spec (e := s.env n) hhb hmoves hcold mv)
  case ron =>
    intro hfe hres
    obtain ⟨hfast, hport⟩ := Port.ronUpdate_spec hres (s.env n).ntc
    exact State.onFrontEnd_completes rfl hfe.frontEnd hs ⟨hfast, congrArg Port.bare hport⟩
  case shunt =>
    exact fun hfe hres =>
      State.onFrontEnd_completes rfl hfe.frontEnd hs (congrArg Port.bare (Port.ronUpdate_shunt hres (s.env n).ntc))
  case metering =>
    intro vb vp x vi hfe
    obtain ⟨haccum, henergy, hmeans, hibus⟩ := Port.metering_spec (p := p) vb vp x vi
    exact State.onFrontEnd_completes rfl hfe.frontEnd hs ⟨haccum, henergy, rfl, rfl, hmeans, hibus, rfl, rfl, rfl, rfl⟩
  case offsetFails =>
    intro v hfe hv hpath hvb hres
    subst hs
    have htaken := Port.shuntOffset_taken v ⟨hpath, hvb, hres⟩
    have hparked := State.onCheckedFe_parked hfe (fun _ p => p.shuntOffset v) fun hserved _ => by
      rw [htaken]
      exact Port.takeOffset_settled hv hserved
    obtain ⟨-, -, -, hfault, -⟩ := Port.parked_eq_iff.mp hparked
    refine ⟨_, rfl, ?_⟩
    dsimp only
    rw [hfault, htaken]
    exact Port.takeOffset_parks hv
  case offset =>
    intro v hfe hv
    subst hs
    have hport : s.ports[n].shuntOffset v =
        if s.ports[n].fe.path = .none ∧ s.ports[n].cc.vbSafe0 = true ∧ s.ports[n].sluice.senseMode ≠ 1#2 then
          { s.ports[n] with fe := { s.ports[n].fe with offset := v } } else s.ports[n] := by
      split
      case isTrue h => rw [Port.shuntOffset_taken v h, Port.takeOffset_small hv]
      case isFalse h => exact Port.shuntOffset_stays v h
    have hunparked : (s.ports[n].shuntOffset v).pfault = s.ports[n].pfault := by
      rw [hport]
      split <;> rfl
    have hexec : exec (.shuntOffsetSample n v) s = .next (s.onFrontEnd n fun _ p => p.shuntOffset v) :=
      congrArg Host.Outcome.next (State.onCheckedFe_unparked hfe _ hunparked)
    refine State.onFrontEnd_completes hexec hfe.frontEnd rfl ?_
    dsimp only
    rw [hport, apply_ite Port.bare]

end Sys2Proof.Machine
end

section
/-! The clauses of O14: SLUICE_CFG (R158, R162, R163, R165, Table 5.5). -/

namespace Sys2Proof.Machine

theorem fld_pay_op (op : BitVec 4) : fld (pay 0 op) 0 4 = op := by
  revert op
  decide

/-- The fourth staging word of a command without a message. -/
theorem Staging.asked_read3 (cmd : BitVec 4) (seq : BitVec 8) (w2 w3 : W36) (g : Staging) :
    (g.asked cmd seq w2 w3).read 3 = w3 := by simp [read, asked]

namespace Port

variable {e : Env} {p : Port}

theorem command_sluiceCfg {seq : BitVec 8} {op : BitVec 4} {words : Nat → W36} {w : W36} {tenNv : Int}
    (h : Asks 0xF#4 seq (pay 0 op) words) (hw : words 3 = w) : p.command e words tenNv = p.sluiceCfg seq op w tenNv := by
  simp [command, h.code, h.seqs, h.clean, h.param, hw, fld_pay_op]

/-- The port whose staging area holds a SLUICE_CFG. -/
def askedSluice (seq : BitVec 8) (op : BitVec 4) (w : W36) (p : Port) : Port := p.withStg (p.stg.asked 0xF#4 seq (pay 0 op) w)

@[simp] theorem askedSluice_fe (seq : BitVec 8) (op : BitVec 4) (w : W36) (p : Port) : (p.askedSluice seq op w).fe = p.fe := rfl
@[simp] theorem askedSluice_cc (seq : BitVec 8) (op : BitVec 4) (w : W36) (p : Port) : (p.askedSluice seq op w).cc = p.cc := rfl
@[simp] theorem askedSluice_pfault (seq : BitVec 8) (op : BitVec 4) (w : W36) (p : Port) :
    (p.askedSluice seq op w).pfault = p.pfault := rfl

/-- TX_GO of SLUICE_CFG does the operation asked for (R165). -/
theorem txGo_sluiceCfg (hpend : p.stg.pending = false) (hup : e.regionUp = true) (seq : BitVec 8) (op : BitVec 4) (w : W36)
    (tenNv : Int) : p.txGo e (cmdWords 0xF#4 seq (pay 0 op) w) tenNv = (p.askedSluice seq op w).sluiceCfg seq op w tenNv := by
  rw [txGo_cmdWords hpend hup]
  exact command_sluiceCfg (Staging.asked_asks _ _ _ _ _) (Staging.asked_read3 _ _ _ _ _)

end Port

namespace State

variable {i : Instr} {s : State} {k : CoreId} {n : PortId} {p : Port} {seq : BitVec 8} {op : BitVec 4} {w : W36} {tenNv : Int}

/-- A SLUICE_CFG of the core that serves a port with nothing pending completes with what the operation does to the port, but for
the staging area. -/
theorem servedBy.sluiceCfg_completes {post : Port → Prop} (h : s.servedBy k n) (hpend : p.stg.pending = false)
    (hup : s.regionUp n = true) (hs : s.ports[n] = p)
    (he : exec i s = .next (s.onStaged k n fun e p => p.txGo e (cmdWords 0xF#4 seq (pay 0 op) w) tenNv))
    (hp : post ((p.askedSluice seq op w).sluiceCfg seq op w tenNv).bare) : PortCompletes i n s post := by
  subst hs
  rw [servedBy.onStaged_eq h hpend] at he
  obtain ⟨honly, hport⟩ := onPort_spec s n fun e p => p.txGo e (cmdWords 0xF#4 seq (pay 0 op) w) tenNv
  refine ⟨_, he, honly, ?_⟩
  rwa [hport, Port.txGo_sluiceCfg hpend (by simpa using hup)]

theorem served_of_regionUp (hup : s.regionUp n = true) : s.ports[n].pfault.oos = false := by
  by_contra hoos
  rw [regionUp, Bool.eq_true_of_not_eq_false hoos] at hup
  simp at hup

end State

namespace Port

variable {p : Port}

/-! The operations (Table 5.5). -/

/-- The values in force after a load: the loaded ones at once while both pairs hold, else those before (R165). -/
theorem calNow_spec (p : Port) : p.calNow.fe = { p.fe with cal := p.calNow.fe.cal } ∧
    p.calNow.fe.cal = if p.fe.path = .none then loadedCal p.calNow.fe else p.fe.cal := by
  unfold calNow
  split
  case isTrue => exact ⟨rfl, rfl⟩
  case isFalse => exact ⟨rfl, rfl⟩

theorem calNow_sluice (p : Port) : p.calNow.sluice = p.sluice := by
  unfold calNow
  split <;> rfl

theorem ppDone_pfault (cmd : BitVec 4) (p : Port) : (p.ppDone cmd).pfault = p.pfault := by
  unfold ppDone
  split <;> simp [gaugeMark]

theorem vcal_spec (w : W36) (p : Port) :
    let q := p.vcal w
    q.flagged .ppDone = true ∧
      q.fe = { p.fe with d5 := if fld w 0 12 = 0#12 then p.fe.d5 else fld w 0 12,
                         d20 := if fld w 12 12 = 0#12 then p.fe.d20 else fld w 12 12, d48 := fld w 24 12, cal := q.fe.cal } ∧
      (q.fe.cal = if p.fe.path = .none then loadedCal q.fe else p.fe.cal) ∧ q.sluice = { p.sluice with vcalOk := true } := by
  dsimp only
  rw [vcal, ppDone_fe, ppDone_sluice, calNow_sluice]
  exact ⟨ppDone_flagged _ _, (calNow_spec _).1, (calNow_spec _).2, rfl⟩

theorem ronCal_spec {w : W36} (h : fld w 0 16 ≠ 0#16) (p : Port) :
    let q := p.ronCal w
    q.flagged .ppDone = true ∧ q.fe = { p.fe with rCal := fld w 0 16, tCal := fld w 16 12, alpha := fld w 28 8 } ∧
      q.sluice = { p.sluice with rcalOk := true } := by
  dsimp only
  rw [ronCal, if_neg h]
  exact ⟨ppDone_flagged _ _, ppDone_fe _ _, ppDone_sluice _ _⟩

theorem ronCal_zero {w : W36} (h : fld w 0 16 = 0#16) (p : Port) :
    (p.ronCal w).flagged .ppDone = true ∧ (p.ronCal w).fe = p.fe ∧ (p.ronCal w).sluice = p.sluice := by
  rw [ronCal, if_pos h]
  exact ⟨ppDone_flagged _ _, ppDone_fe _ _, ppDone_sluice _ _⟩

theorem thetaLoad_spec (w : W36) (p : Port) : (p.thetaLoad w).flagged .ppDone = true ∧
    (p.thetaLoad w).fe = { p.fe with theta := if fld w 0 12 = 0#12 then p.fe.theta else fld w 0 12 } := by
  refine ⟨ppDone_flagged _ _, ?_⟩
  rw [thetaLoad, ppDone_fe]
  split <;> rfl

theorem shuntCal_spec {w : W36} (h : fld w 0 16 ≠ 0#16) (p : Port) :
    let q := p.shuntCal w
    (q.fe.cal = if p.fe.path = .none then loadedCal q.fe else p.fe.cal) ∧
      q.fe = { p.fe with shunt := fld w 0 16, gain := fld w 16 16, cal := q.fe.cal } := by
  dsimp only
  rw [shuntCal, ppDone_fe, if_neg h]
  exact ⟨(calNow_spec _).2, (calNow_spec _).1⟩

theorem shuntCal_zero {w : W36} (h : fld w 0 16 = 0#16) (p : Port) : (p.shuntCal w).fe = p.fe := by
  rw [shuntCal, ppDone_fe, if_pos h]

theorem sluiceCfg_zero (seq : BitVec 8) (w : W36) (v : Int) (p : Port) : p.sluiceCfg seq 6#4 w v = p.zero seq v := by simp [sluiceCfg]

theorem zero_sampled (seq : BitVec 8) (v : Int) (hpath : p.fe.path = .none) (hvb : p.cc.vbSafe0 = true) :
    p.zero seq v = (p.ppDone 15#4).takeOffset v := if_pos ⟨hpath, hvb⟩

/-- A sample of at most 2 mV is taken, reported, and parks nothing. -/
theorem zero_small (seq : BitVec 8) {v : Int} (hv : v.natAbs ≤ 200000) (hpath : p.fe.path = .none) (hvb : p.cc.vbSafe0 = true) :
    (p.zero seq v).fe = { p.fe with offset := v } ∧ (p.zero seq v).flagged .ppDone = true ∧ (p.zero seq v).pfault = p.pfault := by
  rw [zero_sampled seq v hpath hvb, takeOffset_small hv]
  exact ⟨congrArg (fun f : FrontEnd => { f with offset := v }) (ppDone_fe 15#4 p), ppDone_flagged 15#4 p, ppDone_pfault 15#4 p⟩

theorem zero_refused (seq : BitVec 8) (v : Int) (h : p.fe.path ≠ .none ∨ p.cc.vbSafe0 = false) :
    p.zero seq v = p.cmdBad seq 15#4 := by
  refine if_neg ?_
  rintro ⟨hpath, hvb⟩
  rcases h with h | h
  · exact h hpath
  · exact absurd (hvb.symm.trans h) (by decide)

/-- TX_GO of ZERO. -/
def zeroGo (e : Env) (seq : BitVec 8) (v : Int) (p : Port) : Port := p.txGo e (cmdWords 0xF#4 seq (pay 0 6#4) 0#36) v

theorem zeroGo_eq {e : Env} (hpend : p.stg.pending = false) (hup : e.regionUp = true) (seq : BitVec 8) (v : Int) :
    p.zeroGo e seq v = (p.askedSluice seq 6#4 0#36).zero seq v := txGo_sluiceCfg hpend hup seq 6#4 0#36 v

end Port

namespace State

variable {s : State} {k : CoreId} {n : PortId}

theorem servedBy.exec_zero (h : s.servedBy k n) (hpend : s.ports[n].stg.pending = false) (seq : BitVec 8) (v : Int) :
    exec (.zero k n seq v) s = .next (s.noteParks n (s.onPort n fun e p => p.zeroGo e seq v)) :=
  congrArg (fun t => Host.Outcome.next (s.noteParks n t)) (h.onStaged_eq hpend fun e p => p.zeroGo e seq v)

/-- A ZERO that parks nothing is a command like the others of SLUICE_CFG. -/
theorem servedBy.exec_zero_unparked (h : s.servedBy k n) (hpend : s.ports[n].stg.pending = false) (hup : s.regionUp n = true)
    {seq : BitVec 8} {v : Int} (hfault : ((s.ports[n].askedSluice seq 6#4 0#36).zero seq v).pfault = s.ports[n].pfault) :
    exec (.zero k n seq v) s = .next (s.onStaged k n fun e p => p.zeroGo e seq v) := by
  have hunparked := noteParks_onPort_unparked (s := s) (n := n) (fun e p => p.zeroGo e seq v) (by
    rw [Port.zeroGo_eq hpend ((s.env_regionUp n).trans hup), hfault])
  rw [h.exec_zero hpend, hunparked, h.onStaged_eq hpend]

end State

/-- Settles O14: each operation by what it loads; ZERO may park the port, the others end with the region's action. -/
theorem txGoSluiceConfig : Obligations.TxGoSluiceConfig := by
  unfold Obligations.TxGoSluiceConfig
  intro s k n p seq hs hserves hpend hup
  dsimp only
  refine ⟨?vcal, ?ronCal, ?ronZero, ?theta, ?shunt, ?measure, ?zeroFails, ?zero, ?zeroBad⟩
  case vcal =>
    exact fun w => hserves.sluiceCfg_completes hpend hup hs rfl (Port.vcal_spec w (p.askedSluice seq 1#4 w))
  case ronCal =>
    exact fun w h => hserves.sluiceCfg_completes hpend hup hs rfl (Port.ronCal_spec h (p.askedSluice seq 2#4 w))
  case ronZero =>
    exact fun w h => hserves.sluiceCfg_completes hpend hup hs rfl (Port.ronCal_zero h (p.askedSluice seq 2#4 w))
  case theta =>
    exact fun w => hserves.sluiceCfg_completes hpend hup hs rfl (Port.thetaLoad_spec w (p.askedSluice seq 3#4 w))
  case shunt =>
    exact fun w => hserves.sluiceCfg_completes hpend hup hs rfl
      ⟨Port.ppDone_flagged 15#4 _, fun h => Port.shuntCal_zero h (p.askedSluice seq 4#4 w),
        fun h => Port.shuntCal_spec h (p.askedSluice seq 4#4 w)⟩
  case measure =>
    refine hserves.sluiceCfg_completes (op := 5#4) hpend hup hs rfl ⟨rfl, ?_⟩
    exact (Port.timerOn_start _ _ _).trans rfl
  case zeroFails =>
    intro v hv hpath hvb
    subst hs
    have hgo : s.ports[n].zeroGo (s.env n) seq v = ((s.ports[n].askedSluice seq 6#4 0#36).ppDone 15#4).takeOffset v :=
      (Port.zeroGo_eq hpend ((s.env_regionUp n).trans hup) seq v).trans (Port.zero_sampled seq v hpath hvb)
    have hserved : ((s.ports[n].askedSluice seq 6#4 0#36).ppDone 15#4).pfault.oos = false := by
      rw [Port.ppDone_pfault, Port.askedSluice_pfault]
      exact State.served_of_regionUp hup
    have hparked := State.noteParks_onPort_parked (s := s) (n := n) (fun e p => p.zeroGo e seq v) fun _ _ => by
      rw [hgo]
      exact Port.takeOffset_settled hv hserved
    obtain ⟨-, -, -, hfault, -⟩ := Port.parked_eq_iff.mp hparked
    refine ⟨_, hserves.exec_zero hpend seq v, ?_⟩
    dsimp only at hfault ⊢
    rw [hfault, hgo]
    exact Port.takeOffset_parks hv
  case zero =>
    intro v hv hpath hvb
    subst hs
    obtain ⟨hfe, hdone, hfault⟩ := Port.zero_small (p := s.ports[n].askedSluice seq 6#4 0#36) seq hv (by simpa using hpath)
      (by simpa using hvb)
    rw [Port.askedSluice_fe] at hfe
    rw [Port.askedSluice_pfault] at hfault
    refine hserves.sluiceCfg_completes (op := 6#4) (w := 0#36) (tenNv := v) hpend hup rfl
      (hserves.exec_zero_unparked hpend hup hfault) ?_
    rw [Port.sluiceCfg_zero]
    exact ⟨hfe, hdone⟩
  case zeroBad =>
    intro v h
    subst hs
    have hbad := Port.zero_refused (p := s.ports[n].askedSluice seq 6#4 0#36) seq v (by simpa using h)
    obtain ⟨hflag, -, hfe⟩ := Port.cmdBad_spec seq 15#4 (s.ports[n].askedSluice seq 6#4 0#36)
    rw [Port.askedSluice_fe] at hfe
    rw [← hbad] at hflag hfe
    have hfault : ((s.ports[n].askedSluice seq 6#4 0#36).zero seq v).pfault = s.ports[n].pfault := by
      rw [hbad, Port.cmdBad, Port.post_pfault, Port.askedSluice_pfault]
    refine hserves.sluiceCfg_completes (op := 6#4) (w := 0#36) (tenNv := v) hpend hup rfl
      (hserves.exec_zero_unparked hpend hup hfault) ?_
    rw [Port.sluiceCfg_zero]
    exact ⟨hfe, hflag⟩

end Sys2Proof.Machine
end

section
/-! The allocator's passes (R188): what a pass grants is what the rooms lose, and only class-A floors may overdraw them. -/

namespace Sys2Proof.Machine

/-! A share of R188. -/

theorem shareOf_nonneg (a b : Rat) : 0 ≤ shareOf a b := by
  unfold shareOf
  split
  · exact zero_le_one
  · exact le_max_left _ _

theorem shareOf_le_one (a b : Rat) : shareOf a b ≤ 1 := by
  unfold shareOf
  split
  · exact le_rfl
  · exact max_le zero_le_one (min_le_left _ _)

/-- Shared out in full: a part of the whole comes out as itself. -/
theorem mul_shareOf {a b : Rat} (ha : 0 ≤ a) (hab : a ≤ b) : b * shareOf a b = a := by
  unfold shareOf
  split
  case isTrue hb => linarith
  case isFalse hb =>
    have hpos : 0 < b := lt_of_le_of_ne (ha.trans hab) (Ne.symm hb)
    rw [min_eq_right ((div_le_one hpos).mpr hab), max_eq_right (div_nonneg ha hpos.le), mul_div_cancel₀ _ hb]

/-- A share of what is asked never exceeds what there is. -/
theorem mul_shareOf_le {a b : Rat} (ha : 0 ≤ a) (hb : 0 ≤ b) : b * shareOf a b ≤ a := by
  rcases le_total a b with hab | hba
  · exact (mul_shareOf ha hab).le
  · calc b * shareOf a b ≤ b * 1 := mul_le_mul_of_nonneg_left (shareOf_le_one a b) hb
      _ ≤ a := by rwa [mul_one]

/-! One pass, by its parts. -/

section Pass

variable (floors : Bool) (k : Nat) (ds : List (BitVec 6 × List Demand)) (x : AllocAcc) (f : Nat)

/-- What a pass takes up of a report: the floors, or what is wanted beyond them. -/
def passAmt (d : List Demand) : Rat := if floors then (demandOf d f k).1 else (demandOf d f k).2 - (demandOf d f k).1

/-- What the workers need of a feeder in a pass. -/
def passNeed : Rat := (ds.map fun w => passAmt floors k f w.2).sum

/-- What a feeder offers: the class-A floors whatever its room. -/
def passCand : Rat :=
  if floors && decide (k = 1) then passNeed floors k ds f else min (max (x.room.getD f 0) 0) (passNeed floors k ds f)

/-- The part of the offers that the ship's room allows. -/
def passShare : Rat :=
  if floors && decide (k = 1) then 1 else shareOf x.ship (((List.range 32).map (passCand floors k ds x)).sum)

/-- The part of its needs that a feeder's workers get. -/
def passPart : Rat := shareOf (passCand floors k ds x f * passShare floors k ds x) (passNeed floors k ds f)

/-- What a feeder gives in a pass. -/
def passSpent : Rat := passNeed floors k ds f * passPart floors k ds x f

/-- The grants of a pass on a feeder. -/
def passGrants : List (BitVec 6 × Nat × Nat × Rat) :=
  ds.filterMap fun w =>
    if passAmt floors k f w.2 = 0 then none else some (w.1, f, k, passAmt floors k f w.2 * passPart floors k ds x f)

theorem allocClass_eq : allocClass floors k ds x =
    { ship := x.ship - ((List.range 32).map (passSpent floors k ds x)).sum,
      room := (List.range 32).map fun f => x.room.getD f 0 - passSpent floors k ds x f,
      grants := x.grants ++ (List.range 32).flatMap (passGrants floors k ds x) } := rfl

theorem allocClass_ship : (allocClass floors k ds x).ship = x.ship - ((List.range 32).map (passSpent floors k ds x)).sum := rfl

theorem allocClass_grants :
    (allocClass floors k ds x).grants = x.grants ++ (List.range 32).flatMap (passGrants floors k ds x) := rfl

theorem allocClass_room {f : Nat} (hf : f < 32) :
    (allocClass floors k ds x).room.getD f 0 = x.room.getD f 0 - passSpent floors k ds x f := by
  simp [allocClass_eq, hf]

theorem passPart_nonneg : 0 ≤ passPart floors k ds x f := shareOf_nonneg _ _

variable {floors k ds x f}

theorem passSpent_forced (h : (floors && decide (k = 1)) = true) (hneed : 0 ≤ passNeed floors k ds f) :
    passSpent floors k ds x f = passNeed floors k ds f := by
  rw [passSpent, passPart, passCand, passShare, if_pos h, if_pos h, mul_one, mul_shareOf hneed le_rfl]

/-- What is in hand where every report's wants are at least its floors (R187). -/
def WantsCoverFloors (ds : List (BitVec 6 × List Demand)) : Prop := ∀ w ∈ ds, ∀ d ∈ w.2, d.fl ≤ d.want

theorem demandOf_fl_le_want {xs : List Demand} (h : ∀ d ∈ xs, d.fl ≤ d.want) (f k : Nat) :
    (demandOf xs f k).1 ≤ (demandOf xs f k).2 := by
  have hsum : ((xs.filter fun d => d.feeder.toNat = f ∧ d.cls.toNat = k).map (·.fl)).sum ≤
      ((xs.filter fun d => d.feeder.toNat = f ∧ d.cls.toNat = k).map (·.want)).sum :=
    List.sum_le_sum fun d hd => h d (List.mem_of_mem_filter hd)
  exact Nat.cast_le.mpr hsum

theorem passAmt_nonneg {xs : List Demand} (h : ∀ d ∈ xs, d.fl ≤ d.want) (floors : Bool) (k f : Nat) :
    0 ≤ passAmt floors k f xs := by
  unfold passAmt
  split
  · exact Nat.cast_nonneg _
  · exact sub_nonneg.mpr (demandOf_fl_le_want h f k)

variable (hds : WantsCoverFloors ds)
include hds

theorem passNeed_nonneg : 0 ≤ passNeed floors k ds f :=
  List.sum_nonneg (List.forall_mem_map.mpr fun w hw => passAmt_nonneg (hds w hw) floors k f)

theorem passCand_nonneg : 0 ≤ passCand floors k ds x f := by
  unfold passCand
  split
  · exact passNeed_nonneg hds
  · exact le_min (le_max_right _ _) (passNeed_nonneg hds)

omit hds in
theorem passCand_le_need : passCand floors k ds x f ≤ passNeed floors k ds f := by
  unfold passCand
  split
  · exact le_rfl
  · exact min_le_right _ _

omit hds in
theorem passShare_bounds : 0 ≤ passShare floors k ds x ∧ passShare floors k ds x ≤ 1 := by
  unfold passShare
  split
  · exact ⟨zero_le_one, le_rfl⟩
  · exact ⟨shareOf_nonneg _ _, shareOf_le_one _ _⟩

/-- A feeder gives of what it offers the part that the ship's room allows. -/
theorem passSpent_eq : passSpent floors k ds x f = passCand floors k ds x f * passShare floors k ds x := by
  obtain ⟨hs0, hs1⟩ := passShare_bounds (floors := floors) (k := k) (ds := ds) (x := x)
  have hc := passCand_nonneg (floors := floors) (k := k) (x := x) (f := f) hds
  exact mul_shareOf (mul_nonneg hc hs0) ((mul_le_of_le_one_right hc hs1).trans passCand_le_need)

/-- A feeder that is not overdrawn is not by a pass that keeps to its room. -/
theorem allocClass_room_nonneg (h : (floors && decide (k = 1)) = false) (hf : f < 32) (hroom : 0 ≤ x.room.getD f 0) :
    0 ≤ (allocClass floors k ds x).room.getD f 0 := by
  have hcand : passCand floors k ds x f ≤ x.room.getD f 0 := by
    rw [passCand, if_neg (Bool.eq_false_iff.mp h), max_eq_left hroom]
    exact min_le_left _ _
  have hspent : passSpent floors k ds x f ≤ x.room.getD f 0 := by
    rw [passSpent_eq hds]
    exact (mul_le_of_le_one_right (passCand_nonneg hds) passShare_bounds.2).trans hcand
  rw [allocClass_room floors k ds x hf]
  exact sub_nonneg.mpr hspent

/-- Nor is the ship. -/
theorem allocClass_ship_nonneg (h : (floors && decide (k = 1)) = false) (hship : 0 ≤ x.ship) :
    0 ≤ (allocClass floors k ds x).ship := by
  have hcands : 0 ≤ ((List.range 32).map (passCand floors k ds x)).sum :=
    List.sum_nonneg (List.forall_mem_map.mpr fun f _ => passCand_nonneg hds)
  have hspent : ((List.range 32).map (passSpent floors k ds x)).sum =
      ((List.range 32).map (passCand floors k ds x)).sum * shareOf x.ship ((List.range 32).map (passCand floors k ds x)).sum := by
    rw [← List.sum_map_mul_right]
    refine congrArg List.sum (List.map_congr_left fun f _ => ?_)
    rw [passSpent_eq hds, passShare, if_neg (Bool.eq_false_iff.mp h)]
  rw [allocClass_eq]
  dsimp only
  rw [hspent]
  exact sub_nonneg.mpr (mul_shareOf_le hship hcands)

end Pass

/-! The ledger of a run: what has been granted, by the feeders that `S` names. -/

/-- The grants of the feeders that `S` names, in all. -/
def granted (S : Nat → Bool) (gs : List (BitVec 6 × Nat × Nat × Rat)) : Rat :=
  ((gs.filter fun g => S g.2.1).map fun g => g.2.2.2).sum

theorem granted_append (S : Nat → Bool) (gs hs : List (BitVec 6 × Nat × Nat × Rat)) :
    granted S (gs ++ hs) = granted S gs + granted S hs := by
  simp [granted]

theorem granted_flatMap (S : Nat → Bool) (l : List Nat) (g : Nat → List (BitVec 6 × Nat × Nat × Rat)) :
    granted S (l.flatMap g) = (l.map fun f => granted S (g f)).sum := by
  induction l with
  | nil => rfl
  | cons f l ih => rw [List.flatMap_cons, granted_append, ih, List.map_cons, List.sum_cons]

/-- The grants of a pass on a feeder add up to what the feeder gives. -/
theorem granted_passGrants (S : Nat → Bool) (floors : Bool) (k : Nat) (ds : List (BitVec 6 × List Demand)) (x : AllocAcc)
    (f : Nat) : granted S (passGrants floors k ds x f) = if S f then passSpent floors k ds x f else 0 := by
  have hpart (ws : List (BitVec 6 × List Demand)) (p : Rat) :
      granted S (ws.filterMap fun w =>
          if passAmt floors k f w.2 = 0 then none else some (w.1, f, k, passAmt floors k f w.2 * p)) =
        if S f then passNeed floors k ws f * p else 0 := by
    induction ws with
    | nil => simp [granted, passNeed]
    | cons w ws ih =>
      by_cases hw : passAmt floors k f w.2 = 0
      · rw [List.filterMap_cons, if_pos hw]
        dsimp only
        rw [ih, passNeed, passNeed, List.map_cons, List.sum_cons, hw, zero_add]
      · rw [List.filterMap_cons, if_neg hw]
        dsimp only
        rw [← List.singleton_append, granted_append, ih]
        cases hS : S f <;> simp [granted, hS, passNeed, add_mul]
  exact hpart ds _

/-- What a run has granted is what the rooms have lost. -/
structure Ledger (ship : Rat) (room : List Rat) (x : AllocAcc) : Prop where
  ship_eq : ship - x.ship = granted (fun _ => true) x.grants
  room_eq : ∀ f < 32, room.getD f 0 - x.room.getD f 0 = granted (fun e => decide (e = f)) x.grants
  nonneg : ∀ g ∈ x.grants, 0 ≤ g.2.2.2

theorem sum_range_single {n f : Nat} (g : Nat → Rat) (hf : f < n) :
    ((List.range n).map fun e => if e = f then g e else 0).sum = g f := by
  rw [List.sum_map_ite_eq, List.count_eq_one_of_mem List.nodup_range (List.mem_range.mpr hf)]
  simp

theorem Ledger.pass {ship : Rat} {room : List Rat} {x : AllocAcc} {ds : List (BitVec 6 × List Demand)} (h : Ledger ship room x)
    (hds : WantsCoverFloors ds) (floors : Bool) (k : Nat) : Ledger ship room (allocClass floors k ds x) where
  ship_eq := by
    rw [allocClass_grants, granted_append, granted_flatMap, ← h.ship_eq]
    simp only [granted_passGrants, if_true]
    rw [allocClass_ship]
    ring
  room_eq f hf := by
    rw [allocClass_grants, granted_append, granted_flatMap, ← h.room_eq f hf, allocClass_room floors k ds x hf]
    simp only [granted_passGrants, decide_eq_true_eq]
    rw [sum_range_single _ hf]
    ring
  nonneg g hg := by
    rw [allocClass_grants, List.mem_append, List.mem_flatMap] at hg
    rcases hg with hg | ⟨f, -, hg⟩
    · exact h.nonneg g hg
    · obtain ⟨w, hw, hsome⟩ := List.mem_filterMap.mp hg
      obtain ⟨-, hsome⟩ := Option.ite_none_left_eq_some.mp hsome
      obtain rfl := Option.some.inj hsome
      exact mul_nonneg (passAmt_nonneg (hds w hw) floors k f) (passPart_nonneg floors k ds x f)

/-- The passes after that of the class-A floors: they keep to the rooms. -/
def laterPasses : List (Bool × Nat) := [(true, 2), (true, 3), (false, 1), (false, 2), (false, 3)]

theorem laterPasses_unforced {p : Bool × Nat} (h : p ∈ laterPasses) : (p.1 && decide (p.2 = 1)) = false := by
  revert p
  decide

theorem allocate_eq (ship : Rat) (room : List Rat) (ds : List (BitVec 6 × List Demand)) :
    allocate ship room ds = laterPasses.foldl (fun x p => allocClass p.1 p.2 ds x)
      (allocClass true 1 ds { ship := ship, room := room, grants := [] }) := rfl

/-- What every pass after that of the class-A floors keeps holds at the end of a run where it holds after that one. -/
theorem allocate_induction {P : AllocAcc → Prop} {ds : List (BitVec 6 × List Demand)} {ship : Rat} {room : List Rat}
    (hfirst : P (allocClass true 1 ds { ship := ship, room := room, grants := [] }))
    (hstep : ∀ floors k x, (floors && decide (k = 1)) = false → P x → P (allocClass floors k ds x)) :
    P (allocate ship room ds) := by
  rw [allocate_eq]
  exact List.foldlRecOn (motive := P) _ _ hfirst fun x hx p hp => hstep p.1 p.2 x (laterPasses_unforced hp) hx

theorem Ledger.start (ship : Rat) (room : List Rat) : Ledger ship room { ship := ship, room := room, grants := [] } where
  ship_eq := sub_self ship
  room_eq _ _ := sub_self _
  nonneg _ hg := absurd hg List.not_mem_nil

/-- Settles O27: each pass takes from the rooms what it grants, and after the class-A floors no pass takes more than there is. -/
theorem allocatorWithinLimits : Obligations.AllocatorWithinLimits := by
  unfold Obligations.AllocatorWithinLimits
  intro ship room ds hds
  dsimp only
  have hledger : Ledger ship room (allocate ship room ds) :=
    allocate_induction ((Ledger.start ship room).pass hds true 1) fun floors k x _ hx => hx.pass hds floors k
  have hfloors (f : Nat) : passSpent true 1 ds { ship := ship, room := room, grants := [] } f =
      (ds.map fun w => (demandOf w.2 f 1).1).sum := passSpent_forced rfl (passNeed_nonneg hds)
  refine ⟨?ship, ?room, hledger.nonneg, fun hfit => ?shipKept, fun f hf hfit => ?roomKept⟩
  case ship => simpa [granted] using hledger.ship_eq
  case room => exact hledger.room_eq
  case shipKept =>
    refine allocate_induction (P := fun x => 0 ≤ x.ship) ?_ fun floors k x h hx => allocClass_ship_nonneg hds h hx
    rw [allocClass_ship, funext hfloors]
    exact sub_nonneg.mpr hfit
  case roomKept =>
    refine allocate_induction (P := fun x => 0 ≤ x.room.getD f 0) ?_ fun floors k x h hx => allocClass_room_nonneg hds h hf hx
    rw [allocClass_room _ _ _ _ hf, hfloors]
    exact sub_nonneg.mpr hfit

/-- A ship without room grants nothing where no class-A floor is asked for. -/
theorem allocate_zero_total {room : List Rat} {ds : List (BitVec 6 × List Demand)} (hds : WantsCoverFloors ds)
    (hfloors : ∀ w ∈ ds, ∀ f, (demandOf w.2 f 1).1 = 0) (w : BitVec 6) (f k : Nat) :
    (allocate 0 room ds).total w f k = 0 := by
  obtain ⟨hship, -, hnonneg, hfits, -⟩ := allocatorWithinLimits 0 room ds hds
  have hnone : ((List.range 32).map fun f => (ds.map fun w => (demandOf w.2 f 1).1).sum).sum ≤ 0 :=
    (List.sum_eq_zero (List.forall_mem_map.mpr fun f _ =>
      List.sum_eq_zero (List.forall_mem_map.mpr fun w hw => hfloors w hw f))).le
  have hall : ∀ g ∈ (allocate 0 room ds).grants.map (·.2.2.2), 0 ≤ g := List.forall_mem_map.mpr hnonneg
  have hsub := List.Sublist.map (·.2.2.2) (List.filter_sublist (l := (allocate 0 room ds).grants)
    (p := fun g => g.1 = w ∧ g.2.1 = f ∧ g.2.2.1 = k))
  refine le_antisymm ((hsub.sum_le_sum hall).trans ?_) (List.sum_nonneg fun g hg => hall g (hsub.subset hg))
  rw [← hship]
  linarith [hfits hnone]

end Sys2Proof.Machine
end

section
/-! A worker without a lease and without an island budget divides 2.5 W to each attached port (R189, R192). -/

namespace Sys2Proof.Machine

namespace State

/-! An alert and what goes with it leave the ports and the blocks that `apart` lists. -/

theorem alert_apart (code : BitVec 8) (value : Word) (s : State) : (s.alert code value).apart = s.apart := by
  dsimp only [alert]
  split <;> rfl

theorem floorOver_apart (low : Bool) (s : State) : (s.floorOver low).apart = s.apart := by
  unfold floorOver
  split
  · exact alert_apart _ _ _
  · rfl

theorem setIsland_apart (on : Bool) (s : State) : (s.setIsland on).apart = s.apart := by
  unfold setIsland
  split
  · rfl
  · exact alert_apart _ _ _

theorem alert_bg (code : BitVec 8) (value : Word) (s : State) : (s.alert code value).bg = s.bg := by
  dsimp only [alert]
  split <;> rfl

theorem setIsland_island (on : Bool) (s : State) : (s.setIsland on).bg.stat.island = on := by
  unfold setIsland
  split
  case isTrue h => exact h
  case isFalse => rw [alert_bg]

theorem setIsland_islandW (on : Bool) (s : State) : (s.setIsland on).bg.islandW = s.bg.islandW := by
  unfold setIsland
  split
  · rfl
  · rw [alert_bg]

theorem attachedOf_of_apart {s t : State} (h : t.apart = s.apart) (f : Option (BitVec 5)) (cl : SvcClass) :
    t.attachedOf f cl = s.attachedOf f cl := by
  obtain ⟨hports, hpcfg, -⟩ := apart_eq_iff.mp h
  unfold attachedOf State.cls
  rw [hports, hpcfg]

theorem roleRuns_of_apart {s t : State} (h : t.apart = s.apart) (role : BitVec 5) : t.roleRuns role = s.roleRuns role := by
  obtain ⟨-, -, -, hcores, -, -, hsh, -⟩ := apart_eq_iff.mp h
  simp only [roleRuns, holds, inService, hcores, hsh]

/-- From `s` to `t` least shares are divided: attachments and P_CFG stay, and a share of 2.5 W stays so. -/
structure SharesLeast (s t : State) : Prop where
  pcfg : t.pcfg = s.pcfg
  attached : ∀ n : PortId, t.ports[n].attached = s.ports[n].attached
  divided : ∀ n : PortId, s.ports[n].role.divided = 5#16 → t.ports[n].role.divided = 5#16

namespace SharesLeast

variable {s t u : State}

theorem refl (s : State) : SharesLeast s s := ⟨rfl, fun _ => rfl, fun _ h => h⟩

theorem trans (h : SharesLeast s t) (k : SharesLeast t u) : SharesLeast s u :=
  ⟨k.pcfg.trans h.pcfg, fun n => (k.attached n).trans (h.attached n), fun n hn => k.divided n (h.divided n hn)⟩

theorem of_apart (h : t.apart = s.apart) : SharesLeast s t := by
  obtain ⟨hports, hpcfg, -⟩ := apart_eq_iff.mp h
  exact ⟨hpcfg, fun n => by rw [hports], fun n hn => by rwa [hports]⟩

end SharesLeast

theorem postShare_least (p : PortId) (s : State) :
    SharesLeast s (s.postShare p 5) ∧ (s.postShare p 5).ports[p].role.divided = 5#16 := by
  unfold postShare
  dsimp only
  split
  case isTrue heq => exact ⟨.refl s, heq⟩
  case isFalse =>
    refine ⟨⟨rfl, fun n => ?_, fun n hn => ?_⟩, by simp [post, pushSys, setPort]⟩
    · by_cases hnp : p = n
      · subst hnp
        simp [post, pushSys, setPort, Port.attached]
      · have hne : (p : Nat) ≠ n := fun h => hnp (Fin.ext h)
        simp [post, pushSys, setPort, hne]
    · by_cases hnp : p = n
      · subst hnp
        simp [post, pushSys, setPort]
      · have hne : (p : Nat) ≠ n := fun h => hnp (Fin.ext h)
        simpa [post, pushSys, setPort, hne] using hn

/-- Least shares posted one after the other. -/
theorem foldl_postShare_least (ps : List PortId) (s : State) :
    SharesLeast s (ps.foldl (fun t p => t.postShare p 5) s) ∧
      ∀ n ∈ ps, (ps.foldl (fun t p => t.postShare p 5) s).ports[n].role.divided = 5#16 := by
  induction ps generalizing s with
  | nil => exact ⟨.refl s, fun n hn => absurd hn List.not_mem_nil⟩
  | cons p ps ih =>
    obtain ⟨hstep, hshare⟩ := s.postShare_least p
    obtain ⟨hrest, hshares⟩ := ih (s.postShare p 5)
    refine ⟨hstep.trans hrest, fun n hn => ?_⟩
    rcases List.mem_cons.mp hn with rfl | hn
    · exact hrest.divided n hshare
    · exact hshares n hn

theorem floorMw_pos (s : State) (cl : SvcClass) : 0 < s.floorMw cl := by
  unfold floorMw BgFloor.mw
  omega

/-- Nothing divided among ports is 2.5 W for each (R189). -/
theorem divideGroup_zero (cl : SvcClass) {ps : List PortId} (hps : ps ≠ []) (s : State) :
    s.divideGroup 0 cl ps = ps.foldl (fun t p => t.postShare p 5) s := by
  have hlow : (0 : Rat) < (ps.length : Nat) * (s.floorMw cl : Nat) :=
    mul_pos (Nat.cast_pos.mpr (List.length_pos_iff.mpr hps)) (Nat.cast_pos.mpr (s.floorMw_pos cl))
  simp only [divideGroup, if_pos hlow, zero_div]
  rfl

theorem mem_attachedOf {s : State} {n : PortId} {cl : SvcClass} :
    n ∈ s.attachedOf none cl ↔ s.ports[n].attached = true ∧ s.cls n = cl := by
  rw [attachedOf, List.mem_filter]
  simp [List.mem_finRange]

theorem floorMw_le_wantOf (s : State) (n : PortId) : s.floorMw (s.cls n) ≤ s.wantOf n := le_max_left _ _

/-- What the ports of a class want is at least their floors. -/
theorem floors_le_wants (s : State) (cl : SvcClass) :
    (s.attachedOf none cl).length * s.floorMw cl ≤ ((s.attachedOf none cl).map s.wantOf).sum := by
  have hwants := List.card_nsmul_le_sum ((s.attachedOf none cl).map s.wantOf) (s.floorMw cl) <|
    List.forall_mem_map.mpr fun n hn => (mem_attachedOf.mp hn).2 ▸ s.floorMw_le_wantOf n
  rwa [List.length_map, smul_eq_mul] at hwants

/-- An island budget of zero grants nothing where no class-A port is attached (R188, R192). -/
theorem islandGrants_total_zero {s : State} (hzero : s.bg.islandW = 0#16) (hA : s.attachedOf none .a = []) (k : Nat) :
    s.islandGrants.total 0#6 0 k = 0 := by
  have hroom : ((s.bg.islandW.toNat * 10000 : Nat) : Rat) = 0 := by rw [hzero]; rfl
  rw [islandGrants, hroom]
  refine allocate_zero_total (fun w hw d hd => ?covers) (fun w hw f => ?floors) _ _ _
  case covers =>
    rw [List.mem_singleton.mp hw] at hd
    obtain ⟨cl, -, rfl⟩ := List.mem_map.mp hd
    exact s.floors_le_wants cl
  case floors =>
    rw [List.mem_singleton.mp hw]
    refine Nat.cast_eq_zero.mpr (List.sum_eq_zero (List.forall_mem_map.mpr fun d hd => ?_))
    obtain ⟨hd, hk⟩ := List.mem_filter.mp hd
    obtain ⟨cl, -, rfl⟩ := List.mem_map.mp hd
    obtain rfl : cl = .a := by
      cases cl
      · rfl
      · simp [SvcClass.code] at hk
      · simp [SvcClass.code] at hk
    simp [hA]

/-- The island budget's grant to one class is divided (R192). -/
def islandShares (x : AllocAcc) (t : State) (cl : SvcClass) : State :=
  let ports := t.attachedOf none cl
  if ports.isEmpty then t else t.divideGroup (x.total 0#6 0 cl.code.toNat) cl ports

theorem islandShares_least {x : AllocAcc} (hx : ∀ k, x.total 0#6 0 k = 0) (s : State) (cl : SvcClass) :
    SharesLeast s (s.islandShares x cl) ∧ ∀ n : PortId, s.ports[n].attached = true → s.cls n = cl →
      (s.islandShares x cl).ports[n].role.divided = 5#16 := by
  unfold islandShares
  dsimp only
  split
  case isTrue hempty =>
    refine ⟨.refl s, fun n hn hcl => ?_⟩
    have hmem := mem_attachedOf.mpr ⟨hn, hcl⟩
    rw [List.isEmpty_iff.mp hempty] at hmem
    exact absurd hmem List.not_mem_nil
  case isFalse hports =>
    rw [hx, divideGroup_zero cl (fun h => hports (List.isEmpty_iff.mpr h))]
    obtain ⟨hdivides, hshares⟩ := s.foldl_postShare_least (s.attachedOf none cl)
    exact ⟨hdivides, fun n hn hcl => hshares n (mem_attachedOf.mpr ⟨hn, hcl⟩)⟩

theorem foldl_islandShares_least {x : AllocAcc} (hx : ∀ k, x.total 0#6 0 k = 0) (cs : List SvcClass) (s : State) :
    SharesLeast s (cs.foldl (islandShares x) s) ∧ ∀ n : PortId, s.ports[n].attached = true → s.cls n ∈ cs →
      (cs.foldl (islandShares x) s).ports[n].role.divided = 5#16 := by
  induction cs generalizing s with
  | nil => exact ⟨.refl s, fun n _ hcl => absurd hcl List.not_mem_nil⟩
  | cons cl cs ih =>
    obtain ⟨hstep, hshare⟩ := s.islandShares_least hx cl
    obtain ⟨hrest, hshares⟩ := ih (s.islandShares x cl)
    refine ⟨hstep.trans hrest, fun n hn hcl => ?_⟩
    rcases List.mem_cons.mp hcl with hcl | hcl
    · exact hrest.divided n (hshare n hn hcl)
    · refine hshares n ((hstep.attached n).trans hn) ?_
      rwa [State.cls, hstep.pcfg]

/-- Whether the island budget leaves FLOOR_OVER to be set (R188, R190). -/
def islandShort (s : State) : Bool :=
  s.islandGrants.ship < 0 || s.islandGrants.room.any (· < 0) ||
    decide (s.bg.islandW.toNat * 10000 < ((List.finRange 192).filter fun n => s.ports[n].attached).length * 2500)

theorem divide_onIsland {s : State} (hagent : s.agentRuns = true) (hon : s.onIsland = true) :
    s.divide = [SvcClass.a, .b, .c].foldl (islandShares s.islandGrants) (s.floorOver s.islandShort) := by
  have hruns : ¬ (!s.agentRuns) = true := by rw [hagent]; decide
  rw [divide, if_neg hruns, if_pos hon]
  unfold islandShares islandShort
  rfl

/-- Without an island budget every attached port is divided 2.5 W, where none is of class A (R189, R192). -/
theorem divide_noIslandW {s : State} (hagent : s.agentRuns = true) (hisland : s.bg.stat.island = true)
    (hzero : s.bg.islandW = 0#16) (hA : s.attachedOf none .a = []) {n : PortId} (hn : s.ports[n].attached = true) :
    s.divide.ports[n].role.divided = 5#16 := by
  have hon : s.onIsland = true := by rw [onIsland, hisland]; rfl
  have hfloor := SharesLeast.of_apart (s.floorOver_apart s.islandShort)
  rw [divide_onIsland hagent hon]
  refine (foldl_islandShares_least (islandGrants_total_zero hzero hA) _ _).2 n ((hfloor.attached n).trans hn) ?_
  cases (s.floorOver s.islandShort).cls n <;> decide

/-- A worker without an island budget and without a class-A port attached, whose port `n` has more than 2.5 W. -/
structure OverIsland (s : State) (n : PortId) : Prop where
  worker : s.isWorker = true
  role : s.roleRuns 13#5 = true
  islandW : s.bg.islandW = 0#16
  classA : s.attachedOf none .a = []
  attached : s.ports[n].attached = true
  share : s.ports[n].role.divided ≠ 5#16

theorem OverIsland.of_apart {s t : State} {n : PortId} (h : s.OverIsland n) (hapart : t.apart = s.apart) (hbg : t.bg = s.bg)
    (hmgr : t.lk.tree.actingMgr = s.lk.tree.actingMgr) : t.OverIsland n := by
  obtain ⟨hports, -, -, -, -, hsys, -⟩ := apart_eq_iff.mp hapart
  refine ⟨?_, (roleRuns_of_apart hapart _).trans h.role, ?_, (attachedOf_of_apart hapart _ _).trans h.classA, ?_, ?_⟩
  · rw [isWorker, hsys, hmgr]
    exact h.worker
  · rw [hbg, h.islandW]
  · rw [hports, h.attached]
  · rw [hports]
    exact h.share

/-- The budget of a worker whose lease has ended. -/
def leaseEnded (s : State) : State :=
  { s with bg := { s.bg with grants := [], lease := BgLease.reset, stat := { s.bg.stat with leaseValid := false } } }

theorem leaseless_eq {s : State} (h : s.isWorker = true) : s.leaseless = (s.leaseEnded.setIsland true).divide := by
  rw [leaseless, if_pos h]
  rfl

/-- Left without a lease, such a worker divides its island budget at once, and so moves the port (R189, R192). -/
theorem OverIsland.leaseless_moves {s : State} {n : PortId} (h : s.OverIsland n) : s.leaseless.ports ≠ s.ports := by
  have hapart : (s.leaseEnded.setIsland true).apart = s.apart := setIsland_apart true _
  have hagent : (s.leaseEnded.setIsland true).agentRuns = true :=
    (Bool.or_eq_true _ _).mpr (.inl ((roleRuns_of_apart hapart _).trans h.role))
  have hleast : s.leaseless.ports[n].role.divided = 5#16 := by
    rw [leaseless_eq h.worker]
    exact divide_noIslandW hagent (setIsland_island true _) ((setIsland_islandW true _).trans h.islandW)
      ((attachedOf_of_apart hapart _ _).trans h.classA) (((SharesLeast.of_apart hapart).attached n).trans h.attached)
  exact fun hports => h.share (hports ▸ hleast)

end State

/-- A lease in force that expires leaves its worker without one (R191). -/
theorem exec_leaseExpiry {s : State} (hvalid : s.bg.stat.leaseValid = true) (hworker : s.isWorker = true) :
    exec .leaseExpiry s = .next s.leaseless := congrArg Host.Outcome.next (if_pos ⟨hvalid, hworker⟩)

/-! A worker for refutations: its port 0 has more than it keeps without a lease. -/

/-- An attached source of class C whose share is 100 W. -/
def Port.sharing : Port :=
  let p := Port.reset 0
  { p with tc := { p.tc with state := .attachedSrc }, role := { p.role with divided := 200#16 } }

/-- A worker in RUN whose lease is in force, with port 0 so; ISLAND_W is 0. -/
def State.leased : State :=
  let s := State.serving Port.sharing
  { s with sys := { s.sys with stat := { s.sys.stat with role := 2#2 } }
           bg := { s.bg with stat := { s.bg.stat with leaseValid := true } } }

theorem State.leased_overIsland : State.leased.OverIsland 0 := by
  have hport : State.leased.ports[(0 : PortId)] = Port.sharing := State.serving_port _
  refine ⟨rfl, by decide +kernel, rfl, List.filter_eq_nil_iff.mpr fun n _ => ?_, ?_, ?_⟩
  · have hcls : State.leased.cls n = .c := congrArg PCfg.cls (Vector.getElem_replicate n.isLt)
    simp [hcls]
  · rw [hport]
    rfl
  · rw [hport]
    decide

/-- Refutes O26: a worker divides its island budget at once when its lease ends (R189, R192), which moves the share of an attached
port; the clause keeps the ports. -/
theorem not_allocationAndLeases : ¬ Obligations.AllocationAndLeases := by
  unfold Obligations.AllocationAndLeases
  intro h
  have hover := State.leased_overIsland
  obtain ⟨-, -, -, -, -, -, hexpiry⟩ := h State.leased rfl hover.role
  obtain ⟨t, hexec, -, hstays⟩ := hexpiry hover.worker rfl
  have hports : t.ports = State.leased.ports := (congrArg State.ports hstays :)
  obtain rfl := Host.Outcome.next.inj (hexec.symm.trans (exec_leaseExpiry rfl hover.worker))
  exact hover.leaseless_moves hports

end Sys2Proof.Machine
end

section
/-! The refutation of O40: an ADDR that takes a worker's address. -/

namespace Sys2Proof.Machine

namespace State

theorem drainRx_keeps (m : Nat) (i : LinkId) (bulk : Bool) (s : State) :
    (drainRx m i bulk s).apart = s.apart ∧ (drainRx m i bulk s).bg = s.bg ∧ (drainRx m i bulk s).lk.tree = s.lk.tree := by
  induction m generalizing s with
  | zero => exact ⟨rfl, rfl, rfl⟩
  | succ m ih =>
    rw [drainRx]
    split
    · exact ⟨rfl, rfl, rfl⟩
    · split
      · exact ih _
      · exact ⟨rfl, rfl, rfl⟩

/-- A message of a single cell at the head of a receive queue is taken whole (R349). -/
theorem takeMsg_single {s : State} {i : LinkId} {bulk : Bool} {c : Cell} (hc : s.headCell i bulk = some c)
    (hrole : s.roleRuns (if bit c.typ 5 then 12#5 else 13#5) = true) (hfrag : c.frag = 0#7) (hlast : c.last = true) :
    ∃ t, s.takeMsg i bulk c.typ = some (c.src, some c.body, t) ∧ t.apart = s.apart ∧ t.bg = s.bg ∧
      t.lk.tree = s.lk.tree := by
  have hkeeps := drainRx_keeps 16 i bulk (s.onSysq (rxQueue i bulk) Queue.commitHead)
  have htakes : ¬ (decide (c.typ ≠ c.typ) ||
      !(s.roleRuns (if bit c.typ 5 then 12#5 else 13#5) || decide (c.typ = 0x10#8))) = true := by
    simp [hrole]
  unfold takeMsg
  rw [hc]
  dsimp only
  rw [if_neg htakes, if_pos hfrag]
  dsimp only
  rw [if_pos hlast]
  exact ⟨_, rfl, hkeeps⟩

theorem headCell_of_takeMsg {s t : State} {i : LinkId} {bulk : Bool} {typ : Byte} {src : BitVec 6} {m : Option (List Byte)}
    (h : s.takeMsg i bulk typ = some (src, m, t)) : ∃ c, s.headCell i bulk = some c ∧ c.typ = typ := by
  unfold takeMsg at h
  split at h
  case h_1 => exact nomatch h
  case h_2 c hc =>
    refine ⟨c, hc, ?_⟩
    by_contra hne
    simp [hne] at h

/-- A command acts on the whole message that it takes (R349). -/
theorem onMsg_taken {s t : State} {i : LinkId} {bulk : Bool} {typ : Byte} {src : BitVec 6} {bs : List Byte}
    (hup : s.linksUp = true) (hlisted : listedType typ = true) (h : s.takeMsg i bulk typ = some (src, some bs, t))
    (f : BitVec 6 → List Byte → State → State) : s.onMsg i bulk typ f = f src bs t := by
  obtain ⟨c, hc, rfl⟩ := headCell_of_takeMsg h
  have hskip : s.skipUnlisted 64 i bulk = s := by
    rw [skipUnlisted, hc]
    dsimp only
    rw [hlisted]
    rfl
  rw [onMsg, hup, hskip]
  dsimp only
  rw [h]
  rfl

/-- An ADDR with address 0 leaves a worker without an address and without a lease (R351). -/
theorem addrTaken_none {s : State} {bs : List Byte} (hworker : s.isWorker = true)
    (hserial : BitVec.ofNat 64 (numAt 0 8 bs) = s.serial) (haddr : fld (bs.getD 8 0#8) 0 6 = 0#6) :
    s.addrTaken bs = (s.onTree fun t => { t with addrOk := false }).leaseless := by
  obtain ⟨hrole, hmgr⟩ := (Bool.and_eq_true _ _).mp hworker
  rw [addrTaken, if_neg (by simpa [hrole, hserial] using hmgr), if_pos haddr]

end State

/-- The one cell of an ADDR that leaves the device of serial 0 without an address (Table 12.3). -/
def Cell.noAddr : Cell :=
  { bulk := false, dest := 0#6, bcast := true, src := 0#6, typ := 3#8, frag := 0#7, last := true, body := List.replicate 22 0#8 }

/-- A worker on a lease that has received that ADDR on its link port 0. -/
def State.addrDue : State := State.leased.pushSys (State.rxQueue 0 false) (Cell.noAddr.rxGroup 0)

theorem State.addrDue_head : State.addrDue.headCell 0 false = some { Cell.noAddr with dest := 0#6 } := by decide +kernel

theorem State.addrDue_overIsland : State.addrDue.OverIsland 0 := State.leased_overIsland.of_apart rfl rfl rfl

/-- Refutes O40: a worker that loses its address with its lease in force divides its island budget at once (R189, R192, R351),
which moves the share of an attached port; the clause keeps the ports. -/
theorem not_linkMessages : ¬ Obligations.LinkMessages := by
  unfold Obligations.LinkMessages
  intro h
  obtain ⟨-, haddr, -⟩ := h State.addrDue 0 rfl
  have hover := State.addrDue_overIsland
  obtain ⟨t, htake, hapart, hbg, htree⟩ := State.takeMsg_single State.addrDue_head hover.role rfl rfl
  have hovert : t.OverIsland 0 := hover.of_apart hapart hbg (congrArg LkTree.actingMgr htree)
  obtain ⟨hrole, hmgr⟩ := (Bool.and_eq_true _ _).mp hovert.worker
  have hserial : BitVec.ofNat 64 (numAt 0 8 Cell.noAddr.body) = t.serial := by
    obtain ⟨-, -, -, -, -, hsys, -⟩ := State.apart_eq_iff.mp hapart
    rw [State.serial, hsys]
    rfl
  obtain ⟨hnone, -⟩ := haddr _ _ t htake (by simpa using hmgr) hrole hserial
  obtain ⟨u, hexec, -, -, -, -, hports, -⟩ := hnone (by decide)
  have hleaseless : exec (.linkAddr 0) State.addrDue = .next (t.onTree fun x => { x with addrOk := false }).leaseless :=
    congrArg Host.Outcome.next ((State.onMsg_taken rfl rfl htake _).trans
      (State.addrTaken_none hovert.worker hserial (by decide)))
  obtain rfl := Host.Outcome.next.inj (hexec.symm.trans hleaseless)
  exact (State.OverIsland.of_apart (t := t.onTree fun x => { x with addrOk := false }) hovert rfl rfl rfl).leaseless_moves hports

end Sys2Proof.Machine
end

section
/-! The refutation of O22: S6 entered while t_s6 runs. -/

namespace Sys2Proof.Machine

namespace State

theorem supNote_sh (i : Fin 3) (s : State) : (s.supNote i).sh = s.sh := by
  unfold supNote pushSys
  dsimp only
  repeat' split
  all_goals rfl

theorem clearHeld_sh (k : CoreId) (s : State) : (s.clearHeld k).sh = s.sh := by
  unfold clearHeld
  split
  · rfl
  · dsimp only
    split
    · exact (rebind_only _ _).ports.sh_eq
    · rfl

theorem parkCore_sh (k : CoreId) (s : State) : (s.parkCore k).sh = s.sh := clearHeld_sh k s

theorem parkAll_sh (s : State) : s.parkAll.sh = s.sh :=
  List.foldlRecOn (motive := fun t : State => t.sh = s.sh) _ _ rfl fun t ht k _ => by
    split
    · exact (t.parkCore_sh k).trans ht
    · exact ht

theorem noteGuar_apart (s t : State) : (s.noteGuar t).apart = t.apart := by
  dsimp only [noteGuar]
  split
  · exact alert_apart _ _ _
  · rfl

theorem noteGuar_sh (s t : State) : (s.noteGuar t).sh = t.sh := by
  obtain ⟨-, -, -, -, -, -, hsh, -⟩ := apart_eq_iff.mp (s.noteGuar_apart t)
  exact hsh

theorem shedPorts_sh (s : State) : (s.onAllPorts fun n s => s.shedPort n).sh = s.sh :=
  (onAllPorts_spec (fun n s => s.shedPort_only n) s).1.sh_eq

/-- The entry to S6 leaves SH_STAT as the sequencer has set it (R395). -/
theorem enterS6_stat (old : Nat) (s : State) : (s.enterS6 old).sh.stat = s.sh.stat := by
  have hidle : (s.onAllPorts fun n s => s.shedPort n).linksIdle.sh = s.sh := by
    obtain ⟨-, -, -, -, -, -, hsh, -⟩ := apart_eq_iff.mp (linksIdle_apart (s.onAllPorts fun n s => s.shedPort n))
    exact hsh.trans s.shedPorts_sh
  dsimp only [enterS6]
  rw [noteGuar_sh]
  dsimp only
  rw [parkAll_sh]
  dsimp only [onTw]
  rw [hidle]

/-- A level of S6 in RUN leaves SH_STAT with S6, where the time below T6 no longer runs (R390, Table 14.7). -/
theorem supplyS6_stat {s : State} {cause : BitVec 3} (hruns : s.shedRuns = true) (hstage : s.sh.stat.stage ≠ 6#3)
    (hcause : cause = 5#3 ∨ cause = 6#3) :
    (s.supplyS6 cause).sh.stat =
      { s.sh.stat with stage := 6#3, prev := s.sh.stat.stage, cause := cause, s6Timing := false } := by
  have hold : ¬ 6 = s.sh.stat.stage.toNat := fun h => hstage (BitVec.eq_of_toNat_eq h.symm)
  have htaken : ¬ (!s.shedRuns || s.sh.stat.stage = 6#3 ||
      !(cause = 5#3 || cause = 6#3 || (cause = 7#3 && s.sh.berm.vFloor ≠ 0#10))) = true := by
    rcases hcause with rfl | rfl <;> simp [hruns, hstage]
  rw [supplyS6, if_neg htaken, supNote_sh, stageEntered]
  dsimp only
  rw [if_neg, if_pos, enterS6_stat]
  · rfl
  · rfl
  · exact hold

end State

/-- A device in RUN at S0 while FEEDS lies below T6. -/
def State.timingS6 : State :=
  let s := State.serving (Port.reset 0)
  { s with sh := { s.sh with stat := { s.sh.stat with s6Timing := true } } }

/-- Refutes O22: S6_TIMING says that t_s6 runs, which ends with the entry to S6 (Table 14.7), so a level of S6 clears it; the
clause keeps SH_STAT beside STAGE, PREV and CAUSE. -/
theorem not_shedSampleAndS6 : ¬ Obligations.ShedSampleAndS6 := by
  unfold Obligations.ShedSampleAndS6
  intro h
  obtain ⟨-, -, hlevel, -⟩ := h State.timingS6
  obtain ⟨t, hexec, hstat, -⟩ := hlevel 5#3 rfl (by decide) (.inl rfl)
  obtain rfl : State.timingS6.supplyS6 5#3 = t := Host.Outcome.next.inj hexec
  rw [State.supplyS6_stat rfl (by decide) (.inl rfl)] at hstat
  exact Bool.noConfusion (congrArg ShStat.s6Timing hstat)

end Sys2Proof.Machine
end

section
/-! The refutation of O28: a culvert switch whose region is not READY when it completes. -/

namespace Sys2Proof.Machine

namespace State

theorem noted_apart (s t : State) : (s.noted t).apart = t.apart := by
  unfold noted
  refine List.foldlRecOn (motive := fun u : State => u.apart = t.apart) _ _ rfl fun u hu q _ => ?_
  split
  · exact (alert_apart _ _ _).trans hu
  · exact hu

/-- A commanded switch whose region is READY no more joins nothing (R243). -/
theorem switchComplete_notReady {s : State} {q : PolderId} {j : SwitchJob} (hj : s.polders[q].switching = [j])
    (hkind : j.kind = .command) (hst : s.polders[q].regions[j.region].st ≠ .ready) (hprep : s.polders[q].prepared = none) :
    (s.switchComplete q j.pos).polders[q].regions = s.polders[q].regions := by
  have hfind : (s.polders[q].switching.find? fun x => x.pos = j.pos) = some j := by
    rw [hj]
    simp
  have hdropped : s.switchComplete q j.pos = s.switchDropped q j := by
    rw [switchComplete, hfind]
    exact if_pos hst
  have hprepared : (s.onPolder q fun P => { P with
      culv := P.culv.set j.pos { P.culv[j.pos] with switching := false },
      switching := P.switching.filter fun x => x.pos ≠ j.pos }).polders[q].prepared ≠ some (j.pos, j.region) := by
    rw [onPolder_self]
    dsimp only
    rw [hprep]
    simp
  rw [hdropped, switchDropped, hkind]
  dsimp only
  rw [if_neg hprepared]
  simp

end State

/-- The switch of position 0 to spare 48. -/
def SwitchJob.toSpare : SwitchJob := { pos := 0, region := 48, kind := .command, cause := 0#4 }

/-- A device in RUN whose culvert 0 switches to spare 48, which has become EMPTY. -/
def State.joiningEmpty : State :=
  let s := State.serving (Port.reset 0)
  s.onPolder 0 fun P => { P with
    regions := P.regions.set 48 FabRegion.init
    switching := [SwitchJob.toSpare] }

/-- Refutes O28: a front end is never connected to an EMPTY region (R243), so a switch whose region is no longer READY when it
completes joins nothing; the clause of the completion does not ask for READY, and has the region SERVING. -/
theorem not_loadSwitchUnload : ¬ Obligations.LoadSwitchUnload := by
  unfold Obligations.LoadSwitchUnload
  intro h
  obtain ⟨-, -, -, -, -, -, hswitch⟩ := h State.joiningEmpty .host 0 48 0#4 0
  obtain ⟨t, hexec, -, -, hserving, -⟩ := hswitch rfl rfl
  have hjoins : exec (.culvertSwitchComplete 0 0) State.joiningEmpty =
      .next (State.joiningEmpty.noted (State.joiningEmpty.switchComplete 0 SwitchJob.toSpare.pos)) := rfl
  obtain rfl := Host.Outcome.next.inj (hexec.symm.trans hjoins)
  obtain ⟨-, -, hpolders, -⟩ := State.apart_eq_iff.mp
    (State.joiningEmpty.noted_apart (State.joiningEmpty.switchComplete 0 SwitchJob.toSpare.pos))
  rw [hpolders, State.switchComplete_notReady (j := SwitchJob.toSpare) rfl rfl (by decide) rfl] at hserving
  exact absurd hserving (by decide)

end Sys2Proof.Machine
end

section
/-! What the gauge may move for one slot: the slot itself, the learned-data records, and the registers of the port that the slot
serves (R199 to R217). -/

namespace Sys2Proof.Machine

namespace State

/-- A state with the records of the gauge, KG_STAT and KG_JSTAT of the state `s`. -/
def withRecordsOf (s t : State) : State :=
  { t with kg := { t.kg with stat := s.kg.stat, dock := s.kg.dock, packs := s.kg.packs, jstat := s.kg.jstat } }

/-- Two states differ at most in the records of the gauge, in KG_STAT and in KG_JSTAT. -/
structure RecordsOnly (s t : State) : Prop where
  eq : s.withRecordsOf t = s

theorem RecordsOnly.trans {s t u : State} (hst : RecordsOnly s t) (htu : RecordsOnly t u) : RecordsOnly s u :=
  ⟨(congrArg s.withRecordsOf htu.eq :).trans hst.eq⟩

theorem RecordsOnly.slots {s t : State} (h : RecordsOnly s t) : t.kg.slots = s.kg.slots := (congrArg (·.kg.slots) h.eq :)

theorem RecordsOnly.ports {s t : State} (h : RecordsOnly s t) : t.ports = s.ports := (congrArg State.ports h.eq :)

theorem RecordsOnly.apart {s t : State} (h : RecordsOnly s t) : { t with kg := s.kg } = s :=
  (congrArg (fun v : State => { v with kg := s.kg }) h.eq :)

theorem RecordsOnly.heldAtStage {s t : State} (h : RecordsOnly s t) : RecordsOnly s t.heldAtStage := by
  unfold State.heldAtStage
  split
  · exact h.trans ⟨rfl⟩
  · exact h

theorem onGaugeRec_records (i : Fin 48) (f : GaugeRec → GaugeRec) (s : State) : RecordsOnly s (s.onGaugeRec i f) := by
  unfold onGaugeRec
  split <;> exact ⟨rfl⟩

theorem commitDue_records (i : Fin 48) (s : State) : RecordsOnly s (s.commitDue i) := by
  unfold commitDue
  dsimp only
  split
  · exact RecordsOnly.heldAtStage ⟨rfl⟩
  · exact RecordsOnly.heldAtStage ⟨rfl⟩
  · exact ⟨rfl⟩

theorem learnImpedance_records (i : Fin 48) (prev cur : Int × Int) (s : State) :
    RecordsOnly s (s.learnImpedance i prev cur) := by
  unfold learnImpedance
  dsimp only
  split
  · exact ⟨rfl⟩
  · split
    · exact ⟨rfl⟩
    · exact onGaugeRec_records i _ s

/-- The gauge has acted for slot `i` and left `φ` of it: beside the gauge only the port that the slot serves may have moved, and
that not in its notes of the firmware. -/
structure GaugeKeeps {α : Type} (φ : GaugeSlot → α) (i : Fin 48) (s t : State) : Prop where
  apart : { t with kg := s.kg, ports := s.ports } = s
  ports : ∀ m : PortId, s.kg.slots[i].port ≠ some m → t.ports[m] = s.ports[m]
  role : ∀ m : PortId, t.ports[m].role = s.ports[m].role
  others : ∀ j : Fin 48, j ≠ i → t.kg.slots[j] = s.kg.slots[j]
  port : t.kg.slots[i].port = s.kg.slots[i].port
  kept : φ t.kg.slots[i] = φ s.kg.slots[i]

section
variable {α : Type} {φ : GaugeSlot → α} {i : Fin 48} {s t u : State}

theorem GaugeKeeps.refl (φ : GaugeSlot → α) (i : Fin 48) (s : State) : GaugeKeeps φ i s s :=
  ⟨rfl, fun _ _ => rfl, fun _ => rfl, fun _ _ => rfl, rfl, rfl⟩

theorem GaugeKeeps.trans (hst : GaugeKeeps φ i s t) (htu : GaugeKeeps φ i t u) : GaugeKeeps φ i s u where
  apart := (congrArg (fun v : State => { v with kg := s.kg, ports := s.ports }) htu.apart).trans hst.apart
  ports m hm := (htu.ports m (hst.port ▸ hm)).trans (hst.ports m hm)
  role m := (htu.role m).trans (hst.role m)
  others j hj := (htu.others j hj).trans (hst.others j hj)
  port := htu.port.trans hst.port
  kept := htu.kept.trans hst.kept

theorem RecordsOnly.keeps (h : RecordsOnly s t) : GaugeKeeps φ i s t where
  apart := congrArg (fun v : State => { v with ports := s.ports }) h.apart
  ports m _ := by rw [h.ports]
  role m := by rw [h.ports]
  others j _ := by rw [h.slots]
  port := by rw [h.slots]
  kept := by rw [h.slots]

theorem onSlotG_self (i : Fin 48) (f : GaugeSlot → GaugeSlot) (s : State) :
    (s.onSlotG i f).kg.slots[i] = f s.kg.slots[i] := by simp

theorem onSlotG_other {i j : Fin 48} (h : j ≠ i) (f : GaugeSlot → GaugeSlot) (s : State) :
    (s.onSlotG i f).kg.slots[j] = s.kg.slots[j] := by
  simp [Fin.val_ne_iff.mpr h.symm]

/-- A change of the slot that keeps `φ` and the port it serves. -/
theorem onSlotG_keeps (f : GaugeSlot → GaugeSlot) (hport : ∀ x, (f x).port = x.port) (hφ : ∀ x, φ (f x) = φ x) :
    GaugeKeeps φ i s (s.onSlotG i f) where
  apart := rfl
  ports _ _ := rfl
  role _ := rfl
  others _ hj := onSlotG_other hj f s
  port := by rw [onSlotG_self, hport]
  kept := by rw [onSlotG_self, hφ]

theorem onSlotG_onSlotG (i : Fin 48) (f g : GaugeSlot → GaugeSlot) (s : State) :
    (s.onSlotG i f).onSlotG i g = s.onSlotG i fun x => g (f x) := by
  simp [onSlotG]

/-- What is kept of a changed slot is what the change makes of the slot, in a state that is otherwise as before it. -/
theorem GaugeKeeps.slot {f : GaugeSlot → GaugeSlot} (h : GaugeKeeps φ i (s.onSlotG i f) t) :
    φ t.kg.slots[i] = φ (f s.kg.slots[i]) ∧ { t with kg := s.kg, ports := s.ports } = s ∧
      ∀ j : Fin 48, j ≠ i → t.kg.slots[j] = s.kg.slots[j] :=
  ⟨h.kept.trans (by rw [onSlotG_self]), (congrArg (fun v : State => { v with kg := s.kg }) h.apart :),
    fun j hj => (h.others j hj).trans (onSlotG_other hj f s)⟩

/-- A further change of the slot, which makes the same of slots that agree in `φ`. -/
theorem GaugeKeeps.onSlotG {f g : GaugeSlot → GaugeSlot} (h : GaugeKeeps φ i (s.onSlotG i f) t)
    (hport : ∀ x, (g x).port = x.port) (hφ : ∀ x y, φ x = φ y → φ (g x) = φ (g y)) :
    GaugeKeeps φ i (s.onSlotG i fun x => g (f x)) (t.onSlotG i g) where
  apart := congrArg (fun v : State => { v with kg := (s.onSlotG i fun x => g (f x)).kg }) h.apart
  ports m hm := h.ports m (by rwa [onSlotG_self, hport, ← onSlotG_self i f s] at hm)
  role := h.role
  others j hj := by rw [onSlotG_other hj, onSlotG_other hj, h.others j hj, onSlotG_other hj]
  port := by rw [onSlotG_self, onSlotG_self, hport, hport, h.port, onSlotG_self]
  kept := by
    rw [onSlotG_self, onSlotG_self]
    exact hφ _ _ (h.kept.trans (by rw [onSlotG_self]))

/-- A change of the port that the slot serves, which keeps the notes of the firmware. -/
theorem servedPort_keeps {n : PortId} {p : Port} (hport : s.kg.slots[i].port = some n) (hrole : p.role = s.ports[n].role) :
    GaugeKeeps φ i s { s with ports := s.ports.set n p } where
  apart := rfl
  ports m hm := by
    have hne : (n : Nat) ≠ m := fun h => hm (hport.trans (congrArg some (Fin.ext h)))
    simp [hne]
  role m := by
    by_cases h : n = m
    · subst h
      simp [hrole]
    · simp [Fin.val_ne_iff.mpr h]
  others _ _ := rfl
  port := rfl
  kept := rfl

@[simp] theorem showSlot_kg (i : Fin 48) (s : State) : (s.showSlot i).kg = s.kg := by
  unfold showSlot
  dsimp only
  split <;> rfl

theorem showSlot_keeps (φ : GaugeSlot → α) (i : Fin 48) (s : State) : GaugeKeeps φ i s (s.showSlot i) := by
  unfold showSlot
  dsimp only
  split
  · exact .refl φ i s
  next n hport => exact servedPort_keeps hport rfl

end

/-- The gauge tells the serving core of an END through its mailbox alone (R212). -/
theorem postEnd_sysq (i : Fin 48) (s : State) : ∃ q, s.postEnd i = { s with sysq := q } := by
  unfold postEnd
  split
  · exact ⟨_, rfl⟩
  · exact ⟨_, rfl⟩

end State

/-- A slot whose charge is anchored at a state of charge (R209, R212, R213). -/
def GaugeSlot.anchored (soc : Rat) (x : GaugeSlot) : GaugeSlot :=
  { x with anchor := some (soc, x.q), src := 3#2, soc := soc, conflict := false }

/-- A slot but for the SUSPECT that its record is still owed (R214). -/
def GaugeSlot.settled (x : GaugeSlot) : GaugeSlot := { x with suspectDue := false }

/-- What a slot has counted: the last group's index and accumulator, and the charge (R201, R202). -/
def GaugeSlot.counted (x : GaugeSlot) : Option (BitVec 16) × Option (BitVec 36) × Rat := (x.lastIdx, x.lastAcc, x.q)

namespace State

variable (i : Fin 48) (s : State)

/-- An anchor sets the slot's; a conflict that it ends shows in the records, or is owed to them. -/
theorem anchorAt_keeps (soc : Rat) :
    GaugeKeeps GaugeSlot.settled i (s.onSlotG i (GaugeSlot.anchored soc)) (s.anchorAt i soc) := by
  unfold anchorAt
  dsimp only
  split
  · exact .refl _ i _
  · split
    · exact onSlotG_keeps _ (fun _ => rfl) fun _ => rfl
    · exact ((onGaugeRec_records i _ _).trans (commitDue_records i _)).keeps

/-! A group of samples (R200 to R203, R271). -/

theorem cycleCharge_keeps (dq : Rat) : GaugeKeeps GaugeSlot.counted i s (s.cycleCharge i dq) := by
  unfold cycleCharge
  split
  · exact .refl _ i s
  · split
    · exact onSlotG_keeps _ (fun _ => rfl) fun _ => rfl
    · exact (onGaugeRec_records i _ s).keeps

theorem computeSoc_keeps (vb ma : Rat) : GaugeKeeps GaugeSlot.counted i s (s.computeSoc i vb ma) := by
  unfold computeSoc
  dsimp only
  (repeat' split) <;> exact onSlotG_keeps _ (fun _ => rfl) fun _ => rfl

end State
end Sys2Proof.Machine
end

section
/-! The clauses of O35: groups of samples, rest points and the ends of charge and discharge (R200 to R214, R222, R225, R271). -/

namespace Sys2Proof.Machine

/-- A slot that takes a group: its index and accumulator, and the cell charge `dc` since the last one (R201 to R203). -/
def GaugeSlot.take (idx : BitVec 16) (acc : BitVec 36) (dc : Rat) (quiet : Bool) (n : Nat) (x : GaugeSlot) : GaugeSlot :=
  { x with lastIdx := some idx, lastAcc := some acc, q := x.q + dc, quiet := quiet, phase8 := n % 125, endIdx := none }

/-- A rest point as a slot keeps it (R209, R210). -/
def GaugeSlot.rested (soc : Rat) (x : GaugeSlot) : GaugeSlot :=
  { x with rest := true, point := some (soc, x.q), pointClean := true }

/-- A slot at the end of charge; the group it ended with brings no rest point (R212, R222). -/
def GaugeSlot.atFull (x : GaugeSlot) : GaugeSlot := { x with full := 1#2, endIdx := x.lastIdx }

/-- A slot at the end of discharge (R213). -/
def GaugeSlot.atEmpty (x : GaugeSlot) : GaugeSlot := { x with full := 2#2 }

namespace State

variable {s : State} {i : Fin 48}

/-! A group of samples (R200 to R203, R225, R271). -/

/-- The impedance that a group and the one before it teach, `x` being the slot before the group (R215). -/
def groupLearn (i : Fin 48) (idx : BitVec 16) (quiet : Bool) (cur : Int × Int) (x : GaugeSlot) (s : State) : State :=
  match x.last8 with
  | prev :: _ =>
    if !quiet && !x.lastQuiet && (x.lastProc.map (· + 1#16)) = some idx then s.learnImpedance i prev cur else s
  | [] => s

/-- A first anchor in DIRECT, `x` being the slot before the group (R205). -/
def groupFirst (i : Fin 48) (vb ma : Rat) (x : GaugeSlot) (s : State) : State :=
  if x.anchor.isNone ∧ x.state = 2#2 ∧ 0 < s.capOf i then
    s.onSlotG i fun y => { y with anchor := some (s.loadedSoc i vb ma, y.q), src := 2#2, soc := s.loadedSoc i vb ma }
  else s

/-- A group processed whole (R203 to R206, R214, R215). -/
def groupWhole (i : Fin 48) (idx : BitVec 16) (quiet : Bool) (vb : Nat) (ma : Int) (x : GaugeSlot) (s : State) : State :=
  let t := s.groupLearn i idx quiet ((vb : Int), ma) x
  let u := t.onSlotG i fun y => { y with
    last8 := (((vb : Int), ma) :: y.last8).take 8, lastQuiet := quiet, lastProc := some idx,
    rest := y.rest && decide (ma.natAbs < t.kg.curNow.iRest.toNat) }
  ((u.groupFirst i ((vb * 10 : Nat) : Rat) ma x).computeSoc i ((vb * 10 : Nat) : Rat) ma).showSlot i

/-- The cell charge of a group (R201, R202). -/
def groupCharge (s : State) (i : Fin 48) (acc : BitVec 36) (vb : Nat) : Rat :=
  s.cellCharge i ((vb * 10 : Nat) : Rat) (match s.kg.slots[i].lastAcc with
    | some a => ((acc - a).toInt : Rat) / 3600000
    | none => 0)

/-- The groups taken under 8 Hz since the last one processed whole; 0 where every group is (R203). -/
def groupPhase (s : State) (i : Fin 48) (quiet : Bool) : Nat :=
  if decide (3#3 ≤ s.sh.stat.stage) && !quiet then s.kg.slots[i].phase8 + 1 else 0

/-- The state once a group is counted (R201, R202, R216). -/
def groupCounted (i : Fin 48) (idx : BitVec 16) (acc : BitVec 36) (quiet : Bool) (vb : Nat) (s : State) : State :=
  (s.onSlotG i (GaugeSlot.take idx acc (s.groupCharge i acc vb) quiet (s.groupPhase i quiet))).cycleCharge i
    (s.groupCharge i acc vb)

/-- A group that comes after the last one is counted, and then processed whole, or under 8 Hz shown alone. -/
theorem gaugeGroup_fresh {idx : BitVec 16} (acc : BitVec 36) (quiet : Bool) (vb : Nat) (ma : Int)
    (hfresh : ∀ l, s.kg.slots[i].lastIdx = some l → serialAfter idx l = true) :
    s.gaugeGroup i idx acc quiet vb ma =
      if (decide (3#3 ≤ s.sh.stat.stage) && !quiet) = true ∧ s.groupPhase i quiet < 125 then
        (s.groupCounted i idx acc quiet vb).showSlot i
      else (s.groupCounted i idx acc quiet vb).groupWhole i idx quiet vb ma s.kg.slots[i] := by
  have hnew : ¬ (!(s.kg.slots[i].lastIdx.all fun l => serialAfter idx l)) = true := by
    cases hlast : s.kg.slots[i].lastIdx with
    | none => simp
    | some l => simp [hfresh l hlast]
  exact if_neg hnew

/-- A group that was merged already is left out (R222, R271). -/
theorem gaugeGroup_stale {idx l : BitVec 16} {acc : BitVec 36} {quiet : Bool} {vb : Nat} {ma : Int}
    (hlast : s.kg.slots[i].lastIdx = some l) (hstale : serialAfter idx l = false) : s.gaugeGroup i idx acc quiet vb ma = s := by
  refine if_pos ?_
  rw [hlast]
  simp [hstale]

theorem groupLearn_records (idx : BitVec 16) (quiet : Bool) (cur : Int × Int) (x : GaugeSlot) :
    RecordsOnly s (s.groupLearn i idx quiet cur x) := by
  unfold groupLearn
  split
  · split
    · exact learnImpedance_records i _ cur s
    · exact ⟨rfl⟩
  · exact ⟨rfl⟩

theorem groupFirst_keeps (vb ma : Rat) (x : GaugeSlot) : GaugeKeeps GaugeSlot.counted i s (s.groupFirst i vb ma x) := by
  unfold groupFirst
  split
  · exact onSlotG_keeps _ (fun _ => rfl) fun _ => rfl
  · exact .refl _ i s

theorem groupWhole_keeps (idx : BitVec 16) (quiet : Bool) (vb : Nat) (ma : Int) (x : GaugeSlot) :
    GaugeKeeps GaugeSlot.counted i s (s.groupWhole i idx quiet vb ma x) := by
  refine GaugeKeeps.trans ?_ (showSlot_keeps _ i _)
  refine GaugeKeeps.trans ?_ (computeSoc_keeps i _ _ _)
  refine GaugeKeeps.trans ?_ (groupFirst_keeps _ _ x)
  exact (groupLearn_records idx quiet _ x).keeps.trans (onSlotG_keeps _ (fun _ => rfl) fun _ => rfl)

/-- A group that comes after the last one is counted once, whatever else it gives (R201 to R206, R214, R215). -/
theorem gaugeGroup_counts {idx : BitVec 16} (acc : BitVec 36) (quiet : Bool) (vb : Nat) (ma : Int)
    (hfresh : ∀ l, s.kg.slots[i].lastIdx = some l → serialAfter idx l = true) :
    GaugeKeeps GaugeSlot.counted i
      (s.onSlotG i (GaugeSlot.take idx acc (s.groupCharge i acc vb) quiet (s.groupPhase i quiet)))
      (s.gaugeGroup i idx acc quiet vb ma) := by
  rw [gaugeGroup_fresh acc quiet vb ma hfresh]
  split
  · exact (cycleCharge_keeps i _ _).trans (showSlot_keeps _ i _)
  · exact (cycleCharge_keeps i _ _).trans (groupWhole_keeps idx quiet vb ma _)

/-- The parameters written by then come into force, and the head group is committed (R225, R329). -/
def groupTaken (k : Fin 64) (s : State) : State :=
  { s.onSysq k Queue.commitHead with
    kg := { s.kg with curNow := s.kg.cur, timeNow := s.kg.time, learnNow := s.kg.learn } }

/-- Core 13 takes the head group of a sample queue for the slot that serves its position (R271). -/
theorem gaugeProcess_eq {q : PolderId} {upper : Bool} {pos : PosId} {a b c : Entry} {rest : List Entry} (hup : s.gaugeUp = true)
    (hhead : s.sysq[sampleQueue q (if upper then 24 else 0)].head = a :: b :: c :: rest)
    (hpos : fld a.payload 0 6 = BitVec.ofNat 6 pos.val) (hslot : s.slotOf (portAt q pos) = some i) :
    s.gaugeProcess q upper = (s.groupTaken (sampleQueue q (if upper then 24 else 0))).gaugeGroup i (fld a.payload 6 16) b.payload
      (bit a.payload 22) (fld c.payload 0 13).toNat (fld c.payload 13 17).toInt := by
  have hval : (fld a.payload 0 6).toNat = pos.val :=
    (congrArg BitVec.toNat hpos).trans (Nat.mod_eq_of_lt (pos.isLt.trans (by decide)))
  have hlt : (fld a.payload 0 6).toNat < 48 := hval.trans_lt pos.isLt
  have hport : (⟨(fld a.payload 0 6).toNat, hlt⟩ : PosId) = pos := Fin.ext hval
  have hserved : (s.groupTaken (sampleQueue q (if upper then 24 else 0))).slotOf
      (portAt q ⟨(fld a.payload 0 6).toNat, hlt⟩) = some i := hport ▸ hslot
  unfold gaugeProcess
  simp only [hup, hhead]
  refine (dif_pos hlt).trans ?_
  split
  next j hj =>
    obtain rfl : i = j := Option.some.inj (hserved.symm.trans hj)
    rfl
  next hnone => exact absurd (hserved.symm.trans hnone) (Option.some_ne_none i)

/-! A rest point (R209, R210, R214, R222). -/

/-- What two rest points of an attach teach of the capacity, `x` being the slot before the newer one (R210). -/
def restLearn (i : Fin 48) (soc : Rat) (broken : Bool) (x : GaugeSlot) (s : State) : State :=
  match x.point with
  | none => s
  | some (soc0, q0) =>
    let d := if soc0 ≤ soc then soc - soc0 else soc0 - soc
    let dq := if q0 ≤ x.q then x.q - q0 else q0 - x.q
    if d < (s.kg.learnNow.span.toNat : Rat) / 100 ∨ d = 0 then s
    else
      let q := dq / d
      let design := s.designCap i
      if x.pointClean ∧ !broken ∧ design / 2 ≤ q ∧ q ≤ design * 3 / 2 then
        (s.onGaugeRec i fun r =>
          let cap : Rat := if !r.learned ∨ r.suspect ∨ r.stale then q else (3 * (r.cap.toNat : Rat) + q) / 4
          { r with cap := mah16 cap, learned := true, suspect := false, stale := false,
                   spanTime := BitVec.ofNat 32 (s.lk.clock.toNat / 200000000) }).commitDue i
      else { s with kg := { s.kg with stat := { s.kg.stat with spanRej := true } } }

/-- The breach mark of a port is cleared for the next span (R210). -/
def markCleared (port : Option PortId) (s : State) : State :=
  match port with
  | some p => { s with ports := s.ports.set p { s.ports[p] with fe := { s.ports[p].fe with breachMark := false } } }
  | none => s

/-- The state of charge that the last groups of a slot give together (R206, R209). -/
def restSoc (s : State) (i : Fin 48) : Rat :=
  let l := s.kg.slots[i].last8
  s.loadedSoc i ((((l.map (·.1)).sum * 10 : Int) : Rat) / (l.length : Rat)) (((l.map (·.2)).sum : Rat) / (l.length : Rat))

theorem restSoc_eq {g : Int × Int} {gs : List (Int × Int)} (h : s.kg.slots[i].last8 = g :: gs) :
    s.restSoc i = s.loadedSoc i
      ((((g.1 + (gs.map (·.1)).sum) * 10 : Int) : Rat) / ((gs.length + 1 : Nat) : Rat))
      (((g.2 + (gs.map (·.2)).sum : Int) : Rat) / ((gs.length + 1 : Nat) : Rat)) := by
  have hcast : (gs.map fun x => (x.2 : Rat)).sum = ((gs.map (·.2)).sum : Int) := by
    rw [Int.cast_list_sum, List.map_map]
    rfl
  simp only [restSoc, h, List.map_cons, List.sum_cons, List.length_cons, hcast, Int.cast_add]

/-- Whether a breach has occurred on the port of a slot since its last rest point (R210). -/
def restBroken (s : State) (i : Fin 48) : Bool :=
  match s.kg.slots[i].port with | some p => s.ports[p].fe.breachMark | none => false

/-- A slot that has rested in DIRECT takes an anchor and a rest point. -/
theorem restPoint_eq {g : Int × Int} {gs : List (Int × Int)} (hstate : s.kg.slots[i].state = 2#2)
    (hrest : s.kg.timeNow.tRest ≠ 0#8) (hlast : s.kg.slots[i].last8 = g :: gs) (hstill : g.2.natAbs < s.kg.curNow.iRest.toNat)
    (hend : s.kg.slots[i].endIdx = none ∨ s.kg.slots[i].endIdx ≠ s.kg.slots[i].lastIdx) :
    s.restPoint i = (((((s.anchorAt i (s.restSoc i)).restLearn i (s.restSoc i) (s.restBroken i) s.kg.slots[i]).markCleared
      s.kg.slots[i].port).onSlotG i (GaugeSlot.rested (s.restSoc i))).showSlot i) := by
  have hnot : ¬ (s.kg.slots[i].state ≠ 2#2 ∨ s.kg.timeNow.tRest = 0#8 ∨
      (!(match s.kg.slots[i].last8 with | (_, ma) :: _ => decide (ma.natAbs < s.kg.curNow.iRest.toNat) | [] => false)) = true ∨
      (s.kg.slots[i].endIdx.isSome ∧ s.kg.slots[i].endIdx = s.kg.slots[i].lastIdx)) := by
    rw [hlast]
    rintro (h | h | h | ⟨hsome, heq⟩)
    · exact h hstate
    · exact hrest h
    · simp [hstill] at h
    · rcases hend with h | h
      · rw [h] at hsome
        exact Bool.noConfusion hsome
      · exact h heq
  exact if_neg hnot

theorem restLearn_records (soc : Rat) (broken : Bool) (x : GaugeSlot) : RecordsOnly s (s.restLearn i soc broken x) := by
  unfold restLearn
  split
  · exact ⟨rfl⟩
  · extract_lets d dq
    split
    · exact ⟨rfl⟩
    · split
      · exact (onGaugeRec_records i _ s).trans (commitDue_records i _)
      · exact ⟨rfl⟩

theorem markCleared_keeps {α : Type} (φ : GaugeSlot → α) {port : Option PortId} (h : s.kg.slots[i].port = port) :
    GaugeKeeps φ i s (s.markCleared port) := by
  subst h
  unfold markCleared
  split
  next n hport => exact servedPort_keeps hport rfl
  · exact .refl φ i s

/-- Up to the rest point itself the gauge anchors the slot, and may learn a capacity and clear the breach mark. -/
theorem restAnchored_keeps (soc : Rat) (broken : Bool) (x : GaugeSlot) : GaugeKeeps GaugeSlot.settled i
    (s.onSlotG i (GaugeSlot.anchored soc))
    (((s.anchorAt i soc).restLearn i soc broken x).markCleared s.kg.slots[i].port) := by
  have hlearnt := (anchorAt_keeps i s soc).trans (restLearn_records (i := i) soc broken x).keeps
  exact hlearnt.trans (markCleared_keeps _ (hlearnt.port.trans (by rw [onSlotG_self]; rfl)))

/-- A rest point leaves an anchored slot with its rest point noted. -/
theorem restPoint_keeps {g : Int × Int} {gs : List (Int × Int)} (hstate : s.kg.slots[i].state = 2#2)
    (hrest : s.kg.timeNow.tRest ≠ 0#8) (hlast : s.kg.slots[i].last8 = g :: gs) (hstill : g.2.natAbs < s.kg.curNow.iRest.toNat)
    (hend : s.kg.slots[i].endIdx = none ∨ s.kg.slots[i].endIdx ≠ s.kg.slots[i].lastIdx) :
    GaugeKeeps GaugeSlot.settled i (s.onSlotG i fun x => (x.anchored (s.restSoc i)).rested (s.restSoc i)) (s.restPoint i) := by
  rw [restPoint_eq hstate hrest hlast hstill hend]
  have hnoted := (restAnchored_keeps (s := s) (i := i) (s.restSoc i) (s.restBroken i) s.kg.slots[i]).onSlotG
    (g := GaugeSlot.rested (s.restSoc i)) (fun _ => rfl) fun _ _ h => (congrArg (GaugeSlot.rested (s.restSoc i)) h :)
  exact hnoted.trans (showSlot_keeps _ i _)

/-! The ends of charge and discharge (R212, R213, R394). -/

theorem cycleAtEnd_records : RecordsOnly s (s.cycleAtEnd i) := by
  rw [cycleAtEnd]
  exact onGaugeRec_records i _ s

/-- A port that does not feed the lifeline supply is not dropped (R394). -/
theorem packDrop_idle {n : PortId} (h : s.ports[n].role.feed ≠ 2) : s.packDrop n = s := if_neg fun hdrop => h hdrop.1

/-- An anchor in a slot that has just changed, with the records that follow from it and what is shown of it. -/
theorem anchorShown_keeps (f : GaugeSlot → GaugeSlot) (soc : Rat) {t : State}
    (h : RecordsOnly ((s.onSlotG i f).anchorAt i soc) t) :
    GaugeKeeps GaugeSlot.settled i (s.onSlotG i fun x => (f x).anchored soc) (t.showSlot i) := by
  have hanchor := anchorAt_keeps i (s.onSlotG i f) soc
  rw [onSlotG_onSlotG] at hanchor
  exact (hanchor.trans h.keeps).trans (showSlot_keeps _ i _)

/-- The end of charge anchors the slot with END FULL, and tells the serving core. -/
theorem endOfCharge_keeps {vb ma : Int} {gs : List (Int × Int)} (hup : s.gaugeUp = true) (hstate : s.kg.slots[i].state = 2#2)
    (hfull : s.kg.slots[i].full ≠ 1#2) (hlast : s.kg.slots[i].last8 = (vb, ma) :: gs)
    (hnear : ((s.packLimits i).vFull : Int) * 99 ≤ vb * 1000) (htaper : s.inTaper i ma = true) :
    ∃ t, GaugeKeeps GaugeSlot.settled i (s.onSlotG i fun x => x.atFull.anchored 1) t ∧ s.endOfCharge i = t.postEnd i := by
  have hrecords := (cycleAtEnd_records (s := (s.onSlotG i GaugeSlot.atFull).anchorAt i 1) (i := i)).trans
    (commitDue_records i _)
  refine ⟨_, anchorShown_keeps GaugeSlot.atFull 1 hrecords, ?_⟩
  unfold endOfCharge
  simp only [hlast, hup, hstate, hfull, hnear, htaper, decide_true, Bool.and_self, ne_eq, not_false_eq_true, if_true]
  rfl

/-- The end of discharge anchors the slot with END EMPTY, and tells the serving core; a pack that does not feed the lifeline
supply stays. -/
theorem endOfDischarge_keeps {vb ma : Int} {gs : List (Int × Int)} {n : PortId} (hup : s.gaugeUp = true)
    (hstate : s.kg.slots[i].state = 3#2) (hfull : s.kg.slots[i].full ≠ 2#2) (hlast : s.kg.slots[i].last8 = (vb, ma) :: gs)
    (hlow : vb * 10 ≤ ((s.vFold : Nat) : Int)) (htaper : s.inTaper i (ma.natAbs : Int) = true)
    (hport : s.kg.slots[i].port = some n) (hfeed : s.ports[n].role.feed ≠ 2) :
    ∃ t, GaugeKeeps GaugeSlot.settled i (s.onSlotG i fun x => x.atEmpty.anchored 0) t ∧ s.endOfDischarge i = t.postEnd i := by
  have hkeeps := anchorShown_keeps GaugeSlot.atEmpty 0 (t := (s.onSlotG i GaugeSlot.atEmpty).anchorAt i 0) ⟨rfl⟩
  refine ⟨_, hkeeps, ?_⟩
  have hended : s.endOfDischarge i = ((((s.onSlotG i GaugeSlot.atEmpty).anchorAt i 0).showSlot i).postEnd i).packDrop n := by
    unfold endOfDischarge
    simp only [hlast, hup, hstate, hfull, hlow, htaper, hport, decide_true, Bool.and_self, ne_eq, not_false_eq_true, if_true]
    rfl
  obtain ⟨queues, hpost⟩ := postEnd_sysq i (((s.onSlotG i GaugeSlot.atEmpty).anchorAt i 0).showSlot i)
  rw [hended, packDrop_idle]
  rw [hpost]
  exact fun h => hfeed ((congrArg RoleState.feed (hkeeps.role n)).symm.trans h)

/-- What an END and its anchor leave, once the serving core is told. -/
theorem anchored_completes {instr : Instr} {f : GaugeSlot → GaugeSlot} {soc : Rat} {t : State}
    (hkeeps : GaugeKeeps GaugeSlot.settled i (s.onSlotG i fun x => (f x).anchored soc) t)
    (hexec : exec instr s = .next (t.postEnd i)) : Completes instr s fun t =>
      t.kg.slots[i].full = (f s.kg.slots[i]).full ∧ t.kg.slots[i].anchor = some (soc, (f s.kg.slots[i]).q) ∧
        t.kg.slots[i].conflict = false ∧ { t with kg := s.kg, ports := s.ports, sysq := s.sysq } = s := by
  obtain ⟨hslot, hrest, -⟩ := hkeeps.slot
  obtain ⟨queues, hpost⟩ := postEnd_sysq i t
  exact ⟨_, hexec.trans (congrArg Host.Outcome.next hpost), (congrArg GaugeSlot.full hslot :),
    (congrArg GaugeSlot.anchor hslot :), (congrArg GaugeSlot.conflict hslot :),
    (congrArg (fun v : State => { v with sysq := s.sysq }) hrest :)⟩

end State

/-- The count of a slot that takes a group. -/
theorem GaugeSlot.counted_eq {x y : GaugeSlot} (h : x.counted = y.counted) :
    x.lastIdx = y.lastIdx ∧ x.lastAcc = y.lastAcc ∧ x.q = y.q := by
  simpa only [counted, Prod.mk.injEq] using h

/-- A group of three entries fits a queue that holds 61 at most (R328). -/
theorem Queue.fits_three (x : Queue) : x.fits 3 = true ↔ x.entries.length ≤ 61 := by
  rw [Queue.fits, decide_eq_true_iff]
  omega

/-- Settles O35: a sample fits its queue or not, a group comes after the last one or not, and an anchor keeps what the gauge then
shows, learns and tells of it. -/
theorem gaugeSamplesAndAnchors : Obligations.GaugeSamplesAndAnchors := by
  unfold Obligations.GaugeSamplesAndAnchors
  intro s
  refine ⟨?sample, fun hup => ⟨?group, ?rest, ?charge, ?topup, ?discharge⟩⟩
  case sample =>
    intro n quiet i q pos k p idx s' hcontrol hisland hdie hslot
    have hruns : ¬ (!s.regsUp || !s.polders[q].die || (s.slotOf n).isNone) = true := by
      rw [State.regsUp, hcontrol, hdie, hslot]
      simp [hisland]
    refine ⟨fun hroom => ?_, fun hfull => ?_⟩
    · exact congrArg Host.Outcome.next ((if_neg hruns).trans (if_pos (s.sysq[k].fits_three.mpr hroom)))
    · exact congrArg Host.Outcome.next ((if_neg hruns).trans
        (if_neg fun hfits => Nat.not_le_of_lt hfull (s.sysq[k].fits_three.mp hfits)))
  case group =>
    intro q upper pos i a b c rest k idx u hhead hpos hslot
    have hexec : exec (.gaugeGroupProcess q upper) s = .next (u.gaugeGroup i idx b.payload (bit a.payload 22)
        (fld c.payload 0 13).toNat (fld c.payload 13 17).toInt) :=
      congrArg Host.Outcome.next (State.gaugeProcess_eq hup hhead hpos hslot)
    refine ⟨fun l hlast hstale => ?_, fun acc hfresh hacc => ?_⟩
    · exact hexec.trans (congrArg Host.Outcome.next (State.gaugeGroup_stale hlast hstale))
    · have hcount := State.gaugeGroup_counts (s := u) (i := i) b.payload (bit a.payload 22) (fld c.payload 0 13).toNat
        (fld c.payload 13 17).toInt hfresh
      have hdc : u.groupCharge i b.payload (fld c.payload 0 13).toNat = u.cellCharge i
          (((fld c.payload 0 13).toNat * 10 : Nat) : Rat) (((b.payload - acc).toInt : Rat) / 3600000) := by
        rw [State.groupCharge, show u.kg.slots[i].lastAcc = some acc from hacc]
      have hslots := hcount.kept
      rw [State.onSlotG_self, hdc] at hslots
      obtain ⟨hidx, hlastAcc, hq⟩ := GaugeSlot.counted_eq hslots
      exact ⟨_, hexec, hidx, hlastAcc, hq, fun j hj => (hcount.others j hj).trans (State.onSlotG_other hj _ u),
        (congrArg (fun v : State => { v with kg := s.kg }) hcount.apart :)⟩
  case rest =>
    intro i g gs x l soc hstate htime hlast hstill hend
    have hsoc : s.restSoc i = soc := State.restSoc_eq hlast
    have hkeeps := State.restPoint_keeps hstate htime hlast hstill hend
    rw [hsoc] at hkeeps
    obtain ⟨hslot, hrest, -⟩ := hkeeps.slot
    refine ⟨s.restPoint i, congrArg Host.Outcome.next (if_pos hup), (congrArg GaugeSlot.anchor hslot :),
      (congrArg GaugeSlot.soc hslot :), (congrArg GaugeSlot.src hslot :), (congrArg GaugeSlot.rest hslot :),
      (congrArg GaugeSlot.conflict hslot :), (congrArg GaugeSlot.point hslot :), hrest, fun m hm => ?_⟩
    exact hkeeps.ports m (by rwa [State.onSlotG_self])
  case charge =>
    intro i vb ma gs x hstate hfull hlast hnear htaper
    obtain ⟨t, hkeeps, hend⟩ := State.endOfCharge_keeps hup hstate hfull hlast hnear htaper
    exact State.anchored_completes hkeeps (congrArg Host.Outcome.next hend)
  case topup =>
    intro i hfull
    obtain ⟨queues, hpost⟩ := State.postEnd_sysq i ((s.onSlotG i fun x => { x with full := 0#2 }).showSlot i)
    have hshown := State.showSlot_keeps GaugeSlot.settled i (s.onSlotG i fun x => { x with full := 0#2 })
    have hruns : (s.gaugeUp && decide (s.kg.slots[i].full = 1#2)) = true := by rw [hup, hfull]; rfl
    refine ⟨_, congrArg Host.Outcome.next ((if_pos hruns).trans hpost), ?_,
      (congrArg (fun v : State => { v with kg := s.kg, sysq := s.sysq }) hshown.apart :)⟩
    exact State.showSlot_kg i _
  case discharge =>
    intro i vb ma gs n x hstate hfull hlast hlow htaper hport hfeed
    obtain ⟨t, hkeeps, hend⟩ := State.endOfDischarge_keeps hup hstate hfull hlast hlow htaper hport hfeed
    exact State.anchored_completes hkeeps (congrArg Host.Outcome.next hend)

end Sys2Proof.Machine
end

section
/-! The clauses of O37: the records of the gauge by their journal numbers, their commits, and the commands of the gauge (R197,
R198, R217 to R221, R225). -/

namespace Sys2Proof.Machine

/-- A record as its commit leaves it: what the journal holds (R219, R220). -/
def GaugeRec.committed (r : GaugeRec) : GaugeRec := { r with changed := false, due := false }

/-- A record whose commit is due where it has changed (R220). -/
def GaugeRec.made (r : GaugeRec) : GaugeRec := { r with due := r.due || r.changed }

namespace State

variable {s : State}

/-! Records (Table 17.2). -/

/-- A state with another KG_JSTAT. -/
def withJstat (x : KgJstat) (s : State) : State := { s with kg := { s.kg with jstat := x } }

theorem recOf_eq_of_kg {s t : State} (h : t.kg = s.kg) (i : Fin 112) : t.recOf i = s.recOf i := by rw [recOf, h, ← recOf]

theorem withJstat_recOf (x : KgJstat) (i : Fin 112) : (s.withJstat x).recOf i = s.recOf i := rfl

theorem heldAtStage_recOf (i : Fin 112) : s.heldAtStage.recOf i = s.recOf i := by
  unfold heldAtStage
  split <;> rfl

theorem onRec_records (i : Fin 112) (f : GaugeRec → GaugeRec) (s : State) : RecordsOnly s (s.onRec i f) := by
  unfold onRec
  split <;> exact ⟨rfl⟩

theorem onRec_jstat (i : Fin 112) (f : GaugeRec → GaugeRec) (s : State) : (s.onRec i f).kg.jstat = s.kg.jstat := by
  unfold onRec
  split <;> rfl

theorem onRec_self (i : Fin 112) (f : GaugeRec → GaugeRec) (s : State) : (s.onRec i f).recOf i = f (s.recOf i) := by
  by_cases h : i.val < 48 <;> simp [onRec, recOf, h]

theorem onRec_other {i j : Fin 112} (hne : j ≠ i) (f : GaugeRec → GaugeRec) (s : State) :
    (s.onRec i f).recOf j = s.recOf j := by
  have hval : i.val ≠ j.val := Fin.val_ne_iff.mpr hne.symm
  by_cases hi : i.val < 48 <;> by_cases hj : j.val < 48
  · simp [onRec, recOf, hi, hj, hval]
  · simp [onRec, recOf, hi, hj]
  · simp [onRec, recOf, hi, hj]
  · have hpack : i.val - 48 ≠ j.val - 48 := by omega
    simp [onRec, recOf, hi, hj, hpack]

/-- Some record is due where the one of a journal number is. -/
theorem any_due {i : Fin 112} (h : (s.recOf i).due = true) : (s.kg.dock.any (·.due) || s.kg.packs.any (·.due)) = true := by
  rw [Bool.or_eq_true, Vector.any_eq_true, Vector.any_eq_true]
  unfold recOf at h
  split at h
  · exact .inl ⟨_, _, h⟩
  · exact .inr ⟨_, _, h⟩

/-! Due commits, and what holds them (R220, R221). -/

/-- A hold shows in KG_JSTAT alone. -/
theorem heldAtStage_jstat (s : State) : ∃ x, s.heldAtStage = s.withJstat x := by
  unfold heldAtStage
  split
  · exact ⟨_, rfl⟩
  · exact ⟨s.kg.jstat, rfl⟩

theorem heldAtStage_shallow (h : s.sh.stat.stage ≤ 3#3) : s.heldAtStage = s := if_neg fun hheld => BitVec.not_lt.mpr h hheld.1

theorem heldAtStage_deep {i : Fin 112} (hstage : 3#3 < s.sh.stat.stage) (hdue : (s.recOf i).due = true) :
    s.heldAtStage = s.withJstat { s.kg.jstat with heldStage := true } := if_pos ⟨hstage, any_due hdue⟩

/-- A state with every changed record due (R220, R221). -/
def allMade (s : State) : State :=
  { s with kg := { s.kg with
    dock := Vector.ofFn fun i : Fin 48 => s.kg.dock[i].made, packs := Vector.ofFn fun k : Fin 64 => s.kg.packs[k].made } }

theorem allMade_sh : s.allMade.sh = s.sh := by dsimp only [allMade]

theorem allMade_jstat : s.allMade.kg.jstat = s.kg.jstat := by dsimp only [allMade]

theorem allDue_eq (s : State) : s.allDue = s.allMade.heldAtStage := rfl

/-- Records that become due move nothing but themselves and KG_JSTAT. -/
theorem allDue_leaves (s : State) : { s.allDue with kg := s.kg } = s ∧
    { s.allDue.kg with dock := s.kg.dock, packs := s.kg.packs, jstat := s.kg.jstat } = s.kg := by
  obtain ⟨x, hheld⟩ := heldAtStage_jstat s.allMade
  rw [allDue_eq, hheld]
  dsimp only [withJstat, allMade]
  exact ⟨rfl, rfl⟩

theorem allMade_recOf (i : Fin 112) : s.allMade.recOf i = (s.recOf i).made := by
  unfold recOf
  split <;> simp [allMade]

theorem allDue_recOf (i : Fin 112) : s.allDue.recOf i = (s.recOf i).made := by
  rw [allDue_eq, heldAtStage_recOf, allMade_recOf]

/-- What a due record does at its turn (R221). -/
theorem commitRec_due {i : Fin 112} (hdue : (s.recOf i).due = true) : s.commitRec i =
    if 3#3 < s.sh.stat.stage then s.withJstat { s.kg.jstat with heldStage := true }
    else if !s.sh.stat.commitOk then s.withJstat { s.kg.jstat with heldStage := false, heldBerm := true }
    else if !s.flashCan then s
    else (s.journalWrite i).withJstat { (s.journalWrite i).kg.jstat with heldStage := false, heldBerm := false } := by
  rw [commitRec, hdue]
  rfl

theorem commitRec_deep {i : Fin 112} (hdue : (s.recOf i).due = true) (hstage : 3#3 < s.sh.stat.stage) :
    s.commitRec i = s.withJstat { s.kg.jstat with heldStage := true } := by
  rw [commitRec_due hdue, if_pos hstage]

theorem commitRec_berm {i : Fin 112} (hdue : (s.recOf i).due = true) (hstage : s.sh.stat.stage ≤ 3#3)
    (hberm : s.sh.stat.commitOk = false) :
    s.commitRec i = s.withJstat { s.kg.jstat with heldStage := false, heldBerm := true } := by
  rw [commitRec_due hdue, if_neg (BitVec.not_lt.mpr hstage), hberm]
  rfl

/-- The journal takes a record into the flash, and nothing but the record is moved beside. -/
theorem journalWrite_eq (i : Fin 112) (s : State) :
    ∃ f : Flash, s.journalWrite i = ({ s with fl := f } : State).onRec i GaugeRec.committed := ⟨_, rfl⟩

/-- A due record is committed when the stage, the berm and the flash allow it; no hold shows then. -/
theorem commitRec_commits {i : Fin 112} (hdue : (s.recOf i).due = true) (hstage : s.sh.stat.stage ≤ 3#3)
    (hberm : s.sh.stat.commitOk = true) (hflash : s.flashCan = true) :
    (s.commitRec i).recOf i = (s.recOf i).committed ∧ (∀ j : Fin 112, j ≠ i → (s.commitRec i).recOf j = s.recOf j) ∧
      (s.commitRec i).kg.jstat = { s.kg.jstat with heldStage := false, heldBerm := false } ∧
      { s.commitRec i with kg := s.kg, fl := s.fl } = s := by
  obtain ⟨f, hwrite⟩ := journalWrite_eq i s
  have hcommit : s.commitRec i = (s.journalWrite i).withJstat
      { (s.journalWrite i).kg.jstat with heldStage := false, heldBerm := false } := by
    rw [commitRec_due hdue, if_neg (BitVec.not_lt.mpr hstage), hberm, hflash]
    rfl
  have hrest := ((onRec_records i GaugeRec.committed { s with fl := f }).apart :)
  rw [hcommit, hwrite, withJstat_recOf]
  refine ⟨onRec_self i _ _, fun j hj => (withJstat_recOf _ j).trans (onRec_other hj _ _), ?_,
    (congrArg (fun v : State => { v with fl := s.fl }) hrest :)⟩
  exact congrArg (fun x : KgJstat => { x with heldStage := false, heldBerm := false }) (onRec_jstat i _ _)

/-! The record that owns a slot (R217, Table 7.5, log entry 39). -/

theorem owningRec_of_slots {s t : State} (h : t.kg.slots = s.kg.slots) (i : Fin 48) : t.owningRec i = s.owningRec i := by
  rw [owningRec, h, ← owningRec]

/-- Where the attach has given no owner the record is the dock record of the slot. -/
theorem owningRec_unowned {i : Fin 48} (h : s.kg.slots[i].owner = none) : (s.owningRec i).val = i.val := by
  rw [owningRec, h]

/-- A slot owns no dock record but its own. -/
theorem owningRec_dock {k : Fin 48} (h : (s.owningRec k).val < 48) : (s.owningRec k).val = k.val := by
  unfold owningRec at h ⊢
  split at h
  · exact absurd h (Nat.not_lt.mpr (Nat.le_add_right 48 _))
  · rfl

/-- A dock record that has learned nothing has the design capacity of its slot (R211). -/
theorem recCap_unlearned {i : Fin 48} (howner : s.kg.slots[i].owner = none)
    (hlearned : (s.recOf (s.owningRec i)).learned = false) : s.recCap (s.owningRec i) = mah16 (s.designCap i) := by
  have hfirst : (List.finRange 48).find? (fun k => decide (s.owningRec k = s.owningRec i)) = some i := by
    have hown := owningRec_unowned howner
    cases hfind : (List.finRange 48).find? fun k => decide (s.owningRec k = s.owningRec i) with
    | none => simpa using List.find?_eq_none.mp hfind i (List.mem_finRange i)
    | some k =>
      have hsame : s.owningRec k = s.owningRec i := of_decide_eq_true (List.find?_some hfind :)
      have hk : (s.owningRec k).val = k.val := owningRec_dock (by rw [hsame, hown]; exact i.isLt)
      exact congrArg some (Fin.ext (hk.symm.trans ((congrArg Fin.val hsame).trans hown)))
  simp only [recCap, hlearned, hfirst, Bool.false_eq_true, if_false]

end State

/-- A record that returns to design values; `old` is the record before (Table 7.11). -/
def GaugeRec.design (old r : GaugeRec) : GaugeRec :=
  { GaugeRec.init with
    used := r.used, digest := r.digest, cycles := r.cycles, since := r.since, age := r.age, changed := true,
    due := r.due || old.suspect || old.stale }

namespace State

variable {s : State}

/-! The gauge's commands (R225, Table 7.11). -/

/-- The slot that an operand of KG_CMD names. -/
theorem ofNat_slot (i : Fin 48) : ∃ h, (⟨(BitVec.ofNat 6 i.val).toNat, h⟩ : Fin 48) = i :=
  have hval : (BitVec.ofNat 6 i.val).toNat = i.val := Nat.mod_eq_of_lt (i.isLt.trans (by decide))
  ⟨hval.trans_lt i.isLt, Fin.ext hval⟩

theorem kgCommit_eq (hup : s.gaugeUp = true) (i : Fin 48) : s.kgCommit (BitVec.ofNat 6 i.val) =
    (s.onRec (s.owningRec i) fun r => { r with due := true }).commitRec (s.owningRec i) := by
  obtain ⟨hlt, hslot⟩ := ofNat_slot i
  rw [kgCommit, dif_pos hlt, hup, hslot]
  rfl

theorem kgReset_eq (hup : s.gaugeUp = true) (i : Fin 48) : s.kgReset (BitVec.ofNat 6 i.val) =
    ((s.onRec (s.owningRec i) (GaugeRec.design (s.recOf (s.owningRec i)))).heldAtStage).showSlot i := by
  obtain ⟨hlt, hslot⟩ := ofNat_slot i
  rw [kgReset, dif_pos hlt, hup, hslot]
  rfl

/-- A commit on command is that of a record made due. -/
theorem kgCommit_commits (hup : s.gaugeUp = true) (i : Fin 48) (hstage : s.sh.stat.stage ≤ 3#3)
    (hberm : s.sh.stat.commitOk = true) (hflash : s.flashCan = true) :
    (s.kgCommit (BitVec.ofNat 6 i.val)).recOf (s.owningRec i) = (s.recOf (s.owningRec i)).committed ∧
      (∀ j : Fin 112, j ≠ s.owningRec i → (s.kgCommit (BitVec.ofNat 6 i.val)).recOf j = s.recOf j) ∧
      { s.kgCommit (BitVec.ofNat 6 i.val) with kg := s.kg, fl := s.fl } = s := by
  have hdue := onRec_self (s.owningRec i) (fun r => { r with due := true }) s
  have hrest := (onRec_records (s.owningRec i) (fun r => { r with due := true }) s).apart
  have hsh := (congrArg State.sh hrest :)
  have hflash' := (congrArg State.flashCan hrest :)
  rw [kgCommit_eq hup]
  obtain ⟨hself, hothers, -, hapart⟩ := commitRec_commits (congrArg GaugeRec.due hdue :)
    (hsh ▸ hstage) (hsh ▸ hberm) (hflash'.trans hflash)
  exact ⟨hself.trans (congrArg GaugeRec.committed hdue :), fun j hj => (hothers j hj).trans (onRec_other hj _ s),
    (congrArg (fun v : State => { v with kg := s.kg, fl := s.fl }) hapart :).trans
      (congrArg (fun v : State => { v with fl := s.fl }) hrest :)⟩

/-- A reset on command gives the owning record its design values, and leaves every other record and every slot. -/
theorem kgReset_resets (hup : s.gaugeUp = true) (i : Fin 48) :
    (s.kgReset (BitVec.ofNat 6 i.val)).recOf (s.owningRec i) =
        (s.recOf (s.owningRec i)).design (s.recOf (s.owningRec i)) ∧
      (∀ j : Fin 112, j ≠ s.owningRec i → (s.kgReset (BitVec.ofNat 6 i.val)).recOf j = s.recOf j) ∧
      (s.kgReset (BitVec.ofNat 6 i.val)).kg.slots = s.kg.slots ∧
      { s.kgReset (BitVec.ofNat 6 i.val) with kg := s.kg, ports := s.ports } = s := by
  have hrecords := (onRec_records (s.owningRec i) (GaugeRec.design (s.recOf (s.owningRec i))) s).heldAtStage
  have hrec (j : Fin 112) : (s.kgReset (BitVec.ofNat 6 i.val)).recOf j =
      (s.onRec (s.owningRec i) (GaugeRec.design (s.recOf (s.owningRec i)))).recOf j := by
    rw [kgReset_eq hup, recOf_eq_of_kg (showSlot_kg i _), heldAtStage_recOf]
  refine ⟨(hrec _).trans (onRec_self _ _ s), fun j hj => (hrec j).trans (onRec_other hj _ s), ?_, ?_⟩
  · rw [kgReset_eq hup, showSlot_kg]
    exact hrecords.slots
  · rw [kgReset_eq hup]
    have hshown := (showSlot_keeps GaugeSlot.settled i
      (s.onRec (s.owningRec i) (GaugeRec.design (s.recOf (s.owningRec i)))).heldAtStage).apart
    exact (congrArg (fun v : State => { v with kg := s.kg, ports := s.ports }) hshown :).trans
      (congrArg (fun v : State => { v with ports := s.ports }) hrecords.apart :)

/-! A slot that is disabled (R197, R198). -/

/-- A slot that goes OFF: what it leaves beside the records, and the registers of the port that it served. -/
theorem slotOff_leaves (i : Fin 48) (s : State) :
    (s.slotOff i).kg.slots = s.kg.slots.set i GaugeSlot.off ∧ (s.slotOff i).kg.cfg = s.kg.cfg ∧
      { s.slotOff i with kg := s.kg, ports := s.ports } = s ∧
      ∀ m : PortId, s.kg.slots[i].port ≠ some m → (s.slotOff i).ports[m] = s.ports[m] := by
  have hdue := commitDue_records i s
  have hcfg : (s.commitDue i).kg.cfg = s.kg.cfg := (congrArg (·.kg.cfg) hdue.eq :)
  unfold slotOff
  dsimp only
  rw [hdue.slots]
  split
  next n hport =>
    refine ⟨by rw [onSlotG_kg, hdue.slots], hcfg, (congrArg (fun v : State => { v with ports := s.ports }) hdue.apart :),
      fun m hm => ?_⟩
    have hne : (n : Nat) ≠ m := fun h => hm (hport.trans (congrArg some (Fin.ext h)))
    simp [hne, hdue.ports]
  · exact ⟨by rw [onSlotG_kg, hdue.slots], hcfg, (congrArg (fun v : State => { v with ports := s.ports }) hdue.apart :),
      fun m _ => by rw [onSlotG_ports, hdue.ports]⟩

theorem slotOf_none {m : PortId} (h : ∀ j : Fin 48, s.kg.slots[j].port ≠ some m) : s.slotOf m = none :=
  List.find?_eq_none.mpr fun j _ => by simpa using h j

theorem slotFor_none {m : PortId} (h : ∀ j : Fin 48, s.kg.cfg[j].en = false ∨ s.kg.cfg[j].port.toNat ≠ m.val) :
    s.slotFor m = none := by
  have hnaming : s.slotsNaming m = [] := List.filter_eq_nil_iff.mpr fun j _ => by
    rcases h j with hen | hport
    · dsimp only
      rw [hen]
      exact Bool.false_ne_true
    · simpa using fun _ _ => hport
  rw [slotFor, hnaming]
  rfl

/-- The gauge leaves a port that no slot serves and none may serve. -/
theorem gaugeFollow_unserved {m : PortId} (hslot : s.slotOf m = none) (hfor : s.slotFor m = none) : s.gaugeFollow m = s := by
  have hkeep : s.slotKeep m = s := by
    unfold slotKeep
    rw [hslot]
  have htake : s.slotTake m = s := by
    unfold slotTake
    rw [hfor]
    exact ite_self s
  have hfollowed : (s.slotKeep m).slotTake m = s := by rw [hkeep, htake]
  unfold gaugeFollow
  dsimp only
  split
  · rfl
  · rw [hslot]
    exact hfollowed

end State

/-- A KG_SLOT word with EN clear disables its slot and leaves the port that it names. -/
theorem KgSlot.write_disable (c : KgSlot) :
    (c.write (c.read &&& ~~~0x100#32)).en = false ∧ (c.write (c.read &&& ~~~0x100#32)).port = c.port := by
  refine ⟨by simp [write, bit], ?_⟩
  have hlow : fld (c.read &&& ~~~0x100#32) 0 8 = fld c.read 0 8 := by
    have hkept : ∀ i : Fin 8, (~~~0x100#32).getLsbD i.val = true := by decide
    ext i hi
    simpa [fld] using fun _ => hkept ⟨i, hi⟩
  have hport : fld c.read 0 8 = c.port := by
    have hen : putB 8 c.en = putF 8 (BitVec.ofBool c.en) := by cases c.en <;> rfl
    simp only [read, hen, putF, fld_or]
    rw [fld_shift_same _ (by decide), fld_shift_apart _ (.inl (by decide)), fld_shift_apart _ (.inl (by decide)),
      fld_shift_apart _ (.inl (by decide)), fld_shift_apart _ (.inl (by decide))]
    simp
  exact hlow.trans hport

namespace State

variable {s : State}

/-- KG_SLOT of a slot written with EN clear. -/
def slotDisabled (i : Fin 48) (s : State) : State :=
  { s with kg := { s.kg with cfg := s.kg.cfg.set i (s.kg.cfg[i].write (s.kg.cfg[i].read &&& ~~~0x100#32)) } }

/-- A slot that is disabled goes OFF; where no other slot serves its port or names it, none takes its place (R197, R198). -/
theorem kgSlotWrite_disable {i : Fin 48} (hport : 192 ≤ s.kg.cfg[i].port.toNat)
    (halone : ∀ (m : PortId) (j : Fin 48), s.kg.slots[i].port = some m → j ≠ i →
      s.kg.slots[j].port ≠ some m ∧ (s.kg.cfg[j].en = false ∨ s.kg.cfg[j].port.toNat ≠ m.val)) :
    s.kgSlotWrite i (s.kg.cfg[i].read &&& ~~~0x100#32) = (s.slotDisabled i).slotOff i := by
  obtain ⟨hen, hsame⟩ := s.kg.cfg[i].write_disable
  obtain ⟨hslots, hcfg, -, -⟩ := slotOff_leaves i (s.slotDisabled i)
  have hfollow (m : PortId) (hm : s.kg.slots[i].port = some m) :
      ((s.slotDisabled i).slotOff i).gaugeFollow m = (s.slotDisabled i).slotOff i := by
    refine gaugeFollow_unserved (slotOf_none fun j => ?_) (slotFor_none fun j => ?_)
    · rw [hslots]
      by_cases hj : j = i
      · subst hj
        simp [GaugeSlot.off]
      · simpa [slotDisabled, Fin.val_ne_iff.mpr (Ne.symm hj)] using (halone m j hm hj).1
    · rw [hcfg]
      by_cases hj : j = i
      · subst hj
        exact .inl (by simpa [slotDisabled] using hen)
      · simpa [slotDisabled, Fin.val_ne_iff.mpr (Ne.symm hj)] using (halone m j hm hj).2
  have hnone : ¬ (s.kg.cfg[i].write (s.kg.cfg[i].read &&& ~~~0x100#32)).port.toNat < 192 := by
    rw [hsame]
    exact Nat.not_lt.mpr hport
  unfold kgSlotWrite
  dsimp only
  rw [dif_neg hnone, if_neg (by rw [hen]; exact Bool.false_ne_true)]
  split
  next n hn => exact hfollow n hn
  · rfl

theorem journalCommit_due {i : Fin 112} (hup : s.gaugeUp = true)
    (hfind : s.commitOrder.find? (fun i => (s.recOf i).due) = some i) : s.journalCommit = s.commitRec i := by
  rw [journalCommit, hup, hfind]
  rfl

theorem journalCommit_idle (hup : s.gaugeUp = true) (hnone : ∀ i : Fin 112, (s.recOf i).due = false) :
    s.journalCommit = s.withJstat { s.kg.jstat with heldStage := false, heldBerm := false } := by
  have hfind : s.commitOrder.find? (fun i => (s.recOf i).due) = none :=
    List.find?_eq_none.mpr fun i _ => by rw [hnone i]; exact Bool.false_ne_true
  rw [journalCommit, hup, hfind]
  rfl

end State

/-- Settles O37: a record is due or not, and the stage, the berm and the flash hold its commit or let it go. -/
theorem gaugeJournal : Obligations.GaugeJournal := by
  unfold Obligations.GaugeJournal
  intro s hup
  refine ⟨?period, ?first, ?idle, fun i => ⟨?commit, ?reset, ?disable⟩⟩
  case period =>
    obtain ⟨hrest, hgauge⟩ := s.allDue_leaves
    refine ⟨s.allDue, congrArg Host.Outcome.next (if_pos hup), hrest, hgauge, fun hstage => ?_, fun hstage i hdue => ?_,
      State.allDue_recOf⟩
    · rw [State.allDue_eq, State.heldAtStage_shallow (State.allMade_sh ▸ hstage), State.allMade_jstat]
    · rw [State.allDue_eq, State.heldAtStage_recOf] at hdue
      rw [State.allDue_eq, State.heldAtStage_deep (State.allMade_sh ▸ hstage) hdue, ← State.allMade_jstat]
      rfl
  case first =>
    intro i hfind
    have hdue : (s.recOf i).due = true := (List.find?_some hfind :)
    have hexec : exec .journalCommit s = .next (s.commitRec i) :=
      congrArg Host.Outcome.next (State.journalCommit_due hup hfind)
    refine ⟨fun hstage hberm hflash => ?_, fun hstage => ?_, fun hstage hberm => ?_⟩
    · exact ⟨_, hexec, State.commitRec_commits hdue hstage hberm hflash⟩
    · exact hexec.trans (congrArg Host.Outcome.next (State.commitRec_deep hdue hstage))
    · exact hexec.trans (congrArg Host.Outcome.next (State.commitRec_berm hdue hstage hberm))
  case idle =>
    intro hnone
    exact congrArg Host.Outcome.next (State.journalCommit_idle hup hnone)
  case commit =>
    intro hstage hberm hflash
    exact ⟨_, rfl, State.kgCommit_commits hup i hstage hberm hflash⟩
  case reset =>
    obtain ⟨hself, hothers, hslots, hrest⟩ := State.kgReset_resets hup i
    refine ⟨_, rfl, (congrArg GaugeRec.learned hself :), fun howner => ?_, (congrArg GaugeRec.suspect hself :),
      (congrArg GaugeRec.stale hself :), (congrArg GaugeRec.imp hself :), (congrArg GaugeRec.spanTime hself :),
      (congrArg GaugeRec.changed hself :), (congrArg GaugeRec.cycles hself :), (congrArg GaugeRec.digest hself :),
      hothers, hrest⟩
    have hown := State.owningRec_of_slots hslots i
    rw [← hown]
    exact State.recCap_unlearned (hslots ▸ howner) (hown ▸ (congrArg GaugeRec.learned hself :))
  case disable =>
    intro hport halone
    have hregs : s.regsUp = true := (Bool.and_eq_true_iff.mp hup).1
    obtain ⟨hslots, hcfg, hrest, hports⟩ := State.slotOff_leaves i (s.slotDisabled i)
    refine ⟨_, congrArg Host.Outcome.next ((if_pos hregs).trans (State.kgSlotWrite_disable hport halone)), ?_, ?_,
      fun j hj => ?_, hports, (congrArg (fun v : State => { v with kg := s.kg }) hrest :)⟩
    · rw [hcfg]
      simpa [State.slotDisabled] using s.kg.cfg[i].write_disable.1
    · rw [hslots]
      simp
    · rw [hslots]
      simp [State.slotDisabled, Fin.val_ne_iff.mpr hj.symm]

end Sys2Proof.Machine
end

section
/-! The common halves and the tick of a polder (R229, R230, R251). -/

namespace Sys2Proof.Machine

namespace Queue

@[simp] theorem watermark_wr (before : Nat) (x : Queue) : (watermark before x).wr = x.wr := by
  unfold watermark
  split <;> rfl

@[simp] theorem commitHead_wr (x : Queue) : x.commitHead.wr = x.wr := by
  unfold commitHead
  split <;> rfl

/-- A group that fits advances the write count by its entries (R328). -/
theorem push_wr {x : Queue} {g : List Entry} (h : x.fits g.length = true) :
    (x.push g).wr = x.wr + BitVec.ofNat 16 g.length := by
  rw [push, if_pos h, watermark_wr]

end Queue

namespace Polder

/-- A polder whose common halves have changed places at the tick (R230). -/
def switched (P : Polder) : Polder :=
  { P with
    swPend := false, commonB := !P.commonB,
    halfA := { P.halfA with st := if P.commonB then .serving else .ready },
    halfB := { P.halfB with st := if !P.commonB then .serving else .ready } }

theorem switched_active (P : Polder) : P.switched.active = { P.standby with st := .serving } := by
  cases hside : P.commonB <;> simp [switched, active, standby, hside]

theorem switched_standby (P : Polder) : P.switched.standby = { P.active with st := .ready } := by
  cases hside : P.commonB <;> simp [switched, active, standby, hside]

/-- A polder whose temperatures have been taken; without a reading in range the NTC's stands (R229, R251). -/
def sensed (ntc : Option (BitVec 12)) (die : BitVec 12) (P : Polder) : Polder :=
  match ntc with
  | none => { P with temp := { P.temp with die := die } }
  | some v => { P with temp := { P.temp with die := die, ntc := v }, stat := { P.stat with ntcFault := false } }

@[simp] theorem sensed_active (ntc : Option (BitVec 12)) (die : BitVec 12) (P : Polder) :
    (P.sensed ntc die).active = P.active := by
  cases ntc <;> rfl

/-- A polder after a tick of its time base (R229). -/
def ticked (P : Polder) : Polder := { P with timeUs := P.timeUs + 1000#24 }

end Polder

namespace State

variable {s : State} {q : PolderId}

/-- A note to the supervisor is an entry of its queue alone (Table 1.2). -/
theorem supNote_frame (i : Fin 3) (s : State) : { s.supNote i with sysq := s.sysq } = s := by
  unfold supNote
  dsimp only
  (repeat' split) <;> rfl

theorem supNote_other (i : Fin 3) (s : State) {j : Fin 64} (h : j.val ≠ 48 + i.val) :
    (s.supNote i).sysq[j] = s.sysq[j] := by
  unfold supNote pushSys
  dsimp only
  (repeat' split) <;> simp [h.symm]

theorem supNote_down (i : Fin 3) (h : s.controlUp = false) : s.supNote i = s := if_neg (Bool.eq_false_iff.mp h)

/-- A note that fits advances the write count by its one entry (R328, Table 1.2). -/
theorem supNote_wr (i : Fin 3) (hup : s.controlUp = true) (hfits : s.sysq[48 + i.val].fits 1 = true) :
    (s.supNote i).sysq[48 + i.val].wr = s.sysq[48 + i.val].wr + 1#16 := by
  rw [supNote, if_pos hup]
  unfold pushSys
  dsimp only
  split <;> simp [Queue.push_wr, hfits]

theorem onPolder_of {f : Polder → Polder} {P : Polder} (h : f s.polders[q] = P) :
    s.onPolder q f = { s with polders := s.polders.set q P } := by
  rw [onPolder, h]

theorem commonSwitchTick_switches (hpend : s.polders[q].swPend = true) (hready : s.polders[q].standby.st = .ready) :
    s.commonSwitchTick q = { s with polders := s.polders.set q s.polders[q].switched } :=
  onPolder_of (if_pos ⟨hpend, hready⟩)

theorem commonSwitchTick_idle (hpend : s.polders[q].swPend = false) :
    s.commonSwitchTick q = { s with polders := s.polders.set q s.polders[q] } := by
  refine onPolder_of ((if_neg fun h => Bool.false_ne_true (hpend.symm.trans h.1)).trans ?_)
  rw [← hpend]

theorem polderTick_eq (q : PolderId) (ntc : Option (BitVec 12)) (die : BitVec 12) (s : State) :
    s.polderTick q ntc die = (if s.polders[q].active.st = .serving then s.supNote 1 else s).onPolder q fun P =>
      if (P.sensed ntc die).active.st = .serving then (P.sensed ntc die).ticked else P.sensed ntc die := by
  cases ntc <;> rfl

/-- The tick of an active half SERVING is noted to the supervisor and moves the polder's time base (R229). -/
theorem polderTick_serving (ntc : Option (BitVec 12)) (die : BitVec 12) (h : s.polders[q].active.st = .serving) :
    s.polderTick q ntc die = { s.supNote 1 with polders := s.polders.set q (s.polders[q].sensed ntc die).ticked } := by
  rw [polderTick_eq, if_pos h, onPolder, supNote_polders, Polder.sensed_active, if_pos h]

theorem polderTick_idle (die : BitVec 12) (h : s.polders[q].active.st ≠ .serving) :
    s.polderTick q none die = { s with polders := s.polders.set q (s.polders[q].sensed none die) } := by
  rw [polderTick_eq, if_neg h, onPolder, Polder.sensed_active, if_neg h]

end State

/-- Settles O29: each command by what its polder holds; the entry of a tick goes to the supervisor's queue alone. -/
theorem commonHalves : Obligations.CommonHalves := by
  unfold Obligations.CommonHalves
  intro s q
  refine ⟨?arms, ?unready, ?switches, ?unarmed, ?serving, ?idle, ?down, ?clears⟩
  case arms =>
    exact fun hup hready => congrArg Host.Outcome.next ((if_pos hup).trans (State.onPolder_of (if_pos hready)))
  case unready =>
    exact fun hup hunready => congrArg Host.Outcome.next ((if_pos hup).trans (State.onPolder_of (if_neg hunready)))
  case switches =>
    intro hdie hpend hready
    have htick := State.commonSwitchTick_switches hpend hready
    have hself : (s.commonSwitchTick q).polders[q] = s.polders[q].switched := by
      rw [htick]
      exact Vector.getElem_set_self q.isLt
    refine ⟨_, congrArg Host.Outcome.next (if_pos hdie), ?_⟩
    dsimp only
    rw [hself]
    exact ⟨htick, s.polders[q].switched_active, s.polders[q].switched_standby⟩
  case unarmed =>
    exact fun hdie hpend => congrArg Host.Outcome.next ((if_pos hdie).trans (State.commonSwitchTick_idle hpend))
  case serving =>
    intro ntc die hdie hserving
    refine ⟨_, congrArg Host.Outcome.next ((if_pos hdie).trans (State.polderTick_serving ntc die hserving)), ?_,
      fun i hi => State.supNote_other 1 s hi, fun hup hfits => State.supNote_wr 1 hup hfits, fun hdown => ?_⟩
    · have hpolder : { s.supNote 1 with sysq := s.sysq, polders := s.polders.set q (s.polders[q].sensed ntc die).ticked } =
          { s with polders := s.polders.set q (s.polders[q].sensed ntc die).ticked } :=
        congrArg (fun t : State => { t with polders := s.polders.set q (s.polders[q].sensed ntc die).ticked })
          (State.supNote_frame 1 s)
      cases ntc <;> exact hpolder
    · exact (congrArg State.sysq (State.supNote_down 1 hdown) :)
  case idle =>
    exact fun die hdie hserving => congrArg Host.Outcome.next ((if_pos hdie).trans (State.polderTick_idle die hserving))
  case down =>
    intro hdown
    have hnot : ¬ s.plRegUp q = true := Bool.eq_false_iff.mp hdown
    exact ⟨congrArg Host.Outcome.next (if_neg hnot), congrArg Host.Outcome.next (if_neg hnot)⟩
  case clears => exact fun hup => congrArg Host.Outcome.next (if_pos hup)

end Sys2Proof.Machine
end

section
/-! What the moves of sessions between regions leave alone (R264 to R272), and the commands of the template store (R231 to
R233). -/

namespace Sys2Proof.Machine

/-- A slot whose check has found it VALID, with the sluice set of its descriptor (R232, R238). -/
def TplSlot.validated (set : SluiceSet) (x : TplSlot) : TplSlot :=
  { x with st := .valid, tid := fld (x.words.getD 0 0#32) 0 16, set := set }

namespace State

/-! The moves of sessions act on ports, polders, the quarry, queues, the gauge and alerts alone (R253, R261 to R272). -/

/-- What a move of sessions between regions leaves of a state. -/
def sessionless (s : State) : TplStore × Vector Core 16 × Mem 36 × SysBlk × Shed × Budget × Link × Fuses × Flash × Nat ×
    List Instr :=
  (s.store, s.cores, s.shared, s.sys, s.sh, s.bg, s.lk, s.fz, s.fl, s.fresh, s.pending)

theorem sessionless_eq_iff {s t : State} : t.sessionless = s.sessionless ↔ t.store = s.store ∧ t.cores = s.cores ∧
    t.shared = s.shared ∧ t.sys = s.sys ∧ t.sh = s.sh ∧ t.bg = s.bg ∧ t.lk = s.lk ∧ t.fz = s.fz ∧ t.fl = s.fl ∧
    t.fresh = s.fresh ∧ t.pending = s.pending := by
  simp only [sessionless, Prod.mk.injEq]

theorem sessionless_of_onlyPort {n : PortId} {s t : State} (h : OnlyPort n s t) : t.sessionless = s.sessionless :=
  (congrArg sessionless h.1 :)

theorem foldl_sessionless {α : Type} {f : State → α → State} (h : ∀ s a, (f s a).sessionless = s.sessionless) (l : List α)
    (s : State) : (l.foldl f s).sessionless = s.sessionless :=
  List.foldlRecOn (motive := fun t => t.sessionless = s.sessionless) l f rfl fun t ht a _ => (h t a).trans ht

variable (s : State)

@[simp] theorem setPort_sessionless (n : PortId) (p : Port) : (s.setPort n p).sessionless = s.sessionless := rfl
@[simp] theorem onPolder_sessionless (q : PolderId) (f : Polder → Polder) : (s.onPolder q f).sessionless = s.sessionless := rfl
@[simp] theorem gaugeFollow_sessionless (n : PortId) : (s.gaugeFollow n).sessionless = s.sessionless :=
  sessionless_of_onlyPort (onlyPort_of_blank (s.blank_gaugeFollow n)).1
@[simp] theorem quarryEvent_sessionless (action kind : BitVec 4) (id : BitVec 20) (cause : BitVec 4) :
    (s.quarryEvent action kind id cause).sessionless = s.sessionless := rfl

@[simp] theorem repeatLeft_sessionless (q : PolderId) (r : Nat) : (s.repeatLeft q r).sessionless = s.sessionless := by
  unfold repeatLeft spoil
  (repeat' split) <;> rfl

@[simp] theorem parkNote_sessionless (n : PortId) : (s.parkNote n).sessionless = s.sessionless := by
  unfold parkNote alert
  dsimp only
  (repeat' split) <;> rfl

@[simp] theorem applyClass_sessionless (n : PortId) : (s.applyClass n).sessionless = s.sessionless := by
  cases hheld : s.ports[n].heldCls with
  | none => rw [applyClass, hheld]
  | some cl =>
    cases hplace : s.ports[n].place.migrating || s.ports[n].place.prepared with
    | false =>
      rw [applyClass_eq hheld hplace, sessionless_of_onlyPort (classActs_only _ n),
        sessionless_of_onlyPort (withClass_only n cl s)]
      rfl
    | true =>
      rw [applyClass, hheld]
      exact congrArg sessionless (if_pos hplace)

@[simp] theorem startLoad_sessionless (q : PolderId) (j : LoadJob) : (s.startLoad q j).sessionless = s.sessionless := rfl
@[simp] theorem startSwitch_sessionless (q : PolderId) (j : SwitchJob) : (s.startSwitch q j).sessionless = s.sessionless := rfl
@[simp] theorem plannedSwitch_sessionless (q : PolderId) (pos : PosId) (r : RegionId) (kind : SwitchKind) :
    (s.plannedSwitch q pos r kind).sessionless = s.sessionless := rfl

@[simp] theorem startTrial_sessionless (q : PolderId) (r : RegionId) (idle : Bool) :
    (s.startTrial q r idle).sessionless = s.sessionless := by
  unfold startTrial
  split <;> rfl

@[simp] theorem parkPort_sessionless (n : PortId) (cause : BitVec 2) : (s.parkPort n cause).sessionless = s.sessionless := by
  simp [parkPort, parkMove]

@[simp] theorem migrateTo_sessionless (q : PolderId) (pos : PosId) (r : RegionId) (slot cause : BitVec 4) :
    (s.migrateTo q pos r slot cause).sessionless = s.sessionless := by
  dsimp only [migrateTo]
  split <;> rfl

@[simp] theorem dropPrepare_sessionless (q : PolderId) : (s.dropPrepare q).sessionless = s.sessionless := by
  unfold dropPrepare
  split <;> simp

@[simp] theorem parkFailing_sessionless (q : PolderId) (pos : PosId) (cause : BitVec 4) (idle : Bool) :
    (s.parkFailing q pos cause idle).sessionless = s.sessionless := by
  dsimp only [parkFailing]
  split <;> simp

@[simp] theorem findRegion_sessionless (q : PolderId) (pos : PosId) (slot cause : BitVec 4) :
    (s.findRegion q pos slot cause).sessionless = s.sessionless := by
  dsimp only [findRegion]
  split
  case h_1 => simp
  case h_2 => split <;> simp
  case h_3 => split <;> simp
  case h_4 => simp

@[simp] theorem migRefuse_sessionless (q : PolderId) (pos : PosId) (cause : BitVec 4) :
    (s.migRefuse q pos cause).sessionless = s.sessionless := by
  dsimp only [migRefuse]
  split <;> simp

@[simp] theorem regionFault_sessionless (q : PolderId) (pos : PosId) (cause : BitVec 4) (openGroup : Bool) :
    (s.regionFault q pos cause openGroup).sessionless = s.sessionless := by
  dsimp only [regionFault]
  (repeat' split) <;> simp

@[simp] theorem spareFreed_sessionless (q : PolderId) : (s.spareFreed q).sessionless = s.sessionless := by
  unfold spareFreed giveRegion leaveRepeat
  dsimp only
  (repeat' split) <;> rfl

/-- What waits for a slot that is VALID again moves sessions alone (R265, R272). -/
@[simp] theorem slotRewritten_sessionless (t : SlotId) : (s.slotRewritten t).sessionless = s.sessionless := by
  refine foldl_sessionless (fun s q => ?_) _ s
  rw [spareFreed_sessionless, foldl_sessionless, foldl_sessionless]
  · intro s p
    dsimp only
    split <;> simp
  · intro s r
    dsimp only
    split <;> rfl

/-! The commands of the store (R232, R233, Table 8.12). -/

variable {s} {t : SlotId}

theorem tplBegin_opens (common : Bool) (hst : s.store.slots[t].st = .empty ∨ s.store.slots[t].st = .bad)
    (hidle : s.store.writing = none) (hunchecked : t ∉ s.store.checking) (hunread : s.slotRead t = false) :
    s.tplBegin t common = { s with store := { s.store with
      writing := some t, stat := { s.store.stat with err := 0#4 },
      slots := s.store.slots.set t { s.store.slots[t] with st := .writing, common := common, words := [], srcIdx := 0#4 } } } :=
  if_pos ⟨hst, by rw [hidle]; rfl, hunchecked, by rw [hunread]; rfl⟩

theorem tplBegin_refused (common : Bool) (h : (s.store.slots[t].st ≠ .empty ∧ s.store.slots[t].st ≠ .bad) ∨
    s.store.writing.isSome = true ∨ t ∈ s.store.checking ∨ s.slotRead t = true) : s.tplBegin t common = s.tplErr 1#4 := by
  refine if_neg fun ⟨hst, hidle, hunchecked, hunread⟩ => ?_
  obtain ⟨hempty, hbad⟩ | hwriting | hchecking | hread := h
  · exact hst.elim hempty hbad
  · rw [Option.isNone_iff_eq_none.mp hidle] at hwriting
    exact Bool.false_ne_true hwriting
  · exact hunchecked hchecking
  · rw [hread] at hunread
    exact Bool.false_ne_true hunread

theorem tplData_appends (w : Word) (h : s.store.writing = some t) :
    s.tplData w = s.onSlot t fun x => { x with words := x.words ++ [w] } := by
  rw [tplData, h]

theorem tplData_idle (w : Word) (h : s.store.writing = none) : s.tplData w = s := by
  rw [tplData, h]

theorem tplFree_frees (hrefs : s.store.slots[t].refs = 0#8) (hunread : s.slotRead t = false) :
    s.tplFree t = ((s.onSlot t fun _ => TplSlot.init).slotLeft t).tplErr 0#4 :=
  if_pos ⟨hrefs, by rw [hunread]; rfl⟩

theorem tplFree_refused (h : s.store.slots[t].refs ≠ 0#8 ∨ s.slotRead t = true) : s.tplFree t = s.tplErr 1#4 := by
  refine if_neg fun ⟨hrefs, hunread⟩ => ?_
  obtain hused | hread := h
  · exact hused hrefs
  · rw [hread] at hunread
    exact Bool.false_ne_true hunread

/-- The state once the check of the first slot has ended, with what the check makes of the slot (R232). -/
def checkEnded (t : SlotId) (rest : List SlotId) (f : TplSlot → TplSlot) (s : State) : State :=
  (tplErr s.store.slots[t].check { s with store := { s.store with checking := rest } }).onSlot t f

theorem tplChecked_bad {rest : List SlotId} (hfirst : s.store.checking = t :: rest) (hfails : s.store.slots[t].check ≠ 0#4) :
    s.tplChecked = s.checkEnded t rest fun x => { x with st := .bad } := by
  rw [tplChecked, hfirst]
  exact if_neg hfails

theorem tplChecked_valid {rest : List SlotId} (hfirst : s.store.checking = t :: rest) (hholds : s.store.slots[t].check = 0#4) :
    ∃ set, s.tplChecked = (s.checkEnded t rest (TplSlot.validated set)).slotRewritten t := by
  rw [tplChecked, hfirst]
  exact ⟨_, if_pos hholds⟩

end State

/-- Settles O30: each command by the branch that its source and the slot take; what a slot found VALID starts moves sessions and
leaves the store. -/
theorem templateStore : Obligations.TemplateStore := by
  unfold Obligations.TemplateStore
  intro s src t
  refine ⟨fun hsup => ⟨?opens, ?stays, ?appends, ?idle, ?ends, ?other, ?frees, ?used⟩, fun hsup => ?elsewhere, ?bad, ?valid⟩
  case opens =>
    intro common hst hidle hunchecked hunread
    exact congrArg Host.Outcome.next ((if_pos hsup).trans (State.tplBegin_opens common hst hidle hunchecked hunread))
  case stays =>
    intro common h
    exact congrArg Host.Outcome.next ((if_pos hsup).trans (State.tplBegin_refused common h))
  case appends =>
    intro w hwriting
    exact congrArg Host.Outcome.next ((if_pos hsup).trans (State.tplData_appends w hwriting))
  case idle =>
    intro w hidle
    exact congrArg Host.Outcome.next ((if_pos hsup).trans (State.tplData_idle w hidle))
  case ends => exact fun hwriting => congrArg Host.Outcome.next ((if_pos hsup).trans (if_pos hwriting))
  case other => exact fun hwriting => congrArg Host.Outcome.next ((if_pos hsup).trans (if_neg hwriting))
  case frees => exact fun hrefs hunread => congrArg Host.Outcome.next ((if_pos hsup).trans (State.tplFree_frees hrefs hunread))
  case used => exact fun h => congrArg Host.Outcome.next ((if_pos hsup).trans (State.tplFree_refused h))
  case elsewhere =>
    have hnot : ¬ s.fromSup src = true := Bool.eq_false_iff.mp hsup
    exact ⟨fun _ => congrArg Host.Outcome.next (if_neg hnot), fun _ => congrArg Host.Outcome.next (if_neg hnot),
      congrArg Host.Outcome.next (if_neg hnot), congrArg Host.Outcome.next (if_neg hnot)⟩
  case bad => exact fun rest hfirst hfails => congrArg Host.Outcome.next (State.tplChecked_bad hfirst hfails)
  case valid =>
    intro rest hfirst hholds
    obtain ⟨set, hchecked⟩ := State.tplChecked_valid hfirst hholds
    obtain ⟨hstore, hcores, hshared, -, -, -, -, hfz, hfl, -, -⟩ :=
      State.sessionless_eq_iff.mp (State.slotRewritten_sessionless (s.checkEnded t rest (TplSlot.validated set)) t)
    rw [← hchecked] at hstore hcores hshared hfz hfl
    have hslots : s.tplChecked.store.slots = s.store.slots.set t (s.store.slots[t].validated set) :=
      congrArg TplStore.slots hstore
    have hself : s.tplChecked.store.slots[t] = s.store.slots[t].validated set := by
      rw [hslots]
      exact Vector.getElem_set_self t.isLt
    refine ⟨_, rfl, congrArg TplStore.checking hstore, ?_, congrArg TplSlot.st hself, congrArg TplSlot.tid hself,
      (congrArg TplSlot.words hself :), fun t' ht => ?_, hcores, hshared, hfl, hfz⟩
    · rw [hstore, ← hholds]
      rfl
    · rw [hslots]
      exact Vector.getElem_set_ne t.isLt t'.isLt fun h => ht (Fin.ext h.symm)

end Sys2Proof.Machine
end

section
/-! The refutation of O32: a PREPARE of the region that the session has left. -/

namespace Sys2Proof.Machine

namespace State

/-- The supervisor core asks to PREPARE the home region of a port, which is fit for it but that the session of the port has
left it (R266, R267). -/
structure PreparesLeft (s : State) (n : PortId) (r : RegionId) : Prop where
  sup : s.fromSup (.core 13) = true
  staying : s.ports[n].place.migrating = false
  unparked : s.ports[n].pfault.oos = false
  served : (s.polders[polderOf n].regionAt (posOf n)).st = .serving
  home : r.val = (posOf n).val
  ready : s.polders[polderOf n].regions[r].st = .ready
  unspoiled : s.isSpoiled 1#4 (regionId (polderOf n) r.val) = false
  untried : s.polders[polderOf n].regions[r].trial = .none
  still : s.polders[polderOf n].switching = []
  slot : s.polders[polderOf n].regions[r].slot = s.polders[polderOf n].culv[posOf n].slot
  unprepared : s.polders[polderOf n].prepared = none
  left : s.wasLeft (polderOf n) (posOf n) r = true

/-- No PREPARE of a region that the session of the port has left is accepted (R267). -/
theorem prepareErr_wasLeft {s : State} {n : PortId} {t : BitVec 6} (ht : t.toNat < 56)
    (hleft : s.wasLeft (polderOf n) (posOf n) ⟨t.toNat, ht⟩ = true) : s.prepareErr n t ≠ 0#4 := by
  unfold prepareErr
  dsimp only
  split
  · decide
  split
  · decide
  rw [if_pos (by simp [hleft])]
  decide

/-- A PREPARE that has an error ends the command and prepares nothing (R266). -/
theorem prepare_refused_polders {s : State} {n : PortId} {port : BitVec 8} {t : BitVec 6} (hport : port.toNat = n.val)
    (ht : t.toNat < 56) (herr : s.prepareErr n t ≠ 0#4) : (s.prepare port t).polders = s.polders := by
  have hn : port.toNat < 192 := hport ▸ n.isLt
  obtain rfl : n = ⟨port.toNat, hn⟩ := Fin.ext hport.symm
  rw [prepare, dif_pos ⟨hn, ht⟩]
  exact (congrArg State.polders (if_neg herr)).trans rfl

theorem PreparesLeft.exec_polders {s t : State} {n : PortId} {r : RegionId} (h : s.PreparesLeft n r)
    (hexec : exec (.qyPrepare (.core 13) (BitVec.ofNat 8 n.val) (BitVec.ofNat 6 r.val)) s = .next t) :
    t.polders = s.polders := by
  have hport : (BitVec.ofNat 8 n.val).toNat = n.val := Nat.mod_eq_of_lt (n.isLt.trans (by decide))
  have hr : (BitVec.ofNat 6 r.val).toNat = r.val := Nat.mod_eq_of_lt (r.isLt.trans (by decide))
  have ht : (BitVec.ofNat 6 r.val).toNat < 56 := lt_of_eq_of_lt hr r.isLt
  have hregion : (⟨(BitVec.ofNat 6 r.val).toNat, ht⟩ : RegionId) = r := Fin.ext hr
  have hrun : s.noted (s.prepare (BitVec.ofNat 8 n.val) (BitVec.ofNat 6 r.val)) = t :=
    (congrArg s.noted (if_pos h.sup)).symm.trans (Host.Outcome.next.inj hexec)
  obtain ⟨-, -, hpolders, -⟩ := apart_eq_iff.mp (s.noted_apart (s.prepare (BitVec.ofNat 8 n.val) (BitVec.ofNat 6 r.val)))
  rw [← hrun, hpolders]
  exact prepare_refused_polders hport ht (prepareErr_wasLeft ht (by rw [hregion]; exact h.left))

/-- Port 0 of the device in RUN, however its number is written. -/
theorem serving_port_of {n : PortId} (p : Port) (h : n = 0) : (serving p).ports[n] = p := by
  subst h
  exact serving_port p

end State

/-- An attached port in its first session. -/
def Port.inSession : Port := { Port.reset 0 with tc := { (Port.reset 0).tc with state := .attachedSrc } }

/-- A device in RUN where the session of port 0 has left its home region by a planned migration, and runs on spare 48. -/
def State.movedOut : State :=
  (State.serving Port.inSession).onPolder 0 fun P => { P with
    culv := P.culv.set 0 { P.culv[(0 : PosId)] with region := 48#6 }
    regions := P.regions.set 0 { FabRegion.init with st := .ready, left := [(0, Port.inSession.tc.attachCnt)] } }

theorem State.movedOut_preparesLeft : State.movedOut.PreparesLeft 0 0 where
  sup := rfl
  staying := by rw [State.movedOut, State.onPolder_ports, State.serving_port_of _ rfl]; rfl
  unparked := by rw [State.movedOut, State.onPolder_ports, State.serving_port_of _ rfl]; rfl
  served := rfl
  home := rfl
  ready := rfl
  unspoiled := rfl
  untried := rfl
  still := rfl
  slot := rfl
  unprepared := rfl
  left := by
    rw [State.wasLeft, State.movedOut, State.onPolder_ports, State.serving_port_of _ (by rfl : portAt (polderOf 0) (posOf 0) = 0)]
    rfl

/-- Refutes O32: a session is never moved back onto a region that it has left before that region's trial (R267), so a PREPARE
of that region is refused, READY from the slot of the port though it is; the clause of PREPARE does not ask that the session
has not left the target. -/
theorem not_migrationAndTrials : ¬ Obligations.MigrationAndTrials := by
  unfold Obligations.MigrationAndTrials
  intro h
  obtain ⟨s, n, r, hs⟩ : ∃ s n r, State.PreparesLeft s n r := ⟨_, _, _, State.movedOut_preparesLeft⟩
  obtain ⟨-, -, hsup, -⟩ := h s n r
  obtain ⟨hprepare, -⟩ := hsup (.core 13) hs.sup
  obtain ⟨hdone, -⟩ := hprepare hs.staying hs.unparked hs.served hs.ready (.inr hs.home) hs.unspoiled hs.untried hs.still
    (.inl hs.slot)
  obtain ⟨t, hexec, hprepared, -⟩ := hdone hs.unprepared
  have hsome : t.polders[polderOf n].prepared = some (posOf n, r) := congrArg Polder.prepared hprepared
  rw [hs.exec_polders hexec, hs.unprepared] at hsome
  exact Option.some_ne_none _ hsome.symm

end Sys2Proof.Machine
end

section
/-! The clauses of O45: the end of a word program, READ, the fuse scrub and the ledger of spoil entries (R280, R405, R406, R414,
R416). -/

namespace Sys2Proof.Machine

/-- The regions of Table 15.1 end where the digest words begin. -/
theorem regionOf_lt {off r : Nat} (h : regionOf off = some r) : off < 0xA8 := by
  have hr : r < 6 := List.mem_range.mp (List.mem_of_find?_eq_some h)
  have hoff : off < regionBase r + regionLen r := by
    have hin := List.find?_some (p := fun r => decide (regionBase r ≤ off) && decide (off < regionBase r + regionLen r)) h
    exact of_decide_eq_true ((Bool.and_eq_true _ _).mp hin).2
  refine hoff.trans_le ?_
  interval_cases r <;> decide

theorem isSecret_of_region {a r : Nat} (h : regionOf (a % 256) = some r) : isSecret a = decide (r = 3) := by
  simp [isSecret, h]

namespace Fuses

variable (f : Fuses)

/-- A word of a region is no word of a spare slot (Table 15.1). -/
theorem spareOfSecret_region {a r : Nat} (h : regionOf (a % 256) = some r) : f.spareOfSecret a = false := by
  have hlow := regionOf_lt h
  have hslot : ¬ (0xC4 ≤ a % 256 ∧ a % 256 ≤ 0xDB ∧ a % 256 % 2 = 1) := by omega
  rw [spareOfSecret, decide_eq_false hslot, Bool.false_and]

/-- READ of a word of a region gives its raw bits, or zeros for a secret word (R404, R416). -/
theorem readRaw_region {a r : Nat} (h : regionOf (a % 256) = some r) (row : BitVec 44) :
    f.readRaw a row = { f with
      rawData := if r = 3 then 0#32 else fld row 0 32
      cmdStat := { f.cmdStat with
        rawChk := if r = 3 then 0#12 else fld row 32 12, busy := false, done := true, err := 0#4 } } := by
  rw [readRaw, f.spareOfSecret_region h, isSecret_of_region h]
  by_cases hr : r = 3
  · simp [hr, done, fld]
  · simp [hr, done]

/-- The word at `a` keeps the bits read, and FZ_SPARE is counted afresh (R405, R406). -/
def blow (a : Nat) (got : BitVec 44) (f : Fuses) : Fuses := { f with raw := Mem.write 0#44 a got f.raw }.countSpares

@[simp] theorem advance_raw (j : FzJob) : (f.advance j).raw = f.raw := by
  unfold advance
  split
  · rfl
  · split <;> rfl

@[simp] theorem toSpare_raw (a : Nat) (v : Word) (tried : Nat) (j : FzJob) : (f.toSpare a v tried j).raw = f.raw := by
  unfold toSpare
  split <;> rfl

variable {f}

/-- A value goes to the first free spare slot of its bank (R406). -/
theorem toSpare_free {a k : Nat} {ks : List Nat} (h : f.freeSlots (a / 256) = k :: ks) (v : Word) (j : FzJob) :
    f.toSpare a v 0 j = { f with job := some { j with now := .spareVal k a v } } := by
  simp [toSpare, h]

theorem toSpare_none {a : Nat} (h : f.freeSlots (a / 256) = []) (v : Word) (j : FzJob) :
    f.toSpare a v 0 j = { f with
      job := none, stat := { f.stat with sparesOut := true }
      cmdStat := { f.cmdStat with busy := false, refused := true, err := 5#4 } } := by
  simp [toSpare, h]

/-! The margin scrub (R414). -/

/-- The scrub moves on to the next word, from 511 to 0, and shows in POS the word that it has read. -/
def scrubOn (f : Fuses) : Fuses :=
  { f with scrubNext := (f.scrubNext + 1) % 512, scrub := { f.scrub with pos := BitVec.ofNat 9 f.scrubNext } }

theorem scrubNext_wraps {a : Nat} (h : a < 512) : (if a = 511 then 0 else a + 1) = (a + 1) % 512 := by
  split <;> omega

variable {normal strict : BitVec 44}

theorem scrubRead_clean (hjob : f.job = none) (hnext : f.scrubNext < 512) (hsame : normal = strict)
    (hcorr : (readFuse (f.word f.scrubNext ^^^ normal)).corrected = false)
    (hval : (readFuse (f.word f.scrubNext ^^^ normal)).value.isSome = true) :
    f.scrubRead normal strict = f.scrubOn := by
  subst hsame
  have hnone : (readFuse (f.word f.scrubNext ^^^ normal)).value.isNone = false := by
    rw [← Option.not_isSome, hval]
    rfl
  rw [scrubRead]
  dsimp only
  rw [scrubNext_wraps hnext, if_neg (by simp [hjob]), if_neg]
  · rfl
  · simp only [ne_eq, not_true_eq_false, decide_false, Bool.false_or, Bool.or_self]
    exact Bool.eq_false_iff.mp (congrArg₂ or hcorr hnone)

theorem scrubRead_weak (hjob : f.job = none) (hnext : f.scrubNext < 512) (hdiff : normal ≠ strict) :
    f.scrubRead normal strict =
      if (readFuse (f.word f.scrubNext ^^^ normal)).value = some (f.shadowAt f.scrubNext) ∧
          (readFuse (f.word f.scrubNext ^^^ strict)).value = some (f.shadowAt f.scrubNext) then
        { f.scrubOn with
          rstat := Mem.write 0#5 f.scrubNext ((f.rstatOf f.scrubNext &&& 0x1C#5) ||| 1#5) f.rstat
          stat := { f.stat with weakCorrected := true }
          scrub := { f.scrubOn.scrub with wcorrCnt := satInc f.scrub.wcorrCnt } }
      else
        { f.scrubOn with
          rstat := Mem.write 0#5 f.scrubNext ((f.rstatOf f.scrubNext &&& 0x1C#5) ||| 2#5) f.rstat
          stat := { f.stat with weak := true }
          scrub := { f.scrubOn.scrub with weakCnt := satInc f.scrub.weakCnt } } := by
  have hreads : f.word f.scrubNext ^^^ normal ≠ f.word f.scrubNext ^^^ strict := fun h => hdiff (by simpa using h)
  rw [scrubRead]
  dsimp only
  rw [scrubNext_wraps hnext, if_neg (by simp [hjob]), if_pos]
  · rfl
  · exact (Bool.or_eq_true _ _).mpr (.inl ((Bool.or_eq_true _ _).mpr (.inl (decide_eq_true hreads))))

end Fuses

namespace State

variable {s : State}

/-! The end of a word program, by the kind of word (R280, R405, R406). -/

section

variable {a k : Nat} {v : Word} {rest : List FzStep} {command : Bool} {got : BitVec 44}

theorem fuseProgramDone_word (h : s.fz.job = some { now := .word a v, next := rest, command := command })
    (hgot : got = fuseRow v) : s.fuseProgramDone got = s.onFuses fun f =>
      ((f.blow a got).advance { now := .word a v, next := rest, command := command }).countSpares := by
  rw [fuseProgramDone, h]
  exact congrArg (onFuses Fuses.countSpares) (if_pos (decide_eq_true hgot))

theorem fuseProgramDone_badWord (h : s.fz.job = some { now := .word a v, next := rest, command := command })
    (hgot : got ≠ fuseRow v) : s.fuseProgramDone got = s.onFuses fun f =>
      ((f.blow a got).toSpare a v 0 { now := .word a v, next := rest, command := command }).countSpares := by
  rw [fuseProgramDone, h]
  exact congrArg (onFuses Fuses.countSpares) (if_neg (decide_eq_true_iff.not.mpr hgot))

theorem fuseProgramDone_spareVal (h : s.fz.job = some { now := .spareVal k a v, next := rest, command := command }) :
    s.fuseProgramDone (fuseRow v) = s.onFuses fun f => { f.blow (slotAddr (a / 256) k + 1) (fuseRow v) with
      job := some { now := .spareTag k a v, next := rest, command := command } }.countSpares := by
  rw [fuseProgramDone, h]
  exact congrArg (onFuses Fuses.countSpares) (if_pos (decide_eq_true rfl))

theorem fuseProgramDone_spareTag (h : s.fz.job = some { now := .spareTag k a v, next := rest, command := command }) :
    s.fuseProgramDone (fuseRow (spareTagWord a)) = s.onFuses fun f =>
      (({ f.blow (slotAddr (a / 256) k) (fuseRow (spareTagWord a)) with
        cmdStat := { f.cmdStat with spared := true } } : Fuses).advance
          { now := .spareTag k a v, next := rest, command := command }).countSpares := by
  rw [fuseProgramDone, h]
  exact congrArg (onFuses Fuses.countSpares) (if_pos (decide_eq_true rfl))

theorem fuseProgramDone_ledger (h : s.fz.job = some { now := .ledger a v, next := rest, command := command }) :
    s.fuseProgramDone got =
      ((s.onFuses fun f => { f.blow a got with job := none }).ledgerTried (got = fuseRow v)).onFuses (·.countSpares) := by
  rw [fuseProgramDone, h]
  rfl

end

/-- The entry that a ledger word was written for is freed by a good end alone; a bad one counts (R280). -/
theorem ledgerTried_qy {w : Word} {ws : List Word} (hheld : s.qy.held = w :: ws) (good : Prop) [Decidable good] :
    (s.ledgerTried good).qy = { s.qy with
      ledgerAt := (s.ledgerTried good).qy.ledgerAt
      held := if good then ws else w :: ws
      spoil := { s.qy.spoil with
        ledgerUsed := if s.qy.spoil.ledgerUsed < 64#7 then s.qy.spoil.ledgerUsed + 1#7 else s.qy.spoil.ledgerUsed
        badWords := if good then s.qy.spoil.badWords else satInc s.qy.spoil.badWords } } := by
  by_cases hgood : good <;> simp [ledgerTried, hgood, hheld]

/-- After a ledger word comes an empty later one, or none (R280). -/
theorem ledgerTried_next (s : State) (ok : Bool) : (s.ledgerTried ok).qy.ledgerAt = 64 ∨
    (s.qy.ledgerAt < (s.ledgerTried ok).qy.ledgerAt ∧ s.fz.word (ledgerAddr (s.ledgerTried ok).qy.ledgerAt) = 0#44) := by
  dsimp only [ledgerTried]
  cases hfind : (List.range 64).find? fun i => decide (s.qy.ledgerAt < i) && decide (s.fz.word (ledgerAddr i) = 0#44) with
  | none => exact .inl rfl
  | some i => exact .inr (by simpa using List.find?_some hfind)

/-- A held entry starts the next ledger word at S3 or lower (R280). -/
theorem spoilEntryWrite_starts {w : Word} {ws : List Word} (hup : s.fusesUp = true) (hheld : s.qy.held = w :: ws)
    (hroom : s.qy.ledgerAt < 64) (hstage : s.sh.stat.stage ≤ 3#3) (htemp : s.fuseTempOk = true) (hjob : s.fz.job = none) :
    s.spoilEntryWrite = s.ledgerWrite w := by
  rw [spoilEntryWrite, hheld]
  dsimp only
  rw [if_neg (by simp [hup, BitVec.not_lt.mpr hstage]), if_pos hroom, if_neg (by simp [hjob, htemp])]

theorem spoilEntryWrite_waits {w : Word} {ws : List Word} (hheld : s.qy.held = w :: ws) (hstage : 3#3 < s.sh.stat.stage) :
    s.spoilEntryWrite = s := by
  rw [spoilEntryWrite, hheld]
  exact if_pos (by simp [hstage])

theorem fuseRead_eq {src : Src} (hup : s.fusesUp = true) (hsrc : s.fuseSource src true = true) (hjob : s.fz.job = none)
    (addr : BitVec 9) (upset : BitVec 44) :
    s.fuseRead src addr upset = s.onFuses (·.readRaw addr.toNat (s.fz.word addr.toNat ^^^ upset)) := by
  simp [fuseRead, hup, hsrc, hjob]

end State

/-- Settles O45: each end of a word program by the kind of word and what the strict read has found, READ and the scrub by the
word that they read, and the ledger by its next empty word. -/
theorem fuseProgramEndsReadsScrub : Obligations.FuseProgramEndsReadsScrub := by
  unfold Obligations.FuseProgramEndsReadsScrub
  intro s hup
  refine ⟨?read, fun a v rest got hjob => ⟨?good, ?bad⟩, fun k a v => ⟨?value, ?tag⟩, ?scrub, ?clear,
    fun w ws hheld hroom => ⟨?starts, ?waits, ?tried⟩⟩
  case read =>
    intro src addr upset hsrc hjob _ i hi r hr
    have hread : exec i s = .next (s.fuseRead src addr upset) := by
      obtain rfl | rfl : i = .readNormal src addr upset ∨ i = .readStrict src addr upset := by simpa using hi
      · rfl
      · rfl
    rw [State.fuseRead_eq hup hsrc hjob, State.onFuses, Fuses.readRaw_region _ hr] at hread
    exact hread
  case good =>
    intro hgot
    refine ⟨_, congrArg Host.Outcome.next (State.fuseProgramDone_word hjob hgot), ⟨Fuses.advance_raw _ _, rfl⟩, ?_, ?_⟩
    · rintro x xs rfl
      exact ⟨rfl, rfl⟩
    · rintro rfl
      exact ⟨rfl, rfl⟩
  case bad =>
    intro hgot
    refine ⟨_, congrArg Host.Outcome.next (State.fuseProgramDone_badWord hjob hgot), ⟨Fuses.toSpare_raw _ _ _ _ _, rfl⟩,
      fun k ks hfree => ?_, fun hnone => ?_⟩
    · have hslot := Fuses.toSpare_free (f := s.fz.blow a got) hfree v { now := .word a v, next := rest, command := true }
      exact ⟨congrArg Fuses.job hslot, (congrArg Fuses.cmdStat hslot :)⟩
    · have hslot := Fuses.toSpare_none (f := s.fz.blow a got) hnone v { now := .word a v, next := rest, command := true }
      exact ⟨congrArg Fuses.job hslot, congrArg (fun f : Fuses => f.stat.sparesOut) hslot, (congrArg Fuses.cmdStat hslot :)⟩
  case value =>
    exact fun hjob => ⟨_, congrArg Host.Outcome.next (State.fuseProgramDone_spareVal hjob), rfl, rfl, rfl⟩
  case tag =>
    exact fun hjob => ⟨_, congrArg Host.Outcome.next (State.fuseProgramDone_spareTag hjob), rfl, rfl, rfl, rfl⟩
  case scrub =>
    intro normal strict hjob hnext
    have hexec {f : Fuses} (h : s.fz.scrubRead normal strict = f) :
        exec (.fuseScrubRead normal strict) s = .next { s with fz := f } :=
      h ▸ congrArg Host.Outcome.next (if_pos hup)
    refine ⟨fun hsame hcorr hval => ?_, fun hdiff hn ht => ?_, fun hdiff hoff => ?_⟩
    · exact hexec (Fuses.scrubRead_clean hjob hnext hsame hcorr hval)
    · exact hexec ((Fuses.scrubRead_weak hjob hnext hdiff).trans (if_pos ⟨hn, ht⟩))
    · exact hexec ((Fuses.scrubRead_weak hjob hnext hdiff).trans (if_neg (not_and_or.mpr hoff)))
  case clear => exact congrArg Host.Outcome.next (if_pos hup)
  case starts =>
    exact fun hstage htemp hjob =>
      congrArg Host.Outcome.next (State.spoilEntryWrite_starts hup hheld hroom hstage htemp hjob)
  case waits => exact fun hstage => congrArg Host.Outcome.next (State.spoilEntryWrite_waits hheld hstage)
  case tried =>
    intro a got hjob
    exact ⟨_, congrArg Host.Outcome.next (State.fuseProgramDone_ledger hjob), rfl, rfl, State.ledgerTried_next _ _,
      State.ledgerTried_qy (s := s.onFuses fun f => { f.blow a got with job := none }) hheld (got = fuseRow w), rfl⟩

end Sys2Proof.Machine
end

section
/-! The clauses of O33: hops, takeovers and trials of cores (R273 to R275, R320, R334, Table 9.6). -/

namespace Sys2Proof.Machine

namespace State

/-- What a move of roles between cores leaves of a state, beside what it leaves of other cores. -/
def roleless (s : State) : Vector Polder 4 × TplStore × Mem 36 × List Word := (s.polders, s.store, s.shared, s.qy.spoiled)

theorem roleless_eq_iff {s t : State} : t.roleless = s.roleless ↔
    t.polders = s.polders ∧ t.store = s.store ∧ t.shared = s.shared ∧ t.qy.spoiled = s.qy.spoiled := by
  simp only [roleless, Prod.mk.injEq]

variable (s : State)

theorem onCore_ne {j k : CoreId} (f : Core → Core) (h : j ≠ k) : (s.onCore k f).cores[j] = s.cores[j] :=
  (s.onCore_only k f).2 j h

/-! A core gives back the group that it holds (R329, R336). -/

@[simp] theorem clearHeld_roleless (k : CoreId) : (s.clearHeld k).roleless = s.roleless := by
  unfold clearHeld
  split
  · rfl
  · dsimp only
    split
    · exact (congrArg roleless (rebind_only _ _).1 :)
    · rfl

/-- The core alone of all changes: it holds no group. -/
theorem clearHeld_cores (k : CoreId) : (s.clearHeld k).cores = (s.onCore k fun x => { x with held := none }).cores := by
  unfold clearHeld
  split
  case h_1 hnone =>
    have hsame : { s.cores[k] with held := none } = s.cores[k] := by rw [← hnone]
    rw [onCore_cores, hsame]
    simp
  case h_2 =>
    dsimp only
    split
    · rw [rebind_cores, setPort_cores]
    · rfl

theorem clearHeld_self (k : CoreId) : (s.clearHeld k).cores[k] = { s.cores[k] with held := none } :=
  (getElem_congr_coll (s.clearHeld_cores k)).trans (s.onCore_self k _)

theorem clearHeld_ne {j k : CoreId} (h : j ≠ k) : (s.clearHeld k).cores[j] = s.cores[j] :=
  (getElem_congr_coll (s.clearHeld_cores k)).trans (s.onCore_ne _ h)

/-! A core takes a role (R273, R317). -/

@[simp] theorem seat_roleless (k : CoreId) (role : BitVec 4) (cfg : CCfg) : (s.seat k role cfg).roleless = s.roleless :=
  s.clearHeld_roleless k

theorem seat_self (k : CoreId) (role : BitVec 4) (cfg : CCfg) :
    (s.seat k role cfg).cores[k].role = { role := role, role2 := 15#4 } ∧ (s.seat k role cfg).cores[k].cfg = cfg ∧
      (s.seat k role cfg).cores[k].pc = 0#14 ∧ (s.seat k role cfg).cores[k].stat.state = 1#3 := by
  rw [seat, onCore_self]
  exact ⟨rfl, rfl, rfl, rfl⟩

theorem seat_ne {j k : CoreId} (h : j ≠ k) (role : BitVec 4) (cfg : CCfg) :
    (s.seat k role cfg).cores[j] = s.cores[j] :=
  ((s.clearHeld k).onCore_ne _ h).trans (s.clearHeld_ne h)

/-! Where the cores in service stand. -/

variable {s}

theorem inService_of_core {t : State} {j : CoreId} (h : t.cores[j] = s.cores[j]) : t.inService j = s.inService j := by
  rw [inService, inService, h]

/-- The one core in service of which a property holds is the core found. -/
theorem findCore_unique {f : CoreId → Bool} {k : CoreId} (hk : s.inService k = true) (hf : f k = true)
    (hone : ∀ j, f j = true → j = k) : s.findCore f = some k := by
  cases hfind : s.findCore f with
  | none => exact absurd (by simp [hk, hf]) (List.find?_eq_none.mp hfind k (List.mem_finRange k))
  | some j => rw [hone j ((Bool.and_eq_true _ _).mp (List.find?_some (p := fun k => s.inService k && f k) hfind)).2]

theorem findCore_none {f : CoreId → Bool} (h : ∀ j, s.inService j = true → f j = false) : s.findCore f = none :=
  List.find?_eq_none.mpr fun j _ hj => by
    obtain ⟨hserves, hf⟩ := (Bool.and_eq_true _ _).mp hj
    rw [h j hserves] at hf
    exact Bool.noConfusion hf

/-- The lifeline role has a standby in service (Table 9.6). -/
def HasStandby (s : State) : Prop := ∃ j : CoreId, s.inService j = true ∧ s.cores[j].role.role = 14#4

/-- A standby stays where the cores that a command changes are not in that role. -/
theorem HasStandby.of_cores {t : State} (h : s.HasStandby)
    (hkeeps : ∀ j : CoreId, s.inService j = true → s.cores[j].role.role = 14#4 → t.cores[j] = s.cores[j]) :
    t.HasStandby := by
  obtain ⟨j, hserves, hrole⟩ := h
  have hj := hkeeps j hserves hrole
  exact ⟨j, (inService_of_core hj).trans hserves, by rw [hj]; exact hrole⟩

theorem HasStandby.seatStandby_eq (h : s.HasStandby) (cfg : Option CCfg) : s.seatStandby cfg = s := by
  obtain ⟨j, hserves, hrole⟩ := h
  have hfound : (s.findCore fun k => s.cores[k].role.role = 14#4).isSome = true :=
    List.find?_isSome.mpr ⟨j, List.mem_finRange j, (Bool.and_eq_true _ _).mpr ⟨hserves, decide_eq_true hrole⟩⟩
  exact if_pos hfound

theorem freeCore_free {x : CoreId} (h : s.freeCore = some x) : s.inService x = true ∧ s.cores[x].role.role = 15#4 := by
  simpa using List.find?_some h

/-- The free spare stays the same where only a core changes that is no free spare before or after. -/
theorem freeCore_of_cores {t : State} {k : CoreId} (hne : ∀ j, j ≠ k → t.cores[j] = s.cores[j])
    (hs : (s.inService k && decide (s.cores[k].role.role = 15#4)) = false)
    (ht : (t.inService k && decide (t.cores[k].role.role = 15#4)) = false) : t.freeCore = s.freeCore := by
  refine congrArg (fun p => (List.finRange 16).reverse.find? p) (funext fun j => ?_)
  by_cases hj : j = k
  · subst hj
    rw [hs, ht]
  · rw [inService_of_core (hne j hj), hne j hj]

/-! Hops (R273, R275). -/

theorem bench_ne_role {b r : BitVec 4} (hb : b ≤ 11#4) (hr : 11#4 < r) : b ≠ r :=
  fun h => absurd (h ▸ hb) (BitVec.not_le.mpr hr)

theorem setWidth_bench (b : BitVec 4) : (b.setWidth 8).setWidth 4 = b := by simp

theorem not_standby_le_bench {b : BitVec 4} (hb : b ≤ 11#4) : ¬ 14#8 ≤ b.setWidth 8 := by
  have hval : b.toNat ≤ 11 := hb
  simp only [BitVec.le_def, BitVec.toNat_setWidth, BitVec.toNat_ofNat]
  omega

/-- A bench that one core alone serves hops to a free spare, and that core becomes one (R273, R275). -/
theorem coreHop_bench {b : BitVec 4} {k x : CoreId} (hb : b ≤ 11#4) (hserves : s.inService k = true)
    (hrole : s.cores[k].role = { role := b, role2 := 15#4 })
    (hone : ∀ j : CoreId, s.cores[j].role.role = b ∨ s.cores[j].role.role2 = b → j = k) (hx : s.inService x = true)
    (hspare : s.cores[x].role.role = 15#4) (hne : k ≠ x) :
    s.coreHop (b.setWidth 8) x =
      ((((s.seat x b s.cores[k].cfg).seat k 15#4 s.cores[k].cfg).seatStandby none).coreMap).migEnd (b.setWidth 8) 0#4 := by
  have hfind : s.findCore (fun k => s.cores[k].role.role = b || (b ≠ 15#4 && s.cores[k].role.role2 = b)) = some k := by
    refine findCore_unique hserves (by rw [hrole]; simp) fun j hj => hone j ?_
    rcases (Bool.or_eq_true _ _).mp hj with h | h
    · exact .inl (of_decide_eq_true h)
    · exact .inr (of_decide_eq_true ((Bool.and_eq_true _ _).mp h).2)
  have hleft : (s.seat x b s.cores[k].cfg).cores[k].role = { role := b, role2 := 15#4 } := by rw [seat_ne _ hne, hrole]
  rw [coreHop]
  dsimp only
  rw [if_neg (not_standby_le_bench hb), setWidth_bench, hfind]
  dsimp only
  rw [if_neg (by rw [hx, hspare]; simp), hleft, if_pos rfl, if_pos rfl]

theorem coreHop_unheld {b : BitVec 4} (hb : b ≤ 11#4)
    (hnone : ∀ j : CoreId, s.inService j = true → s.cores[j].role.role ≠ b ∧ s.cores[j].role.role2 ≠ b) (x : CoreId) :
    s.coreHop (b.setWidth 8) x = s.migEnd (b.setWidth 8) 2#4 := by
  have hfind : s.findCore (fun k => s.cores[k].role.role = b || (b ≠ 15#4 && s.cores[k].role.role2 = b)) = none :=
    findCore_none fun j hj => by rw [decide_eq_false (hnone j hj).1, decide_eq_false (hnone j hj).2, Bool.and_false]; rfl
  rw [coreHop]
  dsimp only
  rw [if_neg (not_standby_le_bench hb), setWidth_bench, hfind]

/-! Takeovers (R273, R274). -/

/-- A core held in reset without a role, with the state that `st` codes (R273). -/
def heldInReset (k : CoreId) (st : BitVec 3) (s : State) : State :=
  (s.clearHeld k).onCore k fun x => { x.resetState with
    trap := if st = 4#3 then CTrap.reset else x.trap
    role := { role := 15#4, role2 := 15#4 }, stat := { x.stat with state := st, wdLeft := watchdogOf 15#4 } }

variable (s) in
@[simp] theorem heldInReset_roleless (k : CoreId) (st : BitVec 3) : (s.heldInReset k st).roleless = s.roleless :=
  s.clearHeld_roleless k

variable (s) in
theorem heldInReset_self (k : CoreId) (st : BitVec 3) :
    (s.heldInReset k st).cores[k].role = { role := 15#4, role2 := 15#4 } ∧ (s.heldInReset k st).cores[k].stat.state = st ∧
      (s.heldInReset k st).cores[k].stat.wdExp = s.cores[k].stat.wdExp := by
  rw [heldInReset, onCore_self, clearHeld_self]
  exact ⟨rfl, rfl, rfl⟩

variable (s) in
theorem heldInReset_ne {j k : CoreId} (h : j ≠ k) (st : BitVec 3) : (s.heldInReset k st).cores[j] = s.cores[j] :=
  ((s.clearHeld k).onCore_ne _ h).trans (s.clearHeld_ne h)

/-- The bench of a core that is taken over goes to the free spare (R274, Table 9.6). -/
theorem takeover_bench {k x : CoreId} {b : BitVec 4} {st : BitVec 3} (hb : b ≤ 11#4)
    (hrole : s.cores[k].role = { role := b, role2 := 15#4 }) (hst : st = 4#3 ∨ st = 5#3) (hfree : s.freeCore = some x)
    (cause : BitVec 4) :
    s.takeover k st cause =
      s.noteGuar ((((s.heldInReset k st).seat x b s.cores[k].cfg).quarryEvent 2#4 2#4 (coreId k) cause).coreMap) := by
  have hbenches : s.benches k = [b] := by rw [benches, hrole]; simp [hb]
  have hheld : (s.heldInReset k st).inService k = false := by
    rw [inService, (s.heldInReset_self k st).2.1]
    rcases hst with rfl | rfl <;> rfl
  have hspare : (s.heldInReset k st).freeCore = some x :=
    (freeCore_of_cores (fun j hj => s.heldInReset_ne hj st) (by rw [hrole]; simp [bench_ne_role hb])
      (by rw [hheld, Bool.false_and])).trans hfree
  have hseat : (s.heldInReset k st).seatBench b s.cores[k].cfg = (s.heldInReset k st).seat x b s.cores[k].cfg := by
    rw [seatBench, hspare]
  rw [takeover]
  dsimp only
  rw [hbenches, hrole, if_neg (bench_ne_role hb (by decide)), if_neg (bench_ne_role hb (by decide)),
    if_neg (bench_ne_role hb (by decide)), List.foldl_cons, List.foldl_nil, ← hseat]
  rfl

/-- What a takeover of a core with one bench leaves, where there is a free spare (R273 to R275). -/
theorem takeover_bench_spec {k x : CoreId} {b : BitVec 4} {st : BitVec 3} (hb : b ≤ 11#4)
    (hrole : s.cores[k].role = { role := b, role2 := 15#4 }) (hst : st = 4#3 ∨ st = 5#3) (hfree : s.freeCore = some x)
    (cause : BitVec 4) :
    let t := s.takeover k st cause
    t.cores[k].stat.wdExp = s.cores[k].stat.wdExp ∧ t.cores[k].stat.state = st ∧
      t.cores[k].role = { role := 15#4, role2 := 15#4 } ∧ t.cores[x].role = { role := b, role2 := 15#4 } ∧
      t.cores[x].stat.state = 1#3 ∧ (∀ j : CoreId, j ≠ x → j ≠ k → t.cores[j] = s.cores[j]) ∧
      t.polders = s.polders := by
  have hne : k ≠ x := by
    rintro rfl
    exact bench_ne_role hb (by decide) ((congrArg CRole.role hrole).symm.trans (freeCore_free hfree).2)
  dsimp only
  rw [takeover_bench hb hrole hst hfree]
  obtain ⟨-, -, hpolders, hcores, -⟩ := apart_eq_iff.mp (s.noteGuar_apart
    ((((s.heldInReset k st).seat x b s.cores[k].cfg).quarryEvent 2#4 2#4 (coreId k) cause).coreMap))
  obtain ⟨hnone, hstate, hexp⟩ := s.heldInReset_self k st
  obtain ⟨hseated, -, -, hruns⟩ := (s.heldInReset k st).seat_self x b s.cores[k].cfg
  obtain ⟨hstays, -⟩ := roleless_eq_iff.mp (((s.heldInReset k st).seat_roleless x b s.cores[k].cfg).trans
    (s.heldInReset_roleless k st))
  rw [hpolders, hcores, coreMap_cores, quarryEvent_cores, seat_ne _ hne]
  exact ⟨hexp, hstate, hnone, hseated, hruns, fun j hx hk => (seat_ne _ hx _ _).trans (s.heldInReset_ne hk st), hstays⟩

/-! Watchdog expiries and core trials (R275, R334). -/

/-- A core whose watchdog has expired, before it is taken over (R334): WD_EXP is set, and a watched update takes it for bad. -/
def watchExpired (k : CoreId) (s : State) : State :=
  let s := s.onCore k fun x => { x with expired24 := true, stat := { x.stat with wdExp := true } }
  if s.fl.upd.phase = 4#3 then { s with fl := { s.fl with job := { s.fl.job with watchBad := true } } } else s

theorem watchExpired_cores (k : CoreId) (s : State) : (s.watchExpired k).cores =
    (s.onCore k fun x => { x with expired24 := true, stat := { x.stat with wdExp := true } }).cores := by
  dsimp only [watchExpired]
  split <;> rfl

theorem watchExpired_polders (k : CoreId) (s : State) : (s.watchExpired k).polders = s.polders := by
  dsimp only [watchExpired]
  split <;> rfl

theorem watchExpired_self (k : CoreId) (s : State) :
    (s.watchExpired k).cores[k] = { s.cores[k] with expired24 := true, stat := { s.cores[k].stat with wdExp := true } } :=
  (getElem_congr_coll (watchExpired_cores k s)).trans (s.onCore_self k _)

theorem watchExpired_ne {j k : CoreId} (h : j ≠ k) (s : State) : (s.watchExpired k).cores[j] = s.cores[j] :=
  (getElem_congr_coll (watchExpired_cores k s)).trans (s.onCore_ne _ h)

theorem watchdogExpiry_eq {k : CoreId} (hstate : s.cores[k].stat.state = 1#3 ∨ s.cores[k].stat.state = 3#3) (within : Bool) :
    s.watchdogExpiry k within = if (s.cores[k].expired24 && within) = true then
      ((s.watchExpired k).takeover k 5#3 4#4).spoil 2#4 (coreId k) 0xA#4 else (s.watchExpired k).takeover k 4#3 4#4 :=
  if_pos hstate

/-- The takeover that an expiry brings, of a core with one bench where there is a free spare (R274, R275). -/
theorem watchExpired_takeover {k x : CoreId} {b : BitVec 4} {st : BitVec 3} (hb : b ≤ 11#4)
    (hrole : s.cores[k].role = { role := b, role2 := 15#4 }) (hst : st = 4#3 ∨ st = 5#3) (hfree : s.freeCore = some x) :
    let t := (s.watchExpired k).takeover k st 4#4
    t.cores[k].stat.wdExp = true ∧ t.cores[k].stat.state = st ∧ t.cores[k].role = { role := 15#4, role2 := 15#4 } ∧
      t.cores[x].role = { role := b, role2 := 15#4 } ∧ t.cores[x].stat.state = 1#3 ∧
      (∀ j : CoreId, j ≠ x → j ≠ k → t.cores[j] = s.cores[j]) ∧ t.polders = s.polders := by
  have hself := watchExpired_self k s
  have hsame : (s.watchExpired k).cores[k].role = s.cores[k].role := (congrArg Core.role hself :)
  have hspare : (s.watchExpired k).freeCore = some x :=
    (freeCore_of_cores (fun j hj => watchExpired_ne hj s) (by rw [hrole]; simp [bench_ne_role hb])
      (by rw [hsame, hrole]; simp [bench_ne_role hb])).trans hfree
  obtain ⟨hexp, hstate, hnone, hseated, hruns, hothers, hpolders⟩ :=
    takeover_bench_spec hb (hsame.trans hrole) hst hspare 4#4
  exact ⟨hexp.trans (congrArg (fun c : Core => c.stat.wdExp) hself :), hstate, hnone, hseated, hruns,
    fun j hx hk => (hothers j hx hk).trans (watchExpired_ne hk s), hpolders.trans (watchExpired_polders k s)⟩

/-- A core that passes its trial becomes a free spare (R275). -/
theorem coreTrialDone_passed {k : CoreId} (hstandby : s.HasStandby) (hstate : s.cores[k].stat.state = 4#3) :
    s.coreTrialDone k true = ((s.seat k 15#4 s.cores[k].cfg).coreMap).quarryEvent 6#4 2#4 (coreId k) 0#4 := by
  have htried : s.inService k = false := by
    rw [inService, hstate]
    rfl
  have hstays : (s.seat k 15#4 s.cores[k].cfg).HasStandby := hstandby.of_cores fun j hserves _ =>
    s.seat_ne (j := j) (k := k) (by rintro rfl; exact Bool.false_ne_true (htried.symm.trans hserves)) _ _
  rw [coreTrialDone, if_pos hstate, if_pos rfl, hstays.seatStandby_eq]

theorem coreTrialDone_failed {k : CoreId} (hstate : s.cores[k].stat.state = 4#3) : s.coreTrialDone k false =
    (s.onCore k fun x => { x with stat := { x.stat with state := 5#3 } }).spoil 2#4 (coreId k) 8#4 :=
  if_pos hstate

end State

/-- Settles O33: a hop seats the bench on its target and leaves the old core a free spare, a takeover holds the core in reset
and seats its bench on the free spare, and the end of a trial seats the core without a role or spoils it. -/
theorem coreTakeovers : Obligations.CoreTakeovers := by
  unfold Obligations.CoreTakeovers
  intro s hstandby
  refine ⟨?hop, ?unheld, ?expiry, fun k hup hstate => ⟨?passes, ?fails⟩⟩
  case hop =>
    intro src k x b hsup hb hserves hrole hone hx hspare
    have hrx : s.cores[x].role.role = 15#4 := (congrArg CRole.role hspare :)
    have hrk : s.cores[k].role.role = b := (congrArg CRole.role hrole :)
    have hne : k ≠ x := by
      rintro rfl
      exact State.bench_ne_role hb (by decide) (hrk.symm.trans hrx)
    have hstays : ((s.seat x b s.cores[k].cfg).seat k 15#4 s.cores[k].cfg).HasStandby :=
      State.HasStandby.of_cores hstandby fun j _ hj =>
        (State.seat_ne _ (by rintro rfl; exact State.bench_ne_role hb (by decide) (hrk.symm.trans hj)) _ _).trans
          (State.seat_ne _ (by rintro rfl; exact absurd (hrx.symm.trans hj) (by decide)) _ _)
    have hhop := State.coreHop_bench hb hserves hrole hone hx hrx hne
    rw [hstays.seatStandby_eq] at hhop
    obtain ⟨hseated, hcfg, hpc, hruns⟩ := s.seat_self x b s.cores[k].cfg
    obtain ⟨hfreed, -⟩ := (s.seat x b s.cores[k].cfg).seat_self k 15#4 s.cores[k].cfg
    have htarget := (s.seat x b s.cores[k].cfg).seat_ne hne.symm 15#4 s.cores[k].cfg
    obtain ⟨hpolders, hstore, hshared, -⟩ := State.roleless_eq_iff.mp
      (((s.seat x b s.cores[k].cfg).seat_roleless k 15#4 s.cores[k].cfg).trans (s.seat_roleless x b s.cores[k].cfg))
    refine ⟨_, congrArg Host.Outcome.next ((if_pos hsup).trans hhop), ?_⟩
    dsimp only
    rw [State.migEnd_cores, State.coreMap_cores, htarget]
    exact ⟨hseated, hcfg, hpc, hruns, hfreed, rfl, rfl,
      fun j hjx hjk => (State.seat_ne _ hjk _ _).trans (State.seat_ne _ hjx _ _), hpolders, hstore, hshared⟩
  case unheld =>
    intro src b x hsup hb hnone
    exact congrArg Host.Outcome.next ((if_pos hsup).trans (State.coreHop_unheld hb hnone x))
  case expiry =>
    intro k x b within hup hb hstate hrole hfree
    cases hagain : s.cores[k].expired24 && within with
    | false =>
      obtain ⟨hexp, htried, hnone, hseated, hruns, hothers, hpolders⟩ :=
        State.watchExpired_takeover hb hrole (.inl rfl) hfree
      have hdone := (State.watchdogExpiry_eq hstate within).trans (if_neg (Bool.eq_false_iff.mp hagain))
      exact ⟨_, congrArg Host.Outcome.next ((if_pos hup).trans hdone), hexp, htried, hnone, hseated, hruns,
        fun h => Bool.noConfusion h, hothers, hpolders⟩
    | true =>
      obtain ⟨hexp, hspoiled, hnone, hseated, hruns, hothers, hpolders⟩ :=
        State.watchExpired_takeover hb hrole (.inr rfl) hfree
      rw [← State.spoil_cores _ 2#4 (State.coreId k) 0xA#4] at hexp hspoiled hnone hseated hruns hothers
      have hdone := (State.watchdogExpiry_eq hstate within).trans (if_pos hagain)
      exact ⟨_, congrArg Host.Outcome.next ((if_pos hup).trans hdone), hexp, hspoiled, hnone, hseated, hruns,
        fun _ => State.spoil_self _ _ _ _, hothers, (State.spoil_keeps State.polders _ _ _ fun _ _ _ _ _ => rfl).trans hpolders⟩
  case passes =>
    obtain ⟨hfreed, -, -, hruns⟩ := s.seat_self k 15#4 s.cores[k].cfg
    obtain ⟨-, -, -, hlist⟩ := State.roleless_eq_iff.mp (s.seat_roleless k 15#4 s.cores[k].cfg)
    exact ⟨_, congrArg Host.Outcome.next ((if_pos hup).trans (State.coreTrialDone_passed hstandby hstate)), hfreed, hruns,
      fun j hj => s.seat_ne hj _ _, hlist⟩
  case fails =>
    refine ⟨_, congrArg Host.Outcome.next ((if_pos hup).trans (State.coreTrialDone_failed hstate)), ?_,
      State.spoil_self _ _ _ _, fun j hj => ?_⟩
    · rw [State.spoil_cores, State.onCore_self]
    · rw [State.spoil_cores, State.onCore_ne _ _ hj]

end Sys2Proof.Machine
end
